-- ==== Sys2Proof/Word.lean ====
section
/-! DEFINITION. The word and byte types of the module's register interface (R5, R6): a register is 32
bits wide, an MRAM or SRAM location holds bytes. -/

namespace Sys2Proof

/-- A register word, 32 bits. -/
abbrev Word := BitVec 32

/-- One byte of an image, a bed, a record or a frame. -/
abbrev Byte := BitVec 8

end Sys2Proof
end

