-- ==== Sys2Proof/Syntax.lean ====
section
/-! DEFINITION. The commands the module takes: one constructor for each row of the opcode table, in the
table's order. A command a host gives carries the session that gives it; an event carries what the
world outside the module decides (a frame's values, a pin's level, what a check measured). -/

namespace Sys2Proof

/-- A session ID, 1 to 63; 0 names none (R321). -/
abbrev Sid := Fin 64
/-- A string, S0 to S7. -/
abbrev Str := Fin 8
/-- A string, or 8 for the bank. -/
abbrev Who := Fin 9
/-- A link controller (R14). -/
abbrev Lc := Fin 72
/-- A monitor port, M0 to M63. -/
abbrev Mon := Fin 64
/-- A cell index (R41). -/
abbrev Cell := Fin 1536
/-- A pack point (R41). -/
abbrev Point := Fin 1024
/-- A thermal zone. -/
abbrev Zone := Fin 64
/-- An output channel, OUT0 to OUT31. -/
abbrev Chn := Fin 32
/-- A contactor by wear index (R176). -/
abbrev Con := Fin 27
/-- A time domain, D1 to D4 as 0 to 3. -/
abbrev Dom := Fin 4
/-- A cue list index. -/
abbrev CueIx := Fin 1024
/-- An Ethernet port. -/
abbrev Eth := Fin 2

/-- The 15 functions, in the numbering of R334. -/
inductive Func where
  | acq | est | lrn | lim | seq | bal | thw | chn | saf | time | cue | net | recorder | lgr | pwr
  deriving DecidableEq, Repr

/-- The number of a function (R334). -/
def Func.num : Func → Nat
  | .acq => 0 | .est => 1 | .lrn => 2 | .lim => 3 | .seq => 4 | .bal => 5 | .thw => 6 | .chn => 7
  | .saf => 8 | .time => 9 | .cue => 10 | .net => 11 | .recorder => 12 | .lgr => 13 | .pwr => 14

/-- The functions in the order of their numbers. -/
def Func.all : List Func :=
  [.acq, .est, .lrn, .lim, .seq, .bal, .thw, .chn, .saf, .time, .cue, .net, .recorder, .lgr, .pwr]

/-- The roles of R325 and R329. -/
inductive Role where
  | observer | auditor | dispatcher | operator | maintainer | safetySteward
  deriving DecidableEq, Repr

/-- ROLE codes equal the bit positions of ROLES (R326). -/
def Role.num : Role → Nat
  | .observer => 0 | .auditor => 1 | .dispatcher => 2 | .operator => 3 | .maintainer => 4
  | .safetySteward => 5

/-- The role a ROLE code names, if any. -/
def Role.ofNum : Nat → Option Role
  | 0 => some .observer | 1 => some .auditor | 2 => some .dispatcher | 3 => some .operator
  | 4 => some .maintainer | 5 => some .safetySteward | _ => none

/-- The paths of R318. -/
inductive Path where
  | eth0 | eth1 | can0 | can1
  deriving DecidableEq, Repr

/-- PATH codes (R340). -/
def Path.num : Path → Nat
  | .eth0 => 0 | .eth1 => 1 | .can0 => 2 | .can1 => 3

/-- The path a code 0 to 3 names. -/
def Path.ofNum : Nat → Path
  | 0 => .eth0 | 1 => .eth1 | 2 => .can0 | _ => .can1

/-- How a port record says its block's identity is read (R40, R147). -/
inductive IdentKind where
  | none | resistor | oneWire
  deriving DecidableEq, Repr

/-- Where an SRAM error stands: the regions of R18. -/
inductive EccSite where
  | cell (c : Cell)
  | ring (lc : Lc) (strobe : Fin 64)
  | temp (p : Point)
  | session (sid : Sid)
  | cue (index : CueIx)
  | frame (port : Path) (slot : Fin 64)
  | firmware
  deriving DecidableEq, Repr

/-- What the current does while a weld is judged (R193): below 1% of rated for 10 ms, at or above it
for 10 ms, or neither. -/
inductive WeldCurrent where
  | low | persists | neither
  deriving DecidableEq, Repr

/-- What a port transmits at its interval (R301). -/
inductive PtpKind where
  | sync | announce | delayReq | pdelayReq
  deriving DecidableEq, Repr

/-- How a write to MRAM went (R350, R357): read back right, right on the retry, or failed twice. -/
inductive WriteResult where
  | good | retried | failed
  deriving DecidableEq, Repr

/-- The supply and the pins as a start finds them: the aux inputs and V_HOLD in mV,
CHG_PRESENT and the PRES_Ck pins (R361, R373, R379), and for how many ms both inputs had been absent before it
(R222). -/
structure Supply where
  auxA : Int
  auxB : Int
  hold : Nat
  chgPresent : Bool
  present : Byte
  absentMs : Nat
  deriving DecidableEq, Repr

/-- One operation of a REQUEST (R330). -/
inductive ReqOp where
  | read (addr : BitVec 16) (n : Byte)
  | write (addr : BitVec 16) (values : List Word)
  deriving DecidableEq, Repr

/-- The fields of a RAP header that R321 fixes, less TYPE, which the row says, and SEQ. On CAN all but SESSION do not
exist (R324). -/
structure RapHead where
  magic : BitVec 16
  version : Byte
  session : Byte
  flags : Byte
  length : BitVec 16
  deriving DecidableEq, Repr

/-- A RAP message's bytes: its header with its SEQ, and its body, the payload with the tag of an encrypted one. -/
structure RapGram extends RapHead where
  seq : BitVec 64
  body : List Byte
  deriving DecidableEq, Repr

/-- A RAP message as received: its bytes and the path it came on. -/
structure RapMsg extends RapGram where
  path : Path
  deriving DecidableEq, Repr

/-- What a REQUEST asks besides its REQ_ID: its STOP_ON_ERROR flag and its operations (R330). -/
structure ReqPlan where
  stopOnError : Bool
  ops : List ReqOp
  deriving DecidableEq, Repr

/-- What a received link frame is checked by (R63, R71): its LEN and its CRC-32 word. -/
structure LinkCheck where
  len : Byte
  crc : Word
  deriving DecidableEq, Repr

/-- What the supervisor sees at a cross-compare message: the readings, in 10 µA, of the loops whose reading has
changed, and of the channels, in demand at 2 × input + channel, and the reset pair pressed at 16 and 17 (R262). -/
structure CrossView where
  loops : List (Lc × BitVec 16)
  inputs : BitVec 18
  deriving DecidableEq, Repr

/-- The commands, one constructor per row of the opcode table. -/
inductive Instr where
  /-- REGISTER_WRITE (R7). A write to a register that has no row of its own is applied or refused
    under the access code, stewardship and role rules. -/
  | registerWrite (sid : Sid) (addr : BitVec 16) (value : Word)
  /-- RC_READ (R6). A read of an RC register returns its value and then clears it. -/
  | rcRead (sid : Sid) (addr : BitVec 16)
  /-- WIDE_VALUE_READ (R10). A read of the lowest word of a value wider than 32 bits captures the
    whole value into the reading session's snapshot. -/
  | wideValueRead (sid : Sid) (addr : BitVec 16)
  /-- BAD_COMMAND (R417). A write of an unlisted CMD value to a command register is refused with
    REFUSED and BAD_COMMAND, and nothing else changes. -/
  | badCommand (sid : Sid) (addr : BitVec 16) (value : Word)
  /-- ECC_ERROR (R18). The SRAM returns a single-bit error, which is corrected, or an
    uncorrectable error, which is handled according to its region. -/
  | eccError (single : Bool) (site : EccSite)
  /-- SCRUB_PASS (R19). A background scrub of the whole SRAM completes and ARCH_SCRUB advances. -/
  | scrubPass
  /-- CLOCK_CHECK (R17). At the end of each window of 1,024 ck the Curtain judges the count of
    system clock periods and treats the heartbeat as lost when the count is out of band. -/
  | clockCheck (count : Nat)
  /-- CLOCK_FAIL (R371). The PLL loses lock, the heartbeat is treated as lost and the supervisor
    is held in reset until relock, which is a start. -/
  | clockFail
  /-- FUNCTION_STATE_CHANGE (R25). An accepted STOP or START takes effect, at a sweep boundary for
    ACQ, EST, LRN, LIM and BAL and within 40 clk for the other functions. -/
  | functionStateChange (f : Func)
  /-- TAKE (R334). A session takes stewardship of a function. -/
  | take (sid : Sid) (f : Func)
  /-- RELEASE (R334). The steward session releases its stewardship of a function. -/
  | release (sid : Sid) (f : Func)
  /-- STOP (R334). The steward requests that its function be stopped, subject to R22 and R23. -/
  | stopFunc (sid : Sid) (f : Func)
  /-- START (R334). The steward requests that its function be started, after validation per R26
    and the dependencies of R27. -/
  | startFunc (sid : Sid) (f : Func)
  /-- OPEN_TRL (R48). A Maintainer or Safety Steward session opens the load context for an image,
    and the module marks the target copy UNCOMMITTED. -/
  | openTrl (sid : Sid)
  /-- OPEN_BED (R48). A Maintainer or Safety Steward session opens the load context for the bed
    selected in IMG_BED_SEL. -/
  | openBed (sid : Sid)
  /-- IMG_LOAD_WIN (R60). A write to the 512 B load window stores its bytes at the load offset of
    the copy or slot that is not running. -/
  | imgLoadWin (sid : Sid) (k : Fin 128) (value : Word)
  /-- VERIFY (R49). The owner of the load context starts verification of the loaded image or bed.
    -/
  | verify (sid : Sid)
  /-- VERIFY_COMPLETE (R49). Verification ends within 500 ms, either VERIFIED with its touch set
    or FAILED with the reason of the first failing check. -/
  | verifyComplete
  /-- APPLY (R52). The owner requests that the verified image or bed be applied, subject to the
    guard and the condition checks. -/
  | apply (sid : Sid) (guard : BitVec 16)
  /-- ABORT (R48). The owner aborts the load context, which leaves the target copy or slot
    UNCOMMITTED. -/
  | loadAbort (sid : Sid)
  /-- IMAGE_SWITCH (R54). At the first sweep boundary after an accepted image APPLY, the module
    commits the new copy, rebuilds the touched strings and closes the sessions that are affected.
    -/
  | imageSwitch
  /-- MIRROR_COMPLETE (R56). The copy of the new image or bed into the other slot completes, and
    MIRRORED is set. -/
  | mirrorComplete
  /-- BED_SWITCH (R58). At the first sweep boundary after an accepted bed APPLY, the bed switches
    to its new slot and its outage begins. -/
  | bedSwitch
  /-- BED_RESUMPTION (R58). The outage of a bed ends and the functions of the bed resume. -/
  | bedResumption (bed : Fin 13)
  /-- BED_PAUSE_EXPIRED (R264). The 2^27 ck heartbeat window of a bed pause expires with no
    message, so HB_LOST is latched and the module enters SAFE. -/
  | bedPauseExpired
  /-- STROBE (R101). A strobe instant of the phase clock arrives, and the port hub strobes every
    port and uses that strobe's slots. -/
  | strobe
  /-- CELLS (R72). A CELLS frame from an RSM-24 arrives and its CRC is checked; its values are
    released and compared on the processor path and their validity is judged. -/
  | cellsFrame (port : Mon) (seq : Byte) (check : LinkCheck) (codes : List (BitVec 16)) (status : Word)
  /-- STRING (R72). A STRING frame from an RSS-4 arrives carrying the shunt and three HV values,
    which are released and compared. -/
  | stringFrame (front : Str) (seq : Byte) (check : LinkCheck) (shunt vstr vbus vpre : Word) (status : Word)
  /-- TEMPS (R72). A TEMPS frame arrives with 16 NTC codes and two identity readings, which are
    converted and judged. -/
  | tempsFrame (port : Mon) (seq : Byte) (check : LinkCheck) (codes : List (BitVec 16)) (id0 id1 : BitVec 16) (status : Word)
  /-- READ_RESP (R72). A READ_RESP frame answers a READ command, for example the identity check in
    training or a switch test readback. -/
  | readResp (lc : Lc) (seq : Byte) (check : LinkCheck) (values : List (BitVec 16)) (status : Word)
  /-- WRITE_ACK (R72). A WRITE_ACK frame acknowledges a WRITE command. -/
  | writeAck (lc : Lc) (seq : Byte) (check : LinkCheck) (status : Word)
  /-- STATUS (R72). A STATUS frame answers a POLL and carries the companion status word. -/
  | statusFrame (lc : Lc) (seq : Byte) (check : LinkCheck) (status : Word)
  /-- NACK (R72). A NACK frame reports a malformed downlink frame. -/
  | nack (lc : Lc) (seq : Byte) (check : LinkCheck) (reason : Byte) (status : Word)
  /-- ECHO (R65). An echo symbol answering a DELAY_PROBE is received, and the RTT and the delay
    sample are computed. -/
  | echo (lc : Lc) (rtt : Nat)
  /-- DELAY_PROBE (R66). A port in UP is probed once per second for its link delay. -/
  | delayProbe (lc : Lc)
  /-- FRAME_DEADLINE (R69). The deadline of a sample frame expires without a valid frame, so the
    port's samples for that strobe are STALE and the port goes to MISSING. -/
  | frameDeadline (lc : Lc)
  /-- COMMAND_RETRY (R70). No answer to a downlink frame has begun within 8 µs, so the frame is
    repeated with RETRY set or counted in CMD_FAIL. -/
  | commandRetry (lc : Lc)
  /-- POLL_TIMEOUT (R83). No STATUS arrives within 20 ms in step 1 of training, so the attempt
    fails with NO_RESPONSE. -/
  | pollTimeout (lc : Lc)
  /-- TRAINING_TIMEOUT (R82). A training attempt does not finish within 1 s and fails, and three
    consecutive failures set the port to DOWN. -/
  | trainingTimeout (lc : Lc)
  /-- MISSING_TIMEOUT (R82). A port has been MISSING for 1 s without a valid frame and goes to
    TRAIN. -/
  | missingTimeout (lc : Lc)
  /-- RETRAIN (R82). A port in DOWN is retrained every 10 s with one attempt. -/
  | retrain (lc : Lc)
  /-- COMPANION_POLL (R22). While ACQ is STOPPED, the link controllers poll companion status at 10
    Hz. -/
  | companionPoll
  /-- ARM (R87). A host arms the swap of a cassette, which is refused when strings are connected
    or another cassette is armed. -/
  | arm (sid : Sid) (k : Fin 8)
  /-- DISARM (R88). A host disarms the cassette swap, which releases the Curtain hold. -/
  | disarm (sid : Sid)
  /-- PRES_STABLE (R88). PRES_Ck has been asserted and stable for 200 ms, so the cassette's ports
    are powered and trained. -/
  | presStable (k : Fin 8)
  /-- CASSETTE_REMOVED (R89). PRES_Ck deasserts while the swap is not armed, so the ports go DOWN
    and the affected strings open immediately. -/
  | cassetteRemoved (k : Fin 8)
  /-- LOOP_LEAVES_WINDOW (R80). A fault loop current crosses the Curtain comparator threshold,
    which starts the 64 ck debounce. -/
  | loopLeavesWindow (lc : Lc) (current : BitVec 16)
  /-- LOOP_DEBOUNCE_EXPIRY (R80). A loop excursion has lasted 64 ck, so the Curtain opens the gate
    groups of the fault-loop map and latches them. -/
  | loopDebounceExpiry (lc : Lc)
  /-- LOOP_MARGINAL (R80). A loop stays in a marginal band for 100 ms, so the flag is set and a
    record is written. -/
  | loopMarginal (lc : Lc) (current : BitVec 16)
  /-- SWEEP_BOUNDARY (R98). Phase 0x0000 arrives, and the phase clock sets the rate of the coming
    cycle and evaluates N_EFF and its state. -/
  | sweepBoundary
  /-- SWEEP_ABANDONED (R34). The estimator has not finished sweep k at strobe 0 of cycle k + 2, so
    the sweep is abandoned and counted. -/
  | sweepAbandoned
  /-- SWEEP_END (R31). The last frame of a sweep arrives or its deadline expires, and the
    averages, miss counts, compliance and sequencing decisions of the sweep follow. -/
  | sweepEnd
  /-- LINK_LOSS (R86). The miss count of a string reaches LINK_MISS_LIMIT, so its limits go to
    zero and it opens in order. -/
  | linkLoss (s : Str)
  /-- MAINS_CROSSING (R94). A positive-going crossing of the MAINS input is detected and accepted
    or ignored. -/
  | mainsCrossing (at_ : Nat)
  /-- ZC_TIMESTAMP (R95). A write to ACQ_ZC_SEC1 submits a zero-crossing timestamp, which is
    accepted or refused with a reason. -/
  | zcTimestamp (sid : Sid) (hi : BitVec 16)
  /-- SOURCE_LOST (R96). The phase source is declared lost, so the clock enters HOLD and a
    PHASE_HOLD record is written. -/
  | sourceLost
  /-- EST_PUBLISH (R116). EST completes its processing of a sweep and publishes all cell, string
    and bank estimates in one clk. -/
  | estPublish
  /-- DISCHARGE_STATE_CHANGE (R134). The current of a string or the bank stays below, or returns
    from, the discharge threshold for 1 s, which changes its discharging state. -/
  | dischargeStateChange (who : Who)
  /-- VOLT_EMPTY (R136). A string becomes voltage-empty after EMPTY_CYCLES sweeps, so it opens in
    order and its reported SoC goes to 0. -/
  | voltEmpty (s : Str)
  /-- REST_QUALIFIED (R138). A string's current has stayed in the rest band for REST_TIME, so its
    cells are recalibrated and anchored. -/
  | restQualified (s : Str)
  /-- IMPEDANCE_AGED (R129). The impedance at a harmonic has had no accepted cycle for 1 s and
    becomes AGED. -/
  | impedanceAged (c : Cell) (slot : Fin 3)
  /-- PROBE_REQUEST (R131). Z at H0 has been AGED for PROBE_AGE on every cell of a connected
    string, so a probe request starts and is recorded. -/
  | probeRequest (s : Str)
  /-- SNAPSHOT (R143). A session requests a snapshot of the learning record and becomes the buffer
    owner. -/
  | snapshot (sid : Sid)
  /-- SNAPSHOT_COPY_DONE (R143). The copy of the learned values into the buffer completes, and
    STATE reads SNAPSHOT. -/
  | snapshotCopyDone
  /-- LRN_RELEASE (R143). The owner releases the learning buffer, which returns it to IDLE. -/
  | lrnRelease (sid : Sid)
  /-- OPEN_STAGE (R144). A session opens restore staging, which zeroes the buffer and makes the
    session owner. -/
  | openStage (sid : Sid)
  /-- LRN_WIN_WRITE (R153). The owner in STAGING writes record bytes through the learning-record
    window. -/
  | lrnWinWrite (sid : Sid) (k : Fin 2048) (value : Word)
  /-- LRN_COMMIT (R144). The owner writes the commit word, and the header, CRC and blocks are
    checked. -/
  | lrnCommit (sid : Sid) (value : Word)
  /-- LRN_ABORT (R146). The owner aborts staging, and RESTORE_INCOMPLETE is set again. -/
  | lrnAbort (sid : Sid)
  /-- RESTORE_SWAP (R144). At the first sweep boundary after the commit, the restored values are
    swapped in, RESTORED is set and a record is written. -/
  | restoreSwap
  /-- CAPTEST (R152). A host arms a capacity test of one string. -/
  | captest (sid : Sid) (target : BitVec 7)
  /-- CAPTEST_CANCEL (R152). A host cancels the capacity test of a string, which then fails. -/
  | captestCancel (sid : Sid) (target : BitVec 7)
  /-- CAPTEST_SPAN_EXPIRED (R152). SPAN_MAX runs out after ANCHORED, and the capacity test fails.
    -/
  | captestSpanExpired (s : Str)
  /-- DECLARE_NEW (R148). A host declares the block on a monitor port replaced. -/
  | declareNew (sid : Sid) (target : BitVec 7)
  /-- BLOCK_REPLACED (R148). At the next sweep boundary after a declaration of NEW, the block's
    cells take defaults, the string goes STALE and the block is held. -/
  | blockReplaced (port : Mon)
  /-- NEW_BLOCK_HOLD_END (R148). The string has rested for NEW_REST after a declaration, so the
    cells are reset from rested voltage and the hold ends. -/
  | newBlockHoldEnd (s : Str)
  /-- LIMIT_PUBLICATION (R165). The publication cue arrives, and LIM sends the limit message on
    every enabled port. -/
  | limitPublication
  /-- HARD_REQUEST (R169). A string or the bank is non-compliant in CONFIRM consecutive sweeps and
    enters HARD_REQUEST. -/
  | hardRequest (who : Who)
  /-- LIM_ESCALATE (R169). GRACE elapses in HARD_REQUEST, and the string or bank enters DISCONNECT
    with the openings of its ladder. -/
  | limEscalate (who : Who)
  /-- LADDER_STEP (R170). The bank is still non-compliant STEP after an opening, so the bank
    ladder opens the next string in the shed order. -/
  | ladderStep
  /-- SUPPLY_PRUNE (R173). The 40 ms grace after entry to Prune 4 ends, and every connected string
    opens in order with no wait. -/
  | supplyPrune
  /-- CLOSE (R184). The SEQ steward asks for the named strings to close, and each is judged and
    queued or refused. -/
  | closeStrings (sid : Sid) (mask : Byte)
  /-- OPEN (R196). The SEQ steward opens the named strings by orderly disconnect with cause
    HOST_OPEN. -/
  | openStrings (sid : Sid) (mask : Byte)
  /-- OPEN_BANK (R192). The SEQ steward opens the bank by an orderly opening of bank scope. -/
  | openBank (sid : Sid)
  /-- LOCKOUT (R200). The SEQ steward locks out strings, which opens them in order and removes
    them from the queue. -/
  | lockout (sid : Sid) (mask : Byte)
  /-- UNLOCK (R200). The SEQ steward ends the lockout of strings. -/
  | unlock (sid : Sid) (mask : Byte)
  /-- CLEAR_LATCH (R197). A Maintainer steward clears MAINT latches, and weld latches are judged
    by the aux contacts first. -/
  | clearLatch (sid : Sid) (mask : Byte)
  /-- RESET_WEAR (R195). A Maintainer steward zeroes one contactor wear entry and a record of the
    old values is written. -/
  | resetWear (sid : Sid) (index : Fin 32)
  /-- CANCEL_JOIN (R185). The SEQ steward removes the named strings from the join queue. -/
  | cancelJoin (sid : Sid) (mask : Byte)
  /-- SEQ_SHED (R201). A write of the shed order is validated and takes effect at the next sweep
    end. -/
  | seqShed (sid : Sid) (value : Word)
  /-- AUX_CHANGE (R181). An auxiliary feedback input changes after 3 agreeing samples, and the
    contactor and its sequence advance. -/
  | auxChange (con : Con) (closed : Bool)
  /-- CONTACTOR_NO_CLOSE (R182). A contactor's aux is not closed within T_CLOSE, so its coil is
    switched off and it enters NO_CLOSE. -/
  | contactorNoClose (con : Con)
  /-- WELD_VERDICT (R193). T_OPEN after a coil-off, SEQ judges the contactor OPEN, WELDED or
    AUX_FAULT. -/
  | weldVerdict (con : Con) (current : WeldCurrent)
  /-- WELD_UNISOLATED (R194). Current persists for 100 ms with both main poles switched off, so
    SHUNT_TRIP fires and the bank opens. -/
  | weldUnisolated (who : Who)
  /-- NEG_WELD_WATCH_END (R187). The 100 ms watch of VBUS after PRE closure ends, and the NEG coil
    is switched on. -/
  | negWeldWatchEnd (s : Str)
  /-- FIT_WAIVED (R187). The voltages already match at NEG closure, so after 100 ms SEQ goes to
    the POS step without a fit. -/
  | fitWaived (s : Str)
  /-- T90_TIMEOUT (R189). No t90 is reached by T90_MAX, and the pre-charge aborts TOO_SLOW. -/
  | t90Timeout (s : Str)
  /-- MATCH_TIMEOUT (R189). No match is reached by T_PRE_MAX, and the pre-charge aborts NO_MATCH.
    -/
  | matchTimeout (s : Str)
  /-- OVERLAP_END (R187). OVERLAP after POS closure ends, and the PRE coil (or the BPRE coil) is
    switched off. -/
  | overlapEnd (who : Who)
  /-- BUS_SETTLED (R186). The bank bus voltage has settled over 20 ms during the bank pre-charge,
    and the BPOS coil is switched on. -/
  | busSettled
  /-- BANK_SETTLE_TIMEOUT (R186). VBUS has not settled by T_SETTLE_MAX, so the bank close ends
    with PRECHARGE_ABORT and the queue is emptied. -/
  | bankSettleTimeout
  /-- COOL_END (R189). COOL after a pre-charge abort expires, and the string leaves COOLDOWN. -/
  | coolEnd (s : Str)
  /-- JOIN_TIMEOUT (R185). A string has been QUEUED for JOIN_WAIT and leaves the queue. -/
  | joinTimeout (s : Str)
  /-- ORDER_WAIT_END (R191). ORDER_WAIT passes in a draining string, which then goes on to break
    the current. -/
  | orderWaitEnd (s : Str)
  /-- BREAK_WAIT_EXPIRED (R172). The current has not fallen below I_BREAK within BREAK_WAIT, so
    SHUNT_TRIP fires and the bank opens. -/
  | breakWaitExpired (s : Str)
  /-- CURRENT_LOW_QUALIFIED (R191). After POS aux opens, the current stays below 1% of rated for
    10 ms, and PRE goes off and the NEG delay starts. -/
  | currentLowQualified (s : Str)
  /-- NEG_COIL_DELAY_END (R191). 20 ms after PRE off in an orderly disconnect, the NEG coil goes
    off. -/
  | negCoilDelayEnd (s : Str)
  /-- BNEG_DELAY_END (R192). 20 ms after BPOS in an orderly bank opening, BNEG is opened. -/
  | bnegDelayEnd
  /-- RECLOSE_HOLD_END (R196). RECLOSE_HOLD after a LIM_NONCOMPLIANCE opening expires, and the
    HOLD latch clears. -/
  | recloseHoldEnd (s : Str)
  /-- TRIP_PULSE_END (R192). TRIP_PULSE after a SHUNT_TRIP firing ends, and the output is de-
    energised. -/
  | tripPulseEnd
  /-- ZONE_EVALUATION (R215). THW completes its evaluation of every zone for a sweep, giving
    factors, flags and shutdown decisions. -/
  | zoneEvaluation
  /-- INTERNAL_POINT_READING (R220). The internal die temperature points are read at 10 Hz and
    judged for INT_WARN and INT_SHUT. -/
  | internalPointReading (temps : List Int)
  /-- POINT_STALE_FAILED (R212). A STALE pack point passes an AGE of 3 s and becomes FAILED. -/
  | pointStaleFailed (p : Point)
  /-- FAST_MODE_END (R211). Neither fast-mode condition has held for FAST_HOLD, and the point
    leaves fast mode. -/
  | fastModeEnd (p : Point)
  /-- RATE_HIGH_END (R216). Both zone rates have stayed within their limits for 60 s, and the zone
    leaves rate-high. -/
  | rateHighEnd (z : Zone)
  /-- HOLD_END (R219). The zone hold timer reaches 2 x GRACE, and HOLD ends. -/
  | holdEnd (z : Zone)
  /-- THERMAL_LATCH_CLEAR (R222). Both aux inputs stay absent for 1.8 to 2.0 s, and the thermal
    latch retention cell clears. -/
  | thermalLatchClear
  /-- FORCE (R231). A Maintainer forces a balancing mask on one port. -/
  | force (sid : Sid) (port : Mon)
  /-- UNFORCE (R231). Forcing of a port ends by command. -/
  | unforce (sid : Sid) (port : Mon)
  /-- FORCE_EXPIRY (R231). MINUTES of forcing elapse, and the port returns to scheduled masks. -/
  | forceExpiry (port : Mon)
  /-- TEST (R234). A host requests a switch test of one input, which may restore a FAILED switch.
    -/
  | balTest (sid : Sid) (port : Mon) (input : Fin 32)
  /-- TEST_ALL (R232). A host requests a full test pass of every switch. -/
  | testAll (sid : Sid)
  /-- TEST_PASS_DUE (R232). PERIOD days have passed since the last complete pass, and a test pass
    begins. -/
  | testPassDue
  /-- CHN_SET (R240). A write sets the stored commands of HOST, DEW or ZONE channels, or is
    refused whole. -/
  | chnSet (sid : Sid) (mask : Word)
  /-- CHN_CLR (R240). A write clears the stored commands of HOST, DEW or ZONE channels, or is
    refused whole. -/
  | chnClr (sid : Sid) (mask : Word)
  /-- CHN_FCLR (R251). The CHN steward clears the SHORT or OVERLOAD latch of channels. -/
  | chnFclr (sid : Sid) (mask : Word)
  /-- INRUSH_WINDOW_END (R245). A channel's inrush window ends, and it limits at its continuous
    limit. -/
  | inrushWindowEnd (n : Chn)
  /-- CHN_SHORT (R245). A channel stays in limit below 2.0 V for 50 µs, so it switches off and
    latches SHORT. -/
  | chnShort (n : Chn)
  /-- CHN_OVERLOAD (R246). A channel stays in limit at or above 2.0 V for 10 ms after inrush, so
    it switches off and latches OVERLOAD. -/
  | chnOverload (n : Chn)
  /-- CHN_OPEN_LOAD (R247). A channel with OPEN_DIAG draws below its threshold for 100 ms of
    conduction, and the flag is set. -/
  | chnOpenLoad (n : Chn)
  /-- OT_SHED_STEP (R248). While a channel group is at or above 150 °C, one channel is shed every
    1 ms. -/
  | otShedStep (group : Fin 9) (temp : Int) (limited low : BitVec 32) (currents : List (BitVec 16))
  /-- GROUP_OT_COMPARATOR (R248). A group reaches 175 °C, and the analog comparator switches every
    channel of the group off. -/
  | groupOtComparator (group : Fin 9) (temp : Int)
  /-- GROUP_COOLED (R248). A group falls below 130 °C, and its OT_OFF channels return. -/
  | groupCooled (group : Fin 9)
  /-- TOTAL_SHED (R249). The 1 s mean total current exceeds 40 A, and one channel is shed every
    STAGGER. -/
  | totalShed (mean : BitVec 16)
  /-- TOTAL_SHED_RETURN (R249). The mean total current stays below 36 A for 10 s, and shed
    channels return. -/
  | totalShedReturn
  /-- RESTORE_STAGGER (R254). One channel that has become able to conduct is restored every
    STAGGER, in ascending order. -/
  | restoreStagger
  /-- PWMIN_EDGE (R242). An edge on a PWMIN pin switches the channels that follow it. -/
  | pwminEdge (pin : Fin 4) (high : Bool)
  /-- ENV_SENSOR_POLL (R240). The environmental sensor is polled at 1 Hz, and the dew condition is
    judged. -/
  | envSensorPoll (tcase dew : BitVec 16) (rh : BitVec 16)
  /-- ENV_SENSOR_TIMEOUT (R240). The sensor has not answered for 5 s, so the dew condition holds
    and STALE is set. -/
  | envSensorTimeout
  /-- SHUNT_CONTINUITY_CHECK (R252). An idle SHUNT_TRIP output is checked for continuity every 1
    s, and OPEN is set after two failures. -/
  | shuntContinuityCheck (pass : Bool)
  /-- LOCKSTEP (R371). A lockstep mismatch resets the supervisor pair, and hold-through begins. -/
  | lockstep
  /-- WATCHDOG (R371). The watchdog resets the supervisor pair, and hold-through begins. -/
  | watchdog
  /-- RECLAIM (R256). The restarted supervisor reclaims within 250 ms, reads the latches and the
    Curtain state, and the functions resume. -/
  | reclaim
  /-- HOLD_THROUGH_EXPIRED (R256). 250 ms pass without reclaim, so every channel takes its safe
    default and the bank opens. -/
  | holdThroughExpired
  /-- LOAD_DUMP (R257). A load-dump pulse on the aux inputs is clamped, and a record is written.
    -/
  | loadDump
  /-- GROUND_LOSS (R257). GND_P is lost and every output goes off; the return of ground is a
    start. -/
  | groundLoss
  /-- SAFETY_INPUT_CHANGE (R273). A channel of a safety input changes at its terminal, which
    starts its filter. -/
  | safetyInputChange (input : Fin 8) (chB : Bool) (closed : Bool)
  /-- INPUT_CHANNEL_FILTERED (R273). A channel has held its state for FILTER, and a demand acts
    when it is the first to reach demand. -/
  | inputChannelFiltered (input : Fin 8) (chB : Bool)
  /-- DISCREPANCY (R274). The two channels of an input disagree beyond DISCREP, and the
    discrepancy latches. -/
  | discrepancy (input : Fin 8)
  /-- SDR_COMPARATOR_WRITE (R272). SDR_TIME after an SDR demand, the forbidden-direction
    comparator is loaded with SDR_CMP at the latest. -/
  | sdrComparatorWrite (input : Fin 8)
  /-- RESET_PAIR_CHANGE (R282). The RST_A and RST_B pair is pressed or released, and an edge reset
    is judged at release in the full class. -/
  | resetPairChange (a b : Bool) (heldCurtain heldSup : Nat) (apart : Bool)
  /-- LEVEL_RESET (R282). In the compact class, the pair has been pressed for 200 ms, and the
    reset acts. -/
  | levelReset
  /-- RESET_STUCK (R282). The pair has been pressed for more than 10 s, so RESET_STUCK is set and
    recorded. -/
  | resetStuck
  /-- RESET_STUCK_CLEAR (R282). The pair has been released for 100 ms or 500 ms, according to the
    class, and RESET_STUCK clears. -/
  | resetStuckClear
  /-- RESET_SELFTEST_DONE (R281). The Curtain self-test after an accepted reset ends, so latches
    clear and the gates re-enable, or the reset is refused. -/
  | resetSelftestDone (pass : Bool)
  /-- CROSS_COMPARE (R262). Every 1 ms, the supervisor sends the cross-compare message and the
    Curtain answers and checks for mismatches. `seq` and `crc` arrive as given. -/
  | crossCompare (seq crc : BitVec 16) (view : CrossView)
  /-- HB_LOST (R263). The Curtain receives no valid message for 2^23 ck, so it opens every gate
    and the module enters SAFE. -/
  | hbLost
  /-- CURTAIN_SELFTEST (R276). The Curtain's 10 s online test of its comparators runs and, on
    failure, latches the fault. -/
  | curtainSelftest (pass : Bool)
  /-- SUP_SELFTEST (R276). The supervisor's 10 s online test of the processor-path comparators
    runs and, on failure, latches the fault. -/
  | supSelftest (pass : Bool)
  /-- GATE_READBACK (R276). A gate's readback differs from its command for 1 ms, and the fault
    latches. -/
  | gateReadback (group : Fin 9)
  /-- CURTAIN_TEMP (R276). The Curtain's die-temperature comparator trips, every gate opens and
    the module enters SAFE. -/
  | curtainTemp
  /-- DEGRADED_SLC_CAP (R277). GRACE after entry to DEGRADED, the SLC compare and the RSS-4
    comparators take the degraded cap. -/
  | degradedSlcCap
  /-- DEGRADE_TIMEOUT (R278). The degrade timer expires, and every string opens in order. -/
  | degradeTimeout
  /-- RECOVERY_TIME_END (R276). The recovery time of a fault ends. -/
  | recoveryTimeEnd
  /-- SHUNT_STUCK (R284). SHUNT_TRIP has conducted for 32,000,000 ck, so its gate opens and a
    record is written. -/
  | shuntStuck
  /-- SHUNT_GATE_REARM (R284). The SHUNT_TRIP drive has been off for 32,000,000 ck after
    SHUNT_STUCK, and the gate permits again. -/
  | shuntGateRearm
  /-- PROOF_TEST (R286). A Safety Steward starts a proof test of the named gate groups. -/
  | proofTest (sid : Sid) (groups : BitVec 9)
  /-- PROOF_TEST_DONE (R286). A proof test finishes within 2 s, and its result is recorded and
    latched on failure. -/
  | proofTestDone (pass : Bool) (loops : Bool)
  /-- PROOF_DUE (R286). PROOF_DAYS pass since every group last passed, so PROOF_DUE is set and
    recorded. -/
  | proofDue
  /-- SYNC (R296). A PTP Sync is received, and it is timestamped, forwarded by the transparent
    clock and fed to the servo of its domain. -/
  | sync (eth : Eth) (dom : Byte) (twoStep : Bool) (id : BitVec 16) (origin corr : Int)
  /-- FOLLOW_UP (R301). A Follow_Up from a two-step master is received and completes a
    measurement. -/
  | followUp (eth : Eth) (dom : Byte) (id : BitVec 16) (origin corr : Int)
  /-- ANNOUNCE (R296). A PTP Announce is received, which restarts the announce receipt timeout. -/
  | announce (eth : Eth) (dom : Byte)
  /-- DELAY_REQ (R301). A Delay_Req is received on a master-only port and answered with
    Delay_Resp. -/
  | delayReq (eth : Eth) (dom : Byte) (id : BitVec 16) (corr : Int)
  /-- DELAY_RESP (R296). A Delay_Resp is received and gives the path delay. -/
  | delayResp (eth : Eth) (dom : Byte) (id : BitVec 16) (received corr : Int)
  /-- PDELAY_REQ (R301). A Pdelay_Req is received and answered with a one-step Pdelay_Resp. -/
  | pdelayReq (eth : Eth) (dom : Byte) (id : BitVec 16)
  /-- PDELAY_RESP (R296). A Pdelay_Resp is received and gives the link delay. -/
  | pdelayResp (eth : Eth) (dom : Byte) (twoStep : Bool) (id : BitVec 16) (turnaround : Int)
  /-- PTP_TRANSMIT (R301). A port transmits a PTP message at its interval: Sync or Announce as
    master, or Delay_Req or Pdelay_Req. -/
  | ptpTransmit (eth : Eth) (kind : PtpKind)
  /-- MASTER_LOST (R296). Three sync intervals pass without a valid Sync, or the announce timeout
    expires, so the domain holds over or its pair switches. -/
  | masterLost (d : Dom)
  /-- STEP (R294). The TIME steward steps a HOST domain by the staged offset, subject to the step
    rules. -/
  | timeStep (sid : Sid) (d : Dom)
  /-- RESYNC (R294). The TIME steward turns the next measurement of a general PTP domain into a
    step of any size. -/
  | resync (sid : Sid) (d : Dom)
  /-- TIME_INCR (R292). A host writes the INCR of a HOST or NONE domain, and a value out of range
    is refused. -/
  | timeIncr (sid : Sid) (d : Dom) (value : Word)
  /-- CUE_WRITE (R308). The staged cue entry is stored at INDEX, or refused whole. -/
  | cueWrite (sid : Sid) (index : CueIx)
  /-- CUE_READ (R308). The cue entry at INDEX is read into the staging registers. -/
  | cueRead (sid : Sid) (index : CueIx)
  /-- DELETE (R308). The writing session or the CUE steward deletes a cue entry that is not
    committed. -/
  | cueDelete (sid : Sid) (index : CueIx)
  /-- CAP_CLEAR (R313). The capture buffer is cleared. -/
  | capClear (sid : Sid)
  /-- LOAD (R312). A frame is loaded from the frame staging window into a port's queue slot. -/
  | loadSlot (sid : Sid) (port : Path) (slot : Fin 64) (len : BitVec 11)
  /-- CLEAR (R312). A queue slot is cleared, unless an entry names it. -/
  | clearSlot (sid : Sid) (port : Path) (slot : Fin 64)
  /-- CUE_COMMIT (R309). An occurrence of a cue entry is committed 96 clk before its trigger. -/
  | cueCommit (index : CueIx)
  /-- CUE_TRIGGER (R310). A cue occurrence triggers and takes its action: frame launch, capture,
    channel command or mark. -/
  | cueTrigger (index : CueIx)
  /-- CUE_WINDOW_END (R310). The END of a windowed cue arrives, which clears the channel, ends the
    capture or writes CUE_MARK_END. -/
  | cueWindowEnd (index : CueIx)
  /-- CUE_LATE (R312). A launch that could not go at its time goes once the medium is free,
    flagged LATE. -/
  | cueLate (port : Path) (slot : Fin 64)
  /-- ARP (R318). An ARP request to an enabled address is answered. -/
  | arp (eth : Eth) (addr : List Byte)
  /-- NEIGHBOUR_DISCOVERY (R318). An IPv6 neighbour discovery message to an enabled address is
    answered. -/
  | neighbourDiscovery (eth : Eth) (addr : List Byte)
  /-- ICMP_ECHO (R318). An ICMP echo to an enabled address is answered. -/
  | icmpEcho (eth : Eth) (addr : List Byte)
  /-- RX_DROP (R318). A frame that is not PTP, not RAP and not addressed to the module is
    discarded and counted. -/
  | rxDrop (eth : Eth)
  /-- CAN_FRAGMENT (R324). A RAP fragment is received on CAN and reassembled into its message. -/
  | canFragment (upper : Bool) (session : Sid) (typ : Byte) (index count : Fin 8) (seq : Word) (bytes : List Byte)
  /-- FRAGMENT_TIMEOUT (R324). A CAN message is not complete within 50 ms of its first fragment
    and is discarded. -/
  | fragmentTimeout (upper : Bool) (session : Sid)
  /-- HELLO (R326). A host starts establishment with HELLO, and the module answers with CHALLENGE
    or REJECT. -/
  | hello (path : Path) (head : RapHead) (seq : BitVec 64) (body : List Byte)
  /-- FINISH (R327). The host's FINISH is verified, and the module opens the session with ACCEPT
    or rejects it. -/
  | finish (sid : Sid) (path : Path) (gram : RapGram)
  /-- ESTABLISH_TIMEOUT (R328). No FINISH arrives within 2 s of CHALLENGE, and the module sends
    REJECT TIMEOUT. -/
  | establishTimeout (sid : Sid)
  /-- REQUEST (R330). An authenticated REQUEST is carried out operation by operation, or answered
    again from the kept REQ_IDs. -/
  | request (path : Path) (head : RapHead) (seq : BitVec 64) (body : List Byte) (id : BitVec 16) (plan : ReqPlan)
  /-- RAP_CLOSE (R336). A host closes its session with CLOSE, and the module answers CLOSE and
    releases the session's holdings. -/
  | rapClose (path : Path) (gram : RapGram) (plain : List Byte)
  /-- KEEPALIVE (R336). A host KEEPALIVE restarts the idle timer and is answered with KEEPALIVE.
    -/
  | keepalive (path : Path) (gram : RapGram) (plain : List Byte)
  /-- IDLE_TIMEOUT (R336). No accepted message arrives for IDLE_S, and the session closes. -/
  | idleTimeout (sid : Sid)
  /-- RECORD_WRITE (R350). REC completes one 64 B MRAM write of a staged record and checks it by
    readback, retrying once or failing the main region. -/
  | recordWrite (result : WriteResult)
  /-- REC_STAGING_OVERFLOW (R350). Staging has room again after records were lost, and a record of
    the count is created. -/
  | recStagingOverflow
  /-- MAIN_REWRITE (R352). Every 600 s while the main region is failed, REC rewrites the failing
    position and restores the region on success. -/
  | mainRewrite (pass : Bool)
  /-- READ_SEQ (R354). The export window is filled with the records of four consecutive SEQ, and
    the cursor advances. -/
  | readSeq (sid : Sid)
  /-- READ_RAW (R354). The export window is filled with four stored entries of a region, as
    stored. -/
  | readRaw (sid : Sid) (understudy : Bool) (pos : BitVec 12)
  /-- LEDGER_STORE (R355). Every 60 s, LGR stores its nine accumulator pairs in MRAM. -/
  | ledgerStore
  /-- CHECKPOINT_DUE (R356). The ledger domain passes a multiple of 900 s at a sweep boundary, and
    the checkpoint body is captured. -/
  | checkpointDue
  /-- CHECKPOINT_WRITTEN (R357). A checkpoint is signed, written and read back within 500 ms, or
    LGR_WRITE_FAILED is created. -/
  | checkpointWritten (result : WriteResult)
  /-- READ_CP (R360). The export window is filled with one checkpoint, and LGR_EXP_NUM advances.
    -/
  | readCp (sid : Sid)
  /-- PRUNE_ENTER (R366). V_aux has stayed below a stage threshold for 5 ms, and the stage is
    entered with its sheds. -/
  | pruneEnter (stage : Fin 4)
  /-- PRUNE_EXIT (R366). V_aux has stayed 1.0 V above a stage threshold for 100 ms, and the stage
    is left. -/
  | pruneExit (stage : Fin 4)
  /-- AUX_INPUT_LOST (R362). One aux input has been below 16.0 V for 100 ms while the other is OK,
    and a record is written. -/
  | auxInputLost (b : Bool)
  /-- AUX_INPUT_RESTORED (R362). A lost aux input has been OK for 100 ms, and a record is written.
    -/
  | auxInputRestored (b : Bool)
  /-- AUX_REVERSED (R362). An aux input falls below -1.0 V, so its REV flag is set and a record is
    written. -/
  | auxReversed (b : Bool)
  /-- AUX_REVERSE_CLEAR (R362). A reversed input has been above 0 V for 100 ms, and its REV flag
    clears. -/
  | auxReverseClear (b : Bool)
  /-- HOLDUP_START (R364). The holdup regulator first delivers current, so HOLDUP is set and the
    non-essential channels go off. -/
  | holdupStart
  /-- HOLDUP_END (R364). V_aux rises above 21.0 V, so holdup ends and a recovery phase starts. -/
  | holdupEnd
  /-- HOLD_CHARGED (R363). A charge of HOLD from 10.0 V to 28.0 V completes, and the capacitance
    is measured and judged. -/
  | holdCharged (c : BitVec 16)
  /-- HOLD_LOW (R363). V_HOLD has not reached 28.0 V within 20 s of charging, so HOLD_LOW is set
    and recorded. -/
  | holdLow
  /-- BROWN_OUT (R370). V_IN falls below 9.0 V, so the supervisor is held in reset and the Curtain
    opens every gate. -/
  | brownOut (torn : Option (List Byte))
  /-- START_UP (R373). V_IN has stayed at or above 10.0 V for 10 ms, and a start begins: latches
    are read, the image is selected and the logs are scanned. -/
  | startUp (supply : Supply) (bankA bankB : Bool)
  /-- CHANNEL_RELEASE (R373). At the later of step 6 and settle + 100 ms, the channels are
    released and restored. -/
  | channelRelease
  /-- START_UP_END (R374). The start-up sequence ends, the clocks start, the functions start in
    order and the first state is entered. -/
  | startUpEnd
  /-- TRANSPORT (R377). A Maintainer requests TRANSPORT, and the flag is written and sessions
    close. -/
  | transport (sid : Sid)
  /-- TRANSPORT_SLEEP (R377). After the flush, the port power-down and the discharge of HOLD below
    2.0 V, the module sleeps. -/
  | transportSleep
  /-- TRANSPORT_EXIT (R379). CHG_PRESENT has been asserted for 100 ms with V_aux at or above 18.0
    V, and the module starts. -/
  | transportExit (supply : Supply) (bankA bankB : Bool)
  /-- ENTER_COMMISSION (R375). The commission flag is set, and the module enters COMMISSION. -/
  | enterCommission (sid : Sid)
  /-- LEAVE_COMMISSION (R375). The commission flag is cleared, and the module enters STANDBY. -/
  | leaveCommission (sid : Sid)
  /-- CALIBRATE (R381). A Maintainer starts a calibration against the internal references. -/
  | calibrate (sid : Sid)
  /-- CALIBRATION_DUE (R381). CAL_PERIOD days have passed, and a calibration starts. -/
  | calibrationDue
  /-- CAL_DONE (R381). A calibration completes, and the coefficients are written, or CAL_FAIL is
    set. -/
  | calDone (failed : Option Byte)
  /-- REFRESH (R380). A Maintainer starts the MRAM refresh at once. -/
  | refresh (sid : Sid)
  /-- REFRESH_DUE (R380). 365 days have passed since the last complete refresh, so REFRESH_DUE is
    set and the refresh runs. -/
  | refreshDue
  /-- MRAM_REFRESH (R380). The rewrite of every MRAM unit completes, and the counts are recorded.
    -/
  | mramRefresh (failed : Nat)
  /-- RECOVERY_PHASE_END (R388). 60 s after its last trigger, the recovery phase ends. -/
  | recoveryPhaseEnd
  /-- LOOP_RETURNS_TO_WINDOW (R80). A fault loop current crosses back inside the Curtain
    comparator window, which ends a short excursion without effect and clears PORT_STATE
    LOOP_FAULT. -/
  | loopReturnsToWindow (lc : Lc) (current : BitVec 16)
  /-- ARMED_CASSETTE_REMOVED (R88). PRES_Ck deasserts while the swap of Ck is armed, and
    PORT_SWAP_STATUS PHASE moves to REMOVED with no opening. -/
  | armedCassetteRemoved (k : Fin 8)
  /-- PLL_RELOCK (R371). The PLL regains lock after a CLOCK_FAIL, releasing the supervisor from
    reset and beginning the start with cause CLOCK_FAIL. -/
  | pllRelock (supply : Supply) (bankA bankB : Bool)
  /-- TRAINING_POLL (R83). During training the module sends POLL once per millisecond in step 1
    and one delay probe per millisecond in step 3. -/
  | trainingPoll (lc : Lc)
  /-- COMPENSATION_PERIOD (R243). Each 200 Hz period of a compensated channel during start-up or
    the test or recovery overlay switches the output and takes the new duty. -/
  | compensationPeriod (n : Chn) (vaux : BitVec 16)
  /-- ETH_LINK_CHANGE (R339). The Ethernet link of ETH0 or ETH1 goes up or down, which changes
    NET_STATUS ETH0_LINK or ETH1_LINK. -/
  | ethLinkChange (eth : Eth) (up : Bool)
  /-- CAN_ERROR (R339). A CAN error is detected on CAN0 or CAN1, which changes TEC or REC and can
    move the port to ERROR_PASSIVE or BUS_OFF. -/
  | canError (upper : Bool) (tec rxc : Nat)
  /-- BUS_OFF_RECOVERY (R320). A CAN port in bus-off recovers after 128 occurrences of 11
    recessive bits, as ISO 11898-1 prescribes. -/
  | busOffRecovery (upper : Bool)
  /-- RX_ERR (R339). An Ethernet frame arrives with an FCS or symbol error and is counted in
    NET_ETH RX_ERR. -/
  | rxErr (eth : Eth)
  /-- PDELAY_RESP_FOLLOW_UP (R301). A Pdelay_Resp_Follow_Up from a two-step peer is received and
    completes a link-delay measurement. -/
  | pdelayRespFollowUp (eth : Eth) (dom : Byte) (id : BitVec 16) (turnaround : Int)
  /-- MANAGEMENT_MESSAGE (R303). A PTP management message is received; it is ignored by the clock
    but forwarded by the transparent clock. -/
  | managementMessage (eth : Eth)
  deriving DecidableEq, Repr

end Sys2Proof
end

