-- ==== Sys2Proof/Decode.lean ====
section
/-! DEFINITION. The commands a word spells. The opcode table of spec/ gives no row a bit of encoding: a
command reaches the module as a register write, a message, a frame or an event (R7, R330), so no word
spells one. -/

namespace Sys2Proof

/-- The command the table's bits spell: none, since the table gives no row any bits. DESIGN CHOICE, log 4. -/
def decodeTableWord (_nbits _w : Nat) : Option Instr := none

end Sys2Proof
end

