-- ==== Sys2Proof/Machine/Tbl.lean ====
section
/-! DEFINITION. Sparse tables: a list of keys and values, keys strictly rising, in which a key that is
not listed reads as the table's default and no entry equals that default. Every array of State (per
port, per cell, per string ...) and every byte memory is held so; equal contents are equal lists. -/

namespace Sys2Proof.Machine

/-- The value listed at key `k`, if any. -/
def look {α : Type} : List (Nat × α) → Nat → Option α
  | [], _ => none
  | (j, v) :: l, k => if k = j then some v else look l k

/-- List `v` at key `k`, replacing what stands there; keys stay rising. -/
def place {α : Type} : List (Nat × α) → Nat → α → List (Nat × α)
  | [], k, v => [(k, v)]
  | (j, w) :: l, k, v =>
    if k = j then (k, v) :: l else if k < j then (k, v) :: (j, w) :: l else (j, w) :: place l k v

/-- Take key `k` out of the list. -/
def strike {α : Type} : List (Nat × α) → Nat → List (Nat × α)
  | [], _ => []
  | (j, w) :: l, k => if k = j then strike l k else (j, w) :: strike l k

/-- The canonical form of a table with default `d`: keys strictly rising, all at least `b`, no entry
equal to `d`. -/
def canonFrom {α : Type} [DecidableEq α] (d : α) : Nat → List (Nat × α) → Bool
  | _, [] => true
  | b, (j, v) :: l => decide (b ≤ j) && (decide (v ≠ d) && canonFrom d (j + 1) l)

/-- The canonical form of a whole table. DESIGN CHOICE, log 1. -/
def canon {α : Type} [DecidableEq α] (d : α) (l : List (Nat × α)) : Bool := canonFrom d 0 l

/-- What a table with default `d` reads at `k`. DESIGN CHOICE, log 1. -/
def tget {α : Type} (d : α) (l : List (Nat × α)) (k : Nat) : α := (look l k).getD d

/-- Store `v` at `k`: storing the default takes the entry out. DESIGN CHOICE, log 1. -/
def tset {α : Type} [DecidableEq α] (d : α) (l : List (Nat × α)) (k : Nat) (v : α) :
    List (Nat × α) :=
  if v = d then strike l k else place l k v

/-- Change the entry at `k` by `f`. -/
def tmod {α : Type} [DecidableEq α] (d : α) (l : List (Nat × α)) (k : Nat) (f : α → α) :
    List (Nat × α) :=
  tset d l k (f (tget d l k))

end Sys2Proof.Machine
end

