-- ==== Sys2Proof/Machine/Fld.lean ====
section
/-! DEFINITION. A register field as the field tables of spec/ list it, and the register file that
holds every field's value. -/

namespace Sys2Proof.Machine

/-- The access codes of R6. -/
inductive Acc where
  /-- Writes are refused. -/
  | ro
  /-- Read and write. -/
  | rw
  /-- Writable only while the register's function is STOPPED. -/
  | rws
  /-- A written 1 clears the bit. -/
  | w1c
  /-- Reads as 0. -/
  | wo
  /-- A read clears it. -/
  | rc
  deriving DecidableEq, Repr

/-- A field: the register's address, the place of its lowest bit, its width, its access code and the
value it takes at reset. -/
structure Fld where
  addr : Nat
  lo : Nat
  wid : Nat
  acc : Acc
  rst : Nat
  deriving DecidableEq, Repr

/-- The key of a field in the register file: no two fields of the map share a lowest bit. -/
def Fld.key (f : Fld) : Nat := f.addr * 32 + f.lo

/-- The register file: the fields that differ from their reset values, by key. -/
abbrev RegFile := List (Nat × Nat)

/-- The value of a field: what is listed, or else its reset value. DESIGN CHOICE, log 3. -/
def RegFile.get (r : RegFile) (f : Fld) : Nat := (look r f.key).getD f.rst

/-- Write a field: the value is cut to the field's width. A field back at reset is listed no more. -/
def RegFile.put (r : RegFile) (f : Fld) (v : Nat) : RegFile :=
  if v % 2 ^ f.wid = f.rst then strike r f.key else place r f.key (v % 2 ^ f.wid)

end Sys2Proof.Machine
end

