-- ==== Sys2Proof/Machine/RegsAcq.lean ====
section
/-! DEFINITION. The fields of the registers of the ACQ, CELL, TEMP, EST pages, each under the name
the manual gives it: its address, place, width, access code and reset value, as the register and
field tables of spec/ list them. A "Trellis" field carries the default its table states (0 where it
states none: DEFAULTS must then list the register, R42). -/

namespace Sys2Proof.Machine

abbrev CELL_V.VALID (i : Nat) : Fld := ⟨0x4000 + 8 * i, 30, 2, .ro, 0⟩
abbrev CELL_V.STROBE (i : Nat) : Fld := ⟨0x4000 + 8 * i, 24, 6, .ro, 0⟩
abbrev CELL_V.USED (i : Nat) : Fld := ⟨0x4000 + 8 * i, 23, 1, .ro, 0⟩
abbrev CELL_V.CODE (i : Nat) : Fld := ⟨0x4000 + 8 * i, 0, 16, .ro, 0⟩
/-- R111: `CELL_V` (1536 of them). Latest sample. -/
def CELL_V.fields (i : Nat) : List Fld :=
  [CELL_V.VALID i, CELL_V.STROBE i, CELL_V.USED i, CELL_V.CODE i]

abbrev CELL_VAVG.COUNT (i : Nat) : Fld := ⟨0x4001 + 8 * i, 16, 8, .ro, 0⟩
abbrev CELL_VAVG.MEAN (i : Nat) : Fld := ⟨0x4001 + 8 * i, 0, 16, .ro, 0⟩
/-- R111: `CELL_VAVG` (1536 of them). Mean of the OK samples of the last completed sweep. -/
def CELL_VAVG.fields (i : Nat) : List Fld :=
  [CELL_VAVG.COUNT i, CELL_VAVG.MEAN i]

abbrev CELL_SOC.SIGMA (i : Nat) : Fld := ⟨0x4002 + 8 * i, 16, 16, .ro, 0⟩
abbrev CELL_SOC.SOC (i : Nat) : Fld := ⟨0x4002 + 8 * i, 0, 16, .ro, 0⟩
/-- R111: `CELL_SOC` (1536 of them). SoC and variance. -/
def CELL_SOC.fields (i : Nat) : List Fld :=
  [CELL_SOC.SIGMA i, CELL_SOC.SOC i]

abbrev CELL_SOH.SOH_R (i : Nat) : Fld := ⟨0x4003 + 8 * i, 16, 16, .ro, 0⟩
abbrev CELL_SOH.SOH_Q (i : Nat) : Fld := ⟨0x4003 + 8 * i, 0, 16, .ro, 0⟩
/-- R111: `CELL_SOH` (1536 of them). Capacity and resistance health. -/
def CELL_SOH.fields (i : Nat) : List Fld :=
  [CELL_SOH.SOH_R i, CELL_SOH.SOH_Q i]

abbrev CELL_ZRE.Z (i : Nat) : Fld := ⟨0x4004 + 8 * i, 0, 32, .ro, 0⟩
/-- R111: `CELL_ZRE` (1536 of them). Impedance, real part. -/
def CELL_ZRE.fields (i : Nat) : List Fld :=
  [CELL_ZRE.Z i]

abbrev CELL_ZIM.Z (i : Nat) : Fld := ⟨0x4005 + 8 * i, 0, 32, .ro, 0⟩
/-- R111: `CELL_ZIM` (1536 of them). Impedance, imaginary part. -/
def CELL_ZIM.fields (i : Nat) : List Fld :=
  [CELL_ZIM.Z i]

abbrev CELL_TVIRT.SIGMA (i : Nat) : Fld := ⟨0x4006 + 8 * i, 16, 8, .ro, 0⟩
abbrev CELL_TVIRT.TEMP (i : Nat) : Fld := ⟨0x4006 + 8 * i, 0, 16, .ro, 0⟩
/-- R111: `CELL_TVIRT` (1536 of them). Virtual temperature. -/
def CELL_TVIRT.fields (i : Nat) : List Fld :=
  [CELL_TVIRT.SIGMA i, CELL_TVIRT.TEMP i]

abbrev CELL_FLAGS.T_DEFAULT (i : Nat) : Fld := ⟨0x4007 + 8 * i, 12, 1, .ro, 0⟩
abbrev CELL_FLAGS.TV_NA (i : Nat) : Fld := ⟨0x4007 + 8 * i, 11, 1, .ro, 0⟩
abbrev CELL_FLAGS.SOC_JUMP (i : Nat) : Fld := ⟨0x4007 + 8 * i, 10, 1, .w1c, 0⟩
abbrev CELL_FLAGS.VAR_HIGH (i : Nat) : Fld := ⟨0x4007 + 8 * i, 9, 1, .ro, 0⟩
abbrev CELL_FLAGS.ECC_REINIT (i : Nat) : Fld := ⟨0x4007 + 8 * i, 8, 1, .ro, 0⟩
abbrev CELL_FLAGS.NEW (i : Nat) : Fld := ⟨0x4007 + 8 * i, 7, 1, .ro, 0⟩
abbrev CELL_FLAGS.PARAM_BOUND (i : Nat) : Fld := ⟨0x4007 + 8 * i, 6, 1, .ro, 0⟩
abbrev CELL_FLAGS.HELD_UP (i : Nat) : Fld := ⟨0x4007 + 8 * i, 5, 1, .ro, 0⟩
abbrev CELL_FLAGS.AT_FULL (i : Nat) : Fld := ⟨0x4007 + 8 * i, 4, 1, .ro, 0⟩
abbrev CELL_FLAGS.AT_EMPTY (i : Nat) : Fld := ⟨0x4007 + 8 * i, 3, 1, .ro, 0⟩
abbrev CELL_FLAGS.TV_AGED (i : Nat) : Fld := ⟨0x4007 + 8 * i, 2, 1, .ro, 0⟩
abbrev CELL_FLAGS.Z_AGED (i : Nat) : Fld := ⟨0x4007 + 8 * i, 1, 1, .ro, 0⟩
abbrev CELL_FLAGS.EKF_SKIP (i : Nat) : Fld := ⟨0x4007 + 8 * i, 0, 1, .ro, 0⟩
/-- R111: `CELL_FLAGS` (1536 of them). Cell flags. -/
def CELL_FLAGS.fields (i : Nat) : List Fld :=
  [CELL_FLAGS.T_DEFAULT i, CELL_FLAGS.TV_NA i, CELL_FLAGS.SOC_JUMP i, CELL_FLAGS.VAR_HIGH i,
    CELL_FLAGS.ECC_REINIT i, CELL_FLAGS.NEW i, CELL_FLAGS.PARAM_BOUND i, CELL_FLAGS.HELD_UP i,
    CELL_FLAGS.AT_FULL i, CELL_FLAGS.AT_EMPTY i, CELL_FLAGS.TV_AGED i, CELL_FLAGS.Z_AGED i,
    CELL_FLAGS.EKF_SKIP i]

abbrev TEMP_RAW.VALID (i : Nat) : Fld := ⟨0x7000 + 2 * i, 30, 2, .ro, 0⟩
abbrev TEMP_RAW.AGE (i : Nat) : Fld := ⟨0x7000 + 2 * i, 24, 6, .ro, 0⟩
abbrev TEMP_RAW.USED (i : Nat) : Fld := ⟨0x7000 + 2 * i, 23, 1, .ro, 0⟩
abbrev TEMP_RAW.CODE (i : Nat) : Fld := ⟨0x7000 + 2 * i, 0, 16, .ro, 0⟩
/-- R113: `TEMP_RAW` (1024 of them). Latest NTC code. -/
def TEMP_RAW.fields (i : Nat) : List Fld :=
  [TEMP_RAW.VALID i, TEMP_RAW.AGE i, TEMP_RAW.USED i, TEMP_RAW.CODE i]

abbrev TEMP_VAL.STANDING (i : Nat) : Fld := ⟨0x7001 + 2 * i, 30, 2, .ro, 0⟩
abbrev TEMP_VAL.FAST (i : Nat) : Fld := ⟨0x7001 + 2 * i, 29, 1, .ro, 0⟩
abbrev TEMP_VAL.HOTTEST (i : Nat) : Fld := ⟨0x7001 + 2 * i, 28, 1, .ro, 0⟩
abbrev TEMP_VAL.TEMP (i : Nat) : Fld := ⟨0x7001 + 2 * i, 0, 16, .ro, 0⟩
/-- R113: `TEMP_VAL` (1024 of them). Temperature in °C and its standing. -/
def TEMP_VAL.fields (i : Nat) : List Fld :=
  [TEMP_VAL.STANDING i, TEMP_VAL.FAST i, TEMP_VAL.HOTTEST i, TEMP_VAL.TEMP i]

abbrev ACQ_PH_CFG.PH_OFFSET : Fld := ⟨0x600, 16, 16, .rws, 0⟩
abbrev ACQ_PH_CFG.NOM_FREQ : Fld := ⟨0x600, 8, 8, .rws, 0⟩
abbrev ACQ_PH_CFG.ZC_DOMAIN : Fld := ⟨0x600, 4, 2, .rws, 0⟩
abbrev ACQ_PH_CFG.PH_SRC : Fld := ⟨0x600, 0, 2, .rws, 0⟩
/-- R114: `ACQ_PH_CFG`. Phase source settings. -/
def ACQ_PH_CFG.fields : List Fld :=
  [ACQ_PH_CFG.PH_OFFSET, ACQ_PH_CFG.NOM_FREQ, ACQ_PH_CFG.ZC_DOMAIN, ACQ_PH_CFG.PH_SRC]

abbrev ACQ_RATE.N_CFG : Fld := ⟨0x601, 0, 2, .rw, 1⟩
/-- R114: `ACQ_RATE`. Samples per cycle. -/
def ACQ_RATE.fields : List Fld :=
  [ACQ_RATE.N_CFG]

abbrev ACQ_QW.QW_PRE : Fld := ⟨0x602, 8, 8, .rws, 0x96⟩
abbrev ACQ_QW.QW_POST : Fld := ⟨0x602, 0, 8, .rws, 0x32⟩
/-- R114: `ACQ_QW`. Quiet windows. -/
def ACQ_QW.fields : List Fld :=
  [ACQ_QW.QW_PRE, ACQ_QW.QW_POST]

abbrev ACQ_PH_STATUS.PH_ERR : Fld := ⟨0x603, 16, 16, .ro, 0⟩
abbrev ACQ_PH_STATUS.GLITCH : Fld := ⟨0x603, 8, 8, .ro, 0⟩
abbrev ACQ_PH_STATUS.PHASE_HOLD : Fld := ⟨0x603, 7, 1, .ro, 0⟩
abbrev ACQ_PH_STATUS.SRC_VALID : Fld := ⟨0x603, 6, 1, .ro, 0⟩
abbrev ACQ_PH_STATUS.STATE : Fld := ⟨0x603, 0, 3, .ro, 0⟩
/-- R114: `ACQ_PH_STATUS`. Phase clock state. -/
def ACQ_PH_STATUS.fields : List Fld :=
  [ACQ_PH_STATUS.PH_ERR, ACQ_PH_STATUS.GLITCH, ACQ_PH_STATUS.PHASE_HOLD, ACQ_PH_STATUS.SRC_VALID,
    ACQ_PH_STATUS.STATE]

abbrev ACQ_FREQ.RATE : Fld := ⟨0x604, 0, 32, .ro, 0⟩
/-- R114: `ACQ_FREQ`. Rate of the current cycle. -/
def ACQ_FREQ.fields : List Fld :=
  [ACQ_FREQ.RATE]

abbrev ACQ_NOW0.CYCLE_LO : Fld := ⟨0x605, 16, 16, .ro, 0⟩
abbrev ACQ_NOW0.PHASE : Fld := ⟨0x605, 0, 16, .ro, 0⟩
/-- R114: `ACQ_NOW0`. Phase time now, low word, read per R10. -/
def ACQ_NOW0.fields : List Fld :=
  [ACQ_NOW0.CYCLE_LO, ACQ_NOW0.PHASE]

abbrev ACQ_NOW1.CYCLE_HI : Fld := ⟨0x606, 0, 32, .ro, 0⟩
/-- R114: `ACQ_NOW1`. Phase time now, high word. -/
def ACQ_NOW1.fields : List Fld :=
  [ACQ_NOW1.CYCLE_HI]

abbrev ACQ_SWEEP0.CYCLE_LO : Fld := ⟨0x607, 0, 32, .ro, 0⟩
/-- R114: `ACQ_SWEEP0`. Last completed sweep, low word. -/
def ACQ_SWEEP0.fields : List Fld :=
  [ACQ_SWEEP0.CYCLE_LO]

abbrev ACQ_SWEEP1.N : Fld := ⟨0x608, 16, 8, .ro, 0⟩
abbrev ACQ_SWEEP1.CYCLE_HI : Fld := ⟨0x608, 0, 16, .ro, 0⟩
/-- R114: `ACQ_SWEEP1`. Last completed sweep, high word and N. -/
def ACQ_SWEEP1.fields : List Fld :=
  [ACQ_SWEEP1.N, ACQ_SWEEP1.CYCLE_HI]

abbrev ACQ_STATUS.N_EFF : Fld := ⟨0x609, 16, 8, .ro, 0⟩
abbrev ACQ_STATUS.ADJ_BALANCE : Fld := ⟨0x609, 2, 1, .w1c, 0⟩
abbrev ACQ_STATUS.STOP_PENDING : Fld := ⟨0x609, 1, 1, .ro, 0⟩
abbrev ACQ_STATUS.RUN : Fld := ⟨0x609, 0, 1, .ro, 0⟩
/-- R114: `ACQ_STATUS`. ACQ state and flags. -/
def ACQ_STATUS.fields : List Fld :=
  [ACQ_STATUS.N_EFF, ACQ_STATUS.ADJ_BALANCE, ACQ_STATUS.STOP_PENDING, ACQ_STATUS.RUN]

abbrev ACQ_ZC_NS.NS : Fld := ⟨0x60A, 0, 32, .wo, 0⟩
/-- R114: `ACQ_ZC_NS`. Zero-crossing timestamp, nanoseconds. -/
def ACQ_ZC_NS.fields : List Fld :=
  [ACQ_ZC_NS.NS]

abbrev ACQ_ZC_SEC0.SEC_LO : Fld := ⟨0x60B, 0, 32, .wo, 0⟩
/-- R114: `ACQ_ZC_SEC0`. Zero-crossing timestamp, seconds [31:0]. -/
def ACQ_ZC_SEC0.fields : List Fld :=
  [ACQ_ZC_SEC0.SEC_LO]

abbrev ACQ_ZC_SEC1.SEC_HI : Fld := ⟨0x60C, 0, 16, .wo, 0⟩
/-- R114: `ACQ_ZC_SEC1`. Zero-crossing timestamp, seconds [47:32]. -/
def ACQ_ZC_SEC1.fields : List Fld :=
  [ACQ_ZC_SEC1.SEC_HI]

abbrev ACQ_ZC_STATUS.REASON : Fld := ⟨0x60D, 24, 8, .ro, 0⟩
abbrev ACQ_ZC_STATUS.ACCEPTED : Fld := ⟨0x60D, 0, 16, .ro, 0⟩
/-- R114: `ACQ_ZC_STATUS`. Timestamp acceptance. -/
def ACQ_ZC_STATUS.fields : List Fld :=
  [ACQ_ZC_STATUS.REASON, ACQ_ZC_STATUS.ACCEPTED]

abbrev ACQ_CNT_DIST.COUNT : Fld := ⟨0x60E, 0, 17, .ro, 0⟩
/-- R114: `ACQ_CNT_DIST`. DISTURBED cell samples in the last completed sweep. -/
def ACQ_CNT_DIST.fields : List Fld :=
  [ACQ_CNT_DIST.COUNT]

abbrev ACQ_CNT_SUSP.COUNT : Fld := ⟨0x60F, 0, 17, .ro, 0⟩
/-- R114: `ACQ_CNT_SUSP`. SUSPECT cell samples in the last completed sweep. -/
def ACQ_CNT_SUSP.fields : List Fld :=
  [ACQ_CNT_SUSP.COUNT]

abbrev ACQ_CNT_STALE.COUNT : Fld := ⟨0x610, 0, 17, .ro, 0⟩
/-- R114: `ACQ_CNT_STALE`. STALE cell samples of used cells in the last completed sweep. -/
def ACQ_CNT_STALE.fields : List Fld :=
  [ACQ_CNT_STALE.COUNT]

abbrev ACQ_I.VALID (i : Nat) : Fld := ⟨0x620 + 4 * i, 30, 2, .ro, 0⟩
abbrev ACQ_I.VALUE (i : Nat) : Fld := ⟨0x620 + 4 * i, 0, 30, .ro, 0⟩
/-- R114: `ACQ_I` (8 of them). String s current, latest sample, s = 0–7. -/
def ACQ_I.fields (i : Nat) : List Fld :=
  [ACQ_I.VALID i, ACQ_I.VALUE i]

abbrev ACQ_VSTR.VALID (i : Nat) : Fld := ⟨0x621 + 4 * i, 30, 2, .ro, 0⟩
abbrev ACQ_VSTR.VALUE (i : Nat) : Fld := ⟨0x621 + 4 * i, 0, 30, .ro, 0⟩
/-- R114: `ACQ_VSTR` (8 of them). String s, string-side HV. -/
def ACQ_VSTR.fields (i : Nat) : List Fld :=
  [ACQ_VSTR.VALID i, ACQ_VSTR.VALUE i]

abbrev ACQ_VBUS.VALID (i : Nat) : Fld := ⟨0x622 + 4 * i, 30, 2, .ro, 0⟩
abbrev ACQ_VBUS.VALUE (i : Nat) : Fld := ⟨0x622 + 4 * i, 0, 30, .ro, 0⟩
/-- R114: `ACQ_VBUS` (8 of them). String s, bus-side HV. -/
def ACQ_VBUS.fields (i : Nat) : List Fld :=
  [ACQ_VBUS.VALID i, ACQ_VBUS.VALUE i]

abbrev ACQ_VPRE.VALID (i : Nat) : Fld := ⟨0x623 + 4 * i, 30, 2, .ro, 0⟩
abbrev ACQ_VPRE.VALUE (i : Nat) : Fld := ⟨0x623 + 4 * i, 0, 30, .ro, 0⟩
/-- R114: `ACQ_VPRE` (8 of them). String s, pre-charge node HV. -/
def ACQ_VPRE.fields (i : Nat) : List Fld :=
  [ACQ_VPRE.VALID i, ACQ_VPRE.VALUE i]

abbrev EST_CFG.Z_SEL : Fld := ⟨0x700, 12, 2, .rws, 0⟩
abbrev EST_CFG.H2 : Fld := ⟨0x700, 8, 4, .rws, 6⟩
abbrev EST_CFG.H1 : Fld := ⟨0x700, 4, 4, .rws, 4⟩
abbrev EST_CFG.H0 : Fld := ⟨0x700, 0, 4, .rws, 2⟩
/-- R139: `EST_CFG`. Harmonic set and displayed harmonic. -/
def EST_CFG.fields : List Fld :=
  [EST_CFG.Z_SEL, EST_CFG.H2, EST_CFG.H1, EST_CFG.H0]

abbrev EST_REST.SLOPE_MIN : Fld := ⟨0x701, 16, 8, .rws, 0x64⟩
abbrev EST_REST.REST_TIME : Fld := ⟨0x701, 0, 8, .rws, 0x1E⟩
/-- R139: `EST_REST`. Rest recalibration. -/
def EST_REST.fields : List Fld :=
  [EST_REST.SLOPE_MIN, EST_REST.REST_TIME]

abbrev EST_EMPTY.EMPTY_CYCLES : Fld := ⟨0x702, 8, 8, .rws, 3⟩
abbrev EST_EMPTY.EMPTY_MARGIN : Fld := ⟨0x702, 0, 8, .rws, 0x32⟩
/-- R139: `EST_EMPTY`. Empty test. -/
def EST_EMPTY.fields : List Fld :=
  [EST_EMPTY.EMPTY_CYCLES, EST_EMPTY.EMPTY_MARGIN]

abbrev EST_PROBE.PROBE_EN : Fld := ⟨0x703, 16, 1, .rws, 1⟩
abbrev EST_PROBE.PROBE_AGE : Fld := ⟨0x703, 0, 16, .rws, 0x258⟩
/-- R139: `EST_PROBE`. Probe request. -/
def EST_PROBE.fields : List Fld :=
  [EST_PROBE.PROBE_EN, EST_PROBE.PROBE_AGE]

abbrev EST_SIGMA.SIGMA_MAX : Fld := ⟨0x704, 0, 16, .rws, 0x1F4⟩
/-- R139: `EST_SIGMA`. Spread threshold. -/
def EST_SIGMA.fields : List Fld :=
  [EST_SIGMA.SIGMA_MAX]

abbrev EST_STATUS.GAP : Fld := ⟨0x705, 8, 8, .ro, 0⟩
abbrev EST_STATUS.PROBE : Fld := ⟨0x705, 6, 1, .ro, 0⟩
abbrev EST_STATUS.RESUMED : Fld := ⟨0x705, 5, 1, .w1c, 0⟩
abbrev EST_STATUS.PHASE_UNLOCKED : Fld := ⟨0x705, 4, 1, .ro, 0⟩
abbrev EST_STATUS.Z_SUSPENDED : Fld := ⟨0x705, 3, 1, .ro, 0⟩
abbrev EST_STATUS.QUARTER_RATE : Fld := ⟨0x705, 2, 1, .ro, 0⟩
abbrev EST_STATUS.IDLE : Fld := ⟨0x705, 1, 1, .ro, 0⟩
abbrev EST_STATUS.RUN : Fld := ⟨0x705, 0, 1, .ro, 0⟩
/-- R139: `EST_STATUS`. EST state. -/
def EST_STATUS.fields : List Fld :=
  [EST_STATUS.GAP, EST_STATUS.PROBE, EST_STATUS.RESUMED, EST_STATUS.PHASE_UNLOCKED,
    EST_STATUS.Z_SUSPENDED, EST_STATUS.QUARTER_RATE, EST_STATUS.IDLE, EST_STATUS.RUN]

abbrev EST_SWEEP0.CYCLE_LO : Fld := ⟨0x706, 0, 32, .ro, 0⟩
/-- R139: `EST_SWEEP0`. Published sweep, cycle [31:0]. -/
def EST_SWEEP0.fields : List Fld :=
  [EST_SWEEP0.CYCLE_LO]

abbrev EST_SWEEP1.CYCLE_HI : Fld := ⟨0x707, 0, 16, .ro, 0⟩
/-- R139: `EST_SWEEP1`. [15:0] cycle [47:32]; [31:16] reserved, reads 0, write 0. -/
def EST_SWEEP1.fields : List Fld :=
  [EST_SWEEP1.CYCLE_HI]

abbrev EST_SOC.SIGMA (i : Nat) : Fld := ⟨0x720 + 8 * i, 16, 16, .ro, 0⟩
abbrev EST_SOC.SOC (i : Nat) : Fld := ⟨0x720 + 8 * i, 0, 16, .ro, 0⟩
/-- R139: `EST_SOC` (9 of them). String s reported SoC, s = 0–7. -/
def EST_SOC.fields (i : Nat) : List Fld :=
  [EST_SOC.SIGMA i, EST_SOC.SOC i]

abbrev EST_SOE.SOE (i : Nat) : Fld := ⟨0x721 + 8 * i, 0, 16, .ro, 0⟩
/-- R139: `EST_SOE` (9 of them). String s reported SoE. -/
def EST_SOE.fields (i : Nat) : List Fld :=
  [EST_SOE.SOE i]

abbrev EST_EDIS.VALUE (i : Nat) : Fld := ⟨0x722 + 8 * i, 0, 32, .ro, 0⟩
/-- R139: `EST_EDIS` (9 of them). String s reported energy to empty, Wh: reported SoE × (E_dis + E_chg). -/
def EST_EDIS.fields (i : Nat) : List Fld :=
  [EST_EDIS.VALUE i]

abbrev EST_QAV.QC (i : Nat) : Fld := ⟨0x723 + 8 * i, 16, 16, .ro, 0⟩
abbrev EST_QAV.QD (i : Nat) : Fld := ⟨0x723 + 8 * i, 0, 16, .ro, 0⟩
/-- R139: `EST_QAV` (8 of them). String s estimated Qd and Qc. -/
def EST_QAV.fields (i : Nat) : List Fld :=
  [EST_QAV.QC i, EST_QAV.QD i]

abbrev EST_SOH.SOH_R (i : Nat) : Fld := ⟨0x724 + 8 * i, 16, 16, .ro, 0⟩
abbrev EST_SOH.SOH_Q (i : Nat) : Fld := ⟨0x724 + 8 * i, 0, 16, .ro, 0⟩
/-- R139: `EST_SOH` (8 of them). String s health. -/
def EST_SOH.fields (i : Nat) : List Fld :=
  [EST_SOH.SOH_R i, EST_SOH.SOH_Q i]

abbrev EST_EXT.MAX_CELL (i : Nat) : Fld := ⟨0x725 + 8 * i, 16, 11, .ro, 0⟩
abbrev EST_EXT.MIN_CELL (i : Nat) : Fld := ⟨0x725 + 8 * i, 0, 11, .ro, 0⟩
/-- R139: `EST_EXT` (8 of them). String s limiting cells. -/
def EST_EXT.fields (i : Nat) : List Fld :=
  [EST_EXT.MAX_CELL i, EST_EXT.MIN_CELL i]

abbrev EST_TVMAX.CELL (i : Nat) : Fld := ⟨0x726 + 8 * i, 16, 11, .ro, 0⟩
abbrev EST_TVMAX.TEMP (i : Nat) : Fld := ⟨0x726 + 8 * i, 0, 16, .ro, 0⟩
/-- R139: `EST_TVMAX` (9 of them). String s hottest available virtual temperature. -/
def EST_TVMAX.fields (i : Nat) : List Fld :=
  [EST_TVMAX.CELL i, EST_TVMAX.TEMP i]

abbrev EST_SFLAGS.ALL_OPEN (i : Nat) : Fld := ⟨0x727 + 8 * i, 12, 1, .ro, 0⟩
abbrev EST_SFLAGS.EKF_SKIP_ANY (i : Nat) : Fld := ⟨0x727 + 8 * i, 11, 1, .ro, 0⟩
abbrev EST_SFLAGS.STALE (i : Nat) : Fld := ⟨0x727 + 8 * i, 10, 1, .ro, 0⟩
abbrev EST_SFLAGS.PROBE (i : Nat) : Fld := ⟨0x727 + 8 * i, 9, 1, .ro, 0⟩
abbrev EST_SFLAGS.Z_AGED (i : Nat) : Fld := ⟨0x727 + 8 * i, 8, 1, .ro, 0⟩
abbrev EST_SFLAGS.RESTED (i : Nat) : Fld := ⟨0x727 + 8 * i, 7, 1, .ro, 0⟩
abbrev EST_SFLAGS.VOLT_EMPTY (i : Nat) : Fld := ⟨0x727 + 8 * i, 6, 1, .ro, 0⟩
abbrev EST_SFLAGS.EMPTY_HOLD (i : Nat) : Fld := ⟨0x727 + 8 * i, 5, 1, .ro, 0⟩
abbrev EST_SFLAGS.VOLT_COUNT_DISAGREE (i : Nat) : Fld := ⟨0x727 + 8 * i, 4, 1, .ro, 0⟩
abbrev EST_SFLAGS.COUNT_VOLT_DISAGREE (i : Nat) : Fld := ⟨0x727 + 8 * i, 3, 1, .ro, 0⟩
abbrev EST_SFLAGS.FLOOR (i : Nat) : Fld := ⟨0x727 + 8 * i, 2, 1, .ro, 0⟩
abbrev EST_SFLAGS.HELD_UP (i : Nat) : Fld := ⟨0x727 + 8 * i, 1, 1, .ro, 0⟩
abbrev EST_SFLAGS.DISCHARGING (i : Nat) : Fld := ⟨0x727 + 8 * i, 0, 1, .ro, 0⟩
/-- R139: `EST_SFLAGS` (9 of them). String s flags. -/
def EST_SFLAGS.fields (i : Nat) : List Fld :=
  [EST_SFLAGS.ALL_OPEN i, EST_SFLAGS.EKF_SKIP_ANY i, EST_SFLAGS.STALE i, EST_SFLAGS.PROBE i,
    EST_SFLAGS.Z_AGED i, EST_SFLAGS.RESTED i, EST_SFLAGS.VOLT_EMPTY i, EST_SFLAGS.EMPTY_HOLD i,
    EST_SFLAGS.VOLT_COUNT_DISAGREE i, EST_SFLAGS.COUNT_VOLT_DISAGREE i, EST_SFLAGS.FLOOR i,
    EST_SFLAGS.HELD_UP i, EST_SFLAGS.DISCHARGING i]

abbrev EST_B_QD.VALUE : Fld := ⟨0x763, 0, 32, .ro, 0⟩
/-- R139: `EST_B_QD`. Bank Qd, 0.01 Ah per LSB. -/
def EST_B_QD.fields : List Fld :=
  [EST_B_QD.VALUE]

abbrev EST_B_QC.VALUE : Fld := ⟨0x764, 0, 32, .ro, 0⟩
/-- R139: `EST_B_QC`. Bank Qc, 0.01 Ah per LSB. -/
def EST_B_QC.fields : List Fld :=
  [EST_B_QC.VALUE]

abbrev EST_B_SOH.SOH_R : Fld := ⟨0x765, 16, 16, .ro, 0⟩
abbrev EST_B_SOH.SOH_Q : Fld := ⟨0x765, 0, 16, .ro, 0⟩
/-- R139: `EST_B_SOH`. Bank health. -/
def EST_B_SOH.fields : List Fld :=
  [EST_B_SOH.SOH_R, EST_B_SOH.SOH_Q]

end Sys2Proof.Machine
end

