-- ==== Sys2Proof/Machine/RegsChn.lean ====
section
/-! DEFINITION. The fields of the registers of the THW, BAL, CHN, SAF pages, each under the name
the manual gives it: its address, place, width, access code and reset value, as the register and
field tables of spec/ list them. A "Trellis" field carries the default its table states (0 where it
states none: DEFAULTS must then list the register, R42). -/

namespace Sys2Proof.Machine

abbrev THW_CFG.FAST_HOLD : Fld := ⟨0xB00, 16, 8, .rws, 0x3C⟩
abbrev THW_CFG.RATE_FAST : Fld := ⟨0xB00, 8, 8, .rws, 0x32⟩
abbrev THW_CFG.FAST_MARGIN : Fld := ⟨0xB00, 0, 8, .rws, 5⟩
/-- R223: `THW_CFG`. Fast mode settings. -/
def THW_CFG.fields : List Fld :=
  [THW_CFG.FAST_HOLD, THW_CFG.RATE_FAST, THW_CFG.FAST_MARGIN]

abbrev THW_STATUS.LATCH_CLEARED : Fld := ⟨0xB01, 9, 1, .w1c, 0⟩
abbrev THW_STATUS.LATCHED : Fld := ⟨0xB01, 8, 1, .ro, 0⟩
abbrev THW_STATUS.FAST : Fld := ⟨0xB01, 7, 1, .ro, 0⟩
abbrev THW_STATUS.INT_WARN : Fld := ⟨0xB01, 6, 1, .ro, 0⟩
abbrev THW_STATUS.BLIND : Fld := ⟨0xB01, 5, 1, .ro, 0⟩
abbrev THW_STATUS.IMPLAUSIBLE : Fld := ⟨0xB01, 4, 1, .ro, 0⟩
abbrev THW_STATUS.THROTTLE : Fld := ⟨0xB01, 3, 1, .ro, 0⟩
abbrev THW_STATUS.WARN : Fld := ⟨0xB01, 2, 1, .ro, 0⟩
abbrev THW_STATUS.IDLE : Fld := ⟨0xB01, 1, 1, .ro, 0⟩
abbrev THW_STATUS.RUN : Fld := ⟨0xB01, 0, 1, .ro, 0⟩
/-- R223: `THW_STATUS`. THW state. -/
def THW_STATUS.fields : List Fld :=
  [THW_STATUS.LATCH_CLEARED, THW_STATUS.LATCHED, THW_STATUS.FAST, THW_STATUS.INT_WARN,
    THW_STATUS.BLIND, THW_STATUS.IMPLAUSIBLE, THW_STATUS.THROTTLE, THW_STATUS.WARN,
    THW_STATUS.IDLE, THW_STATUS.RUN]

abbrev THW_LATCH.CAUSE : Fld := ⟨0xB02, 24, 8, .ro, 0⟩
abbrev THW_LATCH.INDEX : Fld := ⟨0xB02, 16, 8, .ro, 0⟩
abbrev THW_LATCH.VALUE : Fld := ⟨0xB02, 0, 16, .ro, 0⟩
/-- R223: `THW_LATCH`. Cause of the thermal latch. -/
def THW_LATCH.fields : List Fld :=
  [THW_LATCH.CAUSE, THW_LATCH.INDEX, THW_LATCH.VALUE]

abbrev THW_CNT.IMPL : Fld := ⟨0xB03, 16, 16, .rc, 0⟩
abbrev THW_CNT.FAIL : Fld := ⟨0xB03, 0, 16, .rc, 0⟩
/-- R223: `THW_CNT`. Standing counters. -/
def THW_CNT.fields : List Fld :=
  [THW_CNT.IMPL, THW_CNT.FAIL]

abbrev THW_SFACT.ZONE (i : Nat) : Fld := ⟨0xB10 + i, 16, 8, .ro, 0xFF⟩
abbrev THW_SFACT.FACTOR (i : Nat) : Fld := ⟨0xB10 + i, 0, 16, .ro, 0x2710⟩
/-- R223: `THW_SFACT` (8 of them). Thermal factor of string s. -/
def THW_SFACT.fields (i : Nat) : List Fld :=
  [THW_SFACT.ZONE i, THW_SFACT.FACTOR i]

abbrev THW_INT.TEMP (i : Nat) : Fld := ⟨0xB20 + i, 0, 16, .ro, 0⟩
/-- R223: `THW_INT` (12 of them). Internal points I0–I11. -/
def THW_INT.fields (i : Nat) : List Fld :=
  [THW_INT.TEMP i]

abbrev THW_ZMAX.SRC (i : Nat) : Fld := ⟨0xB40 + 3 * i, 30, 2, .ro, 0⟩
abbrev THW_ZMAX.INDEX (i : Nat) : Fld := ⟨0xB40 + 3 * i, 16, 11, .ro, 0⟩
abbrev THW_ZMAX.TEMP (i : Nat) : Fld := ⟨0xB40 + 3 * i, 0, 16, .ro, 0⟩
/-- R223: `THW_ZMAX` (64 of them). Zone z maximum, z = 0–63. -/
def THW_ZMAX.fields (i : Nat) : List Fld :=
  [THW_ZMAX.SRC i, THW_ZMAX.INDEX i, THW_ZMAX.TEMP i]

abbrev THW_ZSTAT.FACTOR (i : Nat) : Fld := ⟨0xB41 + 3 * i, 16, 16, .ro, 0⟩
abbrev THW_ZSTAT.SHUT (i : Nat) : Fld := ⟨0xB41 + 3 * i, 7, 1, .ro, 0⟩
abbrev THW_ZSTAT.HOLD (i : Nat) : Fld := ⟨0xB41 + 3 * i, 6, 1, .ro, 0⟩
abbrev THW_ZSTAT.BLIND (i : Nat) : Fld := ⟨0xB41 + 3 * i, 5, 1, .ro, 0⟩
abbrev THW_ZSTAT.RATE_HIGH (i : Nat) : Fld := ⟨0xB41 + 3 * i, 4, 1, .ro, 0⟩
abbrev THW_ZSTAT.THROTTLE (i : Nat) : Fld := ⟨0xB41 + 3 * i, 3, 1, .ro, 0⟩
abbrev THW_ZSTAT.WARN (i : Nat) : Fld := ⟨0xB41 + 3 * i, 2, 1, .ro, 0⟩
abbrev THW_ZSTAT.FAST (i : Nat) : Fld := ⟨0xB41 + 3 * i, 1, 1, .ro, 0⟩
abbrev THW_ZSTAT.USED (i : Nat) : Fld := ⟨0xB41 + 3 * i, 0, 1, .ro, 0⟩
/-- R223: `THW_ZSTAT` (64 of them). Zone z factor and flags. -/
def THW_ZSTAT.fields (i : Nat) : List Fld :=
  [THW_ZSTAT.FACTOR i, THW_ZSTAT.SHUT i, THW_ZSTAT.HOLD i, THW_ZSTAT.BLIND i,
    THW_ZSTAT.RATE_HIGH i, THW_ZSTAT.THROTTLE i, THW_ZSTAT.WARN i, THW_ZSTAT.FAST i,
    THW_ZSTAT.USED i]

abbrev THW_ZRATE.RATE60 (i : Nat) : Fld := ⟨0xB42 + 3 * i, 16, 16, .ro, 0⟩
abbrev THW_ZRATE.RATE10 (i : Nat) : Fld := ⟨0xB42 + 3 * i, 0, 16, .ro, 0⟩
/-- R223: `THW_ZRATE` (64 of them). Zone z rates. -/
def THW_ZRATE.fields (i : Nat) : List Fld :=
  [THW_ZRATE.RATE60 i, THW_ZRATE.RATE10 i]

abbrev BAL_CFG.VMIN : Fld := ⟨0xC00, 16, 16, .rws, 0x7530⟩
abbrev BAL_CFG.STOP : Fld := ⟨0xC00, 8, 8, .rws, 5⟩
abbrev BAL_CFG.START : Fld := ⟨0xC00, 0, 8, .rws, 0x14⟩
/-- R235: `BAL_CFG`. Thresholds. -/
def BAL_CFG.fields : List Fld :=
  [BAL_CFG.VMIN, BAL_CFG.STOP, BAL_CFG.START]

abbrev BAL_CFG2.R_BAL : Fld := ⟨0xC01, 0, 16, .rws, 0x672⟩
/-- R235: `BAL_CFG2`. Balancing resistance. -/
def BAL_CFG2.fields : List Fld :=
  [BAL_CFG2.R_BAL]

abbrev BAL_TEST.PERIOD : Fld := ⟨0xC02, 24, 8, .rws, 7⟩
abbrev BAL_TEST.STEP_MAX : Fld := ⟨0xC02, 16, 8, .rws, 0x28⟩
abbrev BAL_TEST.STEP_MIN : Fld := ⟨0xC02, 8, 8, .rws, 2⟩
abbrev BAL_TEST.I_TOL : Fld := ⟨0xC02, 0, 8, .rws, 0x19⟩
/-- R235: `BAL_TEST`. Test settings. -/
def BAL_TEST.fields : List Fld :=
  [BAL_TEST.PERIOD, BAL_TEST.STEP_MAX, BAL_TEST.STEP_MIN, BAL_TEST.I_TOL]

abbrev BAL_CTRL.PORT : Fld := ⟨0xC03, 16, 6, .wo, 0⟩
abbrev BAL_CTRL.INPUT : Fld := ⟨0xC03, 8, 5, .wo, 0⟩
abbrev BAL_CTRL.CMD : Fld := ⟨0xC03, 0, 4, .wo, 0⟩
/-- R235: `BAL_CTRL`. Command. -/
def BAL_CTRL.fields : List Fld :=
  [BAL_CTRL.PORT, BAL_CTRL.INPUT, BAL_CTRL.CMD]

abbrev BAL_FORCE.CONTINUOUS : Fld := ⟨0xC04, 31, 1, .rw, 0⟩
abbrev BAL_FORCE.MINUTES : Fld := ⟨0xC04, 24, 7, .rw, 0⟩
abbrev BAL_FORCE.MASK : Fld := ⟨0xC04, 0, 24, .rw, 0⟩
/-- R235: `BAL_FORCE`. Forced mask. -/
def BAL_FORCE.fields : List Fld :=
  [BAL_FORCE.CONTINUOUS, BAL_FORCE.MINUTES, BAL_FORCE.MASK]

abbrev BAL_STATUS.REASON : Fld := ⟨0xC05, 24, 8, .ro, 0⟩
abbrev BAL_STATUS.TEST_ACTIVE : Fld := ⟨0xC05, 5, 1, .ro, 0⟩
abbrev BAL_STATUS.FORCED : Fld := ⟨0xC05, 4, 1, .ro, 0⟩
abbrev BAL_STATUS.SUSPENDED : Fld := ⟨0xC05, 3, 1, .ro, 0⟩
abbrev BAL_STATUS.SLOT : Fld := ⟨0xC05, 2, 1, .ro, 0⟩
abbrev BAL_STATUS.IDLE : Fld := ⟨0xC05, 1, 1, .ro, 0⟩
abbrev BAL_STATUS.RUN : Fld := ⟨0xC05, 0, 1, .ro, 0⟩
/-- R235: `BAL_STATUS`. BAL state. -/
def BAL_STATUS.fields : List Fld :=
  [BAL_STATUS.REASON, BAL_STATUS.TEST_ACTIVE, BAL_STATUS.FORCED, BAL_STATUS.SUSPENDED,
    BAL_STATUS.SLOT, BAL_STATUS.IDLE, BAL_STATUS.RUN]

abbrev BAL_TESTSTAT.INCONCL : Fld := ⟨0xC06, 24, 8, .ro, 0⟩
abbrev BAL_TESTSTAT.FAILED : Fld := ⟨0xC06, 16, 8, .ro, 0⟩
abbrev BAL_TESTSTAT.AGE : Fld := ⟨0xC06, 0, 16, .ro, 0⟩
/-- R235: `BAL_TESTSTAT`. Test pass state. -/
def BAL_TESTSTAT.fields : List Fld :=
  [BAL_TESTSTAT.INCONCL, BAL_TESTSTAT.FAILED, BAL_TESTSTAT.AGE]

abbrev BAL_ON.MASK (i : Nat) : Fld := ⟨0xC10 + i, 0, 32, .ro, 0⟩
/-- R235: `BAL_ON` (48 of them). Bit j: cell 32n + j in the mask of the running slot. -/
def BAL_ON.fields (i : Nat) : List Fld :=
  [BAL_ON.MASK i]

abbrev BAL_FAILED.MASK (i : Nat) : Fld := ⟨0xC40 + i, 0, 32, .ro, 0⟩
/-- R235: `BAL_FAILED` (48 of them). Bit j: switch of cell 32n + j FAILED. -/
def BAL_FAILED.fields (i : Nat) : List Fld :=
  [BAL_FAILED.MASK i]

abbrev CHN_CFG.STAGGER : Fld := ⟨0xD00, 16, 8, .rws, 0x14⟩
abbrev CHN_CFG.DEW_OFF : Fld := ⟨0xD00, 8, 8, .rws, 0x32⟩
abbrev CHN_CFG.DEW_ON : Fld := ⟨0xD00, 0, 8, .rws, 0x1E⟩
/-- R259: `CHN_CFG`. Dew thresholds, stagger. -/
def CHN_CFG.fields : List Fld :=
  [CHN_CFG.STAGGER, CHN_CFG.DEW_OFF, CHN_CFG.DEW_ON]

abbrev CHN_SET.MASK : Fld := ⟨0xD01, 0, 32, .wo, 0⟩
/-- R259: `CHN_SET`. Bit n: stored command of OUTn on. -/
def CHN_SET.fields : List Fld :=
  [CHN_SET.MASK]

abbrev CHN_CLR.MASK : Fld := ⟨0xD02, 0, 32, .wo, 0⟩
/-- R259: `CHN_CLR`. Bit n: stored command of OUTn off. -/
def CHN_CLR.fields : List Fld :=
  [CHN_CLR.MASK]

abbrev CHN_FCLR.MASK : Fld := ⟨0xD03, 0, 32, .wo, 0⟩
/-- R259: `CHN_FCLR`. Bit n: clear the latch of OUTn, per R251. -/
def CHN_FCLR.fields : List Fld :=
  [CHN_FCLR.MASK]

abbrev CHN_CMD.MASK : Fld := ⟨0xD04, 0, 32, .ro, 0⟩
/-- R259: `CHN_CMD`. Bit n: stored command of OUTn. -/
def CHN_CMD.fields : List Fld :=
  [CHN_CMD.MASK]

abbrev CHN_OUT.MASK : Fld := ⟨0xD05, 0, 32, .ro, 0⟩
/-- R259: `CHN_OUT`. Bit n: OUTn conducting. -/
def CHN_OUT.fields : List Fld :=
  [CHN_OUT.MASK]

abbrev CHN_FAULT.MASK : Fld := ⟨0xD06, 0, 32, .ro, 0⟩
/-- R259: `CHN_FAULT`. Bit n: OUTn latched SHORT or OVERLOAD, per R251. -/
def CHN_FAULT.fields : List Fld :=
  [CHN_FAULT.MASK]

abbrev CHN_STATUS.REASON : Fld := ⟨0xD07, 24, 8, .ro, 0⟩
abbrev CHN_STATUS.TOTAL_SHED : Fld := ⟨0xD07, 7, 1, .ro, 0⟩
abbrev CHN_STATUS.COMP_ACTIVE : Fld := ⟨0xD07, 6, 1, .ro, 0⟩
abbrev CHN_STATUS.HT_RECLAIMED : Fld := ⟨0xD07, 5, 1, .w1c, 0⟩
abbrev CHN_STATUS.HT_EXPIRED : Fld := ⟨0xD07, 4, 1, .w1c, 0⟩
abbrev CHN_STATUS.LOAD_DUMP : Fld := ⟨0xD07, 3, 1, .w1c, 0⟩
abbrev CHN_STATUS.OT_SHED : Fld := ⟨0xD07, 2, 1, .ro, 0⟩
abbrev CHN_STATUS.PRUNE_SHED : Fld := ⟨0xD07, 1, 1, .ro, 0⟩
abbrev CHN_STATUS.RUN : Fld := ⟨0xD07, 0, 1, .ro, 0⟩
/-- R259: `CHN_STATUS`. CHN state. -/
def CHN_STATUS.fields : List Fld :=
  [CHN_STATUS.REASON, CHN_STATUS.TOTAL_SHED, CHN_STATUS.COMP_ACTIVE, CHN_STATUS.HT_RECLAIMED,
    CHN_STATUS.HT_EXPIRED, CHN_STATUS.LOAD_DUMP, CHN_STATUS.OT_SHED, CHN_STATUS.PRUNE_SHED,
    CHN_STATUS.RUN]

abbrev CHN_TOTAL.DISS : Fld := ⟨0xD08, 16, 16, .ro, 0⟩
abbrev CHN_TOTAL.TOTAL : Fld := ⟨0xD08, 0, 16, .ro, 0⟩
/-- R259: `CHN_TOTAL`. Total current and dissipation. -/
def CHN_TOTAL.fields : List Fld :=
  [CHN_TOTAL.DISS, CHN_TOTAL.TOTAL]

abbrev CHN_VAUX.COMP : Fld := ⟨0xD09, 16, 16, .ro, 0⟩
abbrev CHN_VAUX.VAUX : Fld := ⟨0xD09, 0, 16, .ro, 0⟩
/-- R259: `CHN_VAUX`. Aux voltage and compensation factor. -/
def CHN_VAUX.fields : List Fld :=
  [CHN_VAUX.COMP, CHN_VAUX.VAUX]

abbrev CHN_ENV0.DEW : Fld := ⟨0xD0A, 16, 16, .ro, 0⟩
abbrev CHN_ENV0.TCASE : Fld := ⟨0xD0A, 0, 16, .ro, 0⟩
/-- R259: `CHN_ENV0`. Case temperature and dew point. -/
def CHN_ENV0.fields : List Fld :=
  [CHN_ENV0.DEW, CHN_ENV0.TCASE]

abbrev CHN_ENV1.STALE : Fld := ⟨0xD0B, 16, 1, .ro, 0⟩
abbrev CHN_ENV1.RH : Fld := ⟨0xD0B, 0, 16, .ro, 0⟩
/-- R259: `CHN_ENV1`. Relative humidity. -/
def CHN_ENV1.fields : List Fld :=
  [CHN_ENV1.STALE, CHN_ENV1.RH]

abbrev CHN_SHUNT.PEAK : Fld := ⟨0xD0C, 16, 16, .ro, 0⟩
abbrev CHN_SHUNT.FIRINGS : Fld := ⟨0xD0C, 8, 8, .ro, 0⟩
abbrev CHN_SHUNT.FIRING : Fld := ⟨0xD0C, 1, 1, .ro, 0⟩
abbrev CHN_SHUNT.OPEN : Fld := ⟨0xD0C, 0, 1, .ro, 0⟩
/-- R259: `CHN_SHUNT`. SHUNT_TRIP state. -/
def CHN_SHUNT.fields : List Fld :=
  [CHN_SHUNT.PEAK, CHN_SHUNT.FIRINGS, CHN_SHUNT.FIRING, CHN_SHUNT.OPEN]

abbrev CHN_STATE.OPEN_LOAD (i : Nat) : Fld := ⟨0xD10 + i, 28, 1, .w1c, 0⟩
abbrev CHN_STATE.GATE (i : Nat) : Fld := ⟨0xD10 + i, 27, 1, .ro, 0⟩
abbrev CHN_STATE.SAFE_ON (i : Nat) : Fld := ⟨0xD10 + i, 26, 1, .ro, 0⟩
abbrev CHN_STATE.PRUNE (i : Nat) : Fld := ⟨0xD10 + i, 24, 2, .ro, 0⟩
abbrev CHN_STATE.ROLE (i : Nat) : Fld := ⟨0xD10 + i, 20, 3, .ro, 0⟩
abbrev CHN_STATE.STATE (i : Nat) : Fld := ⟨0xD10 + i, 16, 4, .ro, 0⟩
abbrev CHN_STATE.CURRENT (i : Nat) : Fld := ⟨0xD10 + i, 0, 16, .ro, 0⟩
/-- R259: `CHN_STATE` (32 of them). State of OUTn. -/
def CHN_STATE.fields (i : Nat) : List Fld :=
  [CHN_STATE.OPEN_LOAD i, CHN_STATE.GATE i, CHN_STATE.SAFE_ON i, CHN_STATE.PRUNE i,
    CHN_STATE.ROLE i, CHN_STATE.STATE i, CHN_STATE.CURRENT i]

abbrev SAF_STATUS.FIRST_FAULT : Fld := ⟨0xE00, 24, 8, .ro, 0⟩
abbrev SAF_STATUS.SECOND_FAULT : Fld := ⟨0xE00, 16, 8, .ro, 0⟩
abbrev SAF_STATUS.STATE : Fld := ⟨0xE00, 10, 2, .ro, 0⟩
abbrev SAF_STATUS.CLASS : Fld := ⟨0xE00, 9, 1, .ro, 0⟩
abbrev SAF_STATUS.SAFE_RLY : Fld := ⟨0xE00, 8, 1, .ro, 0⟩
abbrev SAF_STATUS.ESTOP : Fld := ⟨0xE00, 7, 1, .ro, 0⟩
abbrev SAF_STATUS.SDR : Fld := ⟨0xE00, 6, 1, .ro, 0⟩
abbrev SAF_STATUS.PROOF_DUE : Fld := ⟨0xE00, 5, 1, .ro, 0⟩
abbrev SAF_STATUS.HB_MISSING : Fld := ⟨0xE00, 4, 1, .ro, 0⟩
abbrev SAF_STATUS.RESET_STUCK : Fld := ⟨0xE00, 3, 1, .ro, 0⟩
abbrev SAF_STATUS.RUN : Fld := ⟨0xE00, 0, 1, .ro, 0⟩
/-- R288: `SAF_STATUS`. Safety state. -/
def SAF_STATUS.fields : List Fld :=
  [SAF_STATUS.FIRST_FAULT, SAF_STATUS.SECOND_FAULT, SAF_STATUS.STATE, SAF_STATUS.CLASS,
    SAF_STATUS.SAFE_RLY, SAF_STATUS.ESTOP, SAF_STATUS.SDR, SAF_STATUS.PROOF_DUE,
    SAF_STATUS.HB_MISSING, SAF_STATUS.RESET_STUCK, SAF_STATUS.RUN]

abbrev SAF_FAULT.FAULT : Fld := ⟨0xE01, 0, 8, .ro, 0⟩
/-- R288: `SAF_FAULT`. Latched faults. -/
def SAF_FAULT.fields : List Fld :=
  [SAF_FAULT.FAULT]

abbrev SAF_INPUT.RAW : Fld := ⟨0xE02, 16, 16, .ro, 0⟩
abbrev SAF_INPUT.DEMAND : Fld := ⟨0xE02, 8, 8, .ro, 0⟩
abbrev SAF_INPUT.DISCREP : Fld := ⟨0xE02, 0, 8, .ro, 0⟩
/-- R288: `SAF_INPUT`. Safety inputs. -/
def SAF_INPUT.fields : List Fld :=
  [SAF_INPUT.RAW, SAF_INPUT.DEMAND, SAF_INPUT.DISCREP]

abbrev SAF_GATE.LATCH : Fld := ⟨0xE03, 16, 9, .ro, 0⟩
abbrev SAF_GATE.RLY_GATE : Fld := ⟨0xE03, 10, 1, .ro, 0⟩
abbrev SAF_GATE.SHUNT_GATE : Fld := ⟨0xE03, 9, 1, .ro, 0⟩
abbrev SAF_GATE.OPEN : Fld := ⟨0xE03, 0, 9, .ro, 0x1FF⟩
/-- R288: `SAF_GATE`. Gates and latches. -/
def SAF_GATE.fields : List Fld :=
  [SAF_GATE.LATCH, SAF_GATE.RLY_GATE, SAF_GATE.SHUNT_GATE, SAF_GATE.OPEN]

abbrev SAF_RESET.REASON : Fld := ⟨0xE04, 24, 8, .ro, 0⟩
abbrev SAF_RESET.COUNT : Fld := ⟨0xE04, 8, 8, .ro, 0⟩
abbrev SAF_RESET.STUCK : Fld := ⟨0xE04, 3, 1, .ro, 0⟩
abbrev SAF_RESET.ARMED : Fld := ⟨0xE04, 2, 1, .ro, 0⟩
abbrev SAF_RESET.B : Fld := ⟨0xE04, 1, 1, .ro, 0⟩
abbrev SAF_RESET.A : Fld := ⟨0xE04, 0, 1, .ro, 0⟩
/-- R288: `SAF_RESET`. Reset pair. -/
def SAF_RESET.fields : List Fld :=
  [SAF_RESET.REASON, SAF_RESET.COUNT, SAF_RESET.STUCK, SAF_RESET.ARMED, SAF_RESET.B, SAF_RESET.A]

abbrev SAF_DEGRADE.TIME_LEFT : Fld := ⟨0xE05, 16, 16, .ro, 0⟩
abbrev SAF_DEGRADE.LIMIT : Fld := ⟨0xE05, 0, 8, .ro, 0⟩
/-- R288: `SAF_DEGRADE`. Degraded mode. -/
def SAF_DEGRADE.fields : List Fld :=
  [SAF_DEGRADE.TIME_LEFT, SAF_DEGRADE.LIMIT]

abbrev SAF_XCMP.MSG_MISS : Fld := ⟨0xE06, 16, 16, .rc, 0⟩
abbrev SAF_XCMP.MISMATCH : Fld := ⟨0xE06, 0, 16, .rc, 0⟩
/-- R288: `SAF_XCMP`. Cross-compare counters. -/
def SAF_XCMP.fields : List Fld :=
  [SAF_XCMP.MSG_MISS, SAF_XCMP.MISMATCH]

abbrev SAF_CTRL.GROUPS : Fld := ⟨0xE07, 8, 9, .wo, 0⟩
abbrev SAF_CTRL.CMD : Fld := ⟨0xE07, 0, 4, .wo, 0⟩
/-- R288: `SAF_CTRL`. Command. -/
def SAF_CTRL.fields : List Fld :=
  [SAF_CTRL.GROUPS, SAF_CTRL.CMD]

abbrev SAF_PROOF.RESULT : Fld := ⟨0xE08, 28, 4, .ro, 0⟩
abbrev SAF_PROOF.GROUPS : Fld := ⟨0xE08, 16, 9, .ro, 0⟩
abbrev SAF_PROOF.AGE : Fld := ⟨0xE08, 0, 16, .ro, 0⟩
/-- R288: `SAF_PROOF`. Proof test. -/
def SAF_PROOF.fields : List Fld :=
  [SAF_PROOF.RESULT, SAF_PROOF.GROUPS, SAF_PROOF.AGE]

abbrev SAF_LOOPTRIP0.MASK : Fld := ⟨0xE09, 0, 32, .ro, 0⟩
/-- R288: `SAF_LOOPTRIP0`. Bit n: loop of link controller n latched tripped, n = 0–31. -/
def SAF_LOOPTRIP0.fields : List Fld :=
  [SAF_LOOPTRIP0.MASK]

abbrev SAF_LOOPTRIP1.MASK : Fld := ⟨0xE0A, 0, 32, .ro, 0⟩
/-- R288: `SAF_LOOPTRIP1`. Bit n: link controller 32 + n. -/
def SAF_LOOPTRIP1.fields : List Fld :=
  [SAF_LOOPTRIP1.MASK]

abbrev SAF_LOOPTRIP2.MASK : Fld := ⟨0xE0B, 0, 8, .ro, 0⟩
/-- R288: `SAF_LOOPTRIP2`. [7:0]: link controllers 64–71; [31:8] reserved, reads 0, write 0. -/
def SAF_LOOPTRIP2.fields : List Fld :=
  [SAF_LOOPTRIP2.MASK]

abbrev SAF_SLW.SLW_LO (i : Nat) : Fld := ⟨0xE10 + i, 0, 16, .ro, 0⟩
abbrev SAF_SLW.SLW_HI (i : Nat) : Fld := ⟨0xE10 + i, 16, 16, .ro, 0⟩
/-- R288: `SAF_SLW` (8 of them). [31:16] SLW_HI; [15:0] SLW_LO; 100 µV. -/
def SAF_SLW.fields (i : Nat) : List Fld :=
  [SAF_SLW.SLW_LO i, SAF_SLW.SLW_HI i]

abbrev SAF_SLC.SLC_CHG (i : Nat) : Fld := ⟨0xE18 + i, 0, 16, .ro, 0⟩
abbrev SAF_SLC.SLC_DIS (i : Nat) : Fld := ⟨0xE18 + i, 16, 16, .ro, 0⟩
/-- R288: `SAF_SLC` (8 of them). [31:16] SLC_DIS; [15:0] SLC_CHG; A, rounded toward zero. -/
def SAF_SLC.fields (i : Nat) : List Fld :=
  [SAF_SLC.SLC_CHG i, SAF_SLC.SLC_DIS i]

end Sys2Proof.Machine
end

