-- ==== Sys2Proof/Machine/RegsLim.lean ====
section
/-! DEFINITION. The fields of the registers of the LRN, LIM, SEQ pages, each under the name
the manual gives it: its address, place, width, access code and reset value, as the register and
field tables of spec/ list them. A "Trellis" field carries the default its table states (0 where it
states none: DEFAULTS must then list the register, R42). -/

namespace Sys2Proof.Machine

abbrev LRN_CFG.SIG_COUNT : Fld := ⟨0x800, 24, 4, .rws, 4⟩
abbrev LRN_CFG.SIG_BAND : Fld := ⟨0x800, 16, 8, .rws, 0xF⟩
abbrev LRN_CFG.Q_GAIN : Fld := ⟨0x800, 8, 8, .rws, 0x40⟩
abbrev LRN_CFG.DEPTH_MIN : Fld := ⟨0x800, 0, 8, .rws, 0x3C⟩
/-- R153: `LRN_CFG`. Learning settings. -/
def LRN_CFG.fields : List Fld :=
  [LRN_CFG.SIG_COUNT, LRN_CFG.SIG_BAND, LRN_CFG.Q_GAIN, LRN_CFG.DEPTH_MIN]

abbrev LRN_CFG2.SPAN_MAX : Fld := ⟨0x801, 8, 8, .rws, 0x1E⟩
abbrev LRN_CFG2.NEW_REST : Fld := ⟨0x801, 0, 8, .rws, 5⟩
/-- R153: `LRN_CFG2`. Rest and span settings. -/
def LRN_CFG2.fields : List Fld :=
  [LRN_CFG2.SPAN_MAX, LRN_CFG2.NEW_REST]

abbrev LRN_CTRL.TARGET : Fld := ⟨0x802, 8, 7, .wo, 0⟩
abbrev LRN_CTRL.CMD : Fld := ⟨0x802, 0, 4, .wo, 0⟩
/-- R153: `LRN_CTRL`. Command. -/
def LRN_CTRL.fields : List Fld :=
  [LRN_CTRL.TARGET, LRN_CTRL.CMD]

abbrev LRN_COMMIT.CRC : Fld := ⟨0x803, 0, 32, .wo, 0⟩
/-- R153: `LRN_COMMIT`. Commit word, per R144. -/
def LRN_COMMIT.fields : List Fld :=
  [LRN_COMMIT.CRC]

abbrev LRN_WIN_BASE.PAGE : Fld := ⟨0x804, 0, 3, .rw, 0⟩
/-- R153: `LRN_WIN_BASE`. Window page, held per session and written by any session. -/
def LRN_WIN_BASE.fields : List Fld :=
  [LRN_WIN_BASE.PAGE]

abbrev LRN_STATUS.REASON : Fld := ⟨0x805, 24, 8, .ro, 0⟩
abbrev LRN_STATUS.OWNER : Fld := ⟨0x805, 8, 6, .ro, 0⟩
abbrev LRN_STATUS.RESTORE_INCOMPLETE : Fld := ⟨0x805, 7, 1, .ro, 1⟩
abbrev LRN_STATUS.RESTORED : Fld := ⟨0x805, 6, 1, .ro, 0⟩
abbrev LRN_STATUS.STATE : Fld := ⟨0x805, 0, 3, .ro, 0⟩
/-- R153: `LRN_STATUS`. Buffer state. -/
def LRN_STATUS.fields : List Fld :=
  [LRN_STATUS.REASON, LRN_STATUS.OWNER, LRN_STATUS.RESTORE_INCOMPLETE, LRN_STATUS.RESTORED,
    LRN_STATUS.STATE]

abbrev LRN_RESULT.REJECTED : Fld := ⟨0x806, 16, 8, .ro, 0⟩
abbrev LRN_RESULT.PENDING : Fld := ⟨0x806, 8, 8, .ro, 0⟩
abbrev LRN_RESULT.ACCEPTED : Fld := ⟨0x806, 0, 8, .ro, 0⟩
/-- R153: `LRN_RESULT`. Result of the last swap. -/
def LRN_RESULT.fields : List Fld :=
  [LRN_RESULT.REJECTED, LRN_RESULT.PENDING, LRN_RESULT.ACCEPTED]

/-- R153: `LRN_CAPTEST`, element i of 8. -/
abbrev LRN_CAPTEST.PHASE (i : Nat) : Fld := ⟨0x807, 4 * i, 4, .ro, 0⟩
/-- R153: `LRN_CAPTEST`. Capacity test phase per string. -/
def LRN_CAPTEST.fields : List Fld :=
  (List.range 8).map LRN_CAPTEST.PHASE

abbrev LRN_CNT.Q_REJECT : Fld := ⟨0x808, 16, 16, .rc, 0⟩
abbrev LRN_CNT.IDENT_GLITCH : Fld := ⟨0x808, 0, 16, .rc, 0⟩
/-- R153: `LRN_CNT`. Counters. -/
def LRN_CNT.fields : List Fld :=
  [LRN_CNT.Q_REJECT, LRN_CNT.IDENT_GLITCH]

/-- R153: `LRN_BLKSTATE`, element i of 64. -/
abbrev LRN_BLKSTATE.BLK (i : Nat) : Fld := ⟨0x810 + i / 8, 4 * (i % 8), 4, .ro, 0⟩
/-- R153: `LRN_BLKSTATE` (8 of them). Block m at register m / 8, bits [4(m mod 8) + 3 : 4(m mod 8)], codes of
R147. -/
def LRN_BLKSTATE.fields (i : Nat) : List Fld :=
  (List.range 8).map fun j => LRN_BLKSTATE.BLK (8 * i + j)

abbrev LRN_STR.STALE (i : Nat) : Fld := ⟨0x818 + i, 31, 1, .ro, 0⟩
abbrev LRN_STR.LEARNED (i : Nat) : Fld := ⟨0x818 + i, 30, 1, .ro, 0⟩
abbrev LRN_STR.DONE (i : Nat) : Fld := ⟨0x818 + i, 0, 9, .ro, 0⟩
/-- R153: `LRN_STR` (8 of them). String learning state. -/
def LRN_STR.fields (i : Nat) : List Fld :=
  [LRN_STR.STALE i, LRN_STR.LEARNED i, LRN_STR.DONE i]

abbrev LRN_WIN.BYTES (i : Nat) : Fld := ⟨0x7800 + i, 0, 32, .rw, 0⟩
/-- R153: `LRN_WIN` (2048 of them). `LRN_WINk` holds the 4 bytes at PAGE × 8,192 + 4k, little-endian. -/
def LRN_WIN.fields (i : Nat) : List Fld :=
  [LRN_WIN.BYTES i]

abbrev LIM_CFG.CAN_STR : Fld := ⟨0x900, 24, 1, .rws, 0⟩
abbrev LIM_CFG.RAMP_UP : Fld := ⟨0x900, 16, 8, .rws, 0xA⟩
abbrev LIM_CFG.V_MARGIN_CHG : Fld := ⟨0x900, 8, 8, .rws, 0x14⟩
abbrev LIM_CFG.V_MARGIN_DIS : Fld := ⟨0x900, 0, 8, .rws, 0x14⟩
/-- R174: `LIM_CFG`. Margins, ramp, CAN string records. -/
def LIM_CFG.fields : List Fld :=
  [LIM_CFG.CAN_STR, LIM_CFG.RAMP_UP, LIM_CFG.V_MARGIN_CHG, LIM_CFG.V_MARGIN_DIS]

abbrev LIM_PUB.PHASE : Fld := ⟨0x901, 16, 16, .rws, 0x4000⟩
abbrev LIM_PUB.DOMAIN : Fld := ⟨0x901, 4, 2, .rws, 0⟩
abbrev LIM_PUB.PORTS : Fld := ⟨0x901, 0, 4, .rws, 0⟩
/-- R174: `LIM_PUB`. Publication phase, domain, ports. -/
def LIM_PUB.fields : List Fld :=
  [LIM_PUB.PHASE, LIM_PUB.DOMAIN, LIM_PUB.PORTS]

abbrev LIM_ESC.GRACE : Fld := ⟨0x902, 16, 9, .rws, 0x32⟩
abbrev LIM_ESC.STEP : Fld := ⟨0x902, 8, 8, .rws, 0xA⟩
abbrev LIM_ESC.CONFIRM : Fld := ⟨0x902, 0, 8, .rws, 6⟩
/-- R174: `LIM_ESC`. Grace, confirmation, step. -/
def LIM_ESC.fields : List Fld :=
  [LIM_ESC.GRACE, LIM_ESC.STEP, LIM_ESC.CONFIRM]

abbrev LIM_TOL.TOL_ABS : Fld := ⟨0x903, 8, 8, .rws, 5⟩
abbrev LIM_TOL.TOL_REL : Fld := ⟨0x903, 0, 8, .rws, 0x14⟩
/-- R174: `LIM_TOL`. Compliance tolerance. -/
def LIM_TOL.fields : List Fld :=
  [LIM_TOL.TOL_ABS, LIM_TOL.TOL_REL]

abbrev LIM_BCAP.DIS : Fld := ⟨0x904, 16, 16, .rws, 0⟩
abbrev LIM_BCAP.CHG : Fld := ⟨0x904, 0, 16, .rws, 0⟩
/-- R174: `LIM_BCAP`. Bank current caps. -/
def LIM_BCAP.fields : List Fld :=
  [LIM_BCAP.DIS, LIM_BCAP.CHG]

abbrev LIM_STATUS.SUPPLY_ZERO : Fld := ⟨0x905, 4, 1, .ro, 0⟩
abbrev LIM_STATUS.BED_UPDATE : Fld := ⟨0x905, 3, 1, .ro, 0⟩
abbrev LIM_STATUS.EST_OVERRUN : Fld := ⟨0x905, 2, 1, .ro, 0⟩
abbrev LIM_STATUS.CONSERV : Fld := ⟨0x905, 1, 1, .ro, 0⟩
abbrev LIM_STATUS.RUN : Fld := ⟨0x905, 0, 1, .ro, 0⟩
/-- R174: `LIM_STATUS`. LIM state. -/
def LIM_STATUS.fields : List Fld :=
  [LIM_STATUS.SUPPLY_ZERO, LIM_STATUS.BED_UPDATE, LIM_STATUS.EST_OVERRUN, LIM_STATUS.CONSERV,
    LIM_STATUS.RUN]

abbrev LIM_SEQ.SEQ : Fld := ⟨0x906, 0, 32, .ro, 0⟩
/-- R174: `LIM_SEQ`. [31:0] SEQ of the last publication. -/
def LIM_SEQ.fields : List Fld :=
  [LIM_SEQ.SEQ]

abbrev LIM_HOST.FACTOR (i : Nat) : Fld := ⟨0x910 + i, 0, 16, .rw, 0x2710⟩
/-- R174: `LIM_HOST` (8 of them). [15:0] host factor of string s, 0.01%, 0–10,000; [31:16] reserved, reads 0,
write 0. -/
def LIM_HOST.fields (i : Nat) : List Fld :=
  [LIM_HOST.FACTOR i]

abbrev LIM_HOST_B.FACTOR : Fld := ⟨0x918, 0, 16, .rw, 0x2710⟩
/-- R174: `LIM_HOST_B`. Bank host factor, same layout. -/
def LIM_HOST_B.fields : List Fld :=
  [LIM_HOST_B.FACTOR]

abbrev LIM_STAT.FLAGS (i : Nat) : Fld := ⟨0x920 + 8 * i, 16, 16, .ro, 0⟩
abbrev LIM_STAT.STAGE (i : Nat) : Fld := ⟨0x920 + 8 * i, 4, 2, .ro, 0⟩
abbrev LIM_STAT.DIR (i : Nat) : Fld := ⟨0x920 + 8 * i, 0, 2, .ro, 0⟩
/-- R174: `LIM_STAT` (9 of them). Direction, stage, flags. -/
def LIM_STAT.fields (i : Nat) : List Fld :=
  [LIM_STAT.FLAGS i, LIM_STAT.STAGE i, LIM_STAT.DIR i]

abbrev LIM_IC01.CHG_2S (i : Nat) : Fld := ⟨0x921 + 8 * i, 0, 16, .ro, 0⟩
abbrev LIM_IC01.CHG_10S (i : Nat) : Fld := ⟨0x921 + 8 * i, 16, 16, .ro, 0⟩
/-- R174: `LIM_IC01` (9 of them). [31:16] charge 10 s; [15:0] charge 2 s; 0.1 A. -/
def LIM_IC01.fields (i : Nat) : List Fld :=
  [LIM_IC01.CHG_2S i, LIM_IC01.CHG_10S i]

abbrev LIM_IC23.CHG_60S (i : Nat) : Fld := ⟨0x922 + 8 * i, 0, 16, .ro, 0⟩
abbrev LIM_IC23.CHG_CONT (i : Nat) : Fld := ⟨0x922 + 8 * i, 16, 16, .ro, 0⟩
/-- R174: `LIM_IC23` (9 of them). [31:16] charge continuous; [15:0] charge 60 s; 0.1 A. -/
def LIM_IC23.fields (i : Nat) : List Fld :=
  [LIM_IC23.CHG_60S i, LIM_IC23.CHG_CONT i]

abbrev LIM_ID01.DIS_2S (i : Nat) : Fld := ⟨0x923 + 8 * i, 0, 16, .ro, 0⟩
abbrev LIM_ID01.DIS_10S (i : Nat) : Fld := ⟨0x923 + 8 * i, 16, 16, .ro, 0⟩
/-- R174: `LIM_ID01` (9 of them). [31:16] discharge 10 s; [15:0] discharge 2 s; 0.1 A. -/
def LIM_ID01.fields (i : Nat) : List Fld :=
  [LIM_ID01.DIS_2S i, LIM_ID01.DIS_10S i]

abbrev LIM_ID23.DIS_60S (i : Nat) : Fld := ⟨0x924 + 8 * i, 0, 16, .ro, 0⟩
abbrev LIM_ID23.DIS_CONT (i : Nat) : Fld := ⟨0x924 + 8 * i, 16, 16, .ro, 0⟩
/-- R174: `LIM_ID23` (9 of them). [31:16] discharge continuous; [15:0] discharge 60 s; 0.1 A. -/
def LIM_ID23.fields (i : Nat) : List Fld :=
  [LIM_ID23.DIS_60S i, LIM_ID23.DIS_CONT i]

abbrev LIM_PWR.CHG_CONT (i : Nat) : Fld := ⟨0x925 + 8 * i, 0, 16, .ro, 0⟩
abbrev LIM_PWR.DIS_CONT (i : Nat) : Fld := ⟨0x925 + 8 * i, 16, 16, .ro, 0⟩
/-- R174: `LIM_PWR` (9 of them). [31:16] discharge continuous; [15:0] charge continuous; 0.2 kW. -/
def LIM_PWR.fields (i : Nat) : List Fld :=
  [LIM_PWR.CHG_CONT i, LIM_PWR.DIS_CONT i]

abbrev LIM_FACT.THERMAL (i : Nat) : Fld := ⟨0x926 + 8 * i, 0, 16, .ro, 0⟩
abbrev LIM_FACT.THROTTLE (i : Nat) : Fld := ⟨0x926 + 8 * i, 16, 16, .ro, 0⟩
/-- R174: `LIM_FACT` (9 of them). [31:16] throttle factor; [15:0] thermal factor; 0.01%. -/
def LIM_FACT.fields (i : Nat) : List Fld :=
  [LIM_FACT.THERMAL i, LIM_FACT.THROTTLE i]

abbrev LIM_REF.GRACE (i : Nat) : Fld := ⟨0x927 + 8 * i, 0, 16, .ro, 0⟩
abbrev LIM_REF.DIS_REF (i : Nat) : Fld := ⟨0x927 + 8 * i, 16, 16, .ro, 0⟩
/-- R174: `LIM_REF` (9 of them). [31:16] discharge reference, 0.1 A; [15:0] GRACE, 0.1 s. -/
def LIM_REF.fields (i : Nat) : List Fld :=
  [LIM_REF.GRACE i, LIM_REF.DIS_REF i]

abbrev SEQ_CFG.PRE_ATTEMPTS : Fld := ⟨0xA00, 28, 4, .rws, 3⟩
abbrev SEQ_CFG.JOIN_WAIT : Fld := ⟨0xA00, 16, 12, .rws, 0x258⟩
abbrev SEQ_CFG.RECLOSE_HOLD : Fld := ⟨0xA00, 8, 8, .rws, 0x3C⟩
abbrev SEQ_CFG.ORDER_WAIT : Fld := ⟨0xA00, 0, 8, .rws, 0x14⟩
/-- R202: `SEQ_CFG`. Sequencing times. -/
def SEQ_CFG.fields : List Fld :=
  [SEQ_CFG.PRE_ATTEMPTS, SEQ_CFG.JOIN_WAIT, SEQ_CFG.RECLOSE_HOLD, SEQ_CFG.ORDER_WAIT]

/-- R202: `SEQ_SHED`, element i of 8. -/
abbrev SEQ_SHED.POS (i : Nat) : Fld := ⟨0xA01, 4 * i, 4, .rw, 0⟩
/-- R202: `SEQ_SHED`. Shed order. -/
def SEQ_SHED.fields : List Fld :=
  (List.range 8).map SEQ_SHED.POS

abbrev SEQ_CTRL.WEAR_IDX : Fld := ⟨0xA02, 16, 5, .wo, 0⟩
abbrev SEQ_CTRL.MASK : Fld := ⟨0xA02, 8, 8, .wo, 0⟩
abbrev SEQ_CTRL.CMD : Fld := ⟨0xA02, 0, 4, .wo, 0⟩
/-- R202: `SEQ_CTRL`. Command. -/
def SEQ_CTRL.fields : List Fld :=
  [SEQ_CTRL.WEAR_IDX, SEQ_CTRL.MASK, SEQ_CTRL.CMD]

abbrev SEQ_RESULT.REASON : Fld := ⟨0xA03, 24, 8, .ro, 0⟩
abbrev SEQ_RESULT.STRING : Fld := ⟨0xA03, 16, 8, .ro, 0⟩
abbrev SEQ_RESULT.DETAIL : Fld := ⟨0xA03, 8, 8, .ro, 0⟩
/-- R202: `SEQ_RESULT`. Last refusal. -/
def SEQ_RESULT.fields : List Fld :=
  [SEQ_RESULT.REASON, SEQ_RESULT.STRING, SEQ_RESULT.DETAIL]

abbrev SEQ_BANK.CAUSE : Fld := ⟨0xA04, 24, 8, .ro, 0⟩
abbrev SEQ_BANK.LATCH : Fld := ⟨0xA04, 20, 4, .ro, 0⟩
abbrev SEQ_BANK.BPRE : Fld := ⟨0xA04, 12, 4, .ro, 7⟩
abbrev SEQ_BANK.BNEG : Fld := ⟨0xA04, 8, 4, .ro, 7⟩
abbrev SEQ_BANK.BPOS : Fld := ⟨0xA04, 4, 4, .ro, 7⟩
abbrev SEQ_BANK.STATE : Fld := ⟨0xA04, 0, 3, .ro, 0⟩
/-- R202: `SEQ_BANK`. Bank contactors. -/
def SEQ_BANK.fields : List Fld :=
  [SEQ_BANK.CAUSE, SEQ_BANK.LATCH, SEQ_BANK.BPRE, SEQ_BANK.BNEG, SEQ_BANK.BPOS, SEQ_BANK.STATE]

abbrev SEQ_WEAR_SEL.IDX : Fld := ⟨0xA05, 0, 5, .rw, 0⟩
/-- R202: `SEQ_WEAR_SEL`. Wear entry selected. -/
def SEQ_WEAR_SEL.fields : List Fld :=
  [SEQ_WEAR_SEL.IDX]

abbrev SEQ_WEAR_OPS.OPS : Fld := ⟨0xA06, 0, 32, .ro, 0⟩
/-- R202: `SEQ_WEAR_OPS`. OPS of the selected entry. -/
def SEQ_WEAR_OPS.fields : List Fld :=
  [SEQ_WEAR_OPS.OPS]

abbrev SEQ_WEAR_BRK.WELDS : Fld := ⟨0xA07, 24, 8, .ro, 0⟩
abbrev SEQ_WEAR_BRK.OVER : Fld := ⟨0xA07, 16, 8, .ro, 0⟩
abbrev SEQ_WEAR_BRK.LOAD_BREAKS : Fld := ⟨0xA07, 0, 16, .ro, 0⟩
/-- R202: `SEQ_WEAR_BRK`. Break counts of the selected entry. -/
def SEQ_WEAR_BRK.fields : List Fld :=
  [SEQ_WEAR_BRK.WELDS, SEQ_WEAR_BRK.OVER, SEQ_WEAR_BRK.LOAD_BREAKS]

abbrev SEQ_WEAR_SUM.WEAR : Fld := ⟨0xA08, 0, 32, .ro, 0⟩
/-- R202: `SEQ_WEAR_SUM`. WEAR of the selected entry. -/
def SEQ_WEAR_SUM.fields : List Fld :=
  [SEQ_WEAR_SUM.WEAR]

abbrev SEQ_WEAR_IMAX.I_MAX : Fld := ⟨0xA09, 0, 16, .ro, 0⟩
/-- R202: `SEQ_WEAR_IMAX`. I_MAX of the selected entry. -/
def SEQ_WEAR_IMAX.fields : List Fld :=
  [SEQ_WEAR_IMAX.I_MAX]

abbrev SEQ_JOIN.I_PRED : Fld := ⟨0xA0A, 16, 16, .ro, 0⟩
abbrev SEQ_JOIN.STRING : Fld := ⟨0xA0A, 0, 8, .ro, 0xFF⟩
/-- R202: `SEQ_JOIN`. Join prediction. -/
def SEQ_JOIN.fields : List Fld :=
  [SEQ_JOIN.I_PRED, SEQ_JOIN.STRING]

abbrev SEQ_STATE.CAUSE (i : Nat) : Fld := ⟨0xA10 + 4 * i, 24, 8, .ro, 0⟩
abbrev SEQ_STATE.LATCH (i : Nat) : Fld := ⟨0xA10 + 4 * i, 20, 4, .ro, 0⟩
abbrev SEQ_STATE.LOCKED_OUT (i : Nat) : Fld := ⟨0xA10 + 4 * i, 19, 1, .ro, 0⟩
abbrev SEQ_STATE.JOIN_BLOCKED (i : Nat) : Fld := ⟨0xA10 + 4 * i, 18, 1, .ro, 0⟩
abbrev SEQ_STATE.FIT_WAIVED (i : Nat) : Fld := ⟨0xA10 + 4 * i, 17, 1, .ro, 0⟩
abbrev SEQ_STATE.PRE (i : Nat) : Fld := ⟨0xA10 + 4 * i, 12, 4, .ro, 7⟩
abbrev SEQ_STATE.NEG (i : Nat) : Fld := ⟨0xA10 + 4 * i, 8, 4, .ro, 7⟩
abbrev SEQ_STATE.POS (i : Nat) : Fld := ⟨0xA10 + 4 * i, 4, 4, .ro, 7⟩
abbrev SEQ_STATE.STATE (i : Nat) : Fld := ⟨0xA10 + 4 * i, 0, 4, .ro, 0⟩
/-- R202: `SEQ_STATE` (8 of them). String s state, s = 0–7. -/
def SEQ_STATE.fields (i : Nat) : List Fld :=
  [SEQ_STATE.CAUSE i, SEQ_STATE.LATCH i, SEQ_STATE.LOCKED_OUT i, SEQ_STATE.JOIN_BLOCKED i,
    SEQ_STATE.FIT_WAIVED i, SEQ_STATE.PRE i, SEQ_STATE.NEG i, SEQ_STATE.POS i, SEQ_STATE.STATE i]

abbrev SEQ_PRE.T90 (i : Nat) : Fld := ⟨0xA11 + 4 * i, 16, 16, .ro, 0⟩
abbrev SEQ_PRE.R_FIT (i : Nat) : Fld := ⟨0xA11 + 4 * i, 0, 16, .ro, 0⟩
/-- R202: `SEQ_PRE` (8 of them). Last pre-charge: t90 and R. -/
def SEQ_PRE.fields (i : Nat) : List Fld :=
  [SEQ_PRE.T90 i, SEQ_PRE.R_FIT i]

abbrev SEQ_PREC.ABORT (i : Nat) : Fld := ⟨0xA12 + 4 * i, 24, 8, .ro, 0⟩
abbrev SEQ_PREC.ATTEMPTS (i : Nat) : Fld := ⟨0xA12 + 4 * i, 20, 4, .ro, 0⟩
abbrev SEQ_PREC.C_FIT (i : Nat) : Fld := ⟨0xA12 + 4 * i, 0, 20, .ro, 0⟩
/-- R202: `SEQ_PREC` (8 of them). Last pre-charge: C, abort, attempts. -/
def SEQ_PREC.fields (i : Nat) : List Fld :=
  [SEQ_PREC.ABORT i, SEQ_PREC.ATTEMPTS i, SEQ_PREC.C_FIT i]

abbrev SEQ_TIMER.HOLD_LEFT (i : Nat) : Fld := ⟨0xA13 + 4 * i, 24, 8, .ro, 0⟩
abbrev SEQ_TIMER.WELD_SKIP (i : Nat) : Fld := ⟨0xA13 + 4 * i, 16, 8, .ro, 0⟩
abbrev SEQ_TIMER.ENERGY (i : Nat) : Fld := ⟨0xA13 + 4 * i, 0, 16, .ro, 0⟩
/-- R202: `SEQ_TIMER` (8 of them). Hold time, weld skips, energy. -/
def SEQ_TIMER.fields (i : Nat) : List Fld :=
  [SEQ_TIMER.HOLD_LEFT i, SEQ_TIMER.WELD_SKIP i, SEQ_TIMER.ENERGY i]

end Sys2Proof.Machine
end

