-- ==== Sys2Proof/Machine/RegsPort.lean ====
section
/-! DEFINITION. The fields of the registers of the IMG, PORT pages, each under the name
the manual gives it: its address, place, width, access code and reset value, as the register and
field tables of spec/ list them. A "Trellis" field carries the default its table states (0 where it
states none: DEFAULTS must then list the register, R42). -/

namespace Sys2Proof.Machine

abbrev IMG_TRL_SERIAL.SERIAL : Fld := ⟨0x300, 0, 32, .ro, 0⟩
/-- R60: `IMG_TRL_SERIAL`. SERIAL of the running image. -/
def IMG_TRL_SERIAL.fields : List Fld :=
  [IMG_TRL_SERIAL.SERIAL]

abbrev IMG_TRL_INFO.SECTIONS : Fld := ⟨0x301, 24, 8, .ro, 0⟩
abbrev IMG_TRL_INFO.FORMAT : Fld := ⟨0x301, 16, 8, .ro, 0⟩
abbrev IMG_TRL_INFO.CLASS : Fld := ⟨0x301, 9, 1, .ro, 0⟩
abbrev IMG_TRL_INFO.FALLBACK : Fld := ⟨0x301, 8, 1, .ro, 0⟩
abbrev IMG_TRL_INFO.MIRRORED : Fld := ⟨0x301, 2, 1, .ro, 0⟩
abbrev IMG_TRL_INFO.RUN_COPY : Fld := ⟨0x301, 0, 2, .ro, 0⟩
/-- R60: `IMG_TRL_INFO`. Running image information. -/
def IMG_TRL_INFO.fields : List Fld :=
  [IMG_TRL_INFO.SECTIONS, IMG_TRL_INFO.FORMAT, IMG_TRL_INFO.CLASS, IMG_TRL_INFO.FALLBACK,
    IMG_TRL_INFO.MIRRORED, IMG_TRL_INFO.RUN_COPY]

abbrev IMG_TRL_DIGEST.DIGEST (i : Nat) : Fld := ⟨0x302 + i, 0, 32, .ro, 0⟩
/-- R60: `IMG_TRL_DIGEST` (8 of them). SHA-256 over header and directory of the running image, least
significant word at 0x02, re. -/
def IMG_TRL_DIGEST.fields (i : Nat) : List Fld :=
  [IMG_TRL_DIGEST.DIGEST i]

abbrev IMG_LOAD_CTRL.GUARD : Fld := ⟨0x30A, 16, 16, .wo, 0⟩
abbrev IMG_LOAD_CTRL.CMD : Fld := ⟨0x30A, 0, 4, .wo, 0⟩
/-- R60: `IMG_LOAD_CTRL`. Load command. -/
def IMG_LOAD_CTRL.fields : List Fld :=
  [IMG_LOAD_CTRL.GUARD, IMG_LOAD_CTRL.CMD]

abbrev IMG_LOAD_LEN.LEN : Fld := ⟨0x30B, 0, 32, .rw, 0⟩
/-- R60: `IMG_LOAD_LEN`. Length in bytes of the image or bed to load. -/
def IMG_LOAD_LEN.fields : List Fld :=
  [IMG_LOAD_LEN.LEN]

abbrev IMG_LOAD_OFFSET.OFFSET : Fld := ⟨0x30C, 0, 32, .rw, 0⟩
/-- R60: `IMG_LOAD_OFFSET`. Byte offset of the window, multiple of 512. -/
def IMG_LOAD_OFFSET.fields : List Fld :=
  [IMG_LOAD_OFFSET.OFFSET]

abbrev IMG_LOAD_STATUS.REASON : Fld := ⟨0x30D, 24, 8, .ro, 0⟩
abbrev IMG_LOAD_STATUS.DETAIL : Fld := ⟨0x30D, 16, 8, .ro, 0⟩
abbrev IMG_LOAD_STATUS.OWNER : Fld := ⟨0x30D, 8, 6, .ro, 0⟩
abbrev IMG_LOAD_STATUS.STATE : Fld := ⟨0x30D, 0, 4, .ro, 0⟩
/-- R60: `IMG_LOAD_STATUS`. Load context state. -/
def IMG_LOAD_STATUS.fields : List Fld :=
  [IMG_LOAD_STATUS.REASON, IMG_LOAD_STATUS.DETAIL, IMG_LOAD_STATUS.OWNER, IMG_LOAD_STATUS.STATE]

abbrev IMG_TOUCH.BANK : Fld := ⟨0x30E, 8, 1, .ro, 0⟩
abbrev IMG_TOUCH.STRING : Fld := ⟨0x30E, 0, 8, .ro, 0⟩
/-- R60: `IMG_TOUCH`. Touch set of the verified image. -/
def IMG_TOUCH.fields : List Fld :=
  [IMG_TOUCH.BANK, IMG_TOUCH.STRING]

abbrev IMG_BED_SEL.BED_ID : Fld := ⟨0x30F, 0, 4, .rw, 0⟩
/-- R60: `IMG_BED_SEL`. [3:0] BED_ID for OPEN_BED; [31:4] reserved, reads 0, write 0. -/
def IMG_BED_SEL.fields : List Fld :=
  [IMG_BED_SEL.BED_ID]

abbrev IMG_FAIL_WHERE.WHERE : Fld := ⟨0x310, 0, 32, .ro, 0⟩
/-- R60: `IMG_FAIL_WHERE`. Register address for CFG_INVALID, otherwise the failing byte offset in the image or
bed. -/
def IMG_FAIL_WHERE.fields : List Fld :=
  [IMG_FAIL_WHERE.WHERE]

abbrev IMG_BED_VER.VERSION (i : Nat) : Fld := ⟨0x311 + i, 0, 32, .ro, 0⟩
/-- R60: `IMG_BED_VER` (12 of them). VERSION of beds 0x01–0x0C. -/
def IMG_BED_VER.fields (i : Nat) : List Fld :=
  [IMG_BED_VER.VERSION i]

abbrev IMG_LOAD_WIN.BYTES (i : Nat) : Fld := ⟨0x380 + i, 0, 32, .wo, 0⟩
/-- R60: `IMG_LOAD_WIN` (128 of them). 512 B window. -/
def IMG_LOAD_WIN.fields (i : Nat) : List Fld :=
  [IMG_LOAD_WIN.BYTES i]

abbrev PORT_CFG.LINK_TIMEOUT : Fld := ⟨0x400, 16, 10, .rws, 0x64⟩
abbrev PORT_CFG.LINK_MISS_LIMIT : Fld := ⟨0x400, 0, 5, .rws, 3⟩
/-- R90: `PORT_CFG`. Link-loss settings. -/
def PORT_CFG.fields : List Fld :=
  [PORT_CFG.LINK_TIMEOUT, PORT_CFG.LINK_MISS_LIMIT]

abbrev PORT_SWAP_CTRL.CASSETTE : Fld := ⟨0x401, 4, 3, .wo, 0⟩
abbrev PORT_SWAP_CTRL.CMD : Fld := ⟨0x401, 0, 2, .wo, 0⟩
/-- R90: `PORT_SWAP_CTRL`. Swap command. -/
def PORT_SWAP_CTRL.fields : List Fld :=
  [PORT_SWAP_CTRL.CASSETTE, PORT_SWAP_CTRL.CMD]

abbrev PORT_SWAP_STATUS.REASON : Fld := ⟨0x402, 24, 8, .ro, 0⟩
abbrev PORT_SWAP_STATUS.PRESENT : Fld := ⟨0x402, 8, 8, .ro, 0⟩
abbrev PORT_SWAP_STATUS.ARMED : Fld := ⟨0x402, 7, 1, .ro, 0⟩
abbrev PORT_SWAP_STATUS.CASSETTE : Fld := ⟨0x402, 4, 3, .ro, 0⟩
abbrev PORT_SWAP_STATUS.PHASE : Fld := ⟨0x402, 0, 4, .ro, 0⟩
/-- R90: `PORT_SWAP_STATUS`. Swap state. -/
def PORT_SWAP_STATUS.fields : List Fld :=
  [PORT_SWAP_STATUS.REASON, PORT_SWAP_STATUS.PRESENT, PORT_SWAP_STATUS.ARMED,
    PORT_SWAP_STATUS.CASSETTE, PORT_SWAP_STATUS.PHASE]

abbrev PORT_UP0.MASK : Fld := ⟨0x403, 0, 32, .ro, 0⟩
/-- R90: `PORT_UP0`. Bit n: link controller n is UP, n = 0–31. -/
def PORT_UP0.fields : List Fld :=
  [PORT_UP0.MASK]

abbrev PORT_UP1.MASK : Fld := ⟨0x404, 0, 32, .ro, 0⟩
/-- R90: `PORT_UP1`. Bit n: link controller 32 + n is UP. -/
def PORT_UP1.fields : List Fld :=
  [PORT_UP1.MASK]

abbrev PORT_UP2.MASK : Fld := ⟨0x405, 0, 8, .ro, 0⟩
/-- R90: `PORT_UP2`. [7:0]: link controllers 64–71 UP; [31:8] reserved, reads 0, write 0. -/
def PORT_UP2.fields : List Fld :=
  [PORT_UP2.MASK]

abbrev PORT_STATE.MISS_COUNT (i : Nat) : Fld := ⟨0x410 + i, 24, 8, .ro, 0⟩
abbrev PORT_STATE.STRING (i : Nat) : Fld := ⟨0x410 + i, 16, 8, .ro, 0⟩
abbrev PORT_STATE.WOKE (i : Nat) : Fld := ⟨0x410 + i, 11, 1, .w1c, 0⟩
abbrev PORT_STATE.IDENT_CHANGED (i : Nat) : Fld := ⟨0x410 + i, 10, 1, .w1c, 0⟩
abbrev PORT_STATE.LOOP_MARGINAL (i : Nat) : Fld := ⟨0x410 + i, 9, 1, .w1c, 0⟩
abbrev PORT_STATE.LOOP_FAULT (i : Nat) : Fld := ⟨0x410 + i, 8, 1, .ro, 0⟩
abbrev PORT_STATE.CAUSE (i : Nat) : Fld := ⟨0x410 + i, 4, 4, .ro, 0⟩
abbrev PORT_STATE.LINK (i : Nat) : Fld := ⟨0x410 + i, 0, 4, .ro, 0⟩
/-- R90: `PORT_STATE` (72 of them). Link state per port. -/
def PORT_STATE.fields (i : Nat) : List Fld :=
  [PORT_STATE.MISS_COUNT i, PORT_STATE.STRING i, PORT_STATE.WOKE i, PORT_STATE.IDENT_CHANGED i,
    PORT_STATE.LOOP_MARGINAL i, PORT_STATE.LOOP_FAULT i, PORT_STATE.CAUSE i, PORT_STATE.LINK i]

abbrev PORT_DELAY.RTT (i : Nat) : Fld := ⟨0x458 + i, 16, 10, .ro, 0⟩
abbrev PORT_DELAY.DELAY (i : Nat) : Fld := ⟨0x458 + i, 0, 10, .ro, 0⟩
/-- R90: `PORT_DELAY` (72 of them). Measured delay per port. -/
def PORT_DELAY.fields (i : Nat) : List Fld :=
  [PORT_DELAY.RTT i, PORT_DELAY.DELAY i]

abbrev PORT_LOOP.LOOP_CURR (i : Nat) : Fld := ⟨0x4A0 + i, 0, 16, .ro, 0⟩
/-- R90: `PORT_LOOP` (72 of them). Loop current per port. -/
def PORT_LOOP.fields (i : Nat) : List Fld :=
  [PORT_LOOP.LOOP_CURR i]

abbrev PORT_STAT.STATUS (i : Nat) : Fld := ⟨0x500 + i, 0, 32, .ro, 0⟩
/-- R91: `PORT_STAT` (72 of them). Last status word received per port. -/
def PORT_STAT.fields (i : Nat) : List Fld :=
  [PORT_STAT.STATUS i]

abbrev PORT_IDENT.IDENT1 (i : Nat) : Fld := ⟨0x548 + i, 16, 16, .ro, 0xFFFF⟩
abbrev PORT_IDENT.IDENT0 (i : Nat) : Fld := ⟨0x548 + i, 0, 16, .ro, 0xFFFF⟩
/-- R91: `PORT_IDENT` (72 of them). Identity readings per port. -/
def PORT_IDENT.fields (i : Nat) : List Fld :=
  [PORT_IDENT.IDENT1 i, PORT_IDENT.IDENT0 i]

abbrev PORT_ERR.FRAME_MISS (i : Nat) : Fld := ⟨0x590 + i, 16, 16, .rc, 0⟩
abbrev PORT_ERR.PROBE_ERR (i : Nat) : Fld := ⟨0x590 + i, 8, 8, .rc, 0⟩
abbrev PORT_ERR.CMD_FAIL (i : Nat) : Fld := ⟨0x590 + i, 0, 8, .rc, 0⟩
/-- R91: `PORT_ERR` (72 of them). Error counters per port. -/
def PORT_ERR.fields (i : Nat) : List Fld :=
  [PORT_ERR.FRAME_MISS i, PORT_ERR.PROBE_ERR i, PORT_ERR.CMD_FAIL i]

end Sys2Proof.Machine
end

