-- ==== Sys2Proof/Machine/RegsRec.lean ====
section
/-! DEFINITION. The fields of the registers of the REC, LGR, PWR, ID, GLB, ARCH pages, each under the name
the manual gives it: its address, place, width, access code and reset value, as the register and
field tables of spec/ list them. A "Trellis" field carries the default its table states (0 where it
states none: DEFAULTS must then list the register, R42). -/

namespace Sys2Proof.Machine

abbrev REC_CFG.DOMAIN : Fld := ⟨0x1400, 0, 2, .rws, 0⟩
/-- R359: `REC_CFG`. Record domain. -/
def REC_CFG.fields : List Fld :=
  [REC_CFG.DOMAIN]

abbrev REC_STATUS.US_USED : Fld := ⟨0x1401, 8, 8, .ro, 0⟩
abbrev REC_STATUS.TORN_FOUND : Fld := ⟨0x1401, 4, 1, .w1c, 0⟩
abbrev REC_STATUS.KEPT_FULL : Fld := ⟨0x1401, 3, 1, .ro, 0⟩
abbrev REC_STATUS.MAIN_FAILED : Fld := ⟨0x1401, 2, 1, .ro, 0⟩
abbrev REC_STATUS.STAGING : Fld := ⟨0x1401, 1, 1, .ro, 0⟩
abbrev REC_STATUS.RUN : Fld := ⟨0x1401, 0, 1, .ro, 0⟩
/-- R359: `REC_STATUS`. Recorder state. -/
def REC_STATUS.fields : List Fld :=
  [REC_STATUS.US_USED, REC_STATUS.TORN_FOUND, REC_STATUS.KEPT_FULL, REC_STATUS.MAIN_FAILED,
    REC_STATUS.STAGING, REC_STATUS.RUN]

abbrev REC_LAST0.SEQ_LO : Fld := ⟨0x1402, 0, 32, .ro, 0⟩
/-- R359: `REC_LAST0`. SEQ of the last record written, [31:0], read per R10. -/
def REC_LAST0.fields : List Fld :=
  [REC_LAST0.SEQ_LO]

abbrev REC_LAST1.SEQ_HI : Fld := ⟨0x1403, 0, 16, .ro, 0⟩
/-- R359: `REC_LAST1`. [15:0] SEQ [47:32]; [31:16] reserved, reads 0, write 0. -/
def REC_LAST1.fields : List Fld :=
  [REC_LAST1.SEQ_HI]

abbrev REC_CNT.STAGE_LOST : Fld := ⟨0x1404, 16, 16, .rc, 0⟩
abbrev REC_CNT.US_LOST : Fld := ⟨0x1404, 0, 16, .rc, 0⟩
/-- R359: `REC_CNT`. Loss counters. -/
def REC_CNT.fields : List Fld :=
  [REC_CNT.STAGE_LOST, REC_CNT.US_LOST]

abbrev REC_EXP_CTRL.POS : Fld := ⟨0x1410, 16, 12, .wo, 0⟩
abbrev REC_EXP_CTRL.REGION : Fld := ⟨0x1410, 12, 1, .wo, 0⟩
abbrev REC_EXP_CTRL.CMD : Fld := ⟨0x1410, 0, 4, .wo, 0⟩
/-- R359: `REC_EXP_CTRL`. Export command, per session. -/
def REC_EXP_CTRL.fields : List Fld :=
  [REC_EXP_CTRL.POS, REC_EXP_CTRL.REGION, REC_EXP_CTRL.CMD]

abbrev REC_EXP_SEQ0.SEQ_LO : Fld := ⟨0x1411, 0, 32, .rw, 0⟩
/-- R359: `REC_EXP_SEQ0`. Export cursor [31:0], per session. -/
def REC_EXP_SEQ0.fields : List Fld :=
  [REC_EXP_SEQ0.SEQ_LO]

abbrev REC_EXP_SEQ1.SEQ_HI : Fld := ⟨0x1412, 0, 16, .rw, 0⟩
/-- R359: `REC_EXP_SEQ1`. [15:0] cursor [47:32]; [31:16] reserved, reads 0, write 0. -/
def REC_EXP_SEQ1.fields : List Fld :=
  [REC_EXP_SEQ1.SEQ_HI]

abbrev REC_EXP_STATUS.REASON : Fld := ⟨0x1413, 24, 8, .ro, 0⟩
abbrev REC_EXP_STATUS.SLOTS : Fld := ⟨0x1413, 0, 8, .ro, 0⟩
/-- R359: `REC_EXP_STATUS`. Export outcome, per session. -/
def REC_EXP_STATUS.fields : List Fld :=
  [REC_EXP_STATUS.REASON, REC_EXP_STATUS.SLOTS]

abbrev REC_EXP_WIN.BYTES (i : Nat) : Fld := ⟨0x1440 + i, 0, 32, .ro, 0⟩
/-- R359: `REC_EXP_WIN` (64 of them). Bytes 4k to 4k + 3 of the window, little-endian. -/
def REC_EXP_WIN.fields (i : Nat) : List Fld :=
  [REC_EXP_WIN.BYTES i]

abbrev LGR_CFG.DOMAIN : Fld := ⟨0x1500, 0, 2, .rws, 0⟩
/-- R360: `LGR_CFG`. Ledger domain. -/
def LGR_CFG.fields : List Fld :=
  [LGR_CFG.DOMAIN]

abbrev LGR_STATUS.WRITE_FAIL : Fld := ⟨0x1501, 3, 1, .w1c, 0⟩
abbrev LGR_STATUS.LOCAL : Fld := ⟨0x1501, 2, 1, .ro, 0⟩
abbrev LGR_STATUS.IDLE : Fld := ⟨0x1501, 1, 1, .ro, 0⟩
abbrev LGR_STATUS.RUN : Fld := ⟨0x1501, 0, 1, .ro, 0⟩
/-- R360: `LGR_STATUS`. Ledger state. -/
def LGR_STATUS.fields : List Fld :=
  [LGR_STATUS.WRITE_FAIL, LGR_STATUS.LOCAL, LGR_STATUS.IDLE, LGR_STATUS.RUN]

abbrev LGR_CP.CP_NUM : Fld := ⟨0x1502, 0, 32, .ro, 0⟩
/-- R360: `LGR_CP`. CP_NUM of the last checkpoint written. -/
def LGR_CP.fields : List Fld :=
  [LGR_CP.CP_NUM]

abbrev LGR_CHG_LO.LO (i : Nat) : Fld := ⟨0x1510 + 4 * i, 0, 32, .ro, 0⟩
/-- R360: `LGR_CHG_LO` (9 of them). Charge accumulator [31:0], mWh, k = 0–7 string, 8 bank, read per R10. -/
def LGR_CHG_LO.fields (i : Nat) : List Fld :=
  [LGR_CHG_LO.LO i]

abbrev LGR_CHG_HI.HI (i : Nat) : Fld := ⟨0x1511 + 4 * i, 0, 32, .ro, 0⟩
/-- R360: `LGR_CHG_HI` (9 of them). Charge accumulator [63:32]. -/
def LGR_CHG_HI.fields (i : Nat) : List Fld :=
  [LGR_CHG_HI.HI i]

abbrev LGR_DIS_LO.LO (i : Nat) : Fld := ⟨0x1512 + 4 * i, 0, 32, .ro, 0⟩
/-- R360: `LGR_DIS_LO` (9 of them). Discharge accumulator [31:0], read per R10. -/
def LGR_DIS_LO.fields (i : Nat) : List Fld :=
  [LGR_DIS_LO.LO i]

abbrev LGR_DIS_HI.HI (i : Nat) : Fld := ⟨0x1513 + 4 * i, 0, 32, .ro, 0⟩
/-- R360: `LGR_DIS_HI` (9 of them). Discharge accumulator [63:32]. -/
def LGR_DIS_HI.fields (i : Nat) : List Fld :=
  [LGR_DIS_HI.HI i]

abbrev LGR_EXP_CTRL.CMD : Fld := ⟨0x1540, 0, 4, .wo, 0⟩
/-- R360: `LGR_EXP_CTRL`. Export command, per session. -/
def LGR_EXP_CTRL.fields : List Fld :=
  [LGR_EXP_CTRL.CMD]

abbrev LGR_EXP_NUM.CP_NUM : Fld := ⟨0x1541, 0, 32, .rw, 0⟩
/-- R360: `LGR_EXP_NUM`. CP_NUM to export, per session. -/
def LGR_EXP_NUM.fields : List Fld :=
  [LGR_EXP_NUM.CP_NUM]

abbrev LGR_EXP_STATUS.STATE : Fld := ⟨0x1542, 0, 2, .ro, 0⟩
/-- R360: `LGR_EXP_STATUS`. Export outcome, per session. -/
def LGR_EXP_STATUS.fields : List Fld :=
  [LGR_EXP_STATUS.STATE]

abbrev LGR_EXP_WIN.BYTES (i : Nat) : Fld := ⟨0x1550 + i, 0, 32, .ro, 0⟩
/-- R360: `LGR_EXP_WIN` (24 of them). Bytes 4k to 4k + 3 of the checkpoint, per session. -/
def LGR_EXP_WIN.fields (i : Nat) : List Fld :=
  [LGR_EXP_WIN.BYTES i]

abbrev LGR_PUBKEY.BYTES (i : Nat) : Fld := ⟨0x1570 + i, 0, 32, .ro, 0⟩
/-- R360: `LGR_PUBKEY` (16 of them). Bytes 4k to 4k + 3 of the device public key, X then Y as in R325. -/
def LGR_PUBKEY.fields (i : Nat) : List Fld :=
  [LGR_PUBKEY.BYTES i]

abbrev PWR_THRESH.P4 : Fld := ⟨0x1600, 24, 8, .rws, 0x6E⟩
abbrev PWR_THRESH.P3 : Fld := ⟨0x1600, 16, 8, .rws, 0x82⟩
abbrev PWR_THRESH.P2 : Fld := ⟨0x1600, 8, 8, .rws, 0x96⟩
abbrev PWR_THRESH.P1 : Fld := ⟨0x1600, 0, 8, .rws, 0xAA⟩
/-- R383: `PWR_THRESH`. Prune thresholds. -/
def PWR_THRESH.fields : List Fld :=
  [PWR_THRESH.P4, PWR_THRESH.P3, PWR_THRESH.P2, PWR_THRESH.P1]

abbrev PWR_CFG.HOLD_MIN : Fld := ⟨0x1601, 16, 8, .rws, 0x2F⟩
abbrev PWR_CFG.CAL_PERIOD : Fld := ⟨0x1601, 8, 8, .rws, 0x1E⟩
/-- R383: `PWR_CFG`. Holdup and calibration settings. -/
def PWR_CFG.fields : List Fld :=
  [PWR_CFG.HOLD_MIN, PWR_CFG.CAL_PERIOD]

abbrev PWR_CTRL.CMD : Fld := ⟨0x1602, 0, 4, .wo, 0⟩
/-- R383: `PWR_CTRL`. Command. -/
def PWR_CTRL.fields : List Fld :=
  [PWR_CTRL.CMD]

abbrev PWR_RESULT.REASON : Fld := ⟨0x1603, 24, 8, .ro, 0⟩
abbrev PWR_RESULT.CMD : Fld := ⟨0x1603, 0, 4, .ro, 0⟩
/-- R383: `PWR_RESULT`. Last refusal. -/
def PWR_RESULT.fields : List Fld :=
  [PWR_RESULT.REASON, PWR_RESULT.CMD]

abbrev PWR_STATUS.CAL_FAIL : Fld := ⟨0x1604, 18, 1, .w1c, 0⟩
abbrev PWR_STATUS.REFRESH_ACTIVE : Fld := ⟨0x1604, 17, 1, .ro, 0⟩
abbrev PWR_STATUS.REFRESH_DUE : Fld := ⟨0x1604, 16, 1, .ro, 0⟩
abbrev PWR_STATUS.CAL_ACTIVE : Fld := ⟨0x1604, 15, 1, .ro, 0⟩
abbrev PWR_STATUS.COMMISSION : Fld := ⟨0x1604, 14, 1, .ro, 0⟩
abbrev PWR_STATUS.SERVICE_EN : Fld := ⟨0x1604, 13, 1, .ro, 0⟩
abbrev PWR_STATUS.CHG_PRESENT : Fld := ⟨0x1604, 12, 1, .ro, 0⟩
abbrev PWR_STATUS.HOLDUP : Fld := ⟨0x1604, 11, 1, .ro, 0⟩
abbrev PWR_STATUS.HOLD_LOW : Fld := ⟨0x1604, 10, 1, .ro, 0⟩
abbrev PWR_STATUS.HOLD_READY : Fld := ⟨0x1604, 9, 1, .ro, 0⟩
abbrev PWR_STATUS.AUX_B_REV : Fld := ⟨0x1604, 8, 1, .ro, 0⟩
abbrev PWR_STATUS.AUX_A_REV : Fld := ⟨0x1604, 7, 1, .ro, 0⟩
abbrev PWR_STATUS.AUX_B_OK : Fld := ⟨0x1604, 6, 1, .ro, 0⟩
abbrev PWR_STATUS.AUX_A_OK : Fld := ⟨0x1604, 5, 1, .ro, 0⟩
abbrev PWR_STATUS.STAGE : Fld := ⟨0x1604, 1, 3, .ro, 0⟩
abbrev PWR_STATUS.RUN : Fld := ⟨0x1604, 0, 1, .ro, 0⟩
/-- R383: `PWR_STATUS`. Supply state. -/
def PWR_STATUS.fields : List Fld :=
  [PWR_STATUS.CAL_FAIL, PWR_STATUS.REFRESH_ACTIVE, PWR_STATUS.REFRESH_DUE, PWR_STATUS.CAL_ACTIVE,
    PWR_STATUS.COMMISSION, PWR_STATUS.SERVICE_EN, PWR_STATUS.CHG_PRESENT, PWR_STATUS.HOLDUP,
    PWR_STATUS.HOLD_LOW, PWR_STATUS.HOLD_READY, PWR_STATUS.AUX_B_REV, PWR_STATUS.AUX_A_REV,
    PWR_STATUS.AUX_B_OK, PWR_STATUS.AUX_A_OK, PWR_STATUS.STAGE, PWR_STATUS.RUN]

abbrev PWR_VAUX.AUX_B : Fld := ⟨0x1605, 16, 16, .ro, 0⟩
abbrev PWR_VAUX.AUX_A : Fld := ⟨0x1605, 0, 16, .ro, 0⟩
/-- R383: `PWR_VAUX`. Aux inputs. -/
def PWR_VAUX.fields : List Fld :=
  [PWR_VAUX.AUX_B, PWR_VAUX.AUX_A]

abbrev PWR_HOLD.C_HOLD : Fld := ⟨0x1606, 16, 16, .ro, 0⟩
abbrev PWR_HOLD.V_HOLD : Fld := ⟨0x1606, 0, 16, .ro, 0⟩
/-- R383: `PWR_HOLD`. Holdup capacitor. -/
def PWR_HOLD.fields : List Fld :=
  [PWR_HOLD.C_HOLD, PWR_HOLD.V_HOLD]

abbrev PWR_START.COUNT : Fld := ⟨0x1607, 8, 24, .ro, 0⟩
abbrev PWR_START.CAUSE : Fld := ⟨0x1607, 0, 8, .ro, 0⟩
/-- R383: `PWR_START`. Last reset cause, start count. -/
def PWR_START.fields : List Fld :=
  [PWR_START.COUNT, PWR_START.CAUSE]

abbrev PWR_LIFE.HOURS : Fld := ⟨0x1608, 0, 32, .ro, 0⟩
/-- R383: `PWR_LIFE`. Powered hours. -/
def PWR_LIFE.fields : List Fld :=
  [PWR_LIFE.HOURS]

abbrev PWR_MAINT.CAL_AGE : Fld := ⟨0x1609, 16, 16, .ro, 0⟩
abbrev PWR_MAINT.REFRESH_AGE : Fld := ⟨0x1609, 0, 16, .ro, 0⟩
/-- R383: `PWR_MAINT`. Refresh and calibration age. -/
def PWR_MAINT.fields : List Fld :=
  [PWR_MAINT.CAL_AGE, PWR_MAINT.REFRESH_AGE]

abbrev PWR_CNT.P4 : Fld := ⟨0x160A, 24, 8, .rc, 0⟩
abbrev PWR_CNT.P3 : Fld := ⟨0x160A, 16, 8, .rc, 0⟩
abbrev PWR_CNT.P2 : Fld := ⟨0x160A, 8, 8, .rc, 0⟩
abbrev PWR_CNT.P1 : Fld := ⟨0x160A, 0, 8, .rc, 0⟩
/-- R383: `PWR_CNT`. Prune entries. -/
def PWR_CNT.fields : List Fld :=
  [PWR_CNT.P4, PWR_CNT.P3, PWR_CNT.P2, PWR_CNT.P1]

abbrev PWR_VIN.V_IN : Fld := ⟨0x160B, 0, 16, .ro, 0⟩
/-- R383: `PWR_VIN`. Internal supply. -/
def PWR_VIN.fields : List Fld :=
  [PWR_VIN.V_IN]

abbrev ID_VENDOR.VENDOR : Fld := ⟨0x0, 0, 32, .ro, 0x53554E47⟩
/-- R399: `ID_VENDOR`. ASCII "SUNG", first character in [31:24]. -/
def ID_VENDOR.fields : List Fld :=
  [ID_VENDOR.VENDOR]

abbrev ID_DEVICE.DEVICE : Fld := ⟨0x1, 0, 32, .ro, 0x8064⟩
/-- R399: `ID_DEVICE`. Device number. -/
def ID_DEVICE.fields : List Fld :=
  [ID_DEVICE.DEVICE]

abbrev ID_HW.ASSEMBLY : Fld := ⟨0x2, 16, 16, .ro, 0⟩
abbrev ID_HW.CURTAIN : Fld := ⟨0x2, 8, 8, .ro, 0⟩
abbrev ID_HW.POWER : Fld := ⟨0x2, 0, 8, .ro, 0⟩
/-- R399: `ID_HW`. Hardware revisions. -/
def ID_HW.fields : List Fld :=
  [ID_HW.ASSEMBLY, ID_HW.CURTAIN, ID_HW.POWER]

abbrev ID_MAP.MAJOR : Fld := ⟨0x3, 16, 16, .ro, 1⟩
abbrev ID_MAP.MINOR : Fld := ⟨0x3, 0, 16, .ro, 0⟩
/-- R399: `ID_MAP`. Register map version. -/
def ID_MAP.fields : List Fld :=
  [ID_MAP.MAJOR, ID_MAP.MINOR]

abbrev ID_DEV.DEV (i : Nat) : Fld := ⟨0x4 + i, 0, 32, .ro, 0⟩
/-- R399: `ID_DEV` (2 of them). Device ID [31:0], read per R10. -/
def ID_DEV.fields (i : Nat) : List Fld :=
  [ID_DEV.DEV i]

abbrev ID_SESSKEY.BYTES (i : Nat) : Fld := ⟨0x10 + i, 0, 32, .ro, 0⟩
/-- R399: `ID_SESSKEY` (16 of them). Bytes 4k to 4k + 3 of the module's static session public key, S_m of
R326, X then Y as in . -/
def ID_SESSKEY.fields (i : Nat) : List Fld :=
  [ID_SESSKEY.BYTES i]

abbrev GLB_STATE.RECOV_LEFT : Fld := ⟨0x100, 24, 8, .ro, 0⟩
abbrev GLB_STATE.IMAGE : Fld := ⟨0x100, 19, 1, .ro, 0⟩
abbrev GLB_STATE.CLASS : Fld := ⟨0x100, 18, 1, .ro, 0⟩
abbrev GLB_STATE.RECOVERY : Fld := ⟨0x100, 17, 1, .ro, 0⟩
abbrev GLB_STATE.TEST : Fld := ⟨0x100, 16, 1, .ro, 0⟩
abbrev GLB_STATE.BED_UPDATE : Fld := ⟨0x100, 15, 1, .ro, 0⟩
abbrev GLB_STATE.STAGE : Fld := ⟨0x100, 12, 3, .ro, 0⟩
abbrev GLB_STATE.STATE : Fld := ⟨0x100, 0, 4, .ro, 0⟩
/-- R400: `GLB_STATE`. Module state and overlays. -/
def GLB_STATE.fields : List Fld :=
  [GLB_STATE.RECOV_LEFT, GLB_STATE.IMAGE, GLB_STATE.CLASS, GLB_STATE.RECOVERY, GLB_STATE.TEST,
    GLB_STATE.BED_UPDATE, GLB_STATE.STAGE, GLB_STATE.STATE]

abbrev GLB_FUNC.IDLE : Fld := ⟨0x101, 16, 15, .ro, 0⟩
abbrev GLB_FUNC.RUN : Fld := ⟨0x101, 0, 15, .ro, 0⟩
/-- R400: `GLB_FUNC`. Function states. -/
def GLB_FUNC.fields : List Fld :=
  [GLB_FUNC.IDLE, GLB_FUNC.RUN]

abbrev ARCH_ECC_CORR.COUNT : Fld := ⟨0x200, 0, 32, .rc, 0⟩
/-- R401: `ARCH_ECC_CORR`. [31:0] single-bit SRAM errors corrected, per R18. -/
def ARCH_ECC_CORR.fields : List Fld :=
  [ARCH_ECC_CORR.COUNT]

abbrev ARCH_ECC_UNCORR.LAST_REGION : Fld := ⟨0x201, 24, 8, .rc, 0⟩
abbrev ARCH_ECC_UNCORR.COUNT : Fld := ⟨0x201, 0, 16, .rc, 0⟩
/-- R401: `ARCH_ECC_UNCORR`. Uncorrectable SRAM errors, per R18. -/
def ARCH_ECC_UNCORR.fields : List Fld :=
  [ARCH_ECC_UNCORR.LAST_REGION, ARCH_ECC_UNCORR.COUNT]

abbrev ARCH_SWEEP_SKIP.COUNT : Fld := ⟨0x202, 0, 32, .rc, 0⟩
/-- R401: `ARCH_SWEEP_SKIP`. [31:0] sweeps abandoned, per R34. -/
def ARCH_SWEEP_SKIP.fields : List Fld :=
  [ARCH_SWEEP_SKIP.COUNT]

abbrev ARCH_SCRUB.COUNT : Fld := ⟨0x203, 0, 32, .ro, 0⟩
/-- R401: `ARCH_SCRUB`. [31:0] SRAM scrub passes completed, per R19, modulo 2³². -/
def ARCH_SCRUB.fields : List Fld :=
  [ARCH_SCRUB.COUNT]

end Sys2Proof.Machine
end

