-- ==== Sys2Proof/Machine/RegsTime.lean ====
section
/-! DEFINITION. The fields of the registers of the TIME, CUE, NET, SESS pages, each under the name
the manual gives it: its address, place, width, access code and reset value, as the register and
field tables of spec/ list them. A "Trellis" field carries the default its table states (0 where it
states none: DEFAULTS must then list the register, R42). -/

namespace Sys2Proof.Machine

abbrev TIME_CFG.MODE34 : Fld := ⟨0xF00, 1, 1, .rws, 0⟩
abbrev TIME_CFG.MODE12 : Fld := ⟨0xF00, 0, 1, .rws, 0⟩
/-- R315: `TIME_CFG`. Pair modes. -/
def TIME_CFG.fields : List Fld :=
  [TIME_CFG.MODE34, TIME_CFG.MODE12]

abbrev TIME_JUMP.JUMP_THRESH (i : Nat) : Fld := ⟨0xF01 + i, 0, 30, .rws, 0xF4240⟩
/-- R315: `TIME_JUMP` (2 of them). JUMP_THRESH of D1/D2. -/
def TIME_JUMP.fields (i : Nat) : List Fld :=
  [TIME_JUMP.JUMP_THRESH i]

abbrev TIME_STATUS.SWITCHED : Fld := ⟨0xF03, 3, 1, .w1c, 0⟩
abbrev TIME_STATUS.JUMP : Fld := ⟨0xF03, 2, 1, .ro, 0⟩
abbrev TIME_STATUS.HOLDOVER : Fld := ⟨0xF03, 1, 1, .ro, 0⟩
abbrev TIME_STATUS.RUN : Fld := ⟨0xF03, 0, 1, .ro, 0⟩
/-- R315: `TIME_STATUS`. TIME state. -/
def TIME_STATUS.fields : List Fld :=
  [TIME_STATUS.SWITCHED, TIME_STATUS.JUMP, TIME_STATUS.HOLDOVER, TIME_STATUS.RUN]

abbrev TIME_DCFG.PTP_DOMAIN (i : Nat) : Fld := ⟨0xF04 + i, 8, 8, .rws, 0⟩
abbrev TIME_DCFG.PORT (i : Nat) : Fld := ⟨0xF04 + i, 4, 1, .rws, 0⟩
abbrev TIME_DCFG.SOURCE (i : Nat) : Fld := ⟨0xF04 + i, 0, 2, .rws, 0⟩
/-- R315: `TIME_DCFG` (4 of them). Source of each domain. -/
def TIME_DCFG.fields (i : Nat) : List Fld :=
  [TIME_DCFG.PTP_DOMAIN i, TIME_DCFG.PORT i, TIME_DCFG.SOURCE i]

abbrev TIME_CTRL.DOMAIN : Fld := ⟨0xF08, 4, 2, .wo, 0⟩
abbrev TIME_CTRL.CMD : Fld := ⟨0xF08, 0, 4, .wo, 0⟩
/-- R315: `TIME_CTRL`. Command. -/
def TIME_CTRL.fields : List Fld :=
  [TIME_CTRL.DOMAIN, TIME_CTRL.CMD]

abbrev TIME_STEP_NS.NS : Fld := ⟨0xF09, 0, 32, .wo, 0⟩
/-- R315: `TIME_STEP_NS`. Step offset, ns. -/
def TIME_STEP_NS.fields : List Fld :=
  [TIME_STEP_NS.NS]

abbrev TIME_STEP_SEC0.SEC_LO : Fld := ⟨0xF0A, 0, 32, .wo, 0⟩
/-- R315: `TIME_STEP_SEC0`. Step offset, s [31:0]. -/
def TIME_STEP_SEC0.fields : List Fld :=
  [TIME_STEP_SEC0.SEC_LO]

abbrev TIME_STEP_SEC1.NEG : Fld := ⟨0xF0B, 31, 1, .wo, 0⟩
abbrev TIME_STEP_SEC1.SEC_HI : Fld := ⟨0xF0B, 0, 16, .wo, 0⟩
/-- R315: `TIME_STEP_SEC1`. Step offset, s [47:32], and sign. -/
def TIME_STEP_SEC1.fields : List Fld :=
  [TIME_STEP_SEC1.NEG, TIME_STEP_SEC1.SEC_HI]

abbrev TIME_RESULT.REASON : Fld := ⟨0xF0C, 24, 8, .ro, 0⟩
abbrev TIME_RESULT.DOMAIN : Fld := ⟨0xF0C, 4, 2, .ro, 0⟩
/-- R315: `TIME_RESULT`. Last refusal. -/
def TIME_RESULT.fields : List Fld :=
  [TIME_RESULT.REASON, TIME_RESULT.DOMAIN]

abbrev TIME_LOCAL0.LOCAL_LO : Fld := ⟨0xF0D, 0, 32, .ro, 0⟩
/-- R315: `TIME_LOCAL0`. Local clock [31:0], read per R10. -/
def TIME_LOCAL0.fields : List Fld :=
  [TIME_LOCAL0.LOCAL_LO]

abbrev TIME_LOCAL1.LOCAL_HI : Fld := ⟨0xF0E, 0, 32, .ro, 0⟩
/-- R315: `TIME_LOCAL1`. Local clock [63:32]. -/
def TIME_LOCAL1.fields : List Fld :=
  [TIME_LOCAL1.LOCAL_HI]

abbrev TIME_D_W0.QUALITY (i : Nat) : Fld := ⟨0xF10 + 4 * i, 16, 6, .ro, 0⟩
abbrev TIME_D_W0.FRAC (i : Nat) : Fld := ⟨0xF10 + 4 * i, 0, 16, .ro, 0⟩
/-- R315: `TIME_D_W0` (4 of them). Domain n, n = 1–4, read per R10. -/
def TIME_D_W0.fields (i : Nat) : List Fld :=
  [TIME_D_W0.QUALITY i, TIME_D_W0.FRAC i]

abbrev TIME_D_W1.NS (i : Nat) : Fld := ⟨0xF11 + 4 * i, 0, 32, .ro, 0⟩
/-- R315: `TIME_D_W1` (4 of them). Nanoseconds. -/
def TIME_D_W1.fields (i : Nat) : List Fld :=
  [TIME_D_W1.NS i]

abbrev TIME_D_W2.SEC_LO (i : Nat) : Fld := ⟨0xF12 + 4 * i, 0, 32, .ro, 0⟩
/-- R315: `TIME_D_W2` (4 of them). Seconds [31:0]. -/
def TIME_D_W2.fields (i : Nat) : List Fld :=
  [TIME_D_W2.SEC_LO i]

abbrev TIME_D_W3.SEC_HI (i : Nat) : Fld := ⟨0xF13 + 4 * i, 0, 16, .ro, 0⟩
/-- R315: `TIME_D_W3` (4 of them). Seconds [47:32]. -/
def TIME_D_W3.fields (i : Nat) : List Fld :=
  [TIME_D_W3.SEC_HI i]

abbrev TIME_INCR.INCR (i : Nat) : Fld := ⟨0xF20 + i, 0, 32, .rw, 0xA000000⟩
/-- R315: `TIME_INCR` (4 of them). INCR, per R292. -/
def TIME_INCR.fields (i : Nat) : List Fld :=
  [TIME_INCR.INCR i]

abbrev TIME_OFFS.OFFSET (i : Nat) : Fld := ⟨0xF24 + i, 0, 32, .ro, 0⟩
/-- R315: `TIME_OFFS` (4 of them). Last o of the member's tracker. -/
def TIME_OFFS.fields (i : Nat) : List Fld :=
  [TIME_OFFS.OFFSET i]

abbrev TIME_DSTAT.JUMPS (i : Nat) : Fld := ⟨0xF28 + i, 24, 8, .ro, 0⟩
abbrev TIME_DSTAT.STEPS (i : Nat) : Fld := ⟨0xF28 + i, 16, 8, .ro, 0⟩
abbrev TIME_DSTAT.LOST (i : Nat) : Fld := ⟨0xF28 + i, 7, 1, .ro, 0⟩
abbrev TIME_DSTAT.ACTIVE (i : Nat) : Fld := ⟨0xF28 + i, 6, 1, .ro, 0⟩
abbrev TIME_DSTAT.QUALITY (i : Nat) : Fld := ⟨0xF28 + i, 0, 6, .ro, 0⟩
/-- R315: `TIME_DSTAT` (4 of them). Domain state. -/
def TIME_DSTAT.fields (i : Nat) : List Fld :=
  [TIME_DSTAT.JUMPS i, TIME_DSTAT.STEPS i, TIME_DSTAT.LOST i, TIME_DSTAT.ACTIVE i,
    TIME_DSTAT.QUALITY i]

abbrev TIME_PTP.DELAY (i : Nat) : Fld := ⟨0xF2C + i, 16, 16, .ro, 0⟩
abbrev TIME_PTP.STATE (i : Nat) : Fld := ⟨0xF2C + i, 0, 4, .ro, 0⟩
/-- R315: `TIME_PTP` (2 of them). PTP state of ETH0 and ETH1. -/
def TIME_PTP.fields (i : Nat) : List Fld :=
  [TIME_PTP.DELAY i, TIME_PTP.STATE i]

abbrev CUE_CTRL.INDEX : Fld := ⟨0x1000, 16, 10, .wo, 0⟩
abbrev CUE_CTRL.CMD : Fld := ⟨0x1000, 0, 4, .wo, 0⟩
/-- R317: `CUE_CTRL`. Entry command. -/
def CUE_CTRL.fields : List Fld :=
  [CUE_CTRL.INDEX, CUE_CTRL.CMD]

abbrev CUE_RESULT.REASON : Fld := ⟨0x1001, 24, 8, .ro, 0⟩
abbrev CUE_RESULT.OWNER : Fld := ⟨0x1001, 16, 8, .ro, 0⟩
abbrev CUE_RESULT.INDEX : Fld := ⟨0x1001, 0, 10, .ro, 0⟩
/-- R317: `CUE_RESULT`. Last refusal. -/
def CUE_RESULT.fields : List Fld :=
  [CUE_RESULT.REASON, CUE_RESULT.OWNER, CUE_RESULT.INDEX]

abbrev CUE_STATUS.ENTRIES : Fld := ⟨0x1002, 16, 11, .ro, 0⟩
abbrev CUE_STATUS.SKIPPED : Fld := ⟨0x1002, 2, 1, .w1c, 0⟩
abbrev CUE_STATUS.LATE : Fld := ⟨0x1002, 1, 1, .w1c, 0⟩
abbrev CUE_STATUS.RUN : Fld := ⟨0x1002, 0, 1, .ro, 0⟩
/-- R317: `CUE_STATUS`. CUE state. -/
def CUE_STATUS.fields : List Fld :=
  [CUE_STATUS.ENTRIES, CUE_STATUS.SKIPPED, CUE_STATUS.LATE, CUE_STATUS.RUN]

abbrev CUE_CNT.SKIPPED : Fld := ⟨0x1003, 16, 16, .rc, 0⟩
abbrev CUE_CNT.LATE : Fld := ⟨0x1003, 0, 16, .rc, 0⟩
/-- R317: `CUE_CNT`. Counters. -/
def CUE_CNT.fields : List Fld :=
  [CUE_CNT.SKIPPED, CUE_CNT.LATE]

abbrev CUE_FQ_CTRL.LEN : Fld := ⟨0x1004, 16, 11, .wo, 0⟩
abbrev CUE_FQ_CTRL.SLOT : Fld := ⟨0x1004, 8, 6, .wo, 0⟩
abbrev CUE_FQ_CTRL.PORT : Fld := ⟨0x1004, 6, 2, .wo, 0⟩
abbrev CUE_FQ_CTRL.CMD : Fld := ⟨0x1004, 0, 4, .wo, 0⟩
/-- R317: `CUE_FQ_CTRL`. Frame slot command. -/
def CUE_FQ_CTRL.fields : List Fld :=
  [CUE_FQ_CTRL.LEN, CUE_FQ_CTRL.SLOT, CUE_FQ_CTRL.PORT, CUE_FQ_CTRL.CMD]

abbrev CUE_FQ_SEL.PORT : Fld := ⟨0x1005, 6, 2, .rw, 0⟩
abbrev CUE_FQ_SEL.SLOT : Fld := ⟨0x1005, 0, 6, .rw, 0⟩
/-- R317: `CUE_FQ_SEL`. Slot selected for reading. -/
def CUE_FQ_SEL.fields : List Fld :=
  [CUE_FQ_SEL.PORT, CUE_FQ_SEL.SLOT]

abbrev CUE_FQ_INFO.LEN : Fld := ⟨0x1006, 16, 11, .ro, 0⟩
abbrev CUE_FQ_INFO.LAUNCHES : Fld := ⟨0x1006, 8, 8, .ro, 0⟩
abbrev CUE_FQ_INFO.LATE : Fld := ⟨0x1006, 2, 1, .ro, 0⟩
abbrev CUE_FQ_INFO.STATE : Fld := ⟨0x1006, 0, 2, .ro, 0⟩
/-- R317: `CUE_FQ_INFO`. Selected slot. -/
def CUE_FQ_INFO.fields : List Fld :=
  [CUE_FQ_INFO.LEN, CUE_FQ_INFO.LAUNCHES, CUE_FQ_INFO.LATE, CUE_FQ_INFO.STATE]

abbrev CUE_FQ_TS0.NS : Fld := ⟨0x1007, 0, 32, .ro, 0⟩
/-- R317: `CUE_FQ_TS0`. Last launch timestamp of the selected slot, read per R10. -/
def CUE_FQ_TS0.fields : List Fld :=
  [CUE_FQ_TS0.NS]

abbrev CUE_FQ_TS1.SEC_LO : Fld := ⟨0x1008, 0, 32, .ro, 0⟩
/-- R317: `CUE_FQ_TS1`. Last launch timestamp of the selected slot, read per R10. -/
def CUE_FQ_TS1.fields : List Fld :=
  [CUE_FQ_TS1.SEC_LO]

abbrev CUE_FQ_TS2.DOMAIN : Fld := ⟨0x1009, 16, 2, .ro, 0⟩
abbrev CUE_FQ_TS2.SEC_HI : Fld := ⟨0x1009, 0, 16, .ro, 0⟩
/-- R317: `CUE_FQ_TS2`. Last launch timestamp of the selected slot, read per R10. -/
def CUE_FQ_TS2.fields : List Fld :=
  [CUE_FQ_TS2.DOMAIN, CUE_FQ_TS2.SEC_HI]

abbrev CUE_CAP_STATUS.COUNT : Fld := ⟨0x100A, 16, 9, .ro, 0⟩
abbrev CUE_CAP_STATUS.PORT : Fld := ⟨0x100A, 8, 6, .ro, 0⟩
abbrev CUE_CAP_STATUS.FULL : Fld := ⟨0x100A, 1, 1, .ro, 0⟩
abbrev CUE_CAP_STATUS.RUNNING : Fld := ⟨0x100A, 0, 1, .ro, 0⟩
/-- R317: `CUE_CAP_STATUS`. Capture. -/
def CUE_CAP_STATUS.fields : List Fld :=
  [CUE_CAP_STATUS.COUNT, CUE_CAP_STATUS.PORT, CUE_CAP_STATUS.FULL, CUE_CAP_STATUS.RUNNING]

abbrev CUE_CAP_SEL.INDEX : Fld := ⟨0x100B, 0, 8, .rw, 0⟩
/-- R317: `CUE_CAP_SEL`. Capture entry selected. -/
def CUE_CAP_SEL.fields : List Fld :=
  [CUE_CAP_SEL.INDEX]

abbrev CUE_E.BYTES (i : Nat) : Fld := ⟨0x1010 + i, 0, 32, .rw, 0⟩
/-- R317: `CUE_E` (8 of them). Entry staging, 32 B. -/
def CUE_E.fields (i : Nat) : List Fld :=
  [CUE_E.BYTES i]

abbrev CUE_CAP.BYTES (i : Nat) : Fld := ⟨0x1020 + i, 0, 32, .ro, 0⟩
/-- R317: `CUE_CAP` (24 of them). Selected capture entry, 96 B. -/
def CUE_CAP.fields (i : Nat) : List Fld :=
  [CUE_CAP.BYTES i]

abbrev CUE_FQ_WIN.BYTES (i : Nat) : Fld := ⟨0x1100 + i, 0, 32, .rw, 0⟩
/-- R317: `CUE_FQ_WIN` (256 of them). Frame staging, 1,024 B. -/
def CUE_FQ_WIN.fields (i : Nat) : List Fld :=
  [CUE_FQ_WIN.BYTES i]

abbrev NET_STATUS.CAN1_IDLE : Fld := ⟨0x1200, 6, 1, .ro, 0⟩
abbrev NET_STATUS.ETH1_IDLE : Fld := ⟨0x1200, 5, 1, .ro, 0⟩
abbrev NET_STATUS.CAN1_ON : Fld := ⟨0x1200, 4, 1, .ro, 0⟩
abbrev NET_STATUS.CAN0_ON : Fld := ⟨0x1200, 3, 1, .ro, 0⟩
abbrev NET_STATUS.ETH1_LINK : Fld := ⟨0x1200, 2, 1, .ro, 0⟩
abbrev NET_STATUS.ETH0_LINK : Fld := ⟨0x1200, 1, 1, .ro, 0⟩
abbrev NET_STATUS.RUN : Fld := ⟨0x1200, 0, 1, .ro, 0⟩
/-- R339: `NET_STATUS`. Paths. -/
def NET_STATUS.fields : List Fld :=
  [NET_STATUS.CAN1_IDLE, NET_STATUS.ETH1_IDLE, NET_STATUS.CAN1_ON, NET_STATUS.CAN0_ON,
    NET_STATUS.ETH1_LINK, NET_STATUS.ETH0_LINK, NET_STATUS.RUN]

abbrev NET_ETH.RX_ERR (i : Nat) : Fld := ⟨0x1201 + i, 16, 16, .rc, 0⟩
abbrev NET_ETH.RX_DROP (i : Nat) : Fld := ⟨0x1201 + i, 0, 16, .rc, 0⟩
/-- R339: `NET_ETH` (2 of them). ETH0 counters. -/
def NET_ETH.fields (i : Nat) : List Fld :=
  [NET_ETH.RX_ERR i, NET_ETH.RX_DROP i]

abbrev NET_CAN.TEC (i : Nat) : Fld := ⟨0x1203 + i, 24, 8, .ro, 0⟩
abbrev NET_CAN.REC (i : Nat) : Fld := ⟨0x1203 + i, 16, 8, .ro, 0⟩
abbrev NET_CAN.STATE (i : Nat) : Fld := ⟨0x1203 + i, 0, 2, .ro, 0⟩
/-- R339: `NET_CAN` (2 of them). CAN0 error state. -/
def NET_CAN.fields (i : Nat) : List Fld :=
  [NET_CAN.TEC i, NET_CAN.REC i, NET_CAN.STATE i]

abbrev SESS_CTRL.FUNC : Fld := ⟨0x1300, 8, 4, .wo, 0⟩
abbrev SESS_CTRL.CMD : Fld := ⟨0x1300, 0, 4, .wo, 0⟩
/-- R340: `SESS_CTRL`. Function command. -/
def SESS_CTRL.fields : List Fld :=
  [SESS_CTRL.FUNC, SESS_CTRL.CMD]

abbrev SESS_RESULT.REASON : Fld := ⟨0x1301, 24, 8, .ro, 0⟩
abbrev SESS_RESULT.FUNC : Fld := ⟨0x1301, 20, 4, .ro, 0⟩
abbrev SESS_RESULT.DETAIL : Fld := ⟨0x1301, 8, 8, .ro, 0⟩
/-- R340: `SESS_RESULT`. This session's last command result. -/
def SESS_RESULT.fields : List Fld :=
  [SESS_RESULT.REASON, SESS_RESULT.FUNC, SESS_RESULT.DETAIL]

abbrev SESS_SELF.KEY_ID : Fld := ⟨0x1302, 16, 16, .ro, 0⟩
abbrev SESS_SELF.PATH : Fld := ⟨0x1302, 12, 4, .ro, 0⟩
abbrev SESS_SELF.ROLE : Fld := ⟨0x1302, 8, 4, .ro, 0⟩
abbrev SESS_SELF.SESSION : Fld := ⟨0x1302, 0, 6, .ro, 0⟩
/-- R340: `SESS_SELF`. This session. -/
def SESS_SELF.fields : List Fld :=
  [SESS_SELF.KEY_ID, SESS_SELF.PATH, SESS_SELF.ROLE, SESS_SELF.SESSION]

abbrev SESS_COUNT.LIMIT : Fld := ⟨0x1303, 16, 8, .ro, 0x3F⟩
abbrev SESS_COUNT.ESTABLISHING : Fld := ⟨0x1303, 8, 8, .ro, 0⟩
abbrev SESS_COUNT.OPEN : Fld := ⟨0x1303, 0, 8, .ro, 0⟩
/-- R340: `SESS_COUNT`. Sessions open. -/
def SESS_COUNT.fields : List Fld :=
  [SESS_COUNT.LIMIT, SESS_COUNT.ESTABLISHING, SESS_COUNT.OPEN]

abbrev SESS_CNT.AUTH_FAIL : Fld := ⟨0x1304, 16, 16, .rc, 0⟩
abbrev SESS_CNT.REJECTED : Fld := ⟨0x1304, 0, 16, .rc, 0⟩
/-- R340: `SESS_CNT`. Counters. -/
def SESS_CNT.fields : List Fld :=
  [SESS_CNT.AUTH_FAIL, SESS_CNT.REJECTED]

abbrev SESS_FUNC.STEWARD (i : Nat) : Fld := ⟨0x1310 + i, 8, 6, .ro, 0⟩
abbrev SESS_FUNC.IDLE (i : Nat) : Fld := ⟨0x1310 + i, 2, 1, .ro, 0⟩
abbrev SESS_FUNC.STATE (i : Nat) : Fld := ⟨0x1310 + i, 0, 2, .ro, 0⟩
/-- R340: `SESS_FUNC` (15 of them). State and steward of function f. -/
def SESS_FUNC.fields (i : Nat) : List Fld :=
  [SESS_FUNC.STEWARD i, SESS_FUNC.IDLE i, SESS_FUNC.STATE i]

abbrev SESS_INFO.KEY_ID (i : Nat) : Fld := ⟨0x1341 + i, 16, 16, .ro, 0⟩
abbrev SESS_INFO.PATH (i : Nat) : Fld := ⟨0x1341 + i, 12, 4, .ro, 0⟩
abbrev SESS_INFO.ROLE (i : Nat) : Fld := ⟨0x1341 + i, 8, 4, .ro, 0⟩
abbrev SESS_INFO.STATE (i : Nat) : Fld := ⟨0x1341 + i, 0, 2, .ro, 0⟩
/-- R340: `SESS_INFO` (63 of them). Session n. -/
def SESS_INFO.fields (i : Nat) : List Fld :=
  [SESS_INFO.KEY_ID i, SESS_INFO.PATH i, SESS_INFO.ROLE i, SESS_INFO.STATE i]

end Sys2Proof.Machine
end

