-- ==== Sys2Proof/Machine/RegMap.lean ====
section
/-! DEFINITION. The register map of R396: which fields stand at each address of the 16-bit space. An
address of a mapped page that no register takes is reserved (R397): it has no field. -/

namespace Sys2Proof.Machine

/-- The fields at address `a` of the registers whose first lies on page 0x0. -/
def regsPage0 (a : Nat) : List Fld :=
  if a = 0x0 then ID_VENDOR.fields else
  if a = 0x1 then ID_DEVICE.fields else
  if a = 0x2 then ID_HW.fields else
  if a = 0x3 then ID_MAP.fields else
  if 0x4 ≤ a ∧ a ≤ 0x5 then ID_DEV.fields (a - 0x4) else
  if 0x10 ≤ a ∧ a ≤ 0x1F then ID_SESSKEY.fields (a - 0x10) else
  []

/-- The fields at address `a` of the registers whose first lies on page 0x1. -/
def regsPage1 (a : Nat) : List Fld :=
  if a = 0x100 then GLB_STATE.fields else
  if a = 0x101 then GLB_FUNC.fields else
  []

/-- The fields at address `a` of the registers whose first lies on page 0x2. -/
def regsPage2 (a : Nat) : List Fld :=
  if a = 0x200 then ARCH_ECC_CORR.fields else
  if a = 0x201 then ARCH_ECC_UNCORR.fields else
  if a = 0x202 then ARCH_SWEEP_SKIP.fields else
  if a = 0x203 then ARCH_SCRUB.fields else
  []

/-- The fields at address `a` of the registers whose first lies on page 0x3. -/
def regsPage3 (a : Nat) : List Fld :=
  if a = 0x300 then IMG_TRL_SERIAL.fields else
  if a = 0x301 then IMG_TRL_INFO.fields else
  if 0x302 ≤ a ∧ a ≤ 0x309 then IMG_TRL_DIGEST.fields (a - 0x302) else
  if a = 0x30A then IMG_LOAD_CTRL.fields else
  if a = 0x30B then IMG_LOAD_LEN.fields else
  if a = 0x30C then IMG_LOAD_OFFSET.fields else
  if a = 0x30D then IMG_LOAD_STATUS.fields else
  if a = 0x30E then IMG_TOUCH.fields else
  if a = 0x30F then IMG_BED_SEL.fields else
  if a = 0x310 then IMG_FAIL_WHERE.fields else
  if 0x311 ≤ a ∧ a ≤ 0x31C then IMG_BED_VER.fields (a - 0x311) else
  if 0x380 ≤ a ∧ a ≤ 0x3FF then IMG_LOAD_WIN.fields (a - 0x380) else
  []

/-- The fields at address `a` of the registers whose first lies on page 0x4. -/
def regsPage4 (a : Nat) : List Fld :=
  if a = 0x400 then PORT_CFG.fields else
  if a = 0x401 then PORT_SWAP_CTRL.fields else
  if a = 0x402 then PORT_SWAP_STATUS.fields else
  if a = 0x403 then PORT_UP0.fields else
  if a = 0x404 then PORT_UP1.fields else
  if a = 0x405 then PORT_UP2.fields else
  if 0x410 ≤ a ∧ a ≤ 0x457 then PORT_STATE.fields (a - 0x410) else
  if 0x458 ≤ a ∧ a ≤ 0x49F then PORT_DELAY.fields (a - 0x458) else
  if 0x4A0 ≤ a ∧ a ≤ 0x4E7 then PORT_LOOP.fields (a - 0x4A0) else
  []

/-- The fields at address `a` of the registers whose first lies on page 0x5. -/
def regsPage5 (a : Nat) : List Fld :=
  if 0x500 ≤ a ∧ a ≤ 0x547 then PORT_STAT.fields (a - 0x500) else
  if 0x548 ≤ a ∧ a ≤ 0x58F then PORT_IDENT.fields (a - 0x548) else
  if 0x590 ≤ a ∧ a ≤ 0x5D7 then PORT_ERR.fields (a - 0x590) else
  []

/-- The fields at address `a` of the registers whose first lies on page 0x6. -/
def regsPage6 (a : Nat) : List Fld :=
  if a = 0x600 then ACQ_PH_CFG.fields else
  if a = 0x601 then ACQ_RATE.fields else
  if a = 0x602 then ACQ_QW.fields else
  if a = 0x603 then ACQ_PH_STATUS.fields else
  if a = 0x604 then ACQ_FREQ.fields else
  if a = 0x605 then ACQ_NOW0.fields else
  if a = 0x606 then ACQ_NOW1.fields else
  if a = 0x607 then ACQ_SWEEP0.fields else
  if a = 0x608 then ACQ_SWEEP1.fields else
  if a = 0x609 then ACQ_STATUS.fields else
  if a = 0x60A then ACQ_ZC_NS.fields else
  if a = 0x60B then ACQ_ZC_SEC0.fields else
  if a = 0x60C then ACQ_ZC_SEC1.fields else
  if a = 0x60D then ACQ_ZC_STATUS.fields else
  if a = 0x60E then ACQ_CNT_DIST.fields else
  if a = 0x60F then ACQ_CNT_SUSP.fields else
  if a = 0x610 then ACQ_CNT_STALE.fields else
  if 0x620 ≤ a ∧ a ≤ 0x63C ∧ (a - 0x620) % 4 = 0 then ACQ_I.fields ((a - 0x620) / 4) else
  if 0x621 ≤ a ∧ a ≤ 0x63D ∧ (a - 0x621) % 4 = 0 then ACQ_VSTR.fields ((a - 0x621) / 4) else
  if 0x622 ≤ a ∧ a ≤ 0x63E ∧ (a - 0x622) % 4 = 0 then ACQ_VBUS.fields ((a - 0x622) / 4) else
  if 0x623 ≤ a ∧ a ≤ 0x63F ∧ (a - 0x623) % 4 = 0 then ACQ_VPRE.fields ((a - 0x623) / 4) else
  []

/-- The fields at address `a` of the registers whose first lies on page 0x7. -/
def regsPage7 (a : Nat) : List Fld :=
  if a = 0x700 then EST_CFG.fields else
  if a = 0x701 then EST_REST.fields else
  if a = 0x702 then EST_EMPTY.fields else
  if a = 0x703 then EST_PROBE.fields else
  if a = 0x704 then EST_SIGMA.fields else
  if a = 0x705 then EST_STATUS.fields else
  if a = 0x706 then EST_SWEEP0.fields else
  if a = 0x707 then EST_SWEEP1.fields else
  if 0x720 ≤ a ∧ a ≤ 0x760 ∧ (a - 0x720) % 8 = 0 then EST_SOC.fields ((a - 0x720) / 8) else
  if 0x721 ≤ a ∧ a ≤ 0x761 ∧ (a - 0x721) % 8 = 0 then EST_SOE.fields ((a - 0x721) / 8) else
  if 0x722 ≤ a ∧ a ≤ 0x762 ∧ (a - 0x722) % 8 = 0 then EST_EDIS.fields ((a - 0x722) / 8) else
  if 0x723 ≤ a ∧ a ≤ 0x75B ∧ (a - 0x723) % 8 = 0 then EST_QAV.fields ((a - 0x723) / 8) else
  if 0x724 ≤ a ∧ a ≤ 0x75C ∧ (a - 0x724) % 8 = 0 then EST_SOH.fields ((a - 0x724) / 8) else
  if 0x725 ≤ a ∧ a ≤ 0x75D ∧ (a - 0x725) % 8 = 0 then EST_EXT.fields ((a - 0x725) / 8) else
  if 0x726 ≤ a ∧ a ≤ 0x766 ∧ (a - 0x726) % 8 = 0 then EST_TVMAX.fields ((a - 0x726) / 8) else
  if 0x727 ≤ a ∧ a ≤ 0x767 ∧ (a - 0x727) % 8 = 0 then EST_SFLAGS.fields ((a - 0x727) / 8) else
  if a = 0x763 then EST_B_QD.fields else
  if a = 0x764 then EST_B_QC.fields else
  if a = 0x765 then EST_B_SOH.fields else
  []

/-- The fields at address `a` of the registers whose first lies on page 0x8. -/
def regsPage8 (a : Nat) : List Fld :=
  if a = 0x800 then LRN_CFG.fields else
  if a = 0x801 then LRN_CFG2.fields else
  if a = 0x802 then LRN_CTRL.fields else
  if a = 0x803 then LRN_COMMIT.fields else
  if a = 0x804 then LRN_WIN_BASE.fields else
  if a = 0x805 then LRN_STATUS.fields else
  if a = 0x806 then LRN_RESULT.fields else
  if a = 0x807 then LRN_CAPTEST.fields else
  if a = 0x808 then LRN_CNT.fields else
  if 0x810 ≤ a ∧ a ≤ 0x817 then LRN_BLKSTATE.fields (a - 0x810) else
  if 0x818 ≤ a ∧ a ≤ 0x81F then LRN_STR.fields (a - 0x818) else
  []

/-- The fields at address `a` of the registers whose first lies on page 0x9. -/
def regsPage9 (a : Nat) : List Fld :=
  if a = 0x900 then LIM_CFG.fields else
  if a = 0x901 then LIM_PUB.fields else
  if a = 0x902 then LIM_ESC.fields else
  if a = 0x903 then LIM_TOL.fields else
  if a = 0x904 then LIM_BCAP.fields else
  if a = 0x905 then LIM_STATUS.fields else
  if a = 0x906 then LIM_SEQ.fields else
  if 0x910 ≤ a ∧ a ≤ 0x917 then LIM_HOST.fields (a - 0x910) else
  if a = 0x918 then LIM_HOST_B.fields else
  if 0x920 ≤ a ∧ a ≤ 0x960 ∧ (a - 0x920) % 8 = 0 then LIM_STAT.fields ((a - 0x920) / 8) else
  if 0x921 ≤ a ∧ a ≤ 0x961 ∧ (a - 0x921) % 8 = 0 then LIM_IC01.fields ((a - 0x921) / 8) else
  if 0x922 ≤ a ∧ a ≤ 0x962 ∧ (a - 0x922) % 8 = 0 then LIM_IC23.fields ((a - 0x922) / 8) else
  if 0x923 ≤ a ∧ a ≤ 0x963 ∧ (a - 0x923) % 8 = 0 then LIM_ID01.fields ((a - 0x923) / 8) else
  if 0x924 ≤ a ∧ a ≤ 0x964 ∧ (a - 0x924) % 8 = 0 then LIM_ID23.fields ((a - 0x924) / 8) else
  if 0x925 ≤ a ∧ a ≤ 0x965 ∧ (a - 0x925) % 8 = 0 then LIM_PWR.fields ((a - 0x925) / 8) else
  if 0x926 ≤ a ∧ a ≤ 0x966 ∧ (a - 0x926) % 8 = 0 then LIM_FACT.fields ((a - 0x926) / 8) else
  if 0x927 ≤ a ∧ a ≤ 0x967 ∧ (a - 0x927) % 8 = 0 then LIM_REF.fields ((a - 0x927) / 8) else
  []

/-- The fields at address `a` of the registers whose first lies on page 0xA. -/
def regsPageA (a : Nat) : List Fld :=
  if a = 0xA00 then SEQ_CFG.fields else
  if a = 0xA01 then SEQ_SHED.fields else
  if a = 0xA02 then SEQ_CTRL.fields else
  if a = 0xA03 then SEQ_RESULT.fields else
  if a = 0xA04 then SEQ_BANK.fields else
  if a = 0xA05 then SEQ_WEAR_SEL.fields else
  if a = 0xA06 then SEQ_WEAR_OPS.fields else
  if a = 0xA07 then SEQ_WEAR_BRK.fields else
  if a = 0xA08 then SEQ_WEAR_SUM.fields else
  if a = 0xA09 then SEQ_WEAR_IMAX.fields else
  if a = 0xA0A then SEQ_JOIN.fields else
  if 0xA10 ≤ a ∧ a ≤ 0xA2C ∧ (a - 0xA10) % 4 = 0 then SEQ_STATE.fields ((a - 0xA10) / 4) else
  if 0xA11 ≤ a ∧ a ≤ 0xA2D ∧ (a - 0xA11) % 4 = 0 then SEQ_PRE.fields ((a - 0xA11) / 4) else
  if 0xA12 ≤ a ∧ a ≤ 0xA2E ∧ (a - 0xA12) % 4 = 0 then SEQ_PREC.fields ((a - 0xA12) / 4) else
  if 0xA13 ≤ a ∧ a ≤ 0xA2F ∧ (a - 0xA13) % 4 = 0 then SEQ_TIMER.fields ((a - 0xA13) / 4) else
  []

/-- The fields at address `a` of the registers whose first lies on page 0xB. -/
def regsPageB (a : Nat) : List Fld :=
  if a = 0xB00 then THW_CFG.fields else
  if a = 0xB01 then THW_STATUS.fields else
  if a = 0xB02 then THW_LATCH.fields else
  if a = 0xB03 then THW_CNT.fields else
  if 0xB10 ≤ a ∧ a ≤ 0xB17 then THW_SFACT.fields (a - 0xB10) else
  if 0xB20 ≤ a ∧ a ≤ 0xB2B then THW_INT.fields (a - 0xB20) else
  if 0xB40 ≤ a ∧ a ≤ 0xBFD ∧ (a - 0xB40) % 3 = 0 then THW_ZMAX.fields ((a - 0xB40) / 3) else
  if 0xB41 ≤ a ∧ a ≤ 0xBFE ∧ (a - 0xB41) % 3 = 0 then THW_ZSTAT.fields ((a - 0xB41) / 3) else
  if 0xB42 ≤ a ∧ a ≤ 0xBFF ∧ (a - 0xB42) % 3 = 0 then THW_ZRATE.fields ((a - 0xB42) / 3) else
  []

/-- The fields at address `a` of the registers whose first lies on page 0xC. -/
def regsPageC (a : Nat) : List Fld :=
  if a = 0xC00 then BAL_CFG.fields else
  if a = 0xC01 then BAL_CFG2.fields else
  if a = 0xC02 then BAL_TEST.fields else
  if a = 0xC03 then BAL_CTRL.fields else
  if a = 0xC04 then BAL_FORCE.fields else
  if a = 0xC05 then BAL_STATUS.fields else
  if a = 0xC06 then BAL_TESTSTAT.fields else
  if 0xC10 ≤ a ∧ a ≤ 0xC3F then BAL_ON.fields (a - 0xC10) else
  if 0xC40 ≤ a ∧ a ≤ 0xC6F then BAL_FAILED.fields (a - 0xC40) else
  []

/-- The fields at address `a` of the registers whose first lies on page 0xD. -/
def regsPageD (a : Nat) : List Fld :=
  if a = 0xD00 then CHN_CFG.fields else
  if a = 0xD01 then CHN_SET.fields else
  if a = 0xD02 then CHN_CLR.fields else
  if a = 0xD03 then CHN_FCLR.fields else
  if a = 0xD04 then CHN_CMD.fields else
  if a = 0xD05 then CHN_OUT.fields else
  if a = 0xD06 then CHN_FAULT.fields else
  if a = 0xD07 then CHN_STATUS.fields else
  if a = 0xD08 then CHN_TOTAL.fields else
  if a = 0xD09 then CHN_VAUX.fields else
  if a = 0xD0A then CHN_ENV0.fields else
  if a = 0xD0B then CHN_ENV1.fields else
  if a = 0xD0C then CHN_SHUNT.fields else
  if 0xD10 ≤ a ∧ a ≤ 0xD2F then CHN_STATE.fields (a - 0xD10) else
  []

/-- The fields at address `a` of the registers whose first lies on page 0xE. -/
def regsPageE (a : Nat) : List Fld :=
  if a = 0xE00 then SAF_STATUS.fields else
  if a = 0xE01 then SAF_FAULT.fields else
  if a = 0xE02 then SAF_INPUT.fields else
  if a = 0xE03 then SAF_GATE.fields else
  if a = 0xE04 then SAF_RESET.fields else
  if a = 0xE05 then SAF_DEGRADE.fields else
  if a = 0xE06 then SAF_XCMP.fields else
  if a = 0xE07 then SAF_CTRL.fields else
  if a = 0xE08 then SAF_PROOF.fields else
  if a = 0xE09 then SAF_LOOPTRIP0.fields else
  if a = 0xE0A then SAF_LOOPTRIP1.fields else
  if a = 0xE0B then SAF_LOOPTRIP2.fields else
  if 0xE10 ≤ a ∧ a ≤ 0xE17 then SAF_SLW.fields (a - 0xE10) else
  if 0xE18 ≤ a ∧ a ≤ 0xE1F then SAF_SLC.fields (a - 0xE18) else
  []

/-- The fields at address `a` of the registers whose first lies on page 0xF. -/
def regsPageF (a : Nat) : List Fld :=
  if a = 0xF00 then TIME_CFG.fields else
  if 0xF01 ≤ a ∧ a ≤ 0xF02 then TIME_JUMP.fields (a - 0xF01) else
  if a = 0xF03 then TIME_STATUS.fields else
  if 0xF04 ≤ a ∧ a ≤ 0xF07 then TIME_DCFG.fields (a - 0xF04) else
  if a = 0xF08 then TIME_CTRL.fields else
  if a = 0xF09 then TIME_STEP_NS.fields else
  if a = 0xF0A then TIME_STEP_SEC0.fields else
  if a = 0xF0B then TIME_STEP_SEC1.fields else
  if a = 0xF0C then TIME_RESULT.fields else
  if a = 0xF0D then TIME_LOCAL0.fields else
  if a = 0xF0E then TIME_LOCAL1.fields else
  if 0xF10 ≤ a ∧ a ≤ 0xF1C ∧ (a - 0xF10) % 4 = 0 then TIME_D_W0.fields ((a - 0xF10) / 4) else
  if 0xF11 ≤ a ∧ a ≤ 0xF1D ∧ (a - 0xF11) % 4 = 0 then TIME_D_W1.fields ((a - 0xF11) / 4) else
  if 0xF12 ≤ a ∧ a ≤ 0xF1E ∧ (a - 0xF12) % 4 = 0 then TIME_D_W2.fields ((a - 0xF12) / 4) else
  if 0xF13 ≤ a ∧ a ≤ 0xF1F ∧ (a - 0xF13) % 4 = 0 then TIME_D_W3.fields ((a - 0xF13) / 4) else
  if 0xF20 ≤ a ∧ a ≤ 0xF23 then TIME_INCR.fields (a - 0xF20) else
  if 0xF24 ≤ a ∧ a ≤ 0xF27 then TIME_OFFS.fields (a - 0xF24) else
  if 0xF28 ≤ a ∧ a ≤ 0xF2B then TIME_DSTAT.fields (a - 0xF28) else
  if 0xF2C ≤ a ∧ a ≤ 0xF2D then TIME_PTP.fields (a - 0xF2C) else
  []

/-- The fields at address `a` of the registers whose first lies on page 0x10. -/
def regsPage10 (a : Nat) : List Fld :=
  if a = 0x1000 then CUE_CTRL.fields else
  if a = 0x1001 then CUE_RESULT.fields else
  if a = 0x1002 then CUE_STATUS.fields else
  if a = 0x1003 then CUE_CNT.fields else
  if a = 0x1004 then CUE_FQ_CTRL.fields else
  if a = 0x1005 then CUE_FQ_SEL.fields else
  if a = 0x1006 then CUE_FQ_INFO.fields else
  if a = 0x1007 then CUE_FQ_TS0.fields else
  if a = 0x1008 then CUE_FQ_TS1.fields else
  if a = 0x1009 then CUE_FQ_TS2.fields else
  if a = 0x100A then CUE_CAP_STATUS.fields else
  if a = 0x100B then CUE_CAP_SEL.fields else
  if 0x1010 ≤ a ∧ a ≤ 0x1017 then CUE_E.fields (a - 0x1010) else
  if 0x1020 ≤ a ∧ a ≤ 0x1037 then CUE_CAP.fields (a - 0x1020) else
  []

/-- The fields at address `a` of the registers whose first lies on page 0x11. -/
def regsPage11 (a : Nat) : List Fld :=
  if 0x1100 ≤ a ∧ a ≤ 0x11FF then CUE_FQ_WIN.fields (a - 0x1100) else
  []

/-- The fields at address `a` of the registers whose first lies on page 0x12. -/
def regsPage12 (a : Nat) : List Fld :=
  if a = 0x1200 then NET_STATUS.fields else
  if 0x1201 ≤ a ∧ a ≤ 0x1202 then NET_ETH.fields (a - 0x1201) else
  if 0x1203 ≤ a ∧ a ≤ 0x1204 then NET_CAN.fields (a - 0x1203) else
  []

/-- The fields at address `a` of the registers whose first lies on page 0x13. -/
def regsPage13 (a : Nat) : List Fld :=
  if a = 0x1300 then SESS_CTRL.fields else
  if a = 0x1301 then SESS_RESULT.fields else
  if a = 0x1302 then SESS_SELF.fields else
  if a = 0x1303 then SESS_COUNT.fields else
  if a = 0x1304 then SESS_CNT.fields else
  if 0x1310 ≤ a ∧ a ≤ 0x131E then SESS_FUNC.fields (a - 0x1310) else
  if 0x1341 ≤ a ∧ a ≤ 0x137F then SESS_INFO.fields (a - 0x1341) else
  []

/-- The fields at address `a` of the registers whose first lies on page 0x14. -/
def regsPage14 (a : Nat) : List Fld :=
  if a = 0x1400 then REC_CFG.fields else
  if a = 0x1401 then REC_STATUS.fields else
  if a = 0x1402 then REC_LAST0.fields else
  if a = 0x1403 then REC_LAST1.fields else
  if a = 0x1404 then REC_CNT.fields else
  if a = 0x1410 then REC_EXP_CTRL.fields else
  if a = 0x1411 then REC_EXP_SEQ0.fields else
  if a = 0x1412 then REC_EXP_SEQ1.fields else
  if a = 0x1413 then REC_EXP_STATUS.fields else
  if 0x1440 ≤ a ∧ a ≤ 0x147F then REC_EXP_WIN.fields (a - 0x1440) else
  []

/-- The fields at address `a` of the registers whose first lies on page 0x15. -/
def regsPage15 (a : Nat) : List Fld :=
  if a = 0x1500 then LGR_CFG.fields else
  if a = 0x1501 then LGR_STATUS.fields else
  if a = 0x1502 then LGR_CP.fields else
  if 0x1510 ≤ a ∧ a ≤ 0x1530 ∧ (a - 0x1510) % 4 = 0 then LGR_CHG_LO.fields ((a - 0x1510) / 4) else
  if 0x1511 ≤ a ∧ a ≤ 0x1531 ∧ (a - 0x1511) % 4 = 0 then LGR_CHG_HI.fields ((a - 0x1511) / 4) else
  if 0x1512 ≤ a ∧ a ≤ 0x1532 ∧ (a - 0x1512) % 4 = 0 then LGR_DIS_LO.fields ((a - 0x1512) / 4) else
  if 0x1513 ≤ a ∧ a ≤ 0x1533 ∧ (a - 0x1513) % 4 = 0 then LGR_DIS_HI.fields ((a - 0x1513) / 4) else
  if a = 0x1540 then LGR_EXP_CTRL.fields else
  if a = 0x1541 then LGR_EXP_NUM.fields else
  if a = 0x1542 then LGR_EXP_STATUS.fields else
  if 0x1550 ≤ a ∧ a ≤ 0x1567 then LGR_EXP_WIN.fields (a - 0x1550) else
  if 0x1570 ≤ a ∧ a ≤ 0x157F then LGR_PUBKEY.fields (a - 0x1570) else
  []

/-- The fields at address `a` of the registers whose first lies on page 0x16. -/
def regsPage16 (a : Nat) : List Fld :=
  if a = 0x1600 then PWR_THRESH.fields else
  if a = 0x1601 then PWR_CFG.fields else
  if a = 0x1602 then PWR_CTRL.fields else
  if a = 0x1603 then PWR_RESULT.fields else
  if a = 0x1604 then PWR_STATUS.fields else
  if a = 0x1605 then PWR_VAUX.fields else
  if a = 0x1606 then PWR_HOLD.fields else
  if a = 0x1607 then PWR_START.fields else
  if a = 0x1608 then PWR_LIFE.fields else
  if a = 0x1609 then PWR_MAINT.fields else
  if a = 0x160A then PWR_CNT.fields else
  if a = 0x160B then PWR_VIN.fields else
  []

/-- The fields at address `a` of the registers whose first lies on page 0x40. -/
def regsPage40 (a : Nat) : List Fld :=
  if 0x4000 ≤ a ∧ a ≤ 0x6FF8 ∧ (a - 0x4000) % 8 = 0 then CELL_V.fields ((a - 0x4000) / 8) else
  if 0x4001 ≤ a ∧ a ≤ 0x6FF9 ∧ (a - 0x4001) % 8 = 0 then CELL_VAVG.fields ((a - 0x4001) / 8) else
  if 0x4002 ≤ a ∧ a ≤ 0x6FFA ∧ (a - 0x4002) % 8 = 0 then CELL_SOC.fields ((a - 0x4002) / 8) else
  if 0x4003 ≤ a ∧ a ≤ 0x6FFB ∧ (a - 0x4003) % 8 = 0 then CELL_SOH.fields ((a - 0x4003) / 8) else
  if 0x4004 ≤ a ∧ a ≤ 0x6FFC ∧ (a - 0x4004) % 8 = 0 then CELL_ZRE.fields ((a - 0x4004) / 8) else
  if 0x4005 ≤ a ∧ a ≤ 0x6FFD ∧ (a - 0x4005) % 8 = 0 then CELL_ZIM.fields ((a - 0x4005) / 8) else
  if 0x4006 ≤ a ∧ a ≤ 0x6FFE ∧ (a - 0x4006) % 8 = 0 then CELL_TVIRT.fields ((a - 0x4006) / 8) else
  if 0x4007 ≤ a ∧ a ≤ 0x6FFF ∧ (a - 0x4007) % 8 = 0 then CELL_FLAGS.fields ((a - 0x4007) / 8) else
  []

/-- The fields at address `a` of the registers whose first lies on page 0x70. -/
def regsPage70 (a : Nat) : List Fld :=
  if 0x7000 ≤ a ∧ a ≤ 0x77FE ∧ (a - 0x7000) % 2 = 0 then TEMP_RAW.fields ((a - 0x7000) / 2) else
  if 0x7001 ≤ a ∧ a ≤ 0x77FF ∧ (a - 0x7001) % 2 = 0 then TEMP_VAL.fields ((a - 0x7001) / 2) else
  []

/-- The fields at address `a` of the registers whose first lies on page 0x78. -/
def regsPage78 (a : Nat) : List Fld :=
  if 0x7800 ≤ a ∧ a ≤ 0x7FFF then LRN_WIN.fields (a - 0x7800) else
  []

/-- The fields of the register at address `a`: none when no page maps it, no field when it is reserved
inside its page (R396, R397). -/
def regFields (a : Nat) : Option (List Fld) :=
  match a / 256 with
  | 0 => some (regsPage0 a)
  | 1 => some (regsPage1 a)
  | 2 => some (regsPage2 a)
  | 3 => some (regsPage3 a)
  | 4 => some (regsPage4 a)
  | 5 => some (regsPage5 a)
  | 6 => some (regsPage6 a)
  | 7 => some (regsPage7 a)
  | 8 => some (regsPage8 a)
  | 9 => some (regsPage9 a)
  | 10 => some (regsPageA a)
  | 11 => some (regsPageB a)
  | 12 => some (regsPageC a)
  | 13 => some (regsPageD a)
  | 14 => some (regsPageE a)
  | 15 => some (regsPageF a)
  | 16 => some (regsPage10 a)
  | 17 => some (regsPage11 a)
  | 18 => some (regsPage12 a)
  | 19 => some (regsPage13 a)
  | 20 => some (regsPage14 a)
  | 21 => some (regsPage15 a)
  | 22 => some (regsPage16 a)
  | k =>
    if 0x40 ≤ k ∧ k < 0x70 then some (regsPage40 a)
    else if 0x70 ≤ k ∧ k < 0x78 then some (regsPage70 a)
    else if 0x78 ≤ k ∧ k < 0x80 then some (regsPage78 a)
    else none

/-- The function that owns a register (R396): ACQ_PH_CFG and the zero-crossing registers are TIME's; the
kernel's and the identity pages have no owner. DEDUCED, log 18. -/
def regOwner (a : Nat) : Option Func :=
  match a / 256 with
  | 4 | 5 => some .acq
  | 6 => if a = 0x600 ∨ (0x60A ≤ a ∧ a ≤ 0x60D) then some .time else some .acq
  | 7 => some .est
  | 8 => some .lrn
  | 9 => some .lim
  | 10 => some .seq
  | 11 => some .thw
  | 12 => some .bal
  | 13 => some .chn
  | 14 => some .saf
  | 15 => some .time
  | 16 | 17 => some .cue
  | 18 => some .net
  | 20 => some .recorder
  | 21 => some .lgr
  | 22 => some .pwr
  | k =>
    if 0x40 ≤ k ∧ k < 0x70 then some (if a % 8 < 2 then .acq else .est)
    else if 0x70 ≤ k ∧ k < 0x78 then some (if a % 2 = 0 then .acq else .thw)
    else if 0x78 ≤ k ∧ k < 0x80 then some .lrn
    else none

end Sys2Proof.Machine
end

