-- ==== Sys2Proof/Config.lean ====
section
/-! DEFINITION. What an implementation fixes, and the values the spec leaves open. Each opaque constant
has no body: no proof can see its value, so a statement that names one holds whatever it is. -/

namespace Sys2Proof

/-- What the module reads from one port record of TOPOLOGY (R40, R41). `str` is 255 for an unused
port, `kind` the identity input kind. -/
structure PortRec where
  str : Nat
  inputs : Nat
  temps : Nat
  profile : Nat
  kind : IdentKind
  deriving DecidableEq, Repr

def PortRec.unused : PortRec := ⟨255, 0, 0, 0, .none⟩

/-- What the module reads from one string record of TOPOLOGY (R15, R40): whether it is configured, its
rated current in A, its shunt resistance in Ω, its monitor ports in series order and its front port's
link controller. -/
structure StrRec where
  conf : Bool
  rated : Rat
  shunt : Rat
  order : List Nat
  front : Nat
  deriving DecidableEq, Repr

def StrRec.unused : StrRec := ⟨false, 0, 0, [], 0⟩

/-- The structure the module holds for the running image's TOPOLOGY section (R15, R54). -/
structure Topo where
  strs : List (Nat × StrRec)
  ports : List (Nat × PortRec)
  deriving DecidableEq, Repr, Inhabited

/-- A number the spec leaves open, fresh for each draw. DESIGN CHOICE, log 6. -/
opaque Config.freeNat : Nat → Nat

/-- A choice the spec leaves open (a test whose outcome no rule decides), fresh for each draw.
DESIGN CHOICE, log 6. -/
opaque Config.freeBool : Nat → Bool

/-- The device ID of R36 and R399, set at the factory. DESIGN CHOICE, log 7. -/
opaque Config.deviceId : Nat

/-- ID_HW: the hardware revisions, set at the factory (R399). DESIGN CHOICE, log 7. -/
opaque Config.hwRev : Nat

/-- The module's static session private key, from the key store (R325, R327). DESIGN CHOICE, log 7. -/
opaque Config.sessionPriv : List Byte

/-- The public half of the factory access key, KEY_ID 0, from the key store (R47, R325). DESIGN CHOICE, log 7. -/
opaque Config.factoryKey : List Byte

/-- The IP address of ETH0 with no image, 4 or 16 bytes, from the key store (R47). DESIGN CHOICE, log 7. -/
opaque Config.factoryAddr : List Byte

/-- The P-256 public key of a private key, as the number its 64 bytes hold (R326). DESIGN CHOICE, log 7. -/
opaque Config.ecPublic : List Byte → Nat

/-- ECDH on P-256, the named standard of R327: private key, public key. DESIGN CHOICE, log 7. -/
opaque Config.ecdh : List Byte → List Byte → List Byte

/-- HKDF-SHA-256 of RFC 5869, as R327 uses it: salt, IKM and info to the number its 40 bytes hold. DESIGN CHOICE, log 7. -/
opaque Config.hkdf : List Byte → List Byte → List Byte → Nat

/-- AES-128-GCM, the named standard of R321: key, nonce, additional data and plaintext to the number that
ciphertext and tag hold. DESIGN CHOICE, log 7. -/
opaque Config.gcm : List Byte → List Byte → List Byte → List Byte → Nat

/-- The module's static session public key, 64 bytes, from the key store (R326, R399). DESIGN CHOICE, log 7. -/
opaque Config.sessionKey : List Byte

/-- The device's public signing key, 64 bytes, from the key store (R357, R360). DESIGN CHOICE, log 7. -/
opaque Config.devicePub : List Byte

/-- The signature of the device signing key over a digest: r then s, 64 bytes (R357). DESIGN CHOICE, log 7. -/
opaque Config.deviceSign : List Byte → List Byte

/-- Sungeur's root public key in the key store (R38). DESIGN CHOICE, log 7. -/
opaque Config.rootKey : List Byte

/-- SHA-256, the named standard of R36, R38, R57, R326 and R357. DESIGN CHOICE, log 7. -/
opaque Config.sha256 : List Byte → List Byte

/-- ECDSA P-256 verification, the named standard of R38: key, digest, r and s. DESIGN CHOICE, log 7. -/
opaque Config.ecdsaOk : List Byte → List Byte → List Byte → List Byte → Bool

/-- What the TOPOLOGY section's bytes say: R40 names what its records hold and the spec gives no
byte layout of them. DESIGN CHOICE, log 8. -/
opaque Config.readTopo : List Byte → Topo

/-- The public keys and rights bits (bit 0 images, bit 1 beds) the SIGNERS section's bytes hold: R39 and
R40 name them and the spec gives no byte layout. DESIGN CHOICE, log 8. -/
opaque Config.readSigners : List Byte → List (List Byte × Nat)

/-- The value an FP32 pattern that is no finite number is taken for, where a rule computes with it. DESIGN CHOICE, log 9. -/
opaque Config.f32Odd : Nat → Rat

/-- Rounding of one FP32 computation (R31's estimator works in FP32): the spec fixes neither the order
of the operations nor the low bits. DESIGN CHOICE, log 9. -/
opaque Config.fp32 : Rat → Rat

/-- What a computed value holds where its formula divides the given number by 0. DESIGN CHOICE, log 95. -/
opaque Config.divZero : Rat → Rat

/-- The exponential function as the estimator computes it. DESIGN CHOICE, log 7. -/
opaque Config.exp : Rat → Rat

/-- The natural logarithm as the module computes it. DESIGN CHOICE, log 7. -/
opaque Config.ln : Rat → Rat

/-- The cosine of an angle given in turns. DESIGN CHOICE, log 7. -/
opaque Config.cosTurn : Rat → Rat

/-- The sine of an angle given in turns. DESIGN CHOICE, log 7. -/
opaque Config.sinTurn : Rat → Rat

/-- The angle of a complex number in degrees. DESIGN CHOICE, log 7. -/
opaque Config.argDeg : Rat → Rat → Rat

/-- The square root. DESIGN CHOICE, log 7. -/
opaque Config.sqrt : Rat → Rat

/-- A comparator code of R267 beyond the 16 bits of its register: the spec states no result there. DESIGN CHOICE, log 9. -/
opaque Config.wideCode : Nat → BitVec 16

end Sys2Proof
end

