-- ==== Sys2Proof/Machine/State.lean ====
section
/-! DEFINITION. State: everything the spec gives the module, as plain data.

The software-visible registers live in `Dev.regs`, field by field (Fld.lean); the structures below
hold what is no register: the working state of each function, the contents of the MRAM banks and the
retention cells, the sessions, the time domains and the companions' registers as the module last wrote
them. An array is a list of (index, element) in the canonical form of Tbl.lean; an index that is not
listed reads as the named default. -/

namespace Sys2Proof.Machine


/-! ### Trellis image and beds (R35 to R60) -/

/-- The two Trellis copies and the two code copies in MRAM, byte by byte (R20, R45, R57): an unlisted
byte reads 0. `run` names the running Trellis copy, 0 A, 1 B, 3 none (R60); `active` the active slot of
each bed, 0 A, 1 B (R58); `redo` what a mirror under way copies, which a start repeats (R46, R390): 0 the image,
else the bed. -/
structure Mem where
  copyA : List Host.Cell
  copyB : List Host.Cell
  codeA : List Host.Cell
  codeB : List Host.Cell
  run : Nat
  active : List (Nat × Nat)
  redo : Option Nat
  deriving DecidableEq, Repr

/-- What the load context serves (R48). -/
inductive LoadKind where
  | image
  | bed (id : Nat)
  deriving DecidableEq, Repr

/-- The load context beside its registers (R48 to R56): what it serves, the verified serial,
the beds whose outage runs (R58) and the clk at which the APPLY that is pending was accepted (R52, R59). -/
structure LoadSt where
  kind : LoadKind
  serial : Nat
  outage : List Nat
  at_ : Nat
  deriving DecidableEq, Repr

def LoadSt.idle : LoadSt := ⟨.image, 0, [], 0⟩

/-! ### Port links and companions (R61 to R91) -/

/-- The step of R83 at which a port's training stands. -/
inductive TrainStep where
  | idle
  /-- Step 1: POLL until a STATUS arrives. -/
  | poll
  /-- Step 2: the identity READ is awaited. -/
  | kind
  /-- Step 3: eight probes. -/
  | probes
  /-- Step 4: registers written, acknowledgements and THRESH_CRC awaited. -/
  | thresholds
  /-- Step 5: strobing, the TEMPS frame is awaited (monitor ports). -/
  | temps
  /-- Step 6: the next sweep boundary sets UP. -/
  | boundary
  deriving DecidableEq, Repr

/-- A downlink frame of R72. `entries` are the addresses and values of a WRITE, or the address and
count of a READ; `retry` its header bit. -/
structure Down where
  ftype : Nat
  seq : Nat
  entries : List (Nat × Nat)
  retry : Bool
  deriving DecidableEq, Repr

/-- A frame's header word (R71). -/
def headerWord (ftype seq len : Nat) (retry : Bool) : Nat :=
  ftype * 2 ^ 28 + seq * 2 ^ 20 + len * 2 ^ 12 + retry.toNat * 2 ^ 8

/-- Its payload words (R72): an entry of a WRITE has its address in [31:24] and its value in [15:0], that of a
READ its count in [23:16]. -/
def Down.payload (f : Down) : List Nat :=
  f.entries.map fun e => e.1 * 2 ^ 24 + (if f.ftype = 2 then e.2 * 2 ^ 16 else e.2)

/-- The link controller's working state beside PORT_STATE, PORT_DELAY, PORT_LOOP, PORT_STAT,
PORT_IDENT and PORT_ERR. `fails` counts failed attempts in a row (R82); `probes` the delays in ns of the
training, or the last five accepted ones; `discards` probes discarded in a row (R66); `newDelay` a
delay for the next boundary; `lat` STROBE_LAT; `reloads` threshold reloads in a row (R78); `threshBad`
that every sweep counts as missed; `valid` the valid sample frames of this sweep (R85), `got` that this
strobe's has come; `awaits` the
downlink frame in flight; `queue` the frames still to be sent; `cmds` the command count and `strobes`
the strobe count of R71; `comp` the companion's registers as the module last wrote them; `mask` and
`maskKnown` the switch mask loaded in the companion (R109); `newMask` one written and not acknowledged,
`nextMask` one
acknowledged that the companion applies after strobe 0 (R226);
`tempReq` a TEMPS frame is due, `tempRepeat` its one repeat is due (R105). -/
structure PortSt where
  step : TrainStep
  fails : Nat
  single : Bool
  probes : List Int
  discards : Nat
  newDelay : Option Int
  lat : Nat
  reloads : Nat
  threshBad : Bool
  valid : Nat
  got : Bool
  awaits : Option Down
  queue : List Down
  cmds : Nat
  strobes : Nat
  comp : List (Nat × Nat)
  mask : Nat
  maskKnown : Bool
  newMask : Option Nat
  nextMask : Option Nat
  tempReq : Bool
  tempRepeat : Bool
  deriving DecidableEq, Repr

/-- What a companion's registers hold from its power-up to step 4 of R83: LINK_TIMEOUT, QW_PRE and QW_POST, the
others 0 (R415). -/
def powerUpComp : List (Nat × Nat) := [(3, 100), (9, 150), (10, 50)]

def PortSt.blank : PortSt :=
  ⟨.idle, 0, false, [], 0, none, 1000, 0, false, 0, false, none, [], 0, 0, powerUpComp, 0, true, none, none, false, false⟩

/-! ### Phase-locked acquisition (R92 to R115) -/

/-- The validity of a sample (R107). -/
inductive Validity where
  | ok
  | disturbed
  | suspect
  | stale
  deriving DecidableEq, Repr

/-- A cell sample of one strobe. -/
structure CellSmp where
  strobe : Nat
  code : Nat
  val : Validity
  deriving DecidableEq, Repr

/-- A string's sample of one strobe: the current in A, the three HV voltages in V, each with its
validity, and the clk of the strobe. -/
structure StrSmp where
  strobe : Nat
  at_ : Nat
  i : Rat
  iVal : Validity
  vstr : Rat
  vstrVal : Validity
  vbus : Rat
  vbusVal : Validity
  vpre : Rat
  vpreVal : Validity
  deriving DecidableEq, Repr

/-- One string, or the bank as 8, at a sweep's end (R121, R134, R138): its charge accumulator in A·s, for how
long in s its
cycle mean has been below, and not below, the discharge threshold in consecutive sweeps, for how long it has
stayed in the
rest band, and the cycle in which that rest began. -/
structure StrEnd where
  charge : Rat
  below : Rat
  above : Rat
  rest : Rat
  restFrom : Nat
  deriving DecidableEq, Repr

def StrEnd.blank : StrEnd := ⟨0, 0, 0, 0, 0⟩

/-- One half of the sample ring (R34): a sweep's cycle, N and cycle length in s, its cell samples and
string samples, newest first, the cells R110 marks DISTURBED for the whole sweep, and the cells R109
marks at the current strobe. At its end it takes the instant in clk at which its cycle ends, the blocks that
missed it
(R85), the strings and the bank as they stand, and the charge balancing had removed of each cell by then;
`unlocked` says
that the phase clock was in a state other than LOCKED during it. `on` holds, for each cell whose switch
conducted, the
strobes that open such an interval and its on-time in s (R229). -/
structure Sweep where
  cycle : Nat
  n : Nat
  tc : Rat
  cells : List (Nat × List CellSmp)
  strs : List (Nat × List StrSmp)
  adj : List Nat
  dist : List Nat
  endAt : Rat
  unlocked : Bool
  missed : List Nat
  ends : List (Nat × StrEnd)
  bal : List (Nat × Rat)
  on : List (Nat × List (Nat × Rat))
  deriving DecidableEq, Repr

def Sweep.blank : Sweep := ⟨0, 32, 0, [], [], [], [], 0, false, [], [], [], []⟩

/-- The phase clock (R92 to R102). `start` is the instant of the current cycle's phase 0x0000 in clk,
kept exactly; `rate` the cycle's rate in Hz; `hold` the HOLD rate; `k` the next strobe's index; `cross`
the last detected and `accepted` the last accepted crossing in clk; `ivals` the last accepted intervals
in clk, newest first; `qual` how many accepted in a row agree; `good` and `bad` the boundaries of R99;
`n` and `nNext` the N in force and the one evaluated for the next boundary; `balHold` the balancing hold
of R102; `boundAt` the clk of the last sweep boundary (R25). -/
structure PhaseSt where
  cycle : Nat
  start : Rat
  rate : Rat
  hold : Rat
  k : Nat
  cross : Option Rat
  accepted : Option Rat
  ivals : List Rat
  qual : Nat
  good : Nat
  bad : Nat
  n : Nat
  nNext : Nat
  balHold : Bool
  boundAt : Nat
  deriving DecidableEq, Repr

def PhaseSt.start0 : PhaseSt := ⟨0, 0, 50, 50, 0, none, none, [], 0, 0, 0, 32, 32, false, 0⟩

/-- The sample ring (R34): the sweep being filled, the completed sweep EST works on and one that ended while
EST still did, the cycle mean of each string's OK currents of the last completed sweep in A, absent without
an OK sample; that an ACQ STOP found a string connected (R24); that the last strobe's samples have not been
counted yet (R121), and that they belong to the running capture (R311). -/
structure AcqSt where
  fill : Sweep
  done : Option Sweep
  late : Option Sweep
  mean : List (Nat × Option Rat)
  stopHeld : Bool
  waits : Bool
  capture : Bool
  deriving DecidableEq, Repr

def AcqSt.start : AcqSt := ⟨.blank, none, none, [], false, false, false⟩

/-! ### Cell state estimation (R116 to R140) -/

/-- The filtered impedance at one harmonic slot (R127 to R130): real and imaginary part in Ω, the
number of the last accepted cycle, whether it is AGED, and for H0 the tracked mean square deviation of its
phase. -/
structure ZSt where
  re : Rat
  im : Rat
  at_ : Nat
  any : Bool
  aged : Bool
  dev : Rat
  deriving DecidableEq, Repr

def ZSt.blank : ZSt := ⟨0, 0, 0, false, true, 0⟩

/-- One cell's filter and learned values (R117 to R130, R136, R148, R151) beside its registers. `init` says
the filter has its initial values; `p` the nine entries of P, row by row; Q in Ah; `heat` T_model with
`heated` once it has been other than the default; `reported` absent until the first processed sweep, and
after R125 or R148; `low` sweeps in a row at or below V_EMPTY and `empty` voltage-empty at cell level;
`z0`, `z1`, `z2` the three slots; `bal` the charge in A·s balancing has removed since the start, `balAt` its
value at the end
of the last processed sweep, and `okCode` the cell's last OK code before the sweep in progress (R229); `count`
the counted charge weighted by eta; `zTime` the time in s in which Z at H0 has been
accepted since the declaration; `anchor` SoC, counted charge and clk of a capacity anchor; `pending` a
capacity and its weight due at step 4; `relearned` an update since STALE was set; `skip` EKF_SKIP and `cold`
T_DEFAULT
as the next publication shows them. -/
structure CellEst where
  init : Bool
  soc : Rat
  va : Rat
  vb : Rat
  p : List Rat
  rohm : Rat
  rpa : Rat
  cpa : Rat
  rpb : Rat
  cpb : Rat
  q : Rat
  heat : Rat
  heated : Bool
  reported : Option Rat
  low : Nat
  empty : Bool
  z0 : ZSt
  z1 : ZSt
  z2 : ZSt
  bal : Rat
  balAt : Rat
  okCode : Nat
  count : Rat
  qLearned : Bool
  zLearned : Bool
  zTime : Rat
  qUpdates : Nat
  anchor : Option (Rat × Rat × Nat)
  pending : Option (Rat × Rat)
  relearned : Bool
  skip : Bool
  cold : Bool
  deriving DecidableEq, Repr

def CellEst.blank : CellEst :=
  { init := false, soc := 0, va := 0, vb := 0, p := [], rohm := 0, rpa := 0, cpa := 0, rpb := 0, cpb := 0
    q := 0, heat := 25, heated := false, reported := none, low := 0, empty := false, z0 := .blank
    z1 := .blank, z2 := .blank, bal := 0, balAt := 0, okCode := 0, count := 0, qLearned := false, zLearned := false, zTime := 0
    qUpdates := 0, anchor := none, pending := none, relearned := false, skip := false, cold := false }

/-- One string's estimation state (R121, R128, R131, R134 to R138), or the bank's as 8: the charge accumulator
in A·s and
its value at the end of the last processed sweep, the last OK current in A, the reported SoC and SoE, arg(Ih)
in degrees
and the end in clk of the last accepted cycle by harmonic slot, and for how long in s Z at H0 has been
accepted in every
sweep while a probe is requested; the runs of sweeps as `StrEnd` has them; what the next publication shows in
EST_SFLAGS
(DISCHARGING, EMPTY_HOLD, VOLT_EMPTY, the two disagreements, PROBE); that the string has become voltage-empty
in the sweep
being processed, and the run of rest that has qualified. -/
structure StrEst where
  charge : Rat
  chargeAt : Rat
  lastI : Rat
  soc : Option Rat
  soe : Option Rat
  args : List (Nat × (Rat × Rat))
  probed : Rat
  below : Rat
  above : Rat
  rest : Rat
  restFrom : Nat
  dis : Bool
  hold : Bool
  empty : Bool
  first : Bool
  voltCount : Bool
  countVolt : Bool
  probe : Bool
  rested : Option Nat
  deriving DecidableEq, Repr

def StrEst.blank : StrEst :=
  ⟨0, 0, 0, none, none, [], 0, 0, 0, 0, 0, false, false, false, false, false, false, false, none⟩

/-- EST: the cells, the strings and the bank (as 8), whether a sweep has been processed since the start, its
cycle and
the instant of its end in clk; that EST resumes from STOP, idle or an outage, and the first cycle it processes
then (R122);
and the cycle of the sweep whose steps 1 to 7 are done. -/
structure EstSt where
  cells : List (Nat × CellEst)
  strs : List (Nat × StrEst)
  any : Bool
  last : Nat
  lastEnd : Rat
  resume : Bool
  from_ : Nat
  worked : Option Nat
  deriving DecidableEq, Repr

def EstSt.start : EstSt := ⟨[], [], false, 0, 0, false, 0, none⟩


/-! ### Learned data (R141 to R154) -/

/-- One block's learning state (R147, R148): its state code, whether it has a reference and the reference
identity and signature in K, how many
frames in a row have shown a changed reading, missing readings in a row, whether it holds new_block_hold, for
how long in s
its string has rested since the declaration, a declaration not yet carried out, and that steps 1 to 4 of R148
wait for EST's START. -/
structure BlockSt where
  state : Nat
  known : Bool
  ref0 : Nat
  ref1 : Nat
  sig : List (Option Rat)
  run : Nat
  missRun : Nat
  hold : Bool
  rest : Rat
  declared : Bool
  late : Bool
  deriving DecidableEq, Repr

def BlockSt.blank : BlockSt := ⟨0, false, 65535, 65535, [], 0, 0, false, 0, false, false⟩

/-- One string's learned values (R141, R150): Q_STR in Ah and R_STR in Ω with STALE, LEARNED and
LEARN_TIME. -/
structure StrLrn where
  q : Rat
  r : Rat
  stale : Bool
  learned : Bool
  learnTime : Nat
  fec : Nat
  deriving DecidableEq, Repr

def StrLrn.blank : StrLrn := ⟨0, 0, false, false, 0, 0⟩

/-- LRN: blocks, strings, the shared buffer (R142, R143), the blocks a restore that is to be swapped in
accepts and takes as pending (R145), and the last instant in clk at which ACQ or LRN was not RUN
(R151). -/
structure LrnSt where
  blocks : List (Nat × BlockSt)
  strs : List (Nat × StrLrn)
  buf : List Host.Cell
  accepted : List Nat
  pending : List Nat
  broken : Nat
  fec : Nat
  copied : Bool
  word : Nat
  checkedAt : Nat
  deriving DecidableEq, Repr

def LrnSt.start : LrnSt := ⟨[], [], [], [], [], 0, 0, false, 0, 0⟩


/-! ### Power envelope and throttling (R155 to R175) -/

/-- The limits of one string or the bank at the four horizons: currents in A and powers in W, charge
then discharge. -/
structure Lims where
  chg : List Rat
  dis : List Rat
  pchg : List Rat
  pdis : List Rat
  deriving DecidableEq, Repr

def Lims.zero : Lims := ⟨[0, 0, 0, 0], [0, 0, 0, 0], [0, 0, 0, 0], [0, 0, 0, 0]⟩

/-- One string or the bank in LIM (R156 to R171): the base currents of the last processed sweep, Σ v_base
and Σ Reff over the cells at each horizon and Σ Ro; the last published limits; 2 s limits (charge,
discharge) published earlier and above those, with the clk at which each was replaced; sweeps in a row
non-compliant and compliant; the stage as LIM_STAT codes it and the clk of its entry, or of the bank
ladder's last opening; whether REQUEST holds otherwise (R169). -/
structure LimOne where
  baseChg : List Rat
  baseDis : List Rat
  sumV : List Rat
  sumR : List Rat
  r : Rat
  pub : Lims
  hist : List (Nat × (Rat × Rat))
  excess : Nat
  within : Nat
  stage : Nat
  stageAt : Nat
  request : Bool
  deriving DecidableEq, Repr

def LimOne.blank : LimOne := ⟨[], [], [], [], 0, .zero, [], 0, 0, 0, 0, false⟩

/-- LIM: strings and bank (8); the cycle of the last sweep that ended; EST_OVERRUN publications in a row,
publications on time in a row, and that R33 holds CONSERV_MODE; the last sequence number; the strings the
bank ladder has opened and that are not yet reclosed; the cycle of the last publication (R312). -/
structure LimSt where
  ones : List (Nat × LimOne)
  swept : Option Nat
  overruns : Nat
  onTime : Nat
  conserv : Bool
  seq : Nat
  shed : List Nat
  sent : Option Nat
  deriving DecidableEq, Repr

def LimSt.start : LimSt := ⟨[], none, 0, 0, false, 0, [], none⟩

/-! ### String sequencing (R176 to R203) -/

/-- Where a string stands in its closing (R187, R190). -/
inductive CloseStep where
  /-- Not closing, or only queued. -/
  | idle
  /-- PRE coil on, PRE aux awaited (step 1). -/
  | preOn
  /-- The 100 ms NEG-weld watch (step 2). -/
  | watch
  /-- NEG coil on, NEG aux awaited (step 3). -/
  | negOn
  /-- Charging through the resistor, t0, t90 and the match sought (steps 4 to 6). -/
  | charge
  /-- The fit is waived; 100 ms to step 6. -/
  | waived
  /-- The fit is waived and the 100 ms are over; a match at a strobe is sought (step 6). -/
  | matchWait
  /-- POS coil on, POS aux awaited (step 7). -/
  | posOn
  /-- OVERLAP runs (step 8). -/
  | overlap
  /-- PRE coil off, PRE aux open awaited (step 9). -/
  | preOff
  deriving DecidableEq, Repr

/-- Where a string stands in its opening (R191). -/
inductive OpenStep where
  | idle
  /-- DRAINING: the current within 2% of rated, or ORDER_WAIT, is awaited (step 2). -/
  | drain
  /-- DRAINING: |I| at or below I_BREAK is awaited; BREAK_WAIT runs (step 3, R172). -/
  | breakWait
  /-- POS coil off, POS aux open awaited (step 4). -/
  | posOff
  /-- POS open, 10 ms of low current awaited (step 4). -/
  | lowWait
  /-- PRE coil off, 20 ms to the NEG coil (step 4). -/
  | negDelay
  /-- NEG coil off, NEG aux open awaited (step 5). -/
  | negOff
  /-- Immediate opening: every coil off, every aux open awaited (R191). -/
  | allOff
  deriving DecidableEq, Repr

/-- The strobe samples of one pre-charge (R188): the time of t0 in clk, d at t0, t90 in clk when
reached, the points of the fit as (t, d, I), the sum and the count of d / I over them and the energy. -/
structure Fit where
  t0 : Option Nat
  d0 : Rat
  t90 : Option Nat
  pts : List (Rat × Rat × Rat)
  energy : Rat
  deriving DecidableEq, Repr

def Fit.start : Fit := ⟨none, 0, none, [], 0⟩

/-- The working state of one string's sequence beside SEQ_STATE, SEQ_PRE, SEQ_PREC and SEQ_TIMER. -/
structure StrSeq where
  close : CloseStep
  opn : OpenStep
  /-- Closing by join onto a held bus (R190). -/
  join : Bool
  /-- First to join after the bank was closed or with nothing connected (R189). -/
  first : Bool
  /-- VBUS at step 1 and whether the NEG-weld check is inconclusive (R187). -/
  vbus1 : Rat
  skip : Bool
  fit : Fit
  /-- Whether the opening ends in COOLDOWN rather than OPEN (R189). -/
  cool : Bool
  /-- The instant in clk at which a cooldown or a reclose hold ends, 0 for none (HOLD_LEFT). -/
  holdEnd : Nat
  /-- The instant in clk of queueing (R185). -/
  queuedAt : Nat
  /-- The instant in clk of the NEG command (R187). -/
  negAt : Nat
  /-- The instant in clk of the PRE command (R187). -/
  preAt : Nat
  /-- The cause an orderly opening runs under (SUPPLY_PRUNE waits for nothing, R191). -/
  cause : Nat
  /-- A HOLD latch stands (LIM_NONCOMPLIANCE, R196). -/
  hold : Bool
  /-- NEG is closed on a join and the repeated prediction is awaited (R190). -/
  again : Bool
  deriving DecidableEq, Repr

def StrSeq.idle : StrSeq :=
  ⟨.idle, .idle, false, false, 0, false, .start, false, 0, 0, 0, 0, 0, false, false⟩

/-- Where the bank contactors stand in their closing and opening (R186, R192, R199). -/
inductive BankStep where
  | idle
  | bnegOn
  | bpreOn
  | settle
  | bposOn
  | overlap
  | bpreOff
  /-- Orderly opening: the last string is awaited. -/
  | waitOpen
  /-- BPOS off, 20 ms to BNEG. -/
  | bnegDelay
  /-- Every bank coil off, aux open awaited. -/
  | allOff
  deriving DecidableEq, Repr

/-- The wear entry of one contactor (R195), held in MRAM bank A. -/
structure Wear where
  ops : Nat
  breaks : Nat
  excess : Nat
  welds : Nat
  sum : Nat
  imax : Nat
  deriving DecidableEq, Repr

def Wear.zero : Wear := ⟨0, 0, 0, 0, 0, 0⟩

/-- SEQ's working state: coils on (by wear index), aux contacts reading closed, the join queue in the
order of queueing, the string sequences, the bank's step, coil-offs T_OPEN has not judged yet (R193),
SHUNT_TRIP firing (R192), the current at the
last strobe, which the wear of an opening takes (R195), and a written shed order not yet in force
(R201). -/
structure SeqSt where
  coil : List (Nat × Bool)
  aux : List (Nat × Bool)
  queue : List Nat
  strs : List (Nat × StrSeq)
  bank : BankStep
  judge : List (Nat × Bool)
  firing : Bool
  shed : Option Nat
  deriving DecidableEq, Repr

def SeqSt.start : SeqSt := ⟨[], [], [], [], .idle, [], false, none⟩

/-! ### Thermal watch (R204 to R224) -/

/-- One pack point beside its TEMP_RAW and TEMP_VAL registers (R205 to R213): the clk of its last code,
SUSPECT or not, if any
(R113); whether it has been converted
since the start, its last measured value in °C and the clk of that conversion, failed and unfailed
conversions in a row, and the values its rates use as (clk, value), newest first (R210); and the standing that
an ECC error
in its record has replaced for the sweep (R18). -/
structure PointSt where
  rawAt : Option Nat
  any : Bool
  temp : Rat
  at_ : Nat
  bad : Nat
  good : Nat
  hist : List (Nat × Rat)
  ecc : Option Nat
  deriving DecidableEq, Repr

def PointSt.blank : PointSt := ⟨none, false, 0, 0, 0, 0, [], none⟩

/-- A pack point as a sweep's end finds it (R215): with its standing and the validity of its last sample. -/
structure PointEnd where
  point : PointSt
  standing : Nat
  valid : Nat
  deriving DecidableEq, Repr

/-- What a THRM outage buffers (R58): a reading of the internal points, or the codes of a TEMPS frame of a
monitor port with
ADC_SELFTEST and the clk at which it came. -/
inductive ThwSample where
  | internal (temps : List Int)
  | frame (k : Nat) (suspect : Bool) (codes : List Nat) (at_ : Nat)
  deriving DecidableEq, Repr

/-- One zone (R215 to R220): its factors f_abs and f, its flags, the hold reference in °C and the clk at
which its hold timer started, what sets its maximum (`src` as THW_ZMAX codes it, 3 none, with the index and
that point's
standing),
whether ZONE_LEVEL and ZONE_RATE held at the last evaluation, and at that and the one before. -/
structure ZoneSt where
  fAbs : Rat
  f : Rat
  rateHigh : Bool
  hold : Bool
  holdTemp : Rat
  holdFrom : Nat
  blind : Bool
  warn : Bool
  throttle : Bool
  src : Nat
  hottest : Nat
  stand : Nat
  level : Bool
  rate : Bool
  levelTwo : Bool
  rateTwo : Bool
  deriving DecidableEq, Repr

def ZoneSt.blank : ZoneSt :=
  ⟨1, 1, false, false, 0, 0, false, false, false, 3, 0, 0, false, false, false, false⟩

/-- THW: points, zones, consecutive readings of each internal point at or above INT_SHUT, and the thermal
latch in its retention cell (R222), with what the last THERMAL_SHUTDOWN record holds as THW_LATCH reads it
(cause, index, value) and that the latch has cleared since; the points at the last sweep's end; what an outage
has
buffered; and that a shutdown has been declared whose record is still to be written (R221). -/
structure ThwSt where
  points : List (Nat × PointSt)
  zones : List (Nat × ZoneSt)
  intRun : List (Nat × Nat)
  latch : Bool
  last : Nat × Nat × Nat
  cleared : Bool
  ended : List (Nat × PointEnd)
  buffer : List ThwSample
  declared : Bool
  deriving DecidableEq, Repr

def ThwSt.start : ThwSt := ⟨[], [], [], false, (0, 0, 0), false, [], [], false⟩

/-! ### Cell balancing (R225 to R236) -/

/-- A switch test under way on a port (R233, R234). `cmd` that a TEST command asked for it; `stage` 1 in
cycle b, 2 in cycle b + 1, 3 while the readback is awaited, 0 between attempts; `fails` and `unclear` the
failed attempts in a row and the inconclusive ones; the cell codes and string currents kept at strobe
N/2, absent where a sample was not OK. -/
structure BalTest where
  input : Nat
  cmd : Bool
  stage : Nat
  fails : Nat
  unclear : Nat
  vOff : Option Nat
  iOff : Option Rat
  vOn : Option Nat
  iOn : Option Rat
  deriving DecidableEq, Repr

def BalTest.start (input : Nat) (cmd : Bool) : BalTest := ⟨input, cmd, 0, 0, 0, none, none, none, none⟩

/-- One port in BAL: its forced mask and whether it is forced CONTINUOUS (R231), the inputs still to be
tested with whether a TEST command asked for them, and the test under way. -/
structure BalPort where
  forced : Option Nat
  cont : Bool
  todo : List (Nat × Bool)
  test : Option BalTest
  deriving DecidableEq, Repr

def BalPort.blank : BalPort := ⟨none, false, [], none⟩

/-- BAL: which cells are active (R228), the ports, whether a test pass runs and the step of each string,
one above its input (R232), the pass's counts, and the age in seconds of the last complete pass as it was at
clk 0 (R235). -/
structure BalSt where
  active : List (Nat × Bool)
  ports : List (Nat × BalPort)
  pass : Bool
  steps : List (Nat × Nat)
  tested : Nat
  failed : Nat
  unclear : Nat
  ageS : Int
  deriving DecidableEq, Repr

def BalSt.start : BalSt := ⟨[], [], false, [], 0, 0, 0, 0⟩


/-! ### Protected output channels (R237 to R260) -/

/-- One channel of the power die beside CHN_STATE. `cmd` is the stored command (R241); `short` and
`excess` the latches in the power die's retention cell (R251); `ot` and `total` the sheds of R248 and
R249; `held` its safe default in force (R255); `wait` that it waits for its turn of R254; `inrush` that it
stands in its inrush window (R245); `frozen` the demand that
hold-through holds (R256); `duty` its compensation duty in 0.1% and `pulsed` that it runs on the pulse (R243);
`last` one above the clk of the last command and its place among those of one clk (R258, R314). -/
structure Chan where
  cmd : Bool
  short : Bool
  excess : Bool
  ot : Bool
  total : Bool
  held : Bool
  wait : Bool
  inrush : Bool
  frozen : Bool
  duty : Nat
  pulsed : Bool
  last : Nat × Nat
  deriving DecidableEq, Repr

def Chan.rest : Chan :=
  ⟨false, false, false, false, false, false, false, false, false, 0, false, (0, 0)⟩

/-- The power die and CHN: the channels 0 to 31, the PWMIN pins that are high, the dew condition
(R240), the groups that the 175 °C comparator holds off (R248), whether a shed episode runs (R249),
failed continuity checks in a row (R252), the groups at or above 130 °C after a shed, the
instant in clk at which hold-through began, and the channels that a Trellis switch put to their safe default
until the next sweep boundary (R54). -/
structure ChnSt where
  chans : List (Nat × Chan)
  pins : List (Nat × Bool)
  dew : Bool
  hot : List (Nat × Bool)
  episode : Bool
  contFails : Nat
  holdFrom : Nat
  back : List Nat
  deriving DecidableEq, Repr

def ChnSt.start : ChnSt := ⟨[], [], false, [], false, 0, 0, []⟩

/-! ### Safety functions and the Curtain (R261 to R289) -/

/-- What the Curtain keeps in retention cells (R283): the SAFETY latch of each gate group with the
cause code that set it (0 none), latched loop trips by link controller, latched input demands and
discrepancies, latched faults by code, the SAFE and DEGRADED states, and whether SAFE was entered on an
ESTOP demand. Only a valid reset clears them. -/
structure Retained where
  latch : List (Nat × Nat)
  loops : List (Nat × Bool)
  demand : List (Nat × Bool)
  discrep : List (Nat × Bool)
  faults : List (Nat × Bool)
  safe : Bool
  degraded : Bool
  deriving DecidableEq, Repr

def Retained.clear : Retained := ⟨[], [], [], [], [], false, false⟩

/-- The state of one channel of a safety input after its filter (R273). -/
inductive InState where
  | unknown
  | healthy
  | demand
  deriving DecidableEq, Repr

/-- A cross-compare message, or the Curtain's answer, as its sender sees the module (R262): the sequence number,
the loops inside their window by link controller, the channels in demand at 2 × input + channel and the reset
pair
pressed at 16 and 17, the gate groups requested enabled, and SAFE_RLY requested. -/
structure Cross where
  seq : Nat
  loops : Nat
  inputs : Nat
  gates : Nat
  rly : Bool
  deriving DecidableEq, Repr

/-- The safety system's working state beside its registers. -/
structure SafSt where
  /-- The Curtain's retention cells. -/
  ret : Retained
  /-- Terminal contacts closed and filtered states of the inputs, by 2 × input + channel (R273). -/
  term : List (Nat × Bool)
  filt : List (Nat × InState)
  /-- Loops outside their comparator's window, and those whose debounce runs (R80). -/
  loopOut : List (Nat × Bool)
  loopDeb : List (Nat × Bool)
  /-- Fault codes whose condition holds (R281). -/
  cond : List (Nat × Bool)
  /-- The heartbeat is lost (R263); a bed pause runs (R264). -/
  hbLost : Bool
  pause : Bool
  /-- The instant in clk of the last valid cross-compare message (R263, SAF_STATUS.HB_MISSING). -/
  heard : Nat
  /-- Cross-compare: the sequence number awaited, none before the first message of a supervisor; the run of bad
  messages; the runs of mismatches of the loops at 0 to 71, the input channels at 72 to 87 and the reset pair;
that
  the next message is the first after reclaim; the last message and its answer (R262, R276, R283). -/
  xseq : Option Nat
  badRun : Nat
  runs : List (Nat × Nat)
  first : Bool
  sent : Option Cross
  answer : Option Cross
    /-- One above the clk at which the two channels of an input began to stand in different states, and that
  both have
  been healthy together since its discrepancy latched (R274). -/
  differAt : List (Nat × Nat)
  together : List (Nat × Bool)
  /-- The instant in clk at which each input's demand began (R272). -/
  demandAt : List (Nat × Nat)
  /-- A recovery time runs (R276, R280). -/
  recovering : Bool
  /-- The degrade timer's end in clk and whether it has expired (R278), and the degraded SLC cap
  (R277). -/
  degEnd : Nat
  degOut : Bool
  slcCap : Bool
  /-- The groups under proof test (R286). -/
  proof : Option Nat
  /-- Consecutive samples outside the window per cell (R270). -/
  slw : List (Nat × Nat)
  /-- One above the clk of the first sample of a run beyond SLC, by 2 × string + direction, discharge 1
  (R271). -/
  slcRun : List (Nat × Nat)
  /-- SDR comparators written, by 2 × string + direction (R272). -/
  sdr : List (Nat × Bool)
  /-- The SHUNT_TRIP gate is open after SHUNT_STUCK (R284). -/
  shuntOpen : Bool
  /-- The reset pair is pressed, and the press counts (R282). -/
  pressed : Bool
  counts : Bool
  /-- A valid reset's self-test runs (R281). -/
  testing : Bool
  /-- The digest of the SAFETY section loaded in the Curtain (R289). -/
  digest : List Byte
  deriving DecidableEq, Repr

def SafSt.factory : SafSt :=
  { ret := .clear, term := [], filt := [], loopOut := [], loopDeb := [], cond := [], hbLost := false
    pause := false, heard := 0, xseq := none, badRun := 0, runs := [], first := false, sent := none, answer := none
    differAt := [], together := [], demandAt := []
    recovering := false, degEnd := 0, degOut := false, slcCap := false, proof := none, slw := []
    slcRun := [], sdr := [], shuntOpen := false, pressed := false, counts := false, testing := false
    digest := [] }

/-! ### Time domains, PTP and the cue list (R290 to R317) -/

/-- The servo tracker of one domain's source (R296 to R298). `prev` is o_prev in ns, `y` the frequency
estimate in ppb, `last` the clk of the last measurement, `locked` the measurements below 1 µs in a row,
`within` those within JUMP_THRESH in a row after a jump, `jump` and `lost` that its master has jumped or is
lost, `restart` that the next measurement is judged by |o| (R297, R416). -/
structure Tracker where
  prev : Rat
  y : Rat
  last : Nat
  locked : Nat
  within : Nat
  jump : Bool
  lost : Bool
  restart : Bool
  deriving DecidableEq, Repr

def Tracker.start : Tracker := ⟨0, 0, 0, 0, 0, false, false, false⟩

/-- A domain: its counter in units of 2⁻²⁴ ns (seconds, nanoseconds, fraction and residue of R290 in
one number), whether it has taken its first step (R294), its state code of R295 and its SLEWING flag, the
clk of its last step (R95), the rate last applied in ppb (R296), the end in clk of an offset being absorbed
after a switch with the rate that follows it (R298), and a RESYNC armed (R294). The two members of a
redundant pair hold the same domain. -/
structure Domain where
  count : Nat
  stepped : Bool
  state : Nat
  slewing : Bool
  lastStep : Option Nat
  ppb : Rat
  slewTo : Option (Nat × Rat)
  resync : Bool
  deriving DecidableEq, Repr

def Domain.start : Domain := ⟨0, false, 0, false, none, 0, none, false⟩

/-- One Ethernet port's PTP working state (R301). A timestamp is a list of readings in ns latched at one clk: D1
to D4, then the local clock (R300). Held are a two-step Sync that awaits its Follow_Up (domainNumber, identity,
correction, ingress), the last Sync's ingress less its corrected origin time, meanPathDelay or meanLinkDelay in
ns, the Delay_Req and the Pdelay_Req in flight (identity, egress), a two-step Pdelay_Resp that awaits its
follow-up (identity, what is known of twice the delay), and the next identity. -/
structure PtpSt where
  sync : Option (Nat × Nat × Int × List Rat)
  diff : Option (List Rat)
  delay : Int
  req : Option (Nat × List Rat)
  preq : Option (Nat × List Rat)
  presp : Option (Nat × Rat)
  nextId : Nat
  deriving DecidableEq, Repr

def PtpSt.start : PtpSt := ⟨none, none, 0, none, none, none, 0⟩

/-- TIME: domains D1 to D4 as 0 to 3, the tracker of each member's source, which member of each
redundant pair is active (R298, true for the upper one), and the two PTP ports. -/
structure TimeSt where
  doms : List (Nat × Domain)
  trk : List (Nat × Tracker)
  upper12 : Bool
  upper34 : Bool
  ptp : List (Nat × PtpSt)
  deriving DecidableEq, Repr

def TimeSt.start : TimeSt := ⟨[], [], false, false, []⟩

/-- A cue entry (R307 to R310): its 32 bytes, the session that wrote it, whether its next occurrence is
committed, how many occurrences have run or been skipped, and whether the window of the last is open. -/
structure Cue where
  bytes : List Byte
  owner : Nat
  committed : Bool
  ran : Nat
  open_ : Bool
  deriving DecidableEq, Repr

def Cue.empty : Cue := ⟨[], 0, false, 0, false⟩

/-- A frame slot (R312): its bytes, launches since loading, whether the last was late, the launches that wait
for the medium (the entry's index and the domain of its timestamp), and the last launch timestamp (domain,
seconds, nanoseconds). -/
structure Slot where
  bytes : List Byte
  launches : Nat
  late : Bool
  waiting : List (Nat × Nat)
  tsDom : Nat
  tsSec : Nat
  tsNs : Nat
  deriving DecidableEq, Repr

def Slot.empty : Slot := ⟨[], 0, false, [], 0, 0, 0⟩

/-- CUE: the list by index, the slots by 64 × port + slot, the capture's entries of 96 bytes in order,
the index of the cue whose capture runs (R313), and by Ethernet port the clk until which the module's own
timed frames keep the medium (R312). -/
structure CueSt where
  list : List (Nat × Cue)
  slots : List (Nat × Slot)
  cap : List (List Byte)
  capBy : Option Nat
  busy : List (Nat × Nat)
  deriving DecidableEq, Repr

def CueSt.start : CueSt := ⟨[], [], [], none, []⟩

/-! ### Host sessions (R318 to R340) -/

/-- A session's life (R340, SESS_INFO.STATE). -/
inductive SessLife where
  | free
  | establishing
  | opened
  deriving DecidableEq, Repr

/-- The result of one operation of a request (R330, R332), with the data of a READ. -/
structure OpRes where
  status : Nat
  code : Nat
  addr : Nat
  done : Nat
  data : List Word
  deriving DecidableEq, Repr

/-- A session context (R10, R323, R333, R335, R340, R354, R360, R153). `life`, `key`, `role` and `path`
are what SESS_INFO and SESS_SELF report; `idle` is IDLE_S in s and `heard` the instant in clk of the
last accepted message; `rxTop` and `rxSeen` are the highest accepted SEQ and the accepted SEQ of the
window below it; `tx` is the SEQ of the next message sent; `kept` holds the last 8 REQ_IDs with their
responses, newest first; `snaps` the
captured upper words by address; `base` is the identifier base of what the module sends it on CAN (R324).
While it is
established, `hello` and `challenge` are the two payloads and `eph` the module's ephemeral private key (R326);
`keys`
are the 40 bytes derived (R327). Then the per-session registers. -/
structure Sess where
  life : SessLife
  key : Nat
  role : Role
  path : Path
  idle : Nat
  heard : Nat
  rxTop : Nat
  rxSeen : List Nat
  tx : Nat
  kept : List (Nat × List OpRes)
  snaps : List (Nat × Nat)
  base : Nat
  hello : List Byte
  challenge : List Byte
  eph : List Byte
  keys : List Byte
  result : Nat
  lrnPage : Nat
  recSeq : Nat
  recStatus : Nat
  recWin : List Byte
  lgrNum : Nat
  lgrStatus : Nat
  lgrWin : List Byte
  deriving DecidableEq, Repr

def Sess.free : Sess :=
  ⟨.free, 0, .observer, .eth0, 0, 0, 0, [], 0, [], [], 0, [], [], [], [], 0, 0, 0, 0, [], 0, 0, []⟩

/-- A RAP message being reassembled on a CAN port (R324): its TYPE, fragment count, next index, SEQ and
bytes so far. -/
structure CanRx where
  typ : Nat
  count : Nat
  next : Nat
  seq : Nat
  bytes : List Byte
  deriving DecidableEq, Repr

/-- The sessions by ID, the messages in reassembly and those complete and not yet taken by 64 × path + session
of the
identifier, the clk at which each function's
last STOP or START was accepted (R25), and by register address the clk and the session of its last write, the
higher session ID where several wrote it in one clk (R11). -/
structure NetSt where
  sess : List (Nat × Sess)
  canRx : List (Nat × CanRx)
  canIn : List (Nat × CanRx)
  cmdAt : List (Nat × Nat)
  wrote : List (Nat × (Nat × Nat))
  deriving DecidableEq, Repr

def NetSt.start : NetSt := ⟨[], [], [], [], []⟩

/-! ### Event recorder and energy ledger (R341 to R360) -/

/-- A record as created (R341), before it is laid out as 64 bytes. -/
structure Rec where
  seq : Nat
  src : Nat
  code : Nat
  rep : Nat
  dq : Nat
  domSec : Nat
  domNs : Nat
  mono : Nat
  phase : Nat
  cycle : Nat
  data : List Byte
  deriving DecidableEq, Repr

/-- The recorder (R344, R348 to R353). `drafts` holds the records of the step in progress, oldest first,
before they take their SEQ; `deferred` those of a supervisor reset, made at reclaim; `staging` is in SEQ
order, `urgent` a THERMAL_SHUTDOWN record
that is written ahead of it (R221, R350); `lost` counts records refused since staging filled; `prev` is
the record with the next lower SEQ, for REPEAT (R349), and `base` the one before the first of the newest clk
that is
still staged; `written` lies above every SEQ written, or named by a captured checkpoint, since the start; `main` and
`us` hold the 64-byte entries
by
position, an unlisted one empty; `usA` and `usB` are the turns of Understudy positions 0 to 7 and 8 to
31; `toCopy` the general Understudy positions not yet copied back; `failPos` the failing main position
with the entry that belongs there; `stageLost` is REC_CNT.STAGE_LOST; `xseq` and `xcnt` the cross
reference of R358. -/
structure RecSt where
  drafts : List Rec
  deferred : List ((Nat × Nat) × List Byte)
  staging : List Rec
  urgent : List Rec
  lost : Nat
  next : Nat
  prev : Option Rec
  base : Option Rec
  written : Nat
  monoBase : Nat
  main : List (Nat × List Byte)
  us : List (Nat × List Byte)
  usA : Nat
  usB : Nat
  toCopy : List Nat
  failPos : Nat
  failEntry : List Byte
  stageLost : Nat
  xseq : Nat
  xcnt : Nat
  deriving DecidableEq, Repr

def RecSt.factory : RecSt := ⟨[], [], [], [], 0, 0, none, none, 0, 0, [], [], 0, 0, [], 0, [], 0, 0, 0⟩

/-- The body of a checkpoint at its capture (R357, bytes 0 to 31 before signing). -/
structure CpBody where
  num : Nat
  sec : Nat
  dq : Nat
  flags : Nat
  chg : Nat
  dis : Nat
  xseq : Nat
  xcnt : Nat
  deriving DecidableEq, Repr

/-- The ledger (R355 to R358). The live accumulators are exact energies in mWh per string; `storedChg`
and `storedDis` what MRAM holds; `lastP` the last OK power product per string; `mult` the multiple of
900 s last passed; `gap` and `stepped` flags the next checkpoint carries; `bodies` the captured checkpoints
not yet written, oldest first; `ring` the 96-byte checkpoints by position and `torn` the positions found torn;
`next` the next CP_NUM; `prevSig` bytes 32 to 95 of the previous valid checkpoint. -/
structure LgrSt where
  chg : List (Nat × Rat)
  dis : List (Nat × Rat)
  storedChg : List (Nat × Nat)
  storedDis : List (Nat × Nat)
  lastP : List (Nat × Rat)
  mult : Nat
  gap : Bool
  stepped : Bool
  bodies : List CpBody
  ring : List (Nat × List Byte)
  torn : List Nat
  next : Nat
  prevSig : List Byte
  deriving DecidableEq, Repr

def LgrSt.factory : LgrSt := ⟨[], [], [], [], [], 0, true, false, [], [], [], 0, []⟩

/-! ### Supply, start-up and transport (R361 to R384), module state (R385) -/

/-- The module states of R385. -/
inductive Mode where
  | commission
  | standby
  | service
  | degraded
  | safe
  | thermalLatch
  | transport
  deriving DecidableEq, Repr

/-- How far the module has come up (R370, R373, R377, R378). -/
inductive Boot where
  /-- Unpowered, or held in reset by the power die. -/
  | off
  /-- Held in reset until the PLL relocks (R371). -/
  | clockHold
  /-- Asleep in TRANSPORT (R378). -/
  | asleep
  /-- Steps 1 to 6 of R373 are done. -/
  | started
  /-- The channels are released (step 7). -/
  | released
  /-- Step 8 is done. -/
  | awake
  deriving DecidableEq, Repr

/-- The supervisor pair (R256, R371). -/
inductive Sup where
  | running
  /-- Reset, channels held through. -/
  | holdThrough
  /-- Reset, hold-through expired: channels at their safe defaults. -/
  | expired
  /-- Reset for a KERN or SAFE bed switch, channels at their safe defaults. -/
  | bedReset
  deriving DecidableEq, Repr

/-- What MRAM keeps across starts beside the images, the recorder and the ledger: the commission and
transport flags in both banks (R375, R377), the last cause and the start count (R371), the powered time in s
up to this start (R383), the ages in s of the last complete refresh, of the last CAL_DONE and of the proof test
(R286, R380, R381, R383) less the time since this start, the calibration copy loaded last, the wear entries and
MAINT latches (R195, R197), the failed balancing switches (R234) and the groups that passed since the proof
test's
age last read 0. -/
structure Nv where
  commission : Bool
  transport : Bool
  cause : Nat
  starts : Nat
  lifeS : Nat
  refreshS : Int
  refreshDue : Bool
  calS : Int
  calSlot : Nat
  wear : List (Nat × Wear)
  maint : List (Nat × Nat)
  balFailed : List (Nat × Nat)
  proofS : Int
  proofMask : Nat
  deriving DecidableEq, Repr

def Nv.factory : Nv := ⟨true, false, 0, 0, 0, 0, false, 0, 0, [], [], [], 0, 0⟩

/-- The supply monitor beside PWR's registers: how far the module has come up, the supervisor pair, whether
TRANSPORT holds, the stages entered and not left (R366), the aux inputs recorded lost (R362), the cause of the
start that follows (R371), the instant in clk at which the recovery phase ends (R388), whether V_HOLD is at or
above 28.0 V where that is known (R363), that the charge of HOLD under way has taken 20 s (R363), that an
abandoned
calibration waits for Prune 0 or 1 (R390), and that a TRANSPORT command is accepted and not yet answered
(R377). -/
structure PwrSt where
  boot : Boot
  sup : Sup
  inTransport : Bool
  p1 : Bool
  p2 : Bool
  p3 : Bool
  p4 : Bool
  lostA : Bool
  lostB : Bool
  why : Nat
  recovEnd : Option Nat
  ready : Option Bool
  slow : Bool
  calWait : Bool
  leaving : Bool
  deriving DecidableEq, Repr

def PwrSt.off : PwrSt :=
  ⟨.off, .running, false, false, false, false, false, false, false, 1, none, some false, false, false, false⟩

/-! ### The whole machine -/

/-- The UDP checksum of a PTP message (R302): none over IEEE 802.3, 0, one that matches, or that of a message
forwarded unchanged. -/
inductive Checksum where
  | none
  | zero
  | valid
  | kept
  deriving DecidableEq, Repr

/-- How a PTP message goes on the wire (R302, R303): its TRANSPORT as R306 codes it, the UDP port (0 over IEEE
802.3, whose Ethertype is 0x88F7), the bytes of the trailer behind the message, counted in the UDP length, and
the UDP checksum. -/
structure Wire where
  transport : Nat
  udpPort : Nat
  trailer : Nat
  checksum : Checksum
  deriving DecidableEq, Repr

/-- A PTP message the module sends: its kind (0 Sync, 1 Announce, 2 Delay_Req, 3 Delay_Resp, 4 Pdelay_Req, 5
Pdelay_Resp), domainNumber and identity, originTimestamp or receiveTimestamp in ns, correctionField in ns × 2¹⁶,
and an Announce's clockClass and priorities. -/
structure PtpMsg where
  kind : Nat
  domain : Nat
  id : Nat
  time : Int
  corr : Int
  cls : Nat
  prio1 : Nat
  prio2 : Nat
  deriving DecidableEq, Repr

/-- Where a limit message goes (R167, R319). -/
inductive LimDest where
  /-- One UDP datagram: the destination address, its 16 bytes, and its port. -/
  | udp (addr : List Byte) (port : Nat)
  /-- One CAN FD frame with its identifier. -/
  | can (id : Nat)
  deriving DecidableEq, Repr

/-- A message or signal the module gives, in the order it gives them (the newest first in `Dev.out`). -/
inductive Msg where
  /-- A downlink frame of R72 to a link controller, as its words (R63). -/
  | down (lc : Nat) (words : List Nat)
  /-- A strobe symbol (R64), with the clk of its launch. -/
  | strobe (lc : Nat) (at_ : Int)
  /-- A RAP message (R321, R324): on Ethernet one datagram, on CAN its frames under one identifier. -/
  | rap (path : Path) (ident : Option Nat) (frames : List (List Byte))
  /-- The answer to a command given outside a REQUEST: STATUS, CODE and ADDR of R332. -/
  | answer (sid status code addr : Nat)
  /-- The value a register read returned. -/
  | value (sid addr : Nat) (value : Word)
  /-- A limit message of R166 on a path, with where it goes and its payload (R167). -/
  | limit (path : Path) (dest : LimDest) (bytes : List Byte)
  /-- A PTP message sent on a port (R301, R303). -/
  | ptp (port : Nat) (wire : Wire) (x : PtpMsg)
  /-- A PTP message forwarded by the transparent clock (R304), with what it adds to correctionField in ns. -/
  | forwarded (port kind : Nat) (wire : Wire) (added : Int)
  /-- A queued frame launched (R312). -/
  | launch (port slot : Nat) (late : Bool)
  /-- An answer to ARP, neighbour discovery or ICMP echo (R318): kind 0, 1, 2. -/
  | host (port kind : Nat)
  deriving DecidableEq, Repr

/-- Everything of the module but the MRAM copies of `Mem` and the queue. -/
structure Dev where
  /-- The software-visible registers, field by field. -/
  regs : RegFile
  /-- The local clock of R291 in clk, 10 ns each. -/
  clk : Nat
  /-- The model's own count of free values drawn; no rule of the spec names it. -/
  free : Nat
  /-- What the module has sent, newest first; the model's own. -/
  out : List Msg
  topo : Topo
  nv : Nv
  pwr : PwrSt
  load : LoadSt
  net : NetSt
  rcd : RecSt
  lgr : LgrSt
  time : TimeSt
  cue : CueSt
  ports : List (Nat × PortSt)
  phase : PhaseSt
  acq : AcqSt
  est : EstSt
  lrn : LrnSt
  lim : LimSt
  seq : SeqSt
  thw : ThwSt
  bal : BalSt
  chn : ChnSt
  saf : SafSt
  deriving DecidableEq, Repr

/-- The module: the MRAM copies, the rest of it, and the commands that wait, first in first out. -/
structure State where
  mem : Mem
  dev : Dev
  pending : List Instr
  deriving DecidableEq, Repr

/-- The module as it leaves the factory, unpowered: the commission flag is set (R375), the recorder is
empty (R341), no image is held. DESIGN CHOICE, log 3. -/
def Dev.factory : Dev :=
  { regs := [], clk := 0, free := 0, out := [], topo := ⟨[], []⟩, nv := .factory, pwr := .off,
    load := .idle, net := .start, rcd := .factory, lgr := .factory, time := .start, cue := .start,
    ports := [], phase := .start0, acq := .start, est := .start, lrn := .start, lim := .start,
    seq := .start, thw := .start, bal := .start, chn := .start, saf := .factory }

/-- The MRAM copies at the factory: nothing committed, no image runs (R47, RUN_COPY 3). -/
def Mem.factory : Mem := ⟨[], [], [], [], 3, [], none⟩

/-- The module right after reset: unpowered, before the start of R373, which START_UP begins. DESIGN CHOICE, log 3. -/
def State.reset : State := ⟨.factory, .factory, []⟩

/-- Why a step can stop with a fault. None is raised: every command of the table has its effect or
leaves the module unchanged, as the rules say. -/
inductive Fault where
  /-- Reserved for a command outside the table's operand ranges; no meaning raises it. -/
  | illFormed
  deriving DecidableEq, Repr

/-- Why a step can be refused. -/
inductive Refusal where
  /-- Raised by exec for a command that has no meaning yet, by its mnemonic. Safe: the model stops. -/
  | notModelled (mnemonic : String)
  deriving DecidableEq, Repr

end Sys2Proof.Machine
end

