-- ==== Sys2Proof/Machine/Trellis.lean ====
section
/-! DEFINITION. Reading the Trellis copies: bytes, little-endian words, the section directory, and the
fields of each section's records that the functions use, at the offsets spec/ gives them. -/

namespace Sys2Proof.Machine

/-- The bytes of one image or bed. An unlisted byte reads 0. -/
abbrev Img := List Host.Cell

/-- The byte at `a`. -/
def Img.u8 (i : Img) (a : Nat) : Nat := (tget (0 : BitVec 8) i a).toNat

/-- Two bytes, little-endian (R35). -/
def Img.u16 (i : Img) (a : Nat) : Nat := i.u8 a + 256 * i.u8 (a + 1)

/-- Four bytes, little-endian. -/
def Img.u32 (i : Img) (a : Nat) : Nat := i.u16 a + 65536 * i.u16 (a + 2)

/-- Eight bytes, little-endian. -/
def Img.u64 (i : Img) (a : Nat) : Nat := i.u32 a + 4294967296 * i.u32 (a + 4)

/-- `n` bytes from `a`. -/
def Img.slice (i : Img) (a : Nat) : Nat → List Byte
  | 0 => []
  | n + 1 => BitVec.ofNat 8 (i.u8 a) :: i.slice (a + 1) n

/-- Store bytes from `a` upward. -/
def Img.store (i : Img) (a : Nat) : List Byte → Img
  | [] => i
  | b :: l => Img.store (tset 0 i a b) (a + 1) l

/-- A two's-complement value of `w` bits (R3). -/
def signed (w v : Nat) : Int := if v % 2 ^ w < 2 ^ (w - 1) then (v % 2 ^ w : Nat) else (v % 2 ^ w : Nat) - (2 ^ w : Nat)

/-- The low `w` bits of an integer, as a signed field holds it (R3). -/
def unsigned (w : Nat) (v : Int) : Nat := (v % (2 ^ w : Nat)).toNat

/-- The value of an IEEE 754 single precision pattern (R117). A pattern of an infinity or of no number
has none: `Config.f32Odd` stands for it. DESIGN CHOICE, log 9. -/
def f32 (w : Nat) : Rat :=
  let e := w / 8388608 % 256
  let m := w % 8388608
  let mag : Rat :=
    if e = 255 then Config.f32Odd w
    else if e = 0 then (m : Rat) / (2 ^ 149 : Nat)
    else if 150 ≤ e then ((8388608 + m) * 2 ^ (e - 150) : Nat)
    else ((8388608 + m : Nat) : Rat) / (2 ^ (150 - e) : Nat)
  if w / 2147483648 % 2 = 1 then - mag else mag

/-- Round half to even. -/
def roundEven (x : Rat) : Nat :=
  let n := x.floor.toNat
  let r := x - (n : Nat)
  if r < 1 / 2 then n else if 1 / 2 < r then n + 1 else n + n % 2

/-- The single precision pattern nearest to a value (R117, R142): sign, exponent, significand; beyond the
greatest finite number, infinity. -/
def f32Bits (x : Rat) : Nat :=
  let a := if x < 0 then -x else x
  let k := (List.range 254).foldl (fun k j =>
    if (if j < 126 then decide (1 ≤ a * (2 ^ (126 - j) : Nat)) else decide (((2 ^ (j - 126) : Nat) : Rat) ≤ a))
    then j + 1 else k) 0
  let q := if k = 0 then a * (2 ^ 149 : Nat)
    else if k ≤ 150 then a * (2 ^ (150 - k) : Nat) else a / (2 ^ (k - 150) : Nat)
  let n := roundEven q
  let v := min 0x7F800000 (if k = 0 then n else (k - 1) * 8388608 + n)
  if x < 0 then 0x80000000 + v else v

/-- Whether a pattern is a finite number. -/
def f32Finite (w : Nat) : Bool := w / 8388608 % 256 ≠ 255

/-- Whether a pattern is no number. -/
def f32Nan (w : Nat) : Bool := w / 8388608 % 256 = 255 && w % 8388608 ≠ 0

/-- A pattern's place in the order of the values, infinities included; both zeros at 0. -/
def f32Key (w : Nat) : Int := if w / 2147483648 % 2 = 1 then -(w % 2147483648 : Nat) else (w % 2147483648 : Nat)

/-- Whether the value of one pattern is at most that of another; false where one is no number. -/
def f32Le (a b : Nat) : Bool := !f32Nan a && !f32Nan b && decide (f32Key a ≤ f32Key b)

/-- Whether the value of a pattern is above 0. -/
def f32Pos (a : Nat) : Bool := !f32Nan a && decide (0 < f32Key a)

/-- The offset of the TLV header of the section of type `ty`, by a search of the first `n` directory
entries from entry `k` (R36). -/
def Img.findSec (i : Img) (ty : Nat) : Nat → Nat → Option (Nat × Nat)
  | _, 0 => none
  | k, n + 1 =>
    if i.u16 (64 + 48 * k) = ty then some (i.u32 (64 + 48 * k + 4), i.u32 (64 + 48 * k + 8))
    else i.findSec ty (k + 1) n

/-- A section's TLV offset and value length. -/
def Img.sec (i : Img) (ty : Nat) : Option (Nat × Nat) := i.findSec ty 0 (min 32 (i.u16 24))

/-- Where a section's value starts; a section that is absent lies past the image's end, so all of it
reads 0. -/
def Img.at_ (i : Img) (ty : Nat) : Nat :=
  match i.sec ty with
  | some (o, _) => o + 8
  | none => 262144

/-- A section's value, as bytes. -/
def Img.value (i : Img) (ty : Nat) : List Byte :=
  match i.sec ty with
  | some (o, n) => i.slice (o + 8) n
  | none => []

/-- The running image (R46): no bytes when none runs. -/
def Mem.img (m : Mem) : Img :=
  if m.run = 0 then m.copyA else if m.run = 1 then m.copyB else []

/-- Whether an image runs (R47). -/
def Mem.hasImage (m : Mem) : Bool := m.run ≠ 3

/-- The class of the running image: full (R43). The CLASS byte equals the derived class in every image
that is accepted. -/
def Mem.full (m : Mem) : Bool := m.hasImage && m.img.u8 26 = 1

/-! Section types of R40. -/

def secSigners : Nat := 0x0002
def secTopology : Nat := 0x0010
def secTemps : Nat := 0x0011
def secZones : Nat := 0x0012
def secChem : Nat := 0x0020
def secDerate : Nat := 0x0021
def secConserv : Nat := 0x0022
def secChannels : Nat := 0x0030
def secContactors : Nat := 0x0031
def secSafety : Nat := 0x0040
def secTime : Nat := 0x0050
def secNetwork : Nat := 0x0051
def secSessions : Nat := 0x0060
def secDefaults : Nat := 0x0070

/-! CONTACTORS (R177, R178). -/

/-- Offset of string `s`'s record. -/
def Img.con (i : Img) (s : Nat) : Nat := i.at_ secContactors + 56 * s

/-- Offset of the bank record. -/
def Img.bankCon (i : Img) : Nat := i.at_ secContactors + 448

/-- The channel that drives the coil of the contactor with wear index `c` (R176, R177, R178). -/
def Img.coilChan (i : Img) (c : Nat) : Nat :=
  if c < 24 then i.u8 (i.con (c / 3) + c % 3) else i.u8 (i.bankCon + (c - 24))

/-- Whether bank contactors are fitted. -/
def Img.bankPresent (i : Img) : Bool := i.u8 (i.bankCon + 3) % 2 = 1

/-- Whether string `s`'s contactors are configured. -/
def Img.conConfigured (i : Img) (s : Nat) : Bool := i.u8 (i.con s + 3) % 2 = 1

/-- Whether the contactor `c` exists. -/
def Img.conExists (i : Img) (c : Nat) : Bool :=
  if c < 24 then i.conConfigured (c / 3) else i.bankPresent

def Img.iBreak (i : Img) (s : Nat) : Rat := f32 (i.u32 (i.con s + 4))
def Img.rPre (i : Img) (s : Nat) : Rat := f32 (i.u32 (i.con s + 8))
def Img.cMin (i : Img) (s : Nat) : Rat := f32 (i.u32 (i.con s + 12))
def Img.cMax (i : Img) (s : Nat) : Rat := f32 (i.u32 (i.con s + 16))
def Img.t90Min (i : Img) (s : Nat) : Nat := i.u16 (i.con s + 20)
def Img.t90Max (i : Img) (s : Nat) : Nat := i.u16 (i.con s + 22)
def Img.tPreMax (i : Img) (s : Nat) : Nat := i.u16 (i.con s + 24)
def Img.match_ (i : Img) (s : Nat) : Rat := (i.u16 (i.con s + 26) : Rat) / 10000
def Img.overlap (i : Img) (s : Nat) : Nat := i.u16 (i.con s + 28)
def Img.tClose (i : Img) (s : Nat) : Nat := i.u16 (i.con s + 30)
def Img.tOpen (i : Img) (s : Nat) : Nat := i.u16 (i.con s + 32)
def Img.breakWait (i : Img) (s : Nat) : Nat := i.u16 (i.con s + 34)
def Img.rTol (i : Img) (s : Nat) : Rat := (i.u16 (i.con s + 36) : Rat) / 1000
def Img.cool (i : Img) (s : Nat) : Nat := i.u16 (i.con s + 38)
def Img.ePreMax (i : Img) (s : Nat) : Rat := f32 (i.u32 (i.con s + 40))
def Img.iJoin (i : Img) (s : Nat) : Rat := f32 (i.u32 (i.con s + 44))
def Img.rPath (i : Img) (s : Nat) : Rat := f32 (i.u32 (i.con s + 48))
def Img.bankBreak (i : Img) : Rat := f32 (i.u32 (i.bankCon + 4))

/-! CHANNELS (R238). -/

def Img.chan (i : Img) (n : Nat) : Nat := i.at_ secChannels + 16 * n
def Img.chanRole (i : Img) (n : Nat) : Nat := i.u8 (i.chan n)
def Img.chanPrune (i : Img) (n : Nat) : Nat := i.u8 (i.chan n + 1)
def Img.chanSafeOn (i : Img) (n : Nat) : Bool := i.u8 (i.chan n + 2) % 2 = 1
def Img.chanComp (i : Img) (n : Nat) : Bool := i.u8 (i.chan n + 2) / 2 % 2 = 1
def Img.chanOpenDiag (i : Img) (n : Nat) : Bool := i.u8 (i.chan n + 2) / 4 % 2 = 1
def Img.chanPin (i : Img) (n : Nat) : Nat := i.u8 (i.chan n + 3)
def Img.chanDuty (i : Img) (n : Nat) : Nat := i.u8 (i.chan n + 4)
def Img.chanZones (i : Img) (n : Nat) : Nat := i.u64 (i.chan n + 8)

/-! SAFETY (R266). -/

def Img.saf (i : Img) : Nat := i.at_ secSafety
def Img.degradeLimit (i : Img) : Nat := i.u8 (i.saf + 2)
def Img.recovery (i : Img) : Nat := i.u8 (i.saf + 3)
def Img.degradeTime (i : Img) : Nat := i.u16 (i.saf + 4)
def Img.proofDays (i : Img) : Nat := i.u16 (i.saf + 6)
def Img.inRec (i : Img) (k : Nat) : Nat := i.saf + 32 + 16 * k
/-- FUNCTION: 0 UNUSED, 1 ESTOP, 2 SAFE_DISCONNECT, 3 SDR_CHARGE_ONLY, 4 SDR_DISCHARGE_ONLY. -/
def Img.inFunc (i : Img) (k : Nat) : Nat := i.u8 (i.inRec k)
def Img.inAntivalent (i : Img) (k : Nat) : Bool := i.u8 (i.inRec k + 1) = 1
def Img.inBank (i : Img) (k : Nat) : Bool := i.u8 (i.inRec k + 3) % 2 = 1
/-- The strings input `k` acts on: with SCOPE.BANK every one. -/
def Img.inStrings (i : Img) (k : Nat) : Nat := if i.inBank k then 0xFF else i.u8 (i.inRec k + 6)
def Img.strSaf (i : Img) (s : Nat) : Nat := i.saf + 160 + 32 * s
def Img.slwLo (i : Img) (s : Nat) : Nat := i.u16 (i.strSaf s)
def Img.slwHi (i : Img) (s : Nat) : Nat := i.u16 (i.strSaf s + 2)
def Img.cmpUv (i : Img) (s : Nat) : Nat := i.u16 (i.strSaf s + 4)
def Img.cmpOv (i : Img) (s : Nat) : Nat := i.u16 (i.strSaf s + 6)
def Img.slwCount (i : Img) (s : Nat) : Nat := i.u8 (i.strSaf s + 8)
def Img.distWiden (i : Img) (s : Nat) : Nat := i.u8 (i.strSaf s + 9)
def Img.slcChg (i : Img) (s : Nat) : Rat := f32 (i.u32 (i.strSaf s + 12))
def Img.slcDis (i : Img) (s : Nat) : Rat := f32 (i.u32 (i.strSaf s + 16))
def Img.ocChg (i : Img) (s : Nat) : Rat := f32 (i.u32 (i.strSaf s + 20))
def Img.ocDis (i : Img) (s : Nat) : Rat := f32 (i.u32 (i.strSaf s + 24))
def Img.sdrCmp (i : Img) (s : Nat) : Rat := f32 (i.u32 (i.strSaf s + 28))
/-- The gate groups the loop of link controller `n` opens: bit s string s, bit 8 the bank. -/
def Img.loopMap (i : Img) (n : Nat) : Nat := i.u16 (i.saf + 416 + 2 * n)

/-! TIME (R306) and NETWORK (R319). -/

def Img.tcEn (i : Img) : Bool := i.u8 (i.at_ secTime + 3) % 2 = 1
def Img.ptpPort (i : Img) (p : Nat) : Nat := i.at_ secTime + 32 + 32 * p
def Img.ptpProfile (i : Img) (p : Nat) : Nat := i.u8 (i.ptpPort p)
/-- ROLE: 0 SLAVE_ONLY, 1 to 4 MASTER_ONLY serving D1 to D4. -/
def Img.ptpRole (i : Img) (p : Nat) : Nat := i.u8 (i.ptpPort p + 2)
/-- TRANSPORT: 0 IEEE 802.3, 1 UDP/IPv4, 2 UDP/IPv6. -/
def Img.ptpTransport (i : Img) (p : Nat) : Nat := i.u8 (i.ptpPort p + 1)
def Img.priority1 (i : Img) (p : Nat) : Nat := i.u8 (i.ptpPort p + 7)
def Img.priority2 (i : Img) (p : Nat) : Nat := i.u8 (i.ptpPort p + 8)
def Img.classLocked (i : Img) (p : Nat) : Nat := i.u8 (i.ptpPort p + 9)
def Img.classHold (i : Img) (p : Nat) : Nat := i.u8 (i.ptpPort p + 10)
def Img.ethRec (i : Img) (p : Nat) : Nat := i.at_ secNetwork + 16 + 64 * p
def Img.ethFlags (i : Img) (p : Nat) : Nat := i.u8 (i.ethRec p + 13)
/-- The bytes of Ethernet, VLAN, IP and UDP headers before a limit message's payload (R167, R319): IPv4 to an
IPv4-mapped destination, else IPv6. -/
def Img.limHeaders (i : Img) (p : Nat) : Nat :=
  let r := i.ethRec p
  (if 128 ≤ i.u8 (r + 7) then 18 else 14) +
    (if i.u64 (r + 40) = 0 ∧ i.u32 (r + 48) = 0xFFFF0000 then 20 else 40) + 8
def Img.canRec (i : Img) (p : Nat) : Nat := i.at_ secNetwork + 144 + 16 * p
def Img.canFlags (i : Img) (p : Nat) : Nat := i.u8 (i.canRec p + 2)

/-! SESSIONS (R325): key records of 96 bytes. -/

def Img.keyCount (i : Img) : Nat :=
  match i.sec secSessions with
  | some (_, n) => n / 96
  | none => 0

def Img.keyRec (i : Img) (k : Nat) : Nat := i.at_ secSessions + 96 * k

/-- The offset of the record with a given KEY_ID, among the first `n`. -/
def Img.findKey (i : Img) (id : Nat) : Nat → Option Nat
  | 0 => none
  | n + 1 =>
    match i.findKey id n with
    | some r => some r
    | none => if i.u16 (i.keyRec n + 64) = id then some (i.keyRec n) else none

def Img.key (i : Img) (id : Nat) : Option Nat := i.findKey id i.keyCount

end Sys2Proof.Machine
end

