-- ==== Sys2Proof/Machine/Ops.lean ====
section
/-! DEFINITION. The named operations the meanings share: reading and writing register fields and the
arrays of State, time, records, the module state, and which strings, ports and cells belong together. -/

namespace Sys2Proof.Machine

/-- A quotient; where the divisor is 0 no rule states a result. DESIGN CHOICE, log 95. -/
def quot (a b : Rat) : Rat := if b = 0 then Config.divZero a else a / b

/-! ### Registers -/

/-- The value a register field holds. -/
def Dev.rd (d : Dev) (f : Fld) : Nat := d.regs.get f

/-- Whether a field reads other than 0. -/
def Dev.on (d : Dev) (f : Fld) : Bool := d.rd f ≠ 0

/-- Set a field. -/
def Dev.wr (f : Fld) (v : Nat) (d : Dev) : Dev := { d with regs := d.regs.put f v }

/-- Set a one-bit field. -/
def Dev.flag (f : Fld) (b : Bool) (d : Dev) : Dev := d.wr f b.toNat

/-- Count up in a field that saturates (R401, R339). -/
def Dev.bump (f : Fld) (d : Dev) : Dev := d.wr f (min (d.rd f + 1) (2 ^ f.wid - 1))

/-- Count up in a field that wraps. -/
def Dev.bumpMod (f : Fld) (d : Dev) : Dev := d.wr f (d.rd f + 1)

/-- Send a message. DESIGN CHOICE, log 93. -/
def Dev.emit (x : Msg) (d : Dev) : Dev := { d with out := x :: d.out }

/-- The next free choice, and the device with it drawn. DESIGN CHOICE, log 6. -/
def Dev.drawBool (d : Dev) : Bool × Dev := (Config.freeBool d.free, { d with free := d.free + 1 })

/-- The next free number, and the device with it drawn. DESIGN CHOICE, log 6. -/
def Dev.drawNat (d : Dev) : Nat × Dev := (Config.freeNat d.free, { d with free := d.free + 1 })

/-- Apply `f` for every index of a list, in order. -/
def Dev.each (l : List Nat) (f : Nat → Dev → Dev) (d : Dev) : Dev := l.foldl (fun d k => f k d) d

/-- The indices below `n` whose bit is set in `v`. -/
def bitsOf (n v : Nat) : List Nat := (List.range n).filter v.testBit

/-- The bits of `v` at the indices of a list, as a mask. -/
def maskOf (n : Nat) (p : Nat → Bool) : Nat :=
  (List.range n).foldl (fun a k => if p k then a + 2 ^ k else a) 0

/-- The strings, S0 to S7. -/
def strings : List Nat := List.range 8

/-- The link controllers. -/
def controllers : List Nat := List.range 72

/-! ### Arrays of State -/

def Dev.port (d : Dev) (n : Nat) : PortSt := tget PortSt.blank d.ports n
def Dev.modPort (n : Nat) (f : PortSt → PortSt) (d : Dev) : Dev :=
  { d with ports := tmod PortSt.blank d.ports n f }

def Dev.sq (d : Dev) (s : Nat) : StrSeq := tget StrSeq.idle d.seq.strs s
def Dev.modSq (s : Nat) (f : StrSeq → StrSeq) (d : Dev) : Dev :=
  { d with seq := { d.seq with strs := tmod StrSeq.idle d.seq.strs s f } }

def Dev.coil (d : Dev) (c : Nat) : Bool := tget false d.seq.coil c
def Dev.auxClosed (d : Dev) (c : Nat) : Bool := tget false d.seq.aux c

def Dev.sess (d : Dev) (n : Nat) : Sess := tget Sess.free d.net.sess n
def Dev.modSess (n : Nat) (f : Sess → Sess) (d : Dev) : Dev :=
  { d with net := { d.net with sess := tmod Sess.free d.net.sess n f } }

def Dev.chan (d : Dev) (n : Nat) : Chan := tget Chan.rest d.chn.chans n
def Dev.modChan (n : Nat) (f : Chan → Chan) (d : Dev) : Dev :=
  { d with chn := { d.chn with chans := tmod Chan.rest d.chn.chans n f } }

def Dev.cell (d : Dev) (c : Nat) : CellEst := tget CellEst.blank d.est.cells c
def Dev.modCell (c : Nat) (f : CellEst → CellEst) (d : Dev) : Dev :=
  { d with est := { d.est with cells := tmod CellEst.blank d.est.cells c f } }

def Dev.se (d : Dev) (s : Nat) : StrEst := tget StrEst.blank d.est.strs s
def Dev.modSe (s : Nat) (f : StrEst → StrEst) (d : Dev) : Dev :=
  { d with est := { d.est with strs := tmod StrEst.blank d.est.strs s f } }

def Dev.block (d : Dev) (m : Nat) : BlockSt := tget BlockSt.blank d.lrn.blocks m
def Dev.modBlock (m : Nat) (f : BlockSt → BlockSt) (d : Dev) : Dev :=
  { d with lrn := { d.lrn with blocks := tmod BlockSt.blank d.lrn.blocks m f } }

def Dev.strLrn (d : Dev) (s : Nat) : StrLrn := tget StrLrn.blank d.lrn.strs s
def Dev.modStrLrn (s : Nat) (f : StrLrn → StrLrn) (d : Dev) : Dev :=
  { d with lrn := { d.lrn with strs := tmod StrLrn.blank d.lrn.strs s f } }

def Dev.one (d : Dev) (w : Nat) : LimOne := tget LimOne.blank d.lim.ones w
def Dev.modOne (w : Nat) (f : LimOne → LimOne) (d : Dev) : Dev :=
  { d with lim := { d.lim with ones := tmod LimOne.blank d.lim.ones w f } }

def Dev.point (d : Dev) (p : Nat) : PointSt := tget PointSt.blank d.thw.points p
def Dev.modPoint (p : Nat) (f : PointSt → PointSt) (d : Dev) : Dev :=
  { d with thw := { d.thw with points := tmod PointSt.blank d.thw.points p f } }

def Dev.zone (d : Dev) (z : Nat) : ZoneSt := tget ZoneSt.blank d.thw.zones z
def Dev.modZone (z : Nat) (f : ZoneSt → ZoneSt) (d : Dev) : Dev :=
  { d with thw := { d.thw with zones := tmod ZoneSt.blank d.thw.zones z f } }

def Dev.balPort (d : Dev) (m : Nat) : BalPort := tget BalPort.blank d.bal.ports m
def Dev.modBalPort (m : Nat) (f : BalPort → BalPort) (d : Dev) : Dev :=
  { d with bal := { d.bal with ports := tmod BalPort.blank d.bal.ports m f } }

def Dev.slot (d : Dev) (k : Nat) : Slot := tget Slot.empty d.cue.slots k
def Dev.modSlot (k : Nat) (f : Slot → Slot) (d : Dev) : Dev :=
  { d with cue := { d.cue with slots := tmod Slot.empty d.cue.slots k f } }

def Dev.cueAt (d : Dev) (k : Nat) : Cue := tget Cue.empty d.cue.list k
def Dev.modCue (k : Nat) (f : Cue → Cue) (d : Dev) : Dev :=
  { d with cue := { d.cue with list := tmod Cue.empty d.cue.list k f } }

def Dev.modSaf (f : SafSt → SafSt) (d : Dev) : Dev := { d with saf := f d.saf }
def Dev.modRet (f : Retained → Retained) (d : Dev) : Dev :=
  { d with saf := { d.saf with ret := f d.saf.ret } }
def Dev.modPwr (f : PwrSt → PwrSt) (d : Dev) : Dev := { d with pwr := f d.pwr }
def Dev.modNv (f : Nv → Nv) (d : Dev) : Dev := { d with nv := f d.nv }
def Dev.modSeq (f : SeqSt → SeqSt) (d : Dev) : Dev := { d with seq := f d.seq }
def Dev.modChn (f : ChnSt → ChnSt) (d : Dev) : Dev := { d with chn := f d.chn }
def Dev.modLoad (f : LoadSt → LoadSt) (d : Dev) : Dev := { d with load := f d.load }
def Dev.modRcd (f : RecSt → RecSt) (d : Dev) : Dev := { d with rcd := f d.rcd }
def Dev.modLgr (f : LgrSt → LgrSt) (d : Dev) : Dev := { d with lgr := f d.lgr }
def Dev.modPhase (f : PhaseSt → PhaseSt) (d : Dev) : Dev := { d with phase := f d.phase }
def Dev.modAcq (f : AcqSt → AcqSt) (d : Dev) : Dev := { d with acq := f d.acq }
def Dev.modLim (f : LimSt → LimSt) (d : Dev) : Dev := { d with lim := f d.lim }
def Dev.modThw (f : ThwSt → ThwSt) (d : Dev) : Dev := { d with thw := f d.thw }
def Dev.modBal (f : BalSt → BalSt) (d : Dev) : Dev := { d with bal := f d.bal }
def Dev.modLrn (f : LrnSt → LrnSt) (d : Dev) : Dev := { d with lrn := f d.lrn }
def Dev.modEst (f : EstSt → EstSt) (d : Dev) : Dev := { d with est := f d.est }
def Dev.modCueSt (f : CueSt → CueSt) (d : Dev) : Dev := { d with cue := f d.cue }

/-! ### Functions (R21 to R28) -/

/-- The state of function `f` by number: 0 STOPPED, 1 RUN, 2 STOP_PENDING, 3 START_PENDING (R340). -/
def Dev.fnState (d : Dev) (f : Nat) : Nat := d.rd (SESS_FUNC.STATE f)

/-- Whether a function runs; one in STOP_PENDING still does (R400). -/
def Dev.runs (d : Dev) (f : Func) : Bool := d.fnState f.num = 1 || d.fnState f.num = 2

/-- Whether a function runs and is not idle (R28). -/
def Dev.works (d : Dev) (f : Func) : Bool := d.runs f && !d.on (SESS_FUNC.IDLE f.num)

/-- The steward of a function, 0 for none. -/
def Dev.steward (d : Dev) (f : Func) : Nat := d.rd (SESS_FUNC.STEWARD f.num)

/-! ### Strings, ports and cells (R14, R15, R41, R183) -/

def Dev.strState (d : Dev) (s : Nat) : Nat := d.rd (SEQ_STATE.STATE s)

/-- Open in the sense of R183: UNCONFIGURED, OPEN, COOLDOWN or WELDED. DEDUCED, log 90. -/
def Dev.isOpen (d : Dev) (s : Nat) : Bool :=
  d.strState s = 0 || d.strState s = 1 || d.strState s = 9 || d.strState s = 10

/-- Connected: CONNECTED or DRAINING (R183). -/
def Dev.connected (d : Dev) (s : Nat) : Bool := d.strState s = 6 || d.strState s = 7

/-- Closing: QUEUED, PRECHECK, PRECHARGE or JOIN (R183). -/
def Dev.closing (d : Dev) (s : Nat) : Bool :=
  d.strState s = 2 || d.strState s = 3 || d.strState s = 4 || d.strState s = 5

/-- Inside a close sequence: PRECHECK, PRECHARGE or JOIN. -/
def Dev.inSequence (d : Dev) (s : Nat) : Bool :=
  d.strState s = 3 || d.strState s = 4 || d.strState s = 5

/-- Every string is open. -/
def Dev.allOpen (d : Dev) : Bool := strings.all d.isOpen

/-- The link controller of monitor port `m` (R14). -/
def lcOfMon (m : Nat) : Nat := 9 * (m / 8) + m % 8

/-- The link controller of front port `k` (R14). -/
def lcOfFront (k : Nat) : Nat := 9 * k + 8

/-- The monitor port a link controller serves, if it serves one (R14). -/
def monOfLc (n : Nat) : Option Nat := if n % 9 = 8 then none else some (8 * (n / 9) + n % 9)

def Dev.portRec (d : Dev) (n : Nat) : PortRec := tget PortRec.unused d.topo.ports n
def Dev.strRec (d : Dev) (s : Nat) : StrRec := tget StrRec.unused d.topo.strs s

/-- Whether a string is configured in the running structure. -/
def Dev.configured (d : Dev) (s : Nat) : Bool := (d.strRec s).conf

/-- Whether a string uses the port (R82, UNUSED). -/
def Dev.portUsed (d : Dev) (n : Nat) : Bool := (d.portRec n).str < 8

/-- The ports of string `s`, by link controller. -/
def Dev.portsOf (d : Dev) (s : Nat) : List Nat := controllers.filter fun n => (d.portRec n).str = s

/-- Whether string `s` has a port on cassette `k`. -/
def Dev.onCassette (d : Dev) (k s : Nat) : Bool := (d.portsOf s).any fun n => n / 9 = k

/-- The strings with a port on cassette `k`. -/
def Dev.cassetteStrings (d : Dev) (k : Nat) : List Nat := strings.filter (d.onCassette k)

/-- Whether cell `c` exists (R41). -/
def Dev.cellUsed (d : Dev) (c : Nat) : Bool :=
  d.portUsed (lcOfMon (c / 24)) && decide (c % 24 < (d.portRec (lcOfMon (c / 24))).inputs)

/-- The string of cell `c`, 255 for none. -/
def Dev.cellStr (d : Dev) (c : Nat) : Nat :=
  if d.cellUsed c then (d.portRec (lcOfMon (c / 24))).str else 255

/-- The cells of string `s` in series order (R109): through its monitor ports in the order of its
record, each block from input 0 upward. -/
def Dev.cellsOf (d : Dev) (s : Nat) : List Nat :=
  (d.strRec s).order.flatMap fun m =>
    (List.range (d.portRec (lcOfMon m)).inputs).map fun i => 24 * m + i

/-- The used cells of monitor port `m`. -/
def Dev.blockCells (d : Dev) (m : Nat) : List Nat :=
  (List.range (d.portRec (lcOfMon m)).inputs).map fun i => 24 * m + i

/-- Rated current of a string, or of the bank as the sum over configured strings (R193). -/
def Dev.rated (d : Dev) (w : Nat) : Rat :=
  if w < 8 then (d.strRec w).rated
  else strings.foldl (fun a s => if d.configured s then a + (d.strRec s).rated else a) 0

def Dev.link (d : Dev) (n : Nat) : Nat := d.rd (PORT_STATE.LINK n)

/-- Whether port `n` is in UP. -/
def Dev.isUp (d : Dev) (n : Nat) : Bool := d.link n = 3

/-- Whether port `n` is in UP or MISSING: strobed, its frames used (R82). -/
def Dev.isLive (d : Dev) (n : Nat) : Bool := d.link n = 3 || d.link n = 4

/-! ### Supply and module state (R366, R385) -/

/-- The supply stage in force (R366): the deepest entered and not left. -/
def Dev.stage (d : Dev) : Nat :=
  if d.pwr.p4 then 4 else if d.pwr.p3 then 3 else if d.pwr.p2 then 2 else if d.pwr.p1 then 1 else 0

/-- Whether the start-up sequence has ended (step 8 of R373). -/
def Dev.awake (d : Dev) : Bool := d.pwr.boot = .awake

/-- Whether the supervisor pair acts: awake and not in a reset (R256, R371). DESIGN CHOICE, log 10. -/
def Dev.alive (d : Dev) : Bool := d.awake && d.pwr.sup = .running

/-- The module state (R385): the highest whose condition holds. DEDUCED, log 90. -/
def Dev.mode (m : Mem) (d : Dev) : Mode :=
  if d.pwr.inTransport then .transport
  else if d.thw.latch then .thermalLatch
  else if d.saf.ret.safe then .safe
  else if d.saf.ret.degraded then .degraded
  else if d.nv.commission || !m.hasImage then .commission
  else if d.allOpen then .standby
  else .service

/-! ### Time (R4, R290, R291, R294, R295, R298) -/

/-- Whether the pair of domain `k` runs in redundant mode (R298). -/
def Dev.redundant (d : Dev) (k : Nat) : Bool :=
  if k < 2 then d.on TIME_CFG.MODE12 else d.on TIME_CFG.MODE34

/-- The domain whose counter a reading of `k` uses: the pair's one active output in redundant mode,
held under the lower member. -/
def Dev.domIx (d : Dev) (k : Nat) : Nat := if d.redundant k then 2 * (k / 2) else k

def Dev.dom (d : Dev) (k : Nat) : Domain := tget Domain.start d.time.doms (d.domIx k)

/-- The members that share the counter of domain `k`. -/
def Dev.members (d : Dev) (k : Nat) : List Nat := if d.redundant k then [2 * (k / 2), 2 * (k / 2) + 1] else [k]

/-- Change a domain; both members of a redundant pair hold the one active output. -/
def Dev.modDom (k : Nat) (f : Domain → Domain) (d : Dev) : Dev :=
  let x := f (d.dom k)
  let l := (d.members k).foldl (fun t j => tset Domain.start t j x) d.time.doms
  { d with time := { d.time with doms := l } }

def Dev.trk (d : Dev) (k : Nat) : Tracker := tget Tracker.start d.time.trk k
def Dev.modTrk (k : Nat) (f : Tracker → Tracker) (d : Dev) : Dev :=
  { d with time := { d.time with trk := tmod Tracker.start d.time.trk k f } }

def Dev.ptp (d : Dev) (p : Nat) : PtpSt := tget PtpSt.start d.time.ptp p
def Dev.modPtp (p : Nat) (f : PtpSt → PtpSt) (d : Dev) : Dev :=
  { d with time := { d.time with ptp := tmod PtpSt.start d.time.ptp p f } }

/-- Which member of `k`'s pair is active: the upper one or not (R298). -/
def Dev.upperActive (d : Dev) (k : Nat) : Bool := if k < 2 then d.time.upper12 else d.time.upper34

/-- The domain's reading in whole nanoseconds. -/
def Dev.domNs (d : Dev) (k : Nat) : Nat := (d.dom k).count / 2 ^ 24

/-- Its seconds. -/
def Dev.domSec (d : Dev) (k : Nat) : Nat := d.domNs k / 1000000000

/-- The quality of a domain as R295 codes it. -/
def Dev.quality (d : Dev) (k : Nat) : Nat :=
  let jump :=
    if d.redundant k then
      (d.dom k).state = 3 && ((d.trk (2 * (k / 2))).jump || (d.trk (2 * (k / 2) + 1)).jump)
    else (d.trk k).jump
  (d.dom k).state + (if (d.dom k).slewing then 8 else 0) + (if jump then 16 else 0) +
    (if d.redundant k && d.upperActive k then 32 else 0)

/-- The counter's modulus: 2⁴⁸ seconds in units of 2⁻²⁴ ns (R290). -/
def domModulus : Nat := 2 ^ 48 * 1000000000 * 2 ^ 24

/-- INCR for a rate in ppb (R292, R296): 8.24 fixed point, within its range. -/
def incrOf (ppb : Rat) : Nat :=
  min 0x0A004189 (max 0x09FFBE77 ((10 * (1 + ppb / 1000000000) * 16777216 + 1 / 2).floor.toNat))

/-- `n` clk of one domain from instant `t0`: the counter advances by its INCR, and by what follows it once
an offset after a switch is absorbed (R290, R298). -/
def Domain.advance (t0 incr n : Nat) (x : Domain) : Domain :=
  match x.slewTo with
  | some (t, ppb) =>
    if t0 + n < t then { x with count := (x.count + incr * n) % domModulus }
    else
      { x with
        count := (x.count + incr * (t - t0) + incrOf ppb * (t0 + n - max t t0)) % domModulus
        slewing := false, ppb := ppb, slewTo := none }
  | none => { x with count := (x.count + incr * n) % domModulus }

/-- The clk, counted from `t0` on, at which one domain reads `x` in units of 2⁻²⁴ ns or more: at its INCR, and
at what
follows it once an offset after a switch is absorbed. -/
def Domain.reach (t0 incr x : Nat) (d : Domain) : Nat :=
  let plain := t0 + (x - d.count + (incr - 1)) / incr
  match d.slewTo with
  | some (t, ppb) =>
    if plain ≤ t then plain
    else max t0 t + (x - (d.count + incr * (t - t0)) + (incrOf ppb - 1)) / incrOf ppb
  | none => plain

/-- `n` clk pass for domain `k`; at the end of an absorption INCR follows the new source's rate, and its
tracker starts from no offset (R298). -/
def Dev.domElapse (n k : Nat) (d : Dev) : Dev :=
  let x := tget Domain.start d.time.doms k
  let y := x.advance d.clk (d.rd (TIME_INCR.INCR k)) n
  let d := { d with time := { d.time with doms := tset Domain.start d.time.doms k y } }
  if x.slewTo.isSome && y.slewTo.isNone then
    let d := d.wr (TIME_INCR.INCR k) (incrOf y.ppb)
    if d.redundant k && (k % 2 = 1) = d.upperActive k then d.modTrk k fun t => { t with prev := 0 } else d
  else d

/-- `n` clk pass: the local clock and every domain's counter advance (R290, R291). Nothing runs before
the end of the start-up sequence. DESIGN CHOICE, log 2. -/
def Dev.elapse (n : Nat) (d : Dev) : Dev :=
  if d.awake then
    let d := d.each [0, 1, 2, 3] (Dev.domElapse n)
    { d with clk := d.clk + n }
  else d

/-- Ethernet port `p` carries a frame of `len` bytes without its FCS from now: with preamble, FCS and gap it
keeps the medium for 8 clk a byte at 100 Mbit/s (R312, 100BASE-TX of spec/19). PRESUMED, log 77. DESIGN CHOICE, log 118. -/
def Dev.occupy (p len : Nat) (d : Dev) : Dev :=
  { d with cue := { d.cue with busy := tset 0 d.cue.busy p (max d.clk (tget 0 d.cue.busy p) + 8 * (len + 24)) } }

/-- Time passes up to instant `t` in clk, unless it has come already. DESIGN CHOICE, log 2. -/
def Dev.advanceTo (t : Nat) (d : Dev) : Dev := if d.clk < t then d.elapse (t - d.clk) else d

/-- Seconds of the local clock. -/
def Dev.clkS (d : Dev) : Nat := d.clk / 100000000

/-- An age kept as in `Nv`, in days. DESIGN CHOICE, log 81. -/
def Dev.days (x : Int) (d : Dev) : Nat := ((x + d.clkS) / 86400).toNat

/-- clk in a number of milliseconds. -/
def msClk (n : Nat) : Nat := 100000 * n

/-- The cycle's length in clk at the rate set at its boundary (R101). -/
def Dev.cycleClk (d : Dev) : Rat := 100000000 / d.phase.rate

/-- Rounding to the nearest integer. -/
def nearest (x : Rat) : Int := (x + 1 / 2).floor

/-- A nonnegative value rounded to nearest, cut at `top`. -/
def roundTo (top : Nat) (x : Rat) : Nat := min top (nearest x).toNat

/-- Phase now, in 1/65,536 cycle (R92). The phase stands at the cycle's last value until the boundary
comes. -/
def Dev.phaseNow (d : Dev) : Nat :=
  min 65535 ((((d.clk : Rat) - d.phase.start) / d.cycleClk * 65536).floor).toNat

/-! ### Records (R341 to R350) -/

/-- `n` bytes of `v`, little-endian. -/
def leBytes : Nat → Nat → List Byte
  | 0, _ => []
  | n + 1, v => BitVec.ofNat 8 v :: leBytes n (v / 256)

/-- A record's SOURCE and CODE (R342, R382). -/
abbrev Kind := Nat × Nat

def recPhaseHold : Kind := (0, 1)
def recPhaseLocked : Kind := (0, 2)
def recAdjBalance : Kind := (0, 3)
def recLoopMarginal : Kind := (0, 4)
def recCassetteRemoved : Kind := (0, 5)
def recVoltCountDisagree : Kind := (1, 1)
def recCountVoltDisagree : Kind := (1, 2)
def recRestRecal : Kind := (1, 3)
def recProbeRequest : Kind := (1, 4)
def recLrnRestored : Kind := (2, 1)
def recBlockReplaced : Kind := (2, 2)
def recIdentMissing : Kind := (2, 3)
def recBlockAbsent : Kind := (2, 4)
def recStringRelearned : Kind := (2, 5)
def recLrnQUpdate : Kind := (2, 6)
def recCaptestDone : Kind := (2, 7)
def recCaptestFailed : Kind := (2, 8)
def recLimHardRequest : Kind := (3, 1)
def recLimEscalate : Kind := (3, 2)
def recStringOpened : Kind := (4, 1)
def recBankOpened : Kind := (4, 2)
def recContactorWelded : Kind := (4, 3)
def recContactorAuxFault : Kind := (4, 4)
def recContactorNoClose : Kind := (4, 5)
def recPrechargeAborted : Kind := (4, 6)
def recWearReset : Kind := (4, 7)
def recBalForced : Kind := (5, 1)
def recBalSwitchFailed : Kind := (5, 2)
def recBalSwitchRestored : Kind := (5, 3)
def recBalTestDone : Kind := (5, 4)
def recThwWarn : Kind := (6, 1)
def recThwThrottle : Kind := (6, 2)
def recThwRateHigh : Kind := (6, 3)
def recThwIntWarn : Kind := (6, 4)
def recPointImplausible : Kind := (6, 5)
def recZoneBlind : Kind := (6, 6)
def recThwHottestLost : Kind := (6, 7)
def recThermalShutdown : Kind := (6, 8)
def recThwTrigger : Kind := (6, 9)
def recThermalLatchCleared : Kind := (6, 10)
def recChnShort : Kind := (7, 1)
def recChnOverload : Kind := (7, 2)
def recChnOpenLoad : Kind := (7, 3)
def recChnOvertemp : Kind := (7, 4)
def recChnTotalShed : Kind := (7, 5)
def recShuntOpen : Kind := (7, 6)
def recChnHoldThrough : Kind := (7, 7)
def recChnLoadDump : Kind := (7, 8)
def recSafFault : Kind := (8, 1)
def recSafDegraded : Kind := (8, 2)
def recSafetyReset : Kind := (8, 3)
def recResetStuck : Kind := (8, 4)
def recSafProof : Kind := (8, 5)
def recProofDue : Kind := (8, 6)
def recShuntStuck : Kind := (8, 7)
def recTimeStep : Kind := (9, 1)
def recMasterJump : Kind := (9, 2)
def recTimeSwitch : Kind := (9, 3)
def recCueLate : Kind := (10, 1)
def recCueMark : Kind := (10, 2)
def recCueMarkEnd : Kind := (10, 3)
def recCueSkipped : Kind := (10, 4)
def recCueFailed : Kind := (10, 5)
def recEccCueLost : Kind := (10, 6)
def recRecStagingOverflow : Kind := (12, 1)
def recTornRecord : Kind := (12, 2)
def recRecMainFailed : Kind := (12, 3)
def recRecMainRestored : Kind := (12, 4)
def recLgrWriteFailed : Kind := (13, 1)
def recStart : Kind := (14, 1)
def recPruneEnter : Kind := (14, 2)
def recPruneExit : Kind := (14, 3)
def recAuxInputLost : Kind := (14, 4)
def recAuxInputRestored : Kind := (14, 5)
def recAuxReversed : Kind := (14, 6)
def recHoldupStart : Kind := (14, 7)
def recHoldupEnd : Kind := (14, 8)
def recHoldLow : Kind := (14, 9)
def recTransportEnter : Kind := (14, 10)
def recTransportExit : Kind := (14, 11)
def recCommissionEnter : Kind := (14, 12)
def recCommissionExit : Kind := (14, 13)
def recStartCfgFail : Kind := (14, 14)
def recMramRefresh : Kind := (14, 15)
def recCalDone : Kind := (14, 16)
def recCalFail : Kind := (14, 17)
def recTrellisFallback : Kind := (16, 1)
def recTrellisApplied : Kind := (16, 2)
def recBedApplied : Kind := (16, 3)
def recSessionOpened : Kind := (16, 4)
def recSessionRejected : Kind := (16, 5)
def recSessionClosed : Kind := (16, 6)
def recStewardLost : Kind := (16, 7)

/-- Create a record (R344 to R346): it takes its domain time, quality, monotonic time and phase time
now. Its SEQ follows when the step ends (`Dev.commit`). While the supervisor is held in reset no record
is created; what would be one is created at reclaim (R371). DESIGN CHOICE, log 12. DEDUCED, log 13. -/
def Dev.record (k : Kind) (data : List Byte) (d : Dev) : Dev :=
  if d.pwr.sup ≠ .running then d.modRcd fun r => { r with deferred := r.deferred ++ [(k, data)] }
  else
    let n := d.rd REC_CFG.DOMAIN
    d.modRcd fun r => { r with drafts := r.drafts ++
      [{ seq := 0, src := k.1, code := k.2, rep := 0, dq := n + 4 * d.quality n, domSec := d.domSec n
         domNs := d.domNs n % 1000000000, mono := r.monoBase + 10 * d.clk, phase := d.phaseNow
         cycle := d.phase.cycle, data := data }] }

/-- Create the records a supervisor reset held back. DESIGN CHOICE, log 12. -/
def Dev.releaseRecords (d : Dev) : Dev :=
  d.rcd.deferred.foldl (fun d x => d.record x.1 x.2) (d.modRcd fun r => { r with deferred := [] })

/-- Whether records of the same clk come in the order `a`, `b` (R311, R344): marks first, then by
ascending SOURCE, then as created. DESIGN CHOICE, log 12. -/
def Rec.before (a b : Rec) : Bool :=
  if a.mono ≠ b.mono then decide (a.mono < b.mono)
  else
    let mark (r : Rec) : Bool := r.src = 10 && (r.code = 2 || r.code = 3)
    if mark a ≠ mark b then mark a else decide (a.src ≤ b.src)

/-- Put a record behind every one that comes before it. -/
def Rec.into (x : Rec) : List Rec → List Rec
  | [] => [x]
  | y :: l => if y.before x then y :: Rec.into x l else x :: y :: l

/-- The records of one step in the order they take SEQ. -/
def Rec.sort (l : List Rec) : List Rec := l.foldl (fun a x => Rec.into x a) []

/-- Records in the order of their SEQ. -/
def Rec.bySeq (l : List Rec) : List Rec :=
  l.foldl (fun a x => a.takeWhile (fun y => y.seq < x.seq) ++ x :: a.dropWhile (fun y => y.seq < x.seq)) []

/-- Whether R358 counts a record: its kinds, SESSION_OPENED in the Maintainer or Safety Steward role (the
role code follows the session ID and KEY_ID in DATA), and the PWR records R382 names. -/
def Rec.xref (r : Rec) : Bool :=
  [recTrellisApplied, recTrellisFallback, recBedApplied, recCassetteRemoved, recBlockReplaced,
   recBlockAbsent, recIdentMissing, recLrnRestored, recWearReset, recTimeStep, recTimeSwitch,
   recMasterJump, recTornRecord, recRecMainFailed, recStart, recTransportEnter, recTransportExit,
   recCommissionEnter, recCommissionExit, recCalDone, recCalFail].contains (r.src, r.code) ||
  ((r.src, r.code) = recSessionOpened && decide (4 ≤ ((r.data.drop 3).headD 0).toNat))

/-- A record takes its SEQ and its REPEAT and enters staging, or is counted when staging is full (R344,
R349, R350). THERMAL_SHUTDOWN goes ahead of every staged record, and a full staging does not lose it (R221). DEDUCED, log 98. -/
def RecSt.number (r : RecSt) (x : Rec) : RecSt :=
  if 1024 ≤ r.staging.length + r.urgent.length ∧ (x.src, x.code) ≠ recThermalShutdown then
    { r with lost := r.lost + 1, stageLost := min 65535 (r.stageLost + 1) }
  else
    let rep := match r.prev with
      | some p => if p.src = x.src ∧ p.code = x.code ∧ p.data = x.data then min 255 (p.rep + 1) else 0
      | none => 0
    let y := { x with seq := r.next, rep := rep }
    let same := (r.urgent ++ r.staging).any fun p => p.mono = x.mono
    let r := { r with next := r.next + 1, prev := some y, base := if same then r.base else r.prev }
    let r := if x.xref then { r with xseq := y.seq, xcnt := min 65535 (r.xcnt + 1) } else r
    if (x.src, x.code) = recThermalShutdown then { r with urgent := r.urgent ++ [y] }
    else { r with staging := r.staging ++ [y] }

/-- The first SEQ above every record written, and above every one that waits of another clk than `t`. -/
def RecSt.openFrom (t : Nat) (r : RecSt) : Nat :=
  (r.urgent ++ r.staging).foldl (fun a x => if x.mono = t then a else max a (x.seq + 1)) r.written

/-- Whether a staged record is of the clk `t`, with no record of a higher SEQ written yet. -/
def RecSt.open_ (t : Nat) (r : RecSt) (x : Rec) : Bool := x.mono = t && decide (r.openFrom t ≤ x.seq)

/-- The records of the clk `t` that still stand in staging go back among the drafts, before their order and
SEQ are
settled with those that join them (R311, R344). DESIGN CHOICE, log 12. -/
def RecSt.recall (t : Nat) (r : RecSt) : RecSt :=
  match Rec.bySeq ((r.urgent ++ r.staging).filter (r.open_ t)) with
  | [] => r
  | y :: l =>
    { r with
      urgent := r.urgent.filter fun x => !r.open_ t x, staging := r.staging.filter fun x => !r.open_ t x
      drafts := y :: l ++ r.drafts, next := y.seq, prev := r.base
      xcnt := r.xcnt - ((y :: l).filter Rec.xref).length }

/-- The end of a step: its records take SEQ in order, with those of the same clk that are still staged, and
enter
staging. DESIGN CHOICE, log 12. -/
def RecSt.commit (r : RecSt) : RecSt :=
  match r.drafts with
  | [] => r
  | x :: _ =>
    let r := r.recall x.mono
    (Rec.sort r.drafts).foldl RecSt.number { r with drafts := [] }

/-- The end of a step: its records take their SEQ. Nothing but the recorder changes. -/
def Dev.commit (d : Dev) : Dev := { d with rcd := d.rcd.commit }

/-! ### Frames of the isolated links (R63, R71) -/

/-- One bit of the CRC of R63, most significant bit first. -/
def crc32Bit (c : Nat) : Nat :=
  if 2147483648 ≤ c then Nat.xor (c * 2 % 4294967296) 0x04C11DB7 else c * 2 % 4294967296

def crc32Byte (c : Nat) (b : Byte) : Nat :=
  (List.range 8).foldl (fun c _ => crc32Bit c) (Nat.xor c (b.toNat * 16777216))

/-- CRC-32 of R63. -/
def crc32 (l : List Byte) : Nat := 0xFFFFFFFF - l.foldl crc32Byte 0xFFFFFFFF

/-- A word, most significant byte first, as the link sends it. -/
def beWord (v : Nat) : List Byte := (leBytes 4 v).reverse

/-- The CRC-32 over header, payload and status words, in transmission order (R63). -/
def linkCrc (l : List Nat) : Nat := crc32 (l.flatMap beWord)

/-- A downlink frame's words: header, payload, CRC (R63). -/
def Down.words (f : Down) : List Nat :=
  let l := headerWord f.ftype f.seq (4 * f.payload.length) f.retry :: f.payload
  l ++ [linkCrc l]

/-- Whether a received frame of type `ft` is good (R63, R71): LEN is the type's, and the CRC is that of its
header,
payload and status. A frame that fails is discarded whole. DEDUCED, log 105. -/
def uplinkGood (ft len seq lenField : Nat) (payload : List Nat) (status crc : Nat) : Bool :=
  lenField = len && payload.length * 4 = len &&
    crc = linkCrc (headerWord ft seq len false :: (payload ++ [status]))

/-- 16-bit values as words, the first in the upper half; an odd number is padded with 0 (R72). -/
def halves : List Nat → List Nat
  | [] => []
  | [a] => [a * 65536]
  | a :: b :: l => (a * 65536 + b) :: halves l

/-! ### Running an effect -/

/-- A meaning that leaves the MRAM copies alone: the command's effect on the rest of the module, then
its records take their SEQ. -/
def State.run (s : State) (f : Mem → Dev → Dev) : Host.Outcome State Fault Refusal :=
  .next { s with dev := (f s.mem s.dev).commit }

/-- A meaning that may change the MRAM copies too. -/
def State.runMem (s : State) (f : Mem → Dev → Mem × Dev) : Host.Outcome State Fault Refusal :=
  .next { s with mem := (f s.mem s.dev).1, dev := (f s.mem s.dev).2.commit }

/-- Whether a command accepted at clk `t` takes effect now: at a sweep boundary, which is at least 40 clk
after it
(R25, R52). -/
def Dev.boundaryFor (t : Nat) (d : Dev) : Bool :=
  d.phase.k = 0 && d.clk = d.phase.boundAt && decide (t + 40 ≤ d.clk)

end Sys2Proof.Machine
end

