-- ==== Sys2Proof/Machine/Rap.lean ====
section
/-! DEFINITION. RAP on the wire (R321, R322, R324, R326, R327): headers, CAN frames, sealed payloads, session keys. -/

namespace Sys2Proof.Machine

/-! ### Types of R322 -/

def rapHello : Nat := 0x01
def rapChallenge : Nat := 0x02
def rapFinish : Nat := 0x03
def rapAccept : Nat := 0x04
def rapReject : Nat := 0x05
def rapRequest : Nat := 0x10
def rapResponse : Nat := 0x11
def rapClose : Nat := 0x12
def rapKeepalive : Nat := 0x13

/-- The bytes of the tag that an encrypted message bears. -/
def rapTag (typ : Nat) : Nat := if typ = rapHello || typ = rapChallenge || typ = rapReject then 0 else 16

/-- The plaintext limit of a path, in bytes (R321, R324). DEDUCED, log 23. -/
def payloadLimit (p : Path) : Nat := if p.num < 2 then 1024 else 256

/-! ### Headers and frames -/

/-- The 16 B header of a datagram (R321). -/
def rapHeader (typ sid len seq : Nat) : List Byte :=
  [0x52, 0x41, 0x01] ++ leBytes 1 typ ++ leBytes 1 sid ++ [0x00] ++ leBytes 2 len ++ leBytes 8 seq

/-- The additional data of an encrypted message: the header, or on CAN the reduced form of R324. -/
def rapAad (p : Path) (typ sid len seq : Nat) : List Byte :=
  if p.num < 2 then rapHeader typ sid len seq
  else leBytes 1 typ ++ leBytes 1 sid ++ leBytes 2 len ++ leBytes 4 seq

/-- A message cut into fragments of up to 56 bytes, at most `n` of them. -/
def canChunks : Nat → List Byte → List (List Byte)
  | 0, _ => []
  | n + 1, l => if l.isEmpty then [] else l.take 56 :: canChunks n (l.drop 56)

/-- One CAN FD frame: its 8 B header and its bytes of the message. DEDUCED, log 104. -/
def canFrame (typ sid index count seq : Nat) (l : List Byte) : List Byte :=
  leBytes 1 typ ++ leBytes 1 sid ++ leBytes 1 (16 * index + count) ++ leBytes 1 l.length ++ leBytes 4 seq ++ l

/-- A message whose payload is `len` bytes long, as it goes out on a path. -/
def rapFrames (p : Path) (typ sid len seq : Nat) (body : List Byte) : List (List Byte) :=
  if p.num < 2 then [rapHeader typ sid len seq ++ body]
  else
    let c := canChunks 7 body
    (List.range c.length).zipWith (fun k l => canFrame typ sid k c.length seq l) c

/-- A RAP message goes out: on CAN under `base` and the session ID, 0 during establishment (R324). -/
def Dev.sendRap (p : Path) (base id typ sid len seq : Nat) (body : List Byte) (d : Dev) : Dev :=
  d.emit (.rap p (if p.num < 2 then none else some (base + id)) (rapFrames p typ sid len seq body))

/-! ### Keys (R327) -/

/-- The public key under which a KEY_ID is known. -/
def keyPublic (m : Mem) (key : Nat) : List Byte :=
  if !m.hasImage then Config.factoryKey
  else match m.img.key key with
    | some r => m.img.slice r 64
    | none => []

/-- The 40 bytes a session's two sides derive (R327). -/
def Sess.derived (m : Mem) (sid : Nat) (x : Sess) : List Byte :=
  leBytes 40 (Config.hkdf ((x.hello.drop 4).take 16 ++ x.challenge.take 16)
    (Config.ecdh x.eph (x.hello.drop 20) ++ Config.ecdh Config.sessionPriv (keyPublic m x.key))
    ([0x52, 0x41, 0x50, 0x31] ++ leBytes 1 sid ++ leBytes 2 x.key ++ leBytes 1 x.role.num))

/-- A session in establishment with the keys it derives. -/
def Sess.keyed (m : Mem) (sid : Nat) (x : Sess) : Sess := { x with keys := x.derived m sid }

/-- TH: the digest of HELLO, CHALLENGE and the SESSION byte (R326). -/
def Sess.th (sid : Nat) (x : Sess) : List Byte := Config.sha256 (x.hello ++ x.challenge ++ leBytes 1 sid)

/-- Ciphertext and tag of a plaintext of `len` bytes under one direction's key and salt (R321, R327). -/
def Sess.sealed (x : Sess) (toHost : Bool) (typ sid len seq : Nat) (plain : List Byte) : List Byte :=
  let key := (x.keys.drop (if toHost then 16 else 0)).take 16
  let salt := (x.keys.drop (if toHost then 36 else 32)).take 4
  leBytes (len + 16) (Config.gcm key (salt ++ leBytes 8 seq) (rapAad x.path typ sid len seq) plain)

/-- The module's message of an open session under a SEQ. -/
def Dev.sendSealed (x : Sess) (sid typ seq : Nat) (plain : List Byte) (d : Dev) : Dev :=
  d.sendRap x.path x.base sid typ sid plain.length seq (x.sealed true typ sid plain.length seq plain)

/-- The module's next message of an open session. -/
def Dev.say (sid typ : Nat) (plain : List Byte) (d : Dev) : Dev :=
  let x := d.sess sid
  (d.modSess sid fun y => { y with tx := y.tx + 1 }).sendSealed x sid typ x.tx plain

/-! ### What is received (R321, R324) -/

/-- The session ID in what names a message of TYPE `typ`: 0 during establishment (R321, R324). DEDUCED, log 104. -/
def rapSid (typ sid : Nat) : Nat := if typ < rapRequest then 0 else sid

/-- The key of what is reassembled for an identifier. -/
def canKey (p : Path) (id : Nat) : Nat := 64 * p.num + id

/-- Whether fragments have made this message on CAN (R324). -/
def madeOn (typ : Nat) (x : RapMsg) : Option CanRx → Bool
  | some y => y.typ = typ && y.seq = x.seq.toNat && y.bytes = x.body
  | none => false

/-- Whether a header on Ethernet, and the length, are as R321 has them. -/
def headed (typ : Nat) (x : RapMsg) : Bool :=
  x.magic = 0x4152 && x.version = 1 && x.flags = 0 && decide (x.length.toNat ≤ 1024) &&
    x.body.length = x.length.toNat + rapTag typ

/-- Whether a message of TYPE `typ` has arrived for session `sid`. -/
def Dev.arrived (typ sid : Nat) (x : RapMsg) (d : Dev) : Bool :=
  x.session.toNat = rapSid typ sid &&
    (if x.path.num < 2 then headed typ x else madeOn typ x (look d.net.canIn (canKey x.path (rapSid typ sid))))

/-- The message is taken. -/
def Dev.taken (typ sid : Nat) (x : RapMsg) (d : Dev) : Dev :=
  if x.path.num < 2 then d
  else { d with net := { d.net with canIn := strike d.net.canIn (canKey x.path (rapSid typ sid)) } }

/-- Whether the payload is `plain`, sealed under the session's keys (R321, R323). -/
def Sess.opens (x : Sess) (typ sid : Nat) (msg : RapMsg) (plain : List Byte) : Bool :=
  x.path = msg.path && msg.body.length = plain.length + 16 &&
    msg.body = x.sealed false typ sid plain.length msg.seq.toNat plain

end Sys2Proof.Machine
end

