-- ==== Sys2Proof/Machine/Chem.lean ====
section
/-! DEFINITION. Chemistry profiles and their tables (R117, R119). -/

namespace Sys2Proof.Machine

/-- Offset of chemistry profile `p`. -/
def Img.prof (i : Img) (p : Nat) : Nat := i.at_ secChem + 8 + 1424 * p

def Img.vEmpty (i : Img) (p : Nat) : Rat := (i.u16 (i.prof p + 2) : Rat) / 10000
def Img.vFull (i : Img) (p : Nat) : Rat := (i.u16 (i.prof p + 4) : Rat) / 10000
/-- Rated cell capacity in A·s. -/
def Img.qRated (i : Img) (p : Nat) : Rat := (i.u16 (i.prof p + 6) : Rat) * 360
/-- T_AXIS[j] in °C. -/
def Img.tAxis (i : Img) (p j : Nat) : Rat := (signed 16 (i.u16 (i.prof p + 8 + 2 * j)) : Rat) / 100
/-- OCV[k][j] in V. -/
def Img.ocvAt (i : Img) (p k j : Nat) : Rat := (i.u16 (i.prof p + 24 + 16 * k + 2 * j) : Rat) / 10000
/-- P_INIT, P_MIN and P_MAX: ROHM, RPA, CPA, RPB, CPB as 0 to 4. -/
def Img.pInit (i : Img) (p k : Nat) : Rat := f32 (i.u32 (i.prof p + 1048 + 4 * k))
def Img.pMin (i : Img) (p k : Nat) : Rat := f32 (i.u32 (i.prof p + 1068 + 4 * k))
def Img.pMax (i : Img) (p k : Nat) : Rat := f32 (i.u32 (i.prof p + 1088 + 4 * k))
def Img.rTempAt (i : Img) (p j : Nat) : Rat := f32 (i.u32 (i.prof p + 1108 + 4 * j))
/-- NOISE: Q_SOC, Q_VPA, Q_VPB, SIGMA_V as 0 to 3. -/
def Img.noise (i : Img) (p k : Nat) : Rat := f32 (i.u32 (i.prof p + 1140 + 4 * k))
def Img.etaChg (i : Img) (p : Nat) : Rat := f32 (i.u32 (i.prof p + 1156))
/-- TVIRT pair `j`: phase in degrees and temperature in °C. -/
def Img.tvPhase (i : Img) (p j : Nat) : Rat := (signed 16 (i.u16 (i.prof p + 1160 + 4 * j)) : Rat) / 100
def Img.tvTemp (i : Img) (p j : Nat) : Rat := (signed 16 (i.u16 (i.prof p + 1162 + 4 * j)) : Rat) / 100
def Img.tvFreq (i : Img) (p : Nat) : Nat := i.u16 (i.prof p + 1288)

/-- A value held between two bounds. -/
def clamp (x lo hi : Rat) : Rat := if x < lo then lo else if hi < x then hi else x

/-- The magnitude of a rational. -/
def mag (x : Rat) : Rat := if x < 0 then -x else x

/-- The segment of T_AXIS that holds a clamped temperature: the highest `j` below 7 whose axis value
does not exceed it. -/
def Img.tSeg (i : Img) (p : Nat) (t : Rat) : Nat :=
  (List.range 7).foldl (fun a j => if i.tAxis p j ≤ t then j else a) 0

/-- The clamped temperature. -/
def Img.tClamp (i : Img) (p : Nat) (t : Rat) : Rat := clamp t (i.tAxis p 0) (i.tAxis p 7)

/-- Interpolate linearly in T the values `f j` at T_AXIS. -/
def Img.inT (i : Img) (p : Nat) (t : Rat) (f : Nat → Rat) : Rat :=
  let t := i.tClamp p t
  let j := i.tSeg p t
  let w := (t - i.tAxis p j) / (i.tAxis p (j + 1) - i.tAxis p j)
  f j + (f (j + 1) - f j) * w

/-- rtemp(T) (R119). -/
def Img.rtemp (i : Img) (p : Nat) (t : Rat) : Rat := i.inT p t (i.rTempAt p)

/-- The SoC segment that holds a clamped SoC. -/
def socSeg (s : Rat) : Nat := min 62 ((s * 63).floor).toNat

/-- ocv(s, T) (R119). -/
def Img.ocv (i : Img) (p : Nat) (s t : Rat) : Rat :=
  let s := clamp s 0 1
  let k := socSeg s
  let w := s * 63 - k
  i.inT p t fun j => i.ocvAt p k j + (i.ocvAt p (k + 1) j - i.ocvAt p k j) * w

/-- docv(s, T): the slope of the segment that holds s, in V per unit SoC (R119). -/
def Img.docv (i : Img) (p : Nat) (s t : Rat) : Rat :=
  let k := socSeg (clamp s 0 1)
  i.inT p t fun j => (i.ocvAt p (k + 1) j - i.ocvAt p k j) * 63

/-- ocv_inv(v, T): the smallest s whose interpolated value equals v, searched from segment `k` upward;
outside the table's range, its nearer end. -/
def Img.ocvInvFrom (i : Img) (p : Nat) (v t : Rat) : Nat → Nat → Rat
  | _, 0 => 1
  | k, n + 1 =>
    let a := i.inT p t (i.ocvAt p k)
    let b := i.inT p t (i.ocvAt p (k + 1))
    if v ≤ a then (k : Rat) / 63
    else if v ≤ b then ((k : Rat) + (v - a) / (b - a)) / 63
    else i.ocvInvFrom p v t (k + 1) n

def Img.ocvInv (i : Img) (p : Nat) (v t : Rat) : Rat := i.ocvInvFrom p v t 0 63

/-- The profile of cell `c`, by its port record. -/
def Dev.prof (d : Dev) (c : Nat) : Nat := (d.portRec (lcOfMon (c / 24))).profile

/-- A sum over a list. -/
def sumOf (l : List Nat) (f : Nat → Rat) : Rat := l.foldl (fun a k => a + f k) 0

/-- A cell's ohmic resistance at its model temperature (R123, R190). -/
def Dev.cellRo (m : Mem) (c : Nat) (d : Dev) : Rat :=
  (d.cell c).rohm * m.img.rtemp (d.prof c) (d.cell c).heat

/-- The sum of Rohm25 × rtemp over a string's cells (R190). -/
def Dev.stringRo (m : Mem) (s : Nat) (d : Dev) : Rat := sumOf (d.cellsOf s) fun c => d.cellRo m c

/-- A string's OCV: the sum over its cells at their SoC and model temperature. -/
def Dev.stringOcv (m : Mem) (s : Nat) (d : Dev) : Rat :=
  sumOf (d.cellsOf s) fun c => m.img.ocv (d.prof c) (d.cell c).soc (d.cell c).heat

end Sys2Proof.Machine
end

