-- ==== Sys2Proof/Machine/Openings.lean ====
section
/-! DEFINITION. What several functions do to the strings: coils and contactors, the latches of R196 to
R198, openings of a string and of the bank, aborts of a close, the firing of SHUNT_TRIP, the Curtain's
gates, and the entries to DEGRADED and SAFE. -/

namespace Sys2Proof.Machine

/-! ### Contactors (R176, R180 to R182) -/

/-- The field that reports contactor `c` by wear index. -/
def conFld (c : Nat) : Fld :=
  if c = 24 then SEQ_BANK.BPOS else if c = 25 then SEQ_BANK.BNEG else if c = 26 then SEQ_BANK.BPRE
  else if c % 3 = 0 then SEQ_STATE.POS (c / 3) else if c % 3 = 1 then SEQ_STATE.NEG (c / 3)
  else SEQ_STATE.PRE (c / 3)

/-- The state of contactor `c` (R182): 0 OPEN, 1 CLOSING, 2 CLOSED, 3 OPENING, 4 WELDED, 5 AUX_FAULT,
6 NO_CLOSE, 7 ABSENT. -/
def Dev.con (d : Dev) (c : Nat) : Nat := d.rd (conFld c)

/-- Wear indices of a string's contactors, or of the bank's for 8 (R176). -/
def consOf (w : Nat) : List Nat := [3 * w, 3 * w + 1, 3 * w + 2]

/-- The string a contactor belongs to, 8 for the bank. -/
def ownerOf (c : Nat) : Nat := c / 3

/-- A contactor that carries nothing: OPEN, NO_CLOSE or ABSENT. -/
def Dev.conIdle (d : Dev) (c : Nat) : Bool := d.con c = 0 || d.con c = 6 || d.con c = 7

/-- The contactor whose coil channel `n` drives, if any (R177, R178). -/
def coilOf (m : Mem) (n : Nat) : Option Nat :=
  (List.range 27).find? fun c => m.img.conExists c && decide (m.img.coilChan c = n)

/-- Coil off: the contactor is OPENING until its aux opens (R182), and SEQ will judge it at T_OPEN
(R193). WELDED, AUX_FAULT and NO_CLOSE stay. -/
def Dev.coilOff (m : Mem) (c : Nat) (d : Dev) : Dev :=
  if d.coil c then
    let d := d.modSeq fun x => { x with coil := tset false x.coil c false, judge := tset false x.judge c true }
    let d := d.modChan (m.img.coilChan c) fun x => { x with inrush := false }
    if d.con c = 1 || d.con c = 2 || d.con c = 3 then d.wr (conFld c) (if d.auxClosed c then 3 else 0)
    else d
  else d

/-- Coil on: the contactor is CLOSING until its aux closes (R182); its channel's demand turns on, which
begins an inrush window (R245). -/
def Dev.coilOn (m : Mem) (c : Nat) (d : Dev) : Dev :=
  if d.coil c then d
  else
    let d := d.modSeq fun x => { x with coil := tset false x.coil c true, judge := tset false x.judge c false }
    let d := d.modChan (m.img.coilChan c) fun x => { x with inrush := true }
    if d.con c = 4 || d.con c = 5 || d.con c = 7 then d
    else d.wr (conFld c) (if d.auxClosed c then 2 else 1)

/-- Every coil of a string, or of the bank for 8, off. -/
def Dev.coilsOff (m : Mem) (w : Nat) (d : Dev) : Dev := d.each (consOf w) (Dev.coilOff m)

/-! ### Latches (R196 to R198, R283) -/

/-- The strongest latch that stands on a string, or on the bank for 8, and its cause: POWER 4, SAFETY 3,
MAINT 2, HOLD 1, none 0. -/
def Dev.latchOf (d : Dev) (w : Nat) : Nat × Nat :=
  if w = 8 && d.thw.latch then (4, 0x12)
  else if tget 0 d.saf.ret.latch w ≠ 0 then (3, tget 0 d.saf.ret.latch w)
  else if tget 0 d.nv.maint w ≠ 0 then (2, tget 0 d.nv.maint w)
  else if decide (w < 8) && (d.sq w).hold then (1, 0x04)
  else (0, 0)

def causeFld (w : Nat) : Fld := if w = 8 then SEQ_BANK.CAUSE else SEQ_STATE.CAUSE w
def latchFld (w : Nat) : Fld := if w = 8 then SEQ_BANK.LATCH else SEQ_STATE.LATCH w

/-- LATCH and CAUSE report the strongest latch; with none, CAUSE keeps the last cause (R198). DEDUCED, log 57. -/
def Dev.showLatch (w : Nat) (d : Dev) : Dev :=
  let l := d.latchOf w
  let d := d.wr (latchFld w) l.1
  if l.1 ≠ 0 then d.wr (causeFld w) l.2 else d

/-- Every LATCH and CAUSE anew. -/
def Dev.showLatches (d : Dev) : Dev := d.each (List.range 9) Dev.showLatch

/-- The latch class of a cause (R196). PRECHARGE_ABORT reaches MAINT through PRE_ATTEMPTS alone. -/
def causeRank (code : Nat) : Nat :=
  if code = 0x12 then 4
  else if code = 0x0E || code = 0x0F || code = 0x10 || code = 0x11 then 3
  else if code = 0x0A || code = 0x0B || code = 0x0C || code = 0x0D then 2
  else if code = 0x04 then 1 else 0

/-- Whether a cause opens at once (R196). -/
def causeImmediate (code : Nat) : Bool :=
  decide (7 ≤ code) && code ≠ 0x11

/-- A demand or a fault of the safety system abandons a running proof test, which latches nothing (R390). -/
def Dev.abandonProof (d : Dev) : Dev :=
  if d.saf.proof.isSome then (d.modSaf fun x => { x with proof := none }).wr SAF_PROOF.RESULT 0 else d

/-- Set the latch of class `rank` for a cause; the first of a class stands (R198). POWER is THW's. DEDUCED, log 57. -/
def Dev.latch (w rank code : Nat) (d : Dev) : Dev :=
  let d :=
    if rank = 3 then d.abandonProof.modRet fun r =>
      { r with latch := tmod 0 r.latch w fun c => if c = 0 then code else c }
    else if rank = 2 then d.modNv fun n =>
      { n with maint := tmod 0 n.maint w fun c => if c = 0 then code else c }
    else if rank = 1 then d.modSq w fun x => { x with hold := true }
    else d
  d.showLatch w

/-! ### Settling (R191, R192, R199) -/

/-- A string whose coils are all off is OPEN, or COOLDOWN after an aborted pre-charge, once every
contactor is. RECLOSE_HOLD starts at OPEN under a HOLD latch (R196). -/
def Dev.settle (s : Nat) (d : Dev) : Dev :=
  if d.strState s = 8 && (consOf s).all (fun c => !d.coil c && d.conIdle c) then
    let q := d.sq s
    let d := d.wr (SEQ_STATE.STATE s) (if q.cool then 9 else 1)
    d.modSq s fun x => { x with
      opn := .idle, cool := false
      holdEnd := if q.cool then x.holdEnd
        else if x.hold then d.clk + 100000000 * d.rd SEQ_CFG.RECLOSE_HOLD else 0 }
  else d

/-- Bank contactors that are all off: OPEN again, unless SHUNT_TRIP has fired. -/
def Dev.settleBank (d : Dev) : Dev :=
  if d.seq.bank = .allOff && (consOf 8).all (fun c => !d.coil c && d.conIdle c) then
    let d := d.modSeq fun x => { x with bank := .idle }
    if d.rd SEQ_BANK.STATE = 5 || d.rd SEQ_BANK.STATE = 0 then d else d.wr SEQ_BANK.STATE 1
  else d

def bedSeqn : Nat := 6

/-- Once every string is open, an orderly bank opening goes on to BPOS (R192). An outage of SEQN holds it
(R58). -/
def Dev.bankOrderly (m : Mem) (d : Dev) : Dev :=
  if d.seq.bank = .waitOpen && d.allOpen && !d.load.outage.contains bedSeqn then
    if m.img.bankPresent then
      let d := (d.coilOff m 24).coilOff m 26
      (d.modSeq fun x => { x with bank := .bnegDelay }).wr SEQ_BANK.STATE 4
    else d.modSeq fun x => { x with bank := .idle }
  else d

/-- The bank contactors off together. -/
def Dev.bankOff (m : Mem) (d : Dev) : Dev :=
  if m.img.bankPresent then
    let d := d.coilsOff m 8
    let d := d.modSeq fun x => { x with bank := .allOff }
    let d := if d.rd SEQ_BANK.STATE = 5 then d else d.wr SEQ_BANK.STATE 4
    d.settleBank
  else d.modSeq fun x => { x with bank := .idle }

/-- A bank close in progress (R186). -/
def Dev.bankClosing (d : Dev) : Bool :=
  d.seq.bank = .bnegOn || d.seq.bank = .bpreOn || d.seq.bank = .settle || d.seq.bank = .bposOn ||
    d.seq.bank = .overlap || d.seq.bank = .bpreOff

/-- SEQ_JOIN names the head of the queue (R190, R202). -/
def Dev.showQueue (d : Dev) : Dev :=
  match d.seq.queue with
  | [] => (d.wr SEQ_JOIN.STRING 0xFF).wr SEQ_JOIN.I_PRED 0
  | s :: _ => if d.rd SEQ_JOIN.STRING = s then d else (d.wr SEQ_JOIN.STRING s).wr SEQ_JOIN.I_PRED 0

/-- Take a string out of the join queue. -/
def Dev.unqueue (s : Nat) (d : Dev) : Dev :=
  ((d.modSeq fun x => { x with queue := x.queue.filter (· ≠ s) }).wr (SEQ_STATE.JOIN_BLOCKED s) 0).showQueue

/-- A QUEUED string leaves the queue and is OPEN (R199). -/
def Dev.dequeue (s : Nat) (d : Dev) : Dev :=
  if d.strState s = 2 then (d.unqueue s).wr (SEQ_STATE.STATE s) 1 else d

/-! ### Openings (R191, R192, R196, R198) -/

/-- Every coil of a string off at once, with no waiting (R191). -/
def Dev.immediate (m : Mem) (s : Nat) (d : Dev) : Dev :=
  let d := d.coilsOff m s
  let d := d.modSq s fun x => { x with close := .idle, opn := .allOff, again := false }
  (if d.strState s = 10 then d else d.wr (SEQ_STATE.STATE s) 8).settle s

/-- DRAINING (R191): the wait of step 2 is 0 for SUPPLY_PRUNE. -/
def Dev.drain (s code : Nat) (d : Dev) : Dev :=
  (d.modSq s fun x => { x with opn := if code = 5 then .breakWait else .drain, cause := code }).wr
    (SEQ_STATE.STATE s) 7

/-- Seconds in clk. -/
def secClk (n : Nat) : Nat := 100000000 * n

/-- The bytes of a fit value a register field reports. -/
def Dev.fitData (s : Nat) (d : Dev) : List Byte :=
  leBytes 2 (d.rd (SEQ_PRE.T90 s)) ++ leBytes 2 (d.rd (SEQ_PRE.R_FIT s)) ++
    leBytes 3 (d.rd (SEQ_PREC.C_FIT s)) ++ leBytes 2 (d.rd (SEQ_TIMER.ENERGY s))

/-- The attempt of string `s` aborts with a code of R189: coils off, COOLDOWN to follow, ATTEMPTS counted
and recorded; at PRE_ATTEMPTS the string latches in MAINT. -/
def Dev.abortClose (m : Mem) (s code : Nat) (d : Dev) : Dev :=
  if d.inSequence s then
    let d := (d.wr (SEQ_PREC.ABORT s) code).bump (SEQ_PREC.ATTEMPTS s)
    let d := d.record recPrechargeAborted
      (leBytes 1 s ++ leBytes 1 code ++ d.fitData s)
    let d := d.modSq s fun x => { x with cool := true, holdEnd := d.clk + secClk (m.img.cool s) }
    let d := d.immediate m s
    if d.rd SEQ_CFG.PRE_ATTEMPTS ≤ d.rd (SEQ_PREC.ATTEMPTS s) then d.latch s 2 0x08 else d
  else d

/-- What a cause does to one string that is not open, but for its record, CAUSE and latch (R196, R198,
R199). DEDUCED, log 58. -/
def Dev.openManner (m : Mem) (s code : Nat) (imm : Bool) (d : Dev) : Dev :=
  if d.strState s = 2 then d.dequeue s
  else if d.inSequence s then d.abortClose m s 11
  else if d.strState s = 6 then if imm then d.immediate m s else d.drain s code
  else if d.strState s = 7 then
    if imm then d.immediate m s
    else if code = 5 then d.drain s code else d
  else if d.strState s = 8 then if imm then d.immediate m s else d
  else d

/-- A cause of string scope acts on string `s` (R196): on a string that is not open it is recorded, takes
CAUSE unless a cause already stands, latches, and opens the string in its manner. On an open string only
a latch of SAFETY class remains, which the Curtain holds. DEDUCED, log 89. -/
def Dev.openString (m : Mem) (code s : Nat) (d : Dev) : Dev :=
  if d.isOpen s then
    if causeRank code = 3 then d.latch s 3 code else d
  else
    let fresh := d.connected s && d.strState s ≠ 7 || d.closing s
    let d := d.record recStringOpened [BitVec.ofNat 8 s, BitVec.ofNat 8 code]
    let d := if fresh then d.wr (causeFld s) code else d
    let d := d.latch s (causeRank code) code
    d.openManner m s code (causeImmediate code)

/-- SHUNT_TRIP fires (R192): it is energised and every coil goes off. DEDUCED, log 57. -/
def Dev.fireShunt (m : Mem) (d : Dev) : Dev :=
  let d := d.modSeq fun x => { x with firing := true }
  let d := (d.bump CHN_SHUNT.FIRINGS).wr CHN_SHUNT.FIRING 1
  let d := (d.wr CHN_SHUNT.PEAK d.drawNat.1).each (List.range 27) (Dev.coilOff m)
  { d with free := d.free + 1 }.wr SEQ_BANK.STATE 5

/-- A cause of bank scope (R192, R196, R198): recorded, SEQ_BANK takes its cause and latch, every string
that is not open opens in its manner, and the bank contactors with them. DEDUCED, log 89. -/
def Dev.openBank (m : Mem) (code : Nat) (d : Dev) : Dev :=
  let imm := causeImmediate code
  let busy := d.seq.bank = .waitOpen || d.seq.bank = .bnegDelay || d.seq.bank = .allOff
  let d := d.record recBankOpened [BitVec.ofNat 8 code]
  let d := if d.rd SEQ_BANK.LATCH = 0 && !busy then d.wr SEQ_BANK.CAUSE code else d
  let d := d.latch 8 (causeRank code) code
  let closing := d.bankClosing
  let d := if code = 0x0C || code = 0x0D then d.fireShunt m else d
  let d := d.each strings fun s d => d.openManner m s code imm
  if imm || closing then d.bankOff m
  else (d.modSeq fun x => { x with bank := .waitOpen }).bankOrderly m

/-- An event of R199 that aborts the sequences of every string: INTERRUPTED, the queue emptied, a bank close
ended. -/
def Dev.interruptAll (m : Mem) (d : Dev) : Dev :=
  let closing := d.bankClosing
  let d := d.each strings fun s d => if d.strState s = 2 then d.dequeue s else d.abortClose m s 11
  if closing then d.bankOff m else d

/-- The functions of R29, in its order. -/
def closeFuncs : List Func := [.acq, .lim, .seq, .thw, .chn, .saf, .time, .cue, .net, .recorder]

/-- Whether SEQ may close a contactor: every function of R29 is RUN. -/
def Dev.mayClose (d : Dev) : Bool := closeFuncs.all fun f => d.fnState f.num = 1

/-- A later step of a close switches the coil of contactor `c` on, and `go` follows. While a function of R29 is
not RUN the contactor stays open, and the attempt, or the bank close, ends. DESIGN CHOICE, log 99. -/
def Dev.closeCoil (m : Mem) (c : Nat) (go : Dev → Dev) (d : Dev) : Dev :=
  if d.mayClose then go (d.coilOn m c)
  else if ownerOf c = 8 then d.bankOff m
  else d.abortClose m (ownerOf c) 11

/-! ### Welds (R193, R194) -/

/-- A contactor is found WELDED (4) or AUX_FAULT (5): recorded, the other coils go off, the string is
WELDED or the bank opens, and MAINT is latched with cause WELD. -/
def Dev.weld (m : Mem) (c verdict : Nat) (d : Dev) : Dev :=
  let s := ownerOf c
  let d := d.wr (conFld c) verdict
  let d := d.record (if verdict = 4 then recContactorWelded else recContactorAuxFault)
    [BitVec.ofNat 8 c]
  let d := if verdict = 4 then d.modNv fun n =>
      { n with wear := tmod Wear.zero n.wear c fun w => { w with welds := min 255 (w.welds + 1) } }
    else d
  if s = 8 then d.openBank m 0x0B
  else
    let d := if d.isOpen s then d.latch s 2 0x0B else d.openString m 0x0B s
    let d := d.coilsOff m s
    let d := d.modSq s fun x => { x with close := .idle, opn := .idle, cool := false }
    d.wr (SEQ_STATE.STATE s) 10

/-! ### Leaving an APPLY (R53) -/

/-- A pending APPLY is abandoned: the context is VERIFIED again, with APPLY_ABORTED. -/
def Dev.abandonApply (d : Dev) : Dev :=
  if d.rd IMG_LOAD_STATUS.STATE = 4 then
    (d.wr IMG_LOAD_STATUS.STATE 3).wr IMG_LOAD_STATUS.REASON 0x13
  else d

/-! ### SAFE, DEGRADED and the faults of R276 -/

/-- The reading of SAF_STATUS.STATE: SAFE over DEGRADED over NORMAL. -/
def Dev.safState (d : Dev) : Nat :=
  if d.saf.ret.safe then 2 else if d.saf.ret.degraded then 1 else 0

/-- Entry to SAFE (R279): every gate and SAFE_RLY open (they follow the retained state), a pending APPLY
is abandoned, every coil goes off and the bank opens, unless a cause already holds the bank. DEDUCED, log 89. -/
def Dev.enterSafe (m : Mem) (estop : Bool) (d : Dev) : Dev :=
  if d.saf.ret.safe then d
  else
    let d := d.modRet fun r => { r with safe := true, degraded := false }
    let d := d.modSaf fun x => { x with degEnd := 0, degOut := false }
    let d := d.abandonApply
    if d.rd SEQ_BANK.LATCH = 0 then d.openBank m (if estop then 0x10 else 0x0F)
    else (d.each strings fun s d => if d.isOpen s then d else d.openManner m s 0x0F true).bankOff m

/-- Entry to DEGRADED (R277): recorded, and the degrade timer starts. The cap and the refusal of every
close follow the retained state. -/
def Dev.enterDegraded (m : Mem) (d : Dev) : Dev :=
  let d := d.modRet fun r => { r with degraded := true }
  let d := d.modSaf fun x => { x with
    degEnd := d.clk + secClk (m.img.degradeTime), degOut := false, slcCap := false }
  d.record recSafDegraded []

/-- A fault of R276 with the channel that detects it (0 supervisor, 1 Curtain): latched, recorded, and
met by DEGRADED or SAFE as R276, R278 and R280 say. One already latched is not detected again. -/
def Dev.safFault (m : Mem) (code chan : Nat) (d : Dev) : Dev :=
  let d := d.modSaf fun x => { x with cond := tset false x.cond code true }
  if tget false d.saf.ret.faults code then d
  else
    let d := d.abandonProof.modRet fun r => { r with faults := tset false r.faults code true }
    let d := if d.rd SAF_STATUS.FIRST_FAULT = 0 then d.wr SAF_STATUS.FIRST_FAULT code
      else if d.rd SAF_STATUS.SECOND_FAULT = 0 then d.wr SAF_STATUS.SECOND_FAULT code else d
    let d := d.record recSafFault [BitVec.ofNat 8 code, BitVec.ofNat 8 chan]
    let d := d.modSaf fun x => { x with recovering := true }
    if m.full || code = 7 || code = 8 || d.saf.ret.degraded then d.enterSafe m false
    else if d.saf.ret.safe then d
    else d.enterDegraded m

/-- The Curtain opens the gates of the named groups and latches them with a cause (R180, R283, R418):
SEQ opens their strings by immediate opening, and with the bank group the bank. DEDUCED, log 89. -/
def Dev.curtainOpen (m : Mem) (groups code : Nat) (d : Dev) : Dev :=
  let bank := groups.testBit 8
  let d := d.each (bitsOf 9 groups) fun g d => d.latch g 3 code
  if bank then d.openBank m code
  else d.each (bitsOf 8 groups) fun s d => if d.isOpen s then d else d.openString m code s

/-- What follows once the last string is open: an orderly bank opening goes on (R192), and an expired
degrade timer ends in SAFE (R278). -/
def Dev.afterOpen (m : Mem) (d : Dev) : Dev :=
  let d := d.bankOrderly m
  if d.saf.degOut && d.allOpen then d.enterSafe m false else d

/-- A cause of R196 whose scope is all strings acts on each; a bank close in progress ends (R199). -/
def Dev.openAll (m : Mem) (code : Nat) (d : Dev) : Dev :=
  let closing := d.bankClosing
  let d := d.each strings fun s d => if d.isOpen s then d else d.openString m code s
  (if closing then d.bankOff m else d).afterOpen m

/-! ### Gates (R180, R264, R281, R284, R285) -/

/-- Whether an armed swap holds the gates of group `g` open (R88). -/
def Dev.swapHolds (d : Dev) (g : Nat) : Bool :=
  d.on PORT_SWAP_STATUS.ARMED && decide (g < 8) && d.onCassette (d.rd PORT_SWAP_STATUS.CASSETTE) g

/-- Whether a proof test has group `g` open (R286). DESIGN CHOICE, log 103. -/
def Dev.proofHolds (d : Dev) (g : Nat) : Bool := (d.saf.proof.getD 0).testBit g

/-- Whether the Curtain holds the gates of group `g` open: a latch (that of DEGRADE_TIMEOUT once its
orderly opening is done), SAFE, a lost heartbeat, a bed pause,
SAF STOPPED (R22), an armed swap, a proof test, or no start yet. DEDUCED, log 58. -/
def Dev.gateHeld (d : Dev) (g : Nat) : Bool :=
  (tget 0 d.saf.ret.latch g ≠ 0 && (tget 0 d.saf.ret.latch g ≠ 0x11 || g = 8 || d.isOpen g)) ||
    d.saf.ret.safe || d.saf.hbLost || d.saf.pause ||
    !d.runs .saf || d.swapHolds g || d.proofHolds g || !d.awake

/-- The SHUNT_TRIP gate permits except in TRANSPORT and after SHUNT_STUCK (R284). -/
def Dev.shuntPermits (d : Dev) : Bool := !d.pwr.inTransport && !d.saf.shuntOpen && d.runs .saf

/-- The filtered state of a channel of input `k`, and the input's demand: either channel's (R273, R275). -/
def Dev.filtered (d : Dev) (k : Nat) (b : Bool) : InState :=
  tget InState.unknown d.saf.filt (2 * k + b.toNat)
def Dev.inDemand (d : Dev) (k : Nat) : Bool := d.filtered k false = .demand || d.filtered k true = .demand

/-- Whether an ESTOP input demand is latched or active. -/
def Dev.estopDemand (m : Mem) (d : Dev) : Bool :=
  (List.range 8).any fun k => m.img.inFunc k = 1 && (tget false d.saf.ret.demand k || d.inDemand k)

/-- The SAFE_RLY gate permits while there is no ESTOP demand, no SAFE state, no lost heartbeat, no bed pause
and no
proof test with the bank bit, and SAF is RUN (R22, R264, R285, R286). -/
def Dev.rlyGate (m : Mem) (d : Dev) : Bool :=
  !d.estopDemand m && !d.saf.ret.safe && !d.saf.hbLost && !d.saf.pause && !d.proofHolds 8 &&
    d.runs .saf && d.awake

/-- SAFE_RLY is driven: by the supervisor in STANDBY, SERVICE or DEGRADED with SAF RUN, and by the power die
through a
hold-through (R285). -/
def Dev.rlyDriven (m : Mem) (d : Dev) : Bool :=
  (d.pwr.sup = .running || d.pwr.sup = .holdThrough) && d.runs .saf && m.hasImage &&
    (d.mode m = .standby || d.mode m = .service || d.mode m = .degraded)

/-- SAFE_RLY is energised while it is driven and its gate permits (R285). -/
def Dev.safeRly (m : Mem) (d : Dev) : Bool := d.rlyGate m && d.rlyDriven m

end Sys2Proof.Machine
end

