-- ==== Sys2Proof/Machine/LinkOps.lean ====
section
/-! DEFINITION. What several functions do over the isolated links (R61 to R91, R267): downlink frames and
their answers, the companion thresholds, training attempts and their failure. A port has at most one
downlink frame in flight; frames asked for meanwhile follow in order (R68, R70). -/

namespace Sys2Proof.Machine

/-! ### Frames (R70 to R72) -/

def ftWrite : Nat := 1
def ftRead : Nat := 2
def ftProbe : Nat := 3
def ftTempReq : Nat := 4
def ftPoll : Nat := 5

/-- Whether link controller `n` serves a front port (R14). -/
def isFront (n : Nat) : Bool := n % 9 = 8

/-- Send a frame now: it takes the command count as SEQ (R71). All but TEMP_REQ await an answer. DESIGN CHOICE, log 93. -/
def Dev.launchDown (n ft : Nat) (entries : List (Nat × Nat)) (d : Dev) : Dev :=
  let f : Down := ⟨ft, (d.port n).cmds % 256, entries, false⟩
  let d := d.modPort n fun p => { p with
    cmds := p.cmds + 1, awaits := if ft = ftTempReq then p.awaits else some f }
  d.emit (.down n f.words)

/-- Send a frame, behind the one in flight. -/
def Dev.sendDown (n ft : Nat) (entries : List (Nat × Nat)) (d : Dev) : Dev :=
  if ft = ftTempReq || (d.port n).awaits.isNone then d.launchDown n ft entries
  else d.modPort n fun p => { p with queue := p.queue ++ [⟨ft, 0, entries, false⟩] }

/-- The frame in flight is done with: the next one goes. -/
def Dev.nextDown (n : Nat) (d : Dev) : Dev :=
  match (d.port n).queue with
  | [] => d.modPort n fun p => { p with awaits := none }
  | f :: l => (d.modPort n fun p => { p with awaits := none, queue := l }).launchDown n f.ftype f.entries

/-- Whether the frame in flight is of type `ft` with SEQ `seq`. -/
def PortSt.awaitsSeq (p : PortSt) (ft seq : Nat) : Bool :=
  match p.awaits with
  | some f => f.ftype = ft && f.seq = seq
  | none => false

/-- Whether a frame in flight or behind it writes companion register `a`. -/
def PortSt.writing (p : PortSt) (a : Nat) : Bool :=
  (p.awaits.toList ++ p.queue).any fun f => f.ftype = ftWrite && f.entries.any fun e => e.1 = a

/-! ### CRC-16 (R73, R77) -/

/-- One bit of the CRC with polynomial 0x1021. -/
def crc16Bit (c : Nat) : Nat :=
  if 32768 ≤ c then Nat.xor (c * 2 % 65536) 0x1021 else c * 2 % 65536

def crc16Byte (c : Nat) (b : Byte) : Nat :=
  (List.range 8).foldl (fun c _ => crc16Bit c) (Nat.xor c (b.toNat * 256))

/-- CRC-16, polynomial 0x1021, initial value 0xFFFF. -/
def crc16 (l : List Byte) : Nat := l.foldl crc16Byte 65535

/-! ### Thresholds (R77, R78, R267, R272, R277) -/

/-- The string whose port link controller `n` is. -/
def Dev.lcStr (d : Dev) (n : Nat) : Nat := (d.portRec n).str

/-- A current as a comparator code: threshold × shunt resistance in units of 2 µV, toward zero (R267). -/
def ocCode (amps shunt : Rat) : Nat :=
  let v := (amps * shunt * 500000).floor.toNat
  if v < 65536 then v else (Config.wideCode v).toNat

/-- The cap of DEGRADED on string `s` (R277). -/
def Dev.degradeCap (m : Mem) (s : Nat) (d : Dev) : Rat :=
  (m.img.degradeLimit : Rat) / 100 * d.rated s

/-- The comparator threshold of string `s` in A, in discharge or charge: OC, or the lower of it, 1.25 × the
degraded cap (R277) and SDR_CMP (R272) where those have been written. -/
def Dev.ocAmps (m : Mem) (s : Nat) (dis : Bool) (d : Dev) : Rat :=
  let oc := if dis then m.img.ocDis s else m.img.ocChg s
  let oc := if d.saf.slcCap && d.degradeCap m s * 5 / 4 < oc then d.degradeCap m s * 5 / 4 else oc
  if tget false d.saf.sdr (2 * s + dis.toNat) && m.img.sdrCmp s < oc then m.img.sdrCmp s else oc

/-- LINK_TIMEOUT for the companions: 1,000 ms while ACQ is STOPPED (R84). -/
def Dev.linkTimeout (d : Dev) : Nat :=
  if d.fnState 0 = 0 then 1000 else d.rd PORT_CFG.LINK_TIMEOUT

/-- The values of companion registers 0x03 to 0x07 the module loads into link controller `n`'s companion. -/
def Dev.thresholds (m : Mem) (n : Nat) (d : Dev) : List Nat :=
  let s := d.lcStr n
  if isFront n then
    [d.linkTimeout, ocCode (d.ocAmps m s false) (d.strRec s).shunt,
     ocCode (d.ocAmps m s true) (d.strRec s).shunt, 0, 0]
  else
    let en := 2 ^ (d.portRec n).inputs - 1
    [d.linkTimeout, m.img.cmpOv s, m.img.cmpUv s, en % 65536, en / 65536]

/-- The checksum the module computes over them (R77). -/
def Dev.threshSum (m : Mem) (n : Nat) (d : Dev) : Nat :=
  crc16 ((d.thresholds m n).flatMap (leBytes 2))

/-- WRITE the thresholds 0x03 to 0x07, the last two only to an RSM-24, and READ THRESH_CRC (R78). -/
def Dev.loadThresholds (m : Mem) (n : Nat) (d : Dev) : Dev :=
  let v := d.thresholds m n
  let at_ (k : Nat) : Nat × Nat := (3 + k, v.getD k 0)
  let d := if isFront n then d.sendDown n ftWrite [at_ 0, at_ 1, at_ 2]
    else (d.sendDown n ftWrite [at_ 0, at_ 1, at_ 2, at_ 3]).sendDown n ftWrite [at_ 4]
  d.sendDown n ftRead [(8, 1)]

/-- The strobe interval in units of 125 ns, to nearest (R77, R103). -/
def Dev.strobePeriod (n : Nat) (d : Dev) : Nat :=
  roundTo 65535 (1 / d.phase.rate / (n : Nat) * 8000000)

/-- Whether CONTINUOUS forcing drops the quiet windows of link controller `n`'s companion (R231). -/
def Dev.noWindows (d : Dev) (n : Nat) : Bool :=
  match monOfLc n with
  | some k => (d.balPort k).forced.isSome && (d.balPort k).cont
  | none => false

/-- QW_PRE and QW_POST of a companion: those of ACQ_QW, or 0 under CONTINUOUS forcing (R106, R231). -/
def Dev.windows (d : Dev) (n : Nat) : List (Nat × Nat) :=
  if d.noWindows n then [(9, 0), (10, 0)]
  else [(9, d.rd ACQ_QW.QW_PRE), (10, d.rd ACQ_QW.QW_POST)]

/-- WRITE QW_PRE, QW_POST and STROBE_PERIOD (R83, R106). DEDUCED, log 42. -/
def Dev.loadWindows (n : Nat) (d : Dev) : Dev :=
  d.sendDown n ftWrite (d.windows n ++ [(11, d.strobePeriod d.phase.n)])

/-- Step 4 of R83: everything loaded, and THRESH_CRC read. -/
def Dev.loadCompanion (m : Mem) (n : Nat) (d : Dev) : Dev :=
  let d := if isFront n then d else d.loadWindows n
  d.loadThresholds m n

/-- Both comparators of string `s`'s RSS-4 are written anew where its port is up, and checked (R272, R277);
at the next training they are loaded anyway. -/
def Dev.writeOc (m : Mem) (s : Nat) (d : Dev) : Dev :=
  let n := (d.strRec s).front
  if d.configured s && d.isLive n then
    let v := d.thresholds m n
    (d.sendDown n ftWrite [(4, v.getD 1 0), (5, v.getD 2 0)]).sendDown n ftRead [(8, 1)]
  else d

/-! ### Link states (R82, R83, R89, R147) -/

def causeNoResponse : Nat := 1
def causeKind : Nat := 2
def causeDelay : Nat := 3
def causeThresh : Nat := 4
def causeAbsent : Nat := 5
def causeMiss : Nat := 7

/-- A port leaves whatever it was doing: nothing in flight, no training step. -/
def Dev.quietPort (n : Nat) (d : Dev) : Dev :=
  d.modPort n fun p => { p with
    step := .idle, probes := [], awaits := none, queue := [], newDelay := none, discards := 0
    got := false, tempReq := false, tempRepeat := false, newMask := none
    nextMask := none }

/-- A training attempt starts (R82, R83); `single` for the retraining of a DOWN port. -/
def Dev.startTrain (n : Nat) (single : Bool) (d : Dev) : Dev :=
  if d.portUsed n then
    let d := (d.quietPort n).modPort n fun p => { p with
      step := .poll, single := single, reloads := 0, threshBad := false }
    d.wr (PORT_STATE.LINK n) 2
  else d

/-- The block on a port that goes DOWN with NO_RESPONSE is ABSENT (R147). -/
def Dev.blockAbsent (n : Nat) (d : Dev) : Dev :=
  match monOfLc n with
  | none => d
  | some k =>
    if (d.block k).state = 5 then d
    else (d.modBlock k fun b => { b with state := 5 }).record recBlockAbsent [BitVec.ofNat 8 k]

/-- The companion of a port has been without its supply: its registers hold their power-up values (R415). -/
def Dev.companionOff (n : Nat) (d : Dev) : Dev :=
  d.modPort n fun p => { p with comp := powerUpComp, mask := 0, maskKnown := true }

/-- The port goes DOWN with a cause. -/
def Dev.downPort (n cause : Nat) (d : Dev) : Dev :=
  let d := ((d.quietPort n).wr (PORT_STATE.LINK n) 1).wr (PORT_STATE.CAUSE n) cause
  let d := d.modPort n fun p => { p with fails := 0 }
  if cause = causeNoResponse then d.blockAbsent n else d

/-- A training attempt fails (R82): a single attempt, the third in a row and a mismatch of kind leave the
port DOWN; else it tries again. -/
def Dev.failTrain (n cause : Nat) (d : Dev) : Dev :=
  if cause = causeKind || (d.port n).single || 2 ≤ (d.port n).fails then d.downPort n cause
  else
    let d := (d.modPort n fun p => { p with fails := p.fails + 1 }).wr (PORT_STATE.CAUSE n) cause
    d.startTrain n false

/-- A port is trained afresh, with three attempts before it (R82). -/
def Dev.retrain (n : Nat) (d : Dev) : Dev :=
  (d.modPort n fun p => { p with fails := 0 }).startTrain n false

end Sys2Proof.Machine
end

