-- ==== Sys2Proof/Machine/Operands.lean ====
section
/-! DEFINITION. What a host command carries and how it is answered: the results of R332, who may write
which register (R6, R7, R329), and the answer a session gets. -/

namespace Sys2Proof.Machine

/-- The result of one operation (R332). -/
structure Wr where
  status : Nat
  code : Nat
  addr : Nat
  deriving DecidableEq, Repr

def wrOk : Wr := ⟨0, 0, 0⟩
def wrDenied (addr : Nat) : Wr := ⟨1, 0, addr⟩
def wrRunning (f : Func) (addr : Nat) : Wr := ⟨2, f.num, addr⟩
def wrNotSteward (f : Func) (addr : Nat) : Wr := ⟨3, f.num, addr⟩
def wrRole (addr : Nat) : Wr := ⟨4, 0, addr⟩
def wrBadAddress (addr : Nat) : Wr := ⟨5, 0, addr⟩
/-- REFUSED with the reason of the owning register's REASON field. DEDUCED, log 24. -/
def wrRefused (reason addr : Nat) : Wr := ⟨6, reason, addr⟩
/-- CFG_INVALID with a detail code and the failing register (R26). DEDUCED, log 24. -/
def wrInvalid (detail addr : Nat) : Wr := ⟨7, detail, addr⟩
def wrSkipped : Wr := ⟨8, 0, 0⟩
def wrBadLength : Wr := ⟨9, 0, 0⟩

/-- BAD_COMMAND (R417). -/
def badCommandCode : Nat := 0xFF

/-- What carrying a write out gives: the device after it and the result. -/
abbrev Did := Dev × Wr

/-- Whether the session is open. -/
def Dev.isOpened (d : Dev) (sid : Nat) : Bool := (d.sess sid).life = .opened

/-- Whether the session is steward of `f`. -/
def Dev.isSteward (d : Dev) (sid : Nat) (f : Func) : Bool := d.steward f = sid && sid ≠ 0

/-- The refusal of a write that the session may not give: the factory session, which may only load an image,
lacks a role (R47); any other is not steward (R7). DEDUCED, log 19. -/
def Dev.notGranted (d : Dev) (sid : Nat) (f : Func) (addr : Nat) : Wr :=
  if (d.sess sid).key = 0 then wrRole addr else wrNotSteward f addr

/-- Carry out a write that stewardship of `f` permits (R7). -/
def Dev.asSteward (d : Dev) (sid : Nat) (f : Func) (addr : Nat) (go : Dev → Did) : Did :=
  if d.isSteward sid f then go d else (d, d.notGranted sid f addr)

/-- The registers R329 grants to a role: the LIM host factors, the cue entry and frame queue registers,
the REC and LGR export registers. -/
def roleGranted (r : Role) (a : Nat) : Bool :=
  let lim := decide (0x910 ≤ a) && decide (a ≤ 0x918)
  let cue := a = CUE_CTRL.CMD.addr || (decide ((CUE_E.BYTES 0).addr ≤ a) && decide (a ≤ (CUE_E.BYTES 7).addr)) ||
    a = CUE_FQ_CTRL.CMD.addr || (decide ((CUE_FQ_WIN.BYTES 0).addr ≤ a) &&
      decide (a ≤ (CUE_FQ_WIN.BYTES 255).addr))
  let exports := a = REC_EXP_CTRL.CMD.addr || a = 0x1411 || a = 0x1412 || a = LGR_EXP_CTRL.CMD.addr ||
    a = LGR_EXP_NUM.CP_NUM.addr
  match r with
  | .observer => false
  | .auditor => exports
  | .dispatcher => lim
  | .operator => lim || cue
  | .maintainer => lim || cue
  | .safetySteward => false

/-- Carry out a write that stewardship of `f` or the session's role permits (R7, R329). DEDUCED, log 19. -/
def Dev.asGranted (d : Dev) (sid : Nat) (f : Func) (addr : Nat) (go : Dev → Did) : Did :=
  if d.isSteward sid f || ((d.sess sid).key ≠ 0 && roleGranted (d.sess sid).role addr) then go d
  else (d, d.notGranted sid f addr)

/-- The answer to a command given outside a REQUEST; an accepted message restarts the idle timer
(R336). DESIGN CHOICE, log 92. -/
def Dev.answer (sid : Nat) (x : Did) : Dev :=
  (if x.1.isOpened sid then x.1.modSess sid fun y => { y with heard := x.1.clk } else x.1).emit
    (.answer sid x.2.status x.2.code x.2.addr)

/-- A host command: from an open session it is carried out and answered; a message of a session that is
not open is no command (R323), and without a running supervisor none is heard. DESIGN CHOICE, log 10. -/
def Dev.host (sid : Nat) (go : Dev → Did) (d : Dev) : Dev :=
  if d.isOpened sid && d.alive then Dev.answer sid (go d) else d

end Sys2Proof.Machine
end

