-- ==== Sys2Proof/Machine/Channels.lean ====
section
/-! DEFINITION. Protected output channels (R237 to R260): demand, conduction, protection, sheds, safe
defaults and their restoration. SHUNT_TRIP is channel 32. -/

namespace Sys2Proof.Machine

/-! ### Demand and conduction (R240, R241, R252, R253, R255) -/

/-- The output channels OUT0 to OUT31. -/
def outs : List Nat := List.range 32

/-- Every channel: OUT0 to OUT31 and SHUNT_TRIP. -/
def channels : List Nat := List.range 33

/-- The die group of channel `n` (R237). -/
def groupOfChan (n : Nat) : Nat := n / 4

/-- The dew condition of R240: below DEW_ON and not yet above DEW_OFF, or the sensor silent for 5 s. -/
def Dev.dewHolds (d : Dev) : Bool := d.chn.dew || d.on CHN_ENV1.STALE

/-- Whether a zone of the mask is in WARN, THROTTLE or rate-high, or THW is STOPPED or idle (R240). -/
def Dev.zoneDemand (mask : Nat) (d : Dev) : Bool :=
  !d.works .thw || (List.range 64).any fun z =>
    mask.testBit z && ((d.zone z).warn || (d.zone z).throttle || (d.zone z).rateHigh)

/-- The demand of channel `n` by its role (R240); hold-through holds the frozen demand (R256). DEDUCED, log 63. -/
def Dev.demand (m : Mem) (n : Nat) (d : Dev) : Bool :=
  if d.pwr.sup = .holdThrough then (d.chan n).frozen
  else
    let role := m.img.chanRole n
    if role = 1 then (List.range 27).any fun c =>
      m.img.conExists c && decide (m.img.coilChan c = n) && d.coil c
    else if role = 2 then (d.chan n).cmd
    else if role = 3 then (d.chan n).cmd || d.dewHolds
    else if role = 4 then (d.chan n).cmd || d.zoneDemand (m.img.chanZones n)
    else if role = 5 then d.seq.firing
    else false

/-- Whether pruning permits the channel's class, and holdup the channel (R253, R364). -/
def Dev.permitted (m : Mem) (n : Nat) (d : Dev) : Bool :=
  let c := m.img.chanPrune n
  let role := m.img.chanRole n
  (if c = 2 then decide (d.stage < 1) else if c = 1 then decide (d.stage < 3) else true) &&
    (!d.on PWR_STATUS.HOLDUP || role = 1 || role = 5)

/-- Whether the Curtain gate of channel `n` permits: only contactor channels and SHUNT_TRIP have one that
acts (R180, R284). -/
def Dev.gatePermits (m : Mem) (n : Nat) (d : Dev) : Bool :=
  if n = 32 then d.shuntPermits
  else if m.img.chanRole n = 1 then
    match coilOf m n with
    | some c => !d.gateHeld (ownerOf c)
    | none => true
  else true

/-- Whether anything but the demand and its turn of R254 keeps the channel off: a latch, a gate, its
class, or a shed. -/
def Dev.blocked (m : Mem) (n : Nat) (d : Dev) : Bool :=
  let c := d.chan n
  c.short || c.excess || !d.gatePermits m n || !d.permitted m n || c.ot || c.total ||
    tget false d.chn.hot (groupOfChan n)

/-- The start-up sequence after the channels' release, and the test or recovery overlay (R242, R388). -/
def Dev.overlay (d : Dev) : Bool :=
  d.pwr.recovEnd.isSome || d.saf.proof.isSome || d.on PWR_STATUS.CAL_ACTIVE

/-- Whether R243 applies. -/
def Dev.compActive (d : Dev) : Bool := d.pwr.boot = .released || d.overlay

/-- The PWMIN pin of channel `n` is high, or it follows none; compensation ignores it, to the end of its last
period
(R241, R243). -/
def Dev.pinHigh (m : Mem) (n : Nat) (d : Dev) : Bool :=
  let p := m.img.chanPin n
  p = 0xFF || tget false d.chn.pins p || (m.img.chanComp n && (d.compActive || (d.chan n).pulsed))

/-- Whether the outputs are powered: from the release of the channels on, never in TRANSPORT, and not with
both aux
inputs reversed (R257). -/
def Dev.outputsOn (d : Dev) : Bool :=
  (d.pwr.boot = .released || d.pwr.boot = .awake) && !d.pwr.inTransport &&
    !(d.on PWR_STATUS.AUX_A_REV && d.on PWR_STATUS.AUX_B_REV)

/-- Whether channel `n` conducts: its safe default, judged by the power die (R255), or R241. A latched
channel at its safe default is off (R258). -/
def Dev.conducts (m : Mem) (n : Nat) (d : Dev) : Bool :=
  let c := d.chan n
  d.outputsOn && !d.blocked m n &&
    (if c.held then m.img.chanSafeOn n else d.demand m n && !c.wait && d.pinHigh m n)

/-- The state code of R244: the lowest of 4 to 11 that applies, or else the conduction; `limited` that its
current limit acts, as the power die measures it. DESIGN CHOICE, log 15. DEDUCED, log 62. -/
def Dev.chanState (m : Mem) (n : Nat) (limited : Bool) (d : Dev) : Nat :=
  let c := d.chan n
  if c.short then 4
  else if c.excess then 5
  else if c.ot || tget false d.chn.hot (groupOfChan n) then 6
  else if !d.gatePermits m n then 7
  else if c.total then 8
  else if !d.permitted m n then 9
  else if c.held then 10
  else if m.img.chanRole n = 0 then 11
  else if !d.demand m n || c.wait then 0
  else if c.inrush then 2
  else if limited then 3
  else 1

/-! ### Demand that turns on, sheds and restoration (R245, R254) -/

/-- A channel's demand turns on by command or by its role: it switches on at once with an inrush window,
or, shed or at its safe default, waits for its turn (R254). DEDUCED, log 62. -/
def Dev.turnOn (m : Mem) (n : Nat) (d : Dev) : Dev :=
  d.modChan n fun c =>
    if m.img.chanRole n = 1 then { c with inrush := true, wait := false }
    else if c.held || c.ot || c.total || !d.permitted m n then { c with wait := true, inrush := false }
    else { c with inrush := true, wait := false }

/-- Carry out a change and turn on the channels whose demand it turned on; a channel whose demand it
turned off leaves its window. -/
def Dev.withDemand (m : Mem) (f : Dev → Dev) (d : Dev) : Dev :=
  let e := f d
  e.each outs fun n x =>
    if !d.demand m n && e.demand m n then x.turnOn m n
    else if d.demand m n && !e.demand m n then x.modChan n fun c => { c with inrush := false }
    else x

/-- Channel `n` is taken off by something R254 restores from: its window ends and it will wait its turn. DEDUCED, log 62. -/
def Chan.shed (contactor : Bool) (c : Chan) : Chan :=
  { c with inrush := false, wait := !contactor }

/-- Every channel whose class or holdup does not permit it is taken off (R253, R364). -/
def Dev.pruneChannels (m : Mem) (d : Dev) : Dev :=
  d.each outs fun n d =>
    if d.permitted m n then d else d.modChan n (Chan.shed (m.img.chanRole n = 1))

/-- Channel `n` at its safe default (R255). -/
def Dev.safeDefault (n : Nat) (d : Dev) : Dev :=
  d.modChan n fun c => { c with held := true, inrush := false, pulsed := false }

/-- CHN takes channel `n` back: it is restored in its turn, CONTACTOR channels and SHUNT_TRIP at once (R254,
R255). -/
def Dev.takeBack (m : Mem) (n : Nat) (d : Dev) : Dev :=
  d.modChan n fun c => if c.held then { c with held := false, wait := m.img.chanRole n ≠ 1 && n ≠ 32 } else c

/-- Protection switches a commanded contactor channel off: CONTACTOR_FAULT of its string or the bank
(R250). -/
def Dev.contactorOff (m : Mem) (n : Nat) (d : Dev) : Dev :=
  match coilOf m n with
  | some c =>
    if d.coil c then
      if ownerOf c = 8 then d.openBank m 0x0A else (d.openString m 0x0A (ownerOf c)).afterOpen m
    else d
  | none => d

/-- What switches channel `n` off and latches or sheds it, with R250 for a contactor. -/
def Dev.protect (m : Mem) (n : Nat) (f : Chan → Chan) (d : Dev) : Dev :=
  (d.modChan n fun c => f { c with inrush := false }).contactorOff m n

/-! ### Host and cue commands (R240, R251, R258, R259) -/

/-- A command of `rank` to one channel. Those of one clk stand by rank: cue entries by index, then host writes
(R258,
R314). -/
def Chan.command (t rank : Nat) (on : Bool) (c : Chan) : Chan :=
  if c.last.1 = t + 1 && decide (rank < c.last.2) then c else { c with cmd := on, last := (t + 1, rank) }

/-- Set or clear the stored commands of a mask of channels that a cue or a host may command. -/
def Dev.chanCmd (m : Mem) (rank mask : Nat) (on : Bool) (d : Dev) : Dev :=
  d.withDemand m fun d => d.each (bitsOf 32 mask) fun n d =>
    let r := m.img.chanRole n
    if r = 2 || r = 3 || r = 4 then d.modChan n (Chan.command d.clk rank on) else d

/-- A write of CHN_SET or CHN_CLR: refused whole when it names an UNUSED or CONTACTOR channel (R259). -/
def Dev.cmdChn (m : Mem) (sid addr mask : Nat) (on : Bool) (d : Dev) : Did :=
  if (bitsOf 32 mask).any fun n => m.img.chanRole n = 0 || m.img.chanRole n = 1 then
    (d.wr CHN_STATUS.REASON 1, wrRefused 1 addr)
  else (d.chanCmd m (1024 + sid) mask on, wrOk)

/-- A write of CHN_FCLR (R251): latches clear, and a demanded channel restarts with a new window. -/
def Dev.cmdFclr (m : Mem) (mask : Nat) (d : Dev) : Did :=
  (d.each (bitsOf 32 mask) fun n d =>
    if (d.chan n).short || (d.chan n).excess then
      let d := d.modChan n fun c => { c with short := false, excess := false }
      if d.demand m n then d.turnOn m n else d
    else d, wrOk)

/-- CHN_SET (R240, R259). -/
def execChnSet (sid : Sid) (mask : Word) (s : State) : Host.Outcome State Fault Refusal :=
  s.run fun m d => d.host sid.val fun d =>
    d.asSteward sid.val .chn CHN_SET.MASK.addr (Dev.cmdChn m sid.val CHN_SET.MASK.addr mask.toNat true)

/-- CHN_CLR (R240, R259). -/
def execChnClr (sid : Sid) (mask : Word) (s : State) : Host.Outcome State Fault Refusal :=
  s.run fun m d => d.host sid.val fun d =>
    d.asSteward sid.val .chn CHN_CLR.MASK.addr (Dev.cmdChn m sid.val CHN_CLR.MASK.addr mask.toNat false)

/-- CHN_FCLR (R251). -/
def execChnFclr (sid : Sid) (mask : Word) (s : State) : Host.Outcome State Fault Refusal :=
  s.run fun m d => d.host sid.val fun d =>
    d.asSteward sid.val .chn CHN_FCLR.MASK.addr (Dev.cmdFclr m mask.toNat)

/-! ### Protection (R245 to R249): the power die's own, in every state of the supervisor -/

/-- INRUSH_WINDOW_END (R245). -/
def execInrushWindowEnd (n : Chn) (s : State) : Host.Outcome State Fault Refusal :=
  s.run fun _ d => d.modChan n.val fun c => { c with inrush := false }

/-- CHN_SHORT (R245, R250). -/
def execChnShort (n : Chn) (s : State) : Host.Outcome State Fault Refusal :=
  s.run fun m d =>
    if d.conducts m n.val then
      (d.record recChnShort [BitVec.ofNat 8 n.val]).protect m n.val fun c => { c with short := true }
    else d

/-- CHN_OVERLOAD (R246, R250): outside the inrush window. -/
def execChnOverload (n : Chn) (s : State) : Host.Outcome State Fault Refusal :=
  s.run fun m d =>
    if d.conducts m n.val && !(d.chan n.val).inrush then
      (d.record recChnOverload [BitVec.ofNat 8 n.val]).protect m n.val fun c => { c with excess := true }
    else d

/-- CHN_OPEN_LOAD (R247): the channel stays on. -/
def execChnOpenLoad (n : Chn) (s : State) : Host.Outcome State Fault Refusal :=
  s.run fun m d =>
    if d.conducts m n.val && m.img.chanOpenDiag n.val && !d.on (CHN_STATE.OPEN_LOAD n.val) then
      (d.wr (CHN_STATE.OPEN_LOAD n.val) 1).record recChnOpenLoad [BitVec.ofNat 8 n.val]
    else d

/-- The order of R248 in which a channel of a hot group is shed, first first: shorts not yet qualified,
other channels in limit, other roles than CONTACTOR, then CONTACTOR; the highest current first. -/
def otOrder (m : Mem) (limited low : Nat) (amps : Nat → Nat) (a b : Nat) : Bool :=
  let cls (n : Nat) : Nat :=
    if limited.testBit n && low.testBit n then 0 else if limited.testBit n then 1
    else if m.img.chanRole n ≠ 1 then 2 else 3
  if cls a ≠ cls b then decide (cls a < cls b)
  else if cls a < 2 then decide (a ≤ b)
  else decide (amps b ≤ amps a)

/-- The first of a list in an order. -/
def firstBy (before : Nat → Nat → Bool) : List Nat → Option Nat
  | [] => none
  | k :: l =>
    match firstBy before l with
    | none => some k
    | some j => if before k j then some k else some j

/-- OT_SHED_STEP (R248). At or above 150.00 °C (temperatures in 0.01 °C) one conducting channel of the
group goes off; `limited` and `low` name the channels in current limit and below 2.0 V, and `currents`
holds each channel's current in mA, as the power die measures them. DEDUCED, log 63. -/
def execOtShedStep (group : Fin 9) (temp : Int) (limited low : BitVec 32) (currents : List (BitVec 16))
    (s : State) : Host.Outcome State Fault Refusal :=
  s.run fun m d =>
    if temp < 15000 then d
    else
      let on := (outs.filter fun n => groupOfChan n = group.val).filter (d.conducts m)
      match firstBy (otOrder m limited.toNat low.toNat fun n => (currents.getD n 0).toNat) on with
      | some n =>
        let d := d.record recChnOvertemp (leBytes 1 group.val ++ leBytes 2 (unsigned 16 temp))
        d.protect m n fun c => Chan.shed (m.img.chanRole n = 1) { c with ot := true }
      | none => d

/-- GROUP_OT_COMPARATOR (R248). At 175.00 °C every channel of the group goes off at once and stays off
until the group is below 130 °C. -/
def execGroupOtComparator (group : Fin 9) (temp : Int) (s : State) : Host.Outcome State Fault Refusal :=
  s.run fun m d =>
    if temp < 17500 || tget false d.chn.hot group.val then d
    else
      let d := d.record recChnOvertemp (leBytes 1 group.val ++ leBytes 2 (unsigned 16 temp))
      let d := d.modChn fun x => { x with hot := tset false x.hot group.val true }
      d.each (outs.filter fun n => groupOfChan n = group.val) fun n d =>
        d.protect m n fun c => Chan.shed (m.img.chanRole n = 1) { c with ot := true }

/-- GROUP_COOLED (R248). Below 130 °C the group's OT_OFF channels return per R254. -/
def execGroupCooled (group : Fin 9) (s : State) : Host.Outcome State Fault Refusal :=
  s.run fun _ d =>
    let d := d.modChn fun x => { x with hot := tset false x.hot group.val false }
    d.each (outs.filter fun n => groupOfChan n = group.val) fun n d =>
      d.modChan n fun c => { c with ot := false }

/-- The channel R249 sheds next: COMFORT before COOLING, the highest number first. -/
def Dev.nextShed (m : Mem) (d : Dev) : Option Nat :=
  let on (cls : Nat) := outs.reverse.find? fun n => m.img.chanPrune n = cls && d.conducts m n
  match on 2 with
  | some n => some n
  | none => on 1

/-- TOTAL_SHED (R249). The 1 s mean of the summed current, in mA, exceeds 40.0 A, or an episode still
stands at or above 38.0 A: one channel is shed. Below 38.0 A the episode is over. -/
def execTotalShed (mean : BitVec 16) (s : State) : Host.Outcome State Fault Refusal :=
  s.run fun m d =>
    let d := if mean.toNat < 38000 then d.modChn fun x => { x with episode := false } else d
    if d.alive && d.works .chn && (decide (40000 < mean.toNat) || d.chn.episode) then
      match d.nextShed m with
      | some n =>
        let d := if d.chn.episode then d else d.record recChnTotalShed [BitVec.ofNat 8 n]
        let d := d.modChn fun x => { x with episode := true }
        d.modChan n fun c => Chan.shed false { c with total := true }
      | none => d
    else d

/-- TOTAL_SHED_RETURN (R249). Below 36.0 A for 10 s: the shed channels return per R254. -/
def execTotalShedReturn (s : State) : Host.Outcome State Fault Refusal :=
  s.run fun _ d =>
    let d := d.modChn fun x => { x with episode := false }
    d.each outs fun n d => d.modChan n fun c => { c with total := false }

/-- RESTORE_STAGGER (R254). The lowest channel that waits and is able to conduct switches on, with a new
inrush window. -/
def execRestoreStagger (s : State) : Host.Outcome State Fault Refusal :=
  s.run fun m d =>
    if !d.outputsOn || d.pwr.sup ≠ .running then d
    else
      match outs.find? fun n => (d.chan n).wait && !(d.chan n).held && d.demand m n && !d.blocked m n with
      | some n => d.modChan n fun c => { c with wait := false, inrush := true }
      | none => d

/-- PWMIN_EDGE (R242). The channels that follow the pin follow its edge; no window begins (R245). -/
def execPwminEdge (pin : Fin 4) (high : Bool) (s : State) : Host.Outcome State Fault Refusal :=
  s.run fun _ d => d.modChn fun x => { x with pins := tset false x.pins pin.val high }

/-- ENV_SENSOR_POLL (R240). Case temperature and dew point in 0.01 °C and humidity in 0.01%: the dew
condition starts below DEW_ON and stops above DEW_OFF. -/
def execEnvSensorPoll (tcase dew rh : BitVec 16) (s : State) : Host.Outcome State Fault Refusal :=
  s.run fun m d =>
    if !d.alive then d
    else
      d.withDemand m fun d =>
        let diff := tcase.toInt - dew.toInt
        let d := ((d.wr CHN_ENV0.TCASE tcase.toNat).wr CHN_ENV0.DEW dew.toNat).wr CHN_ENV1.RH rh.toNat
        let d := d.wr CHN_ENV1.STALE 0
        d.modChn fun x => { x with dew :=
          if diff < 10 * (d.rd CHN_CFG.DEW_ON : Int) then true
          else if 10 * (d.rd CHN_CFG.DEW_OFF : Int) < diff then false else x.dew }

/-- ENV_SENSOR_TIMEOUT (R240). The sensor has been silent for 5 s: the dew condition holds. -/
def execEnvSensorTimeout (s : State) : Host.Outcome State Fault Refusal :=
  s.run fun m d => if d.alive then d.withDemand m (Dev.wr CHN_ENV1.STALE 1) else d

/-- SHUNT_CONTINUITY_CHECK (R252). While the output is idle: OPEN at the second failure in a row, clear
at the first check that passes. -/
def execShuntContinuityCheck (pass : Bool) (s : State) : Host.Outcome State Fault Refusal :=
  s.run fun _ d =>
    if d.seq.firing then d
    else if pass then (d.modChn fun x => { x with contFails := 0 }).wr CHN_SHUNT.OPEN 0
    else
      let d := d.modChn fun x => { x with contFails := x.contFails + 1 }
      if 2 ≤ d.chn.contFails && !d.on CHN_SHUNT.OPEN then
        (d.wr CHN_SHUNT.OPEN 1).record recShuntOpen []
      else d

/-- LOAD_DUMP (R257). The pulse is clamped, every output keeps its state, one record is written. -/
def execLoadDump (s : State) : Host.Outcome State Fault Refusal :=
  s.run fun _ d => (d.wr CHN_STATUS.LOAD_DUMP 1).record recChnLoadDump []

/-- The compensation duty in 0.1% at a supply of `mv` mV (R243). -/
def compDuty (half mv : Nat) : Nat :=
  if mv = 0 then 1000
  else roundTo 1000 ((5 * half : Nat) * ((24000 : Rat) / mv) * ((24000 : Rat) / mv))

/-- COMPENSATION_PERIOD (R243, R255, R256). At a 200 Hz period, with V_aux in mV: a compensated channel with its
demand on takes its duty; after the phase it returns to R241. One at its safe default has no compensation, and
in
hold-through the last duty goes on. -/
def execCompensationPeriod (n : Chn) (vaux : BitVec 16) (s : State) : Host.Outcome State Fault Refusal :=
  s.run fun m d =>
    if d.pwr.sup = .holdThrough then d
    else if d.compActive && m.img.chanComp n.val && d.demand m n.val && !(d.chan n.val).held then
      d.modChan n.val fun c => { c with duty := compDuty (m.img.chanDuty n.val) vaux.toNat, pulsed := true }
    else d.modChan n.val fun c => { c with pulsed := false }

/-- What CHN_VAUX reads from a measurement of the ORed aux voltage in mV (R259): COMP and VAUX. -/
def vauxRead (mv : Nat) : Nat × Nat :=
  (if mv = 0 then 0xFFFF else min 0xFFFF (nearest ((24000 : Rat) / mv * ((24000 : Rat) / mv) * 10000)).toNat, mv)

/-- Freeze every channel's demand for hold-through (R256). -/
def Dev.freezeDemand (m : Mem) (d : Dev) : Dev :=
  let f := fun n => d.demand m n
  d.each channels fun n d => d.modChan n fun c => { c with frozen := f n }

/-- CHN STOPPED (R22, R241, R255): every channel at its safe default, every stored command off. -/
def Dev.chnStop (d : Dev) : Dev :=
  d.each channels fun n d => (d.modChan n fun c => { c with cmd := false }).safeDefault n

/-- CHN takes every channel back (R255). -/
def Dev.chnResume (m : Mem) (d : Dev) : Dev := d.each channels (Dev.takeBack m)

end Sys2Proof.Machine
end

