-- ==== Sys2Proof/Machine/Sequence.lean ====
section
/-! DEFINITION. String sequencing (R176 to R203): commands, contactors and their feedback, pre-charge,
join, the bank contactors, orderly disconnects, welds, wear and latches. -/

namespace Sys2Proof.Machine

/-- Whether SEQ acts: it is awake, no supervisor reset holds it, and no outage of its bed does, in which coil
drive is held and no contactor command is issued (R58, R199). -/
def Dev.seqActs (d : Dev) : Bool := d.alive && !d.load.outage.contains bedSeqn

/-! ### Measured values -/

/-- The latest current of string `s` in A, and its voltages in V (R114). -/
def Dev.amps (d : Dev) (s : Nat) : Rat := (signed 30 (d.rd (ACQ_I.VALUE s)) : Rat) / 1000
def Dev.vstr (d : Dev) (s : Nat) : Rat := (signed 30 (d.rd (ACQ_VSTR.VALUE s)) : Rat) / 1000
def Dev.vbus (d : Dev) (s : Nat) : Rat := (signed 30 (d.rd (ACQ_VBUS.VALUE s)) : Rat) / 1000
def Dev.vpre (d : Dev) (s : Nat) : Rat := (signed 30 (d.rd (ACQ_VPRE.VALUE s)) : Rat) / 1000

/-- The latest sample of string `s`: of the sweep in progress, or else of the completed one. -/
def Dev.lastSmp (d : Dev) (s : Nat) : Option StrSmp :=
  match tget [] d.acq.fill.strs s with
  | x :: _ => some x
  | [] =>
    match d.acq.done with
    | some w => (tget [] w.strs s).head?
    | none => none

/-- The cycle-mean current of the completed sweep, absent without an OK sample (R191). -/
def Dev.meanI (d : Dev) (s : Nat) : Option Rat := tget none d.acq.mean s

/-- Current through a contactor at the last strobe (R195): the string's, or the sum over connected
strings. -/
def Dev.conAmps (d : Dev) (w : Nat) : Rat :=
  if w = 8 then mag (sumOf (strings.filter d.connected) d.amps) else mag (d.amps w)

/-- I_BREAK of a string, or of the bank for 8. -/
def Img.breakOf (i : Img) (w : Nat) : Rat := if w = 8 then i.bankBreak else i.iBreak w

/-! ### Wear (R195) -/

/-- A contactor's aux has closed: one more closure. -/
def Wear.closed (w : Wear) : Wear := { w with ops := min (2 ^ 32 - 1) (w.ops + 1) }

/-- A contactor's aux has opened at current `i`, with its rated current and breaking rating. -/
def Wear.opened (w : Wear) (i rated brk : Rat) : Wear :=
  { w with
    breaks := if rated / 100 ≤ i then min 65535 (w.breaks + 1) else w.breaks
    excess := if brk < i then min 255 (w.excess + 1) else w.excess
    sum := min (2 ^ 32 - 1) (w.sum + (nearest (i / brk * (i / brk) * 10000)).toNat)
    imax := max w.imax (roundTo 65535 i) }

/-- The wear of an aux change (R195). DEDUCED, log 55. -/
def Dev.wearOn (m : Mem) (c : Nat) (closed : Bool) (d : Dev) : Dev :=
  let s := ownerOf c
  d.modNv fun n => { n with wear := tmod Wear.zero n.wear c fun w =>
    if closed then w.closed else w.opened (d.conAmps s) (d.rated s) (m.img.breakOf s) }

/-! ### Refusals (R184, R202) -/

/-- Write SEQ_RESULT. -/
def Dev.seqResult (reason str detail : Nat) (d : Dev) : Dev :=
  ((d.wr SEQ_RESULT.REASON reason).wr SEQ_RESULT.STRING str).wr SEQ_RESULT.DETAIL detail

/-- Whether a pending image APPLY touches string `s` (R53). -/
def Dev.applyTouches (d : Dev) (s : Nat) : Bool :=
  d.rd IMG_LOAD_STATUS.STATE = 4 && decide (d.load.kind = .image) &&
    (d.on IMG_TOUCH.BANK || (d.rd IMG_TOUCH.STRING).testBit s)

/-- Whether a cassette with a port of string `s` is armed (R88). -/
def Dev.cassetteArmed (d : Dev) (s : Nat) : Bool :=
  d.on PORT_SWAP_STATUS.ARMED && d.onCassette (d.rd PORT_SWAP_STATUS.CASSETTE) s

/-- Whether a block of string `s` is held as new (R148). -/
def Dev.newBlockHold (d : Dev) (s : Nat) : Bool := (d.strRec s).order.any fun m => (d.block m).hold

/-- How R184 judges one named string: the reason (0 passes) and its detail. DEDUCED, log 56. -/
def Dev.judgeClose (m : Mem) (s : Nat) (d : Dev) : Nat × Nat :=
  match (List.range 10).find? fun k => d.fnState (closeFuncs.getD k .acq).num ≠ 1 with
  | some k => (1, k)
  | none =>
    if d.mode m = .transport || d.mode m = .degraded || d.mode m = .safe || d.mode m = .thermalLatch then
      (2, 0)
    else if !d.configured s then (3, 0)
    else if d.applyTouches s then (4, 0)
    else if d.cassetteArmed s then (5, 0)
    else if (d.portsOf s).any fun n => !d.isUp n then (6, 0)
    else if d.newBlockHold s then (7, 0)
    else if (d.latchOf s).1 ≠ 0 then (8, (d.latchOf s).2)
    else if (d.latchOf 8).1 ≠ 0 then (8, (d.latchOf 8).2)
    else if d.on (SEQ_STATE.LOCKED_OUT s) then (9, 0)
    else if d.strState s = 9 then (10, 0)
    else if 3 ≤ d.stage then (11, 0)
    else if d.strState s ≠ 1 then (12, 0)
    else (0, 0)

/-! ### Welds during a close, aborts (R187, R189) -/

/-- An attempt aborts for a cause of its own (R189): recorded, CAUSE PRECHARGE_ABORT; codes 4 and 10 of
the first to join open the bank contactors; code 1 finds NEG welded. -/
def Dev.abortPre (m : Mem) (s code : Nat) (d : Dev) : Dev :=
  if d.inSequence s then
    let first := (d.sq s).first
    let d := d.record recStringOpened [BitVec.ofNat 8 s, 0x08]
    let d := d.wr (SEQ_STATE.CAUSE s) 0x08
    let d := d.abortClose m s code
    let d := if (code = 4 || code = 10) && first && m.img.bankPresent then
        let d := d.record recBankOpened [0x08]
        let d := if d.rd SEQ_BANK.LATCH = 0 then d.wr SEQ_BANK.CAUSE 0x08 else d
        d.bankOff m
      else d
    if code = 1 then d.weld m (3 * s + 1) 4 else d
  else d

/-! ### Starting a close (R185 to R187) -/

/-- Step 1 of R187 for string `s`, by pre-charge or by join. -/
def Dev.startClose (m : Mem) (s : Nat) (join : Bool) (d : Dev) : Dev :=
  let d := d.unqueue s
  let d := d.wr (SEQ_STATE.STATE s) 3
  let d := ((((d.wr (SEQ_STATE.FIT_WAIVED s) 0).wr (SEQ_PREC.ABORT s) 0).wr (SEQ_PREC.C_FIT s) 0).wr
    (SEQ_PRE.T90 s) 0).wr (SEQ_PRE.R_FIT s) 0
  let d := d.wr (SEQ_TIMER.ENERGY s) 0
  let d := d.modSq s fun x => { x with
    close := .preOn, join := join, first := !join, vbus1 := d.vbus s
    skip := decide (mag (d.vstr s - d.vbus s) < d.vstr s / 20)
    fit := .start, again := false, preAt := d.clk }
  if (consOf s).any fun c => d.con c ≠ 0 then d.abortPre m s 13
  else if d.vstr s * (1 + m.img.match_ s) < d.vbus s then d.abortPre m s 3
  else d.coilOn m (3 * s + 2)

/-- Insert a value into a rising list. -/
def insertRat (x : Rat) : List Rat → List Rat
  | [] => [x]
  | y :: l => if x ≤ y then x :: y :: l else y :: insertRat x l

/-- The median of a list: the mean of the two middle values of an even number. -/
def median (l : List Rat) : Rat :=
  let s := l.foldl (fun a x => insertRat x a) []
  let n := s.length
  if n % 2 = 1 then s.getD (n / 2) 0 else (s.getD (n / 2 - 1) 0 + s.getD (n / 2) 0) / 2

/-- The index of a list with the smallest key, the lower index among equals. -/
def leastBy (key : Nat → Rat) : List Nat → Option Nat
  | [] => none
  | k :: l =>
    match leastBy key l with
    | none => some k
    | some j => if key j < key k || (key j = key k && decide (j < k)) then some j else some k

/-- With no string connected, the queue's head of line starts (R185, R186): the bank closes first where
its contactors are fitted and open, with every string open or queued; then the queued string nearest the
median VSTR begins its pre-charge. -/
def Dev.startFirst (m : Mem) (d : Dev) : Dev :=
  if !d.seqActs || d.seq.queue.isEmpty || !d.mayClose || decide (3 ≤ d.stage) || strings.any d.inSequence ||
      strings.any d.connected || d.seq.bank ≠ .idle then d
  else if m.img.bankPresent && d.rd SEQ_BANK.STATE ≠ 3 then
    if d.rd SEQ_BANK.STATE = 1 && strings.all (fun s => d.isOpen s || d.strState s = 2) &&
        (consOf 8).all (fun c => d.con c = 0) then
      ((d.coilOn m 25).modSeq fun x => { x with bank := .bnegOn }).wr SEQ_BANK.STATE 2
    else d
  else
    let med := median (d.seq.queue.map d.vstr)
    match leastBy (fun s => mag (d.vstr s - med)) d.seq.queue with
    | some s => d.startClose m s false
    | none => d

/-- The predicted first current into string `s` (R190). -/
def Dev.predict (m : Mem) (s : Nat) (d : Dev) : Rat :=
  let on := strings.filter d.connected
  let rj := d.stringRo m s + m.img.rPath s
  let gb := sumOf on fun k => 1 / (d.stringRo m k + m.img.rPath k)
  let ib := sumOf on fun k => (d.meanI k).getD 0
  (d.vbus s - d.vstr s) / (rj + 1 / gb) + ib * (1 / rj) / (1 / rj + gb)

/-- Whether the prediction passes (R190). -/
def Dev.joinPasses (m : Mem) (s : Nat) (d : Dev) : Bool := decide (mag (d.predict m s) ≤ m.img.iJoin s)

/-- The sweep end's selection (R185, R190): every queued string's prediction is judged, and the passing
one nearest the bus starts its join. DEDUCED, log 90. -/
def Dev.selectJoin (m : Mem) (d : Dev) : Dev :=
  if !d.seqActs || d.seq.queue.isEmpty || !d.mayClose || decide (3 ≤ d.stage) || d.seq.bank ≠ .idle then d
  else
    match strings.find? d.connected with
    | none => d.startFirst m
    | some _ =>
      let d := d.seq.queue.foldl (fun d s => d.wr (SEQ_STATE.JOIN_BLOCKED s) (!d.joinPasses m s).toNat) d
      let d := match d.seq.queue with
        | s :: _ => d.wr SEQ_JOIN.I_PRED (unsigned 16 (nearest (d.predict m s * 10)))
        | [] => d
      if strings.any d.inSequence then d
      else
        match leastBy (fun s => mag (d.vstr s - d.vbus s)) (d.seq.queue.filter (d.joinPasses m)) with
        | some s =>
          let shown := (d.rd SEQ_JOIN.STRING, d.rd SEQ_JOIN.I_PRED)
          ((d.startClose m s true).wr SEQ_JOIN.STRING shown.1).wr SEQ_JOIN.I_PRED shown.2
        | none => d

/-! ### Pre-charge at a strobe (R187 to R189) -/

/-- The slope of the least-squares line of y on x. -/
def slopeOf (l : List (Rat × Rat)) : Rat :=
  let n : Rat := (l.length : Nat)
  let sx := l.foldl (fun a p => a + p.1) 0
  let sy := l.foldl (fun a p => a + p.2) 0
  let sxx := l.foldl (fun a p => a + p.1 * p.1) 0
  let sxy := l.foldl (fun a p => a + p.1 * p.2) 0
  quot (n * sxy - sx * sy) (n * sxx - sx * sx)

/-- The fit's points: 0.1 d0 ≤ d ≤ 0.9 d0 (R188). -/
def Fit.used (f : Fit) : List (Rat × Rat × Rat) :=
  f.pts.filter fun p => decide (f.d0 / 10 ≤ p.2.1) && decide (p.2.1 ≤ f.d0 * 9 / 10)

/-- R_fit in Ω (R188). -/
def Fit.r (f : Fit) : Rat :=
  f.used.foldl (fun a p => a + quot p.2.1 p.2.2) 0 / (f.used.length : Nat)

/-- τ in s (R188). -/
def Fit.tau (f : Fit) : Rat := quot (-1) (slopeOf (f.used.map fun p => (p.1, Config.ln p.2.1)))

/-- C_fit in F (R188). -/
def Fit.c (f : Fit) : Rat := quot f.tau f.r

/-- At t90 (step 5): T90, R_FIT and C_FIT are reported, and the first check that fails aborts. DEDUCED, log 50. -/
def Dev.judgeFit (m : Mem) (s : Nat) (ms : Rat) (d : Dev) : Dev :=
  let f := (d.sq s).fit
  let d := d.wr (SEQ_PRE.T90 s) (roundTo 65535 ms)
  let rp := m.img.rPre s
  if ms < m.img.t90Min s then d.abortPre m s 5
  else if (m.img.t90Max s : Rat) < ms then d.abortPre m s 6
  else if f.used.length < 2 then d.abortPre m s 14
  else
    let d := (d.wr (SEQ_PRE.R_FIT s) (roundTo 65535 (f.r * 100))).wr (SEQ_PREC.C_FIT s)
      (roundTo (2 ^ 20 - 1) (f.c * 1000000))
    if f.r < rp * (1 - m.img.rTol s) || rp * (1 + m.img.rTol s) < f.r then d.abortPre m s 7
    else if f.c < m.img.cMin s || m.img.cMax s < f.c then d.abortPre m s 8
    else d

/-- Whether a sample of a strobe is STALE or SUSPECT. -/
def Validity.lost (v : Validity) : Bool := v = .stale || v = .suspect

/-- Step 6 of R187: POS goes on, and the state is JOIN. -/
def Dev.matched (m : Mem) (s : Nat) (d : Dev) : Dev :=
  d.closeCoil m (3 * s) fun d => (d.modSq s fun q => { q with close := .posOn }).wr (SEQ_STATE.STATE s) 5

/-- The charging steps at one strobe sample of string `s` (steps 4 to 6). The charging current counts by its
magnitude: R114 signs a current that leaves the string negative, and R188's worked example takes it positive. DEDUCED, log 50. -/
def Dev.chargeAt (m : Mem) (s : Nat) (x : StrSmp) (d : Dev) : Dev :=
  let f := (d.sq s).fit
  let iRef := d.vstr s / m.img.rPre s
  if x.iVal.lost || x.vstrVal.lost || x.vbusVal.lost then
    match f.t0 with
    | some _ => d.abortPre m s 12
    | none => d
  else
    match f.t0 with
    | none =>
      if (d.sq s).negAt + msClk (m.img.tClose s) < x.at_ then d.abortPre m s 2
      else if x.vstr / m.img.rPre s / 50 ≤ mag x.i && (d.sq s).negAt ≤ x.at_ then
        let g : Fit := { t0 := some x.at_, d0 := x.vstr - x.vbus, t90 := none
                         pts := [(0, x.vstr - x.vbus, mag x.i)]
                         energy := mag x.i * (x.vstr - x.vbus) * d.acq.fill.tc / (d.acq.fill.n : Nat) }
        let d := d.modSq s fun q => { q with fit := g }
        let d := d.wr (SEQ_TIMER.ENERGY s) (roundTo 65535 g.energy)
        if iRef * 5 / 4 < mag x.i then d.abortPre m s 4
        else if m.img.ePreMax s < g.energy then d.abortPre m s 10 else d
      else d
    | some t0 =>
      if x.at_ ≤ t0 then d
      else
        let dk := x.vstr - x.vbus
        let t : Rat := ((x.at_ - t0 : Nat) : Rat) / 100000000
        let e := f.energy + mag x.i * dk * d.acq.fill.tc / (d.acq.fill.n : Nat)
        let d := d.wr (SEQ_TIMER.ENERGY s) (roundTo 65535 e)
        let d := d.modSq s fun q => { q with fit := { f with energy := e } }
        if iRef * 5 / 4 < mag x.i then d.abortPre m s 4
        else if m.img.ePreMax s < e then d.abortPre m s 10
        else
          match f.t90 with
          | none =>
            let d := d.modSq s fun q => { q with fit := { q.fit with pts := (t, dk, mag x.i) :: f.pts } }
            if dk ≤ f.d0 / 10 then
              let d := d.modSq s fun q => { q with fit := { q.fit with t90 := some x.at_ } }
              d.judgeFit m s (t * 1000)
            else d
          | some t90 =>
            if t90 < x.at_ && mag dk ≤ m.img.match_ s * x.vstr then d.matched m s else d

/-- PRE is closed and VPRE within 2% of VSTR: the watch for a NEG weld begins (R187 step 2). DEDUCED, log 50. -/
def Dev.preClosed (s : Nat) (d : Dev) : Dev :=
  let d := d.modSq s fun x => { x with close := .watch }
  if (d.sq s).skip then d.bump (SEQ_TIMER.WELD_SKIP s) else d

/-- A strobe while a closed PRE waits for VPRE: it has until T_CLOSE after the PRE command (R187 step 2). -/
def Dev.preWait (m : Mem) (s : Nat) (x : StrSmp) (d : Dev) : Dev :=
  if d.con (3 * s + 2) ≠ 2 then d
  else if !x.vstrVal.lost && !x.vpreVal.lost && decide (mag (x.vpre - x.vstr) ≤ x.vstr / 50) then d.preClosed s
  else if (d.sq s).preAt + msClk (m.img.tClose s) < x.at_ then d.abortPre m s 2
  else d

/-- What a strobe brings to string `s` in a close sequence (R187, R188): VPRE behind a closed PRE, the NEG-weld
watch, or the charging. DEDUCED, log 50. -/
def Dev.preStrobe (m : Mem) (s : Nat) (d : Dev) : Dev :=
  match d.lastSmp s with
  | none => d
  | some x =>
    if d.inSequence s then
      match (d.sq s).close with
      | .preOn => d.preWait m s x
      | .watch =>
        if !(d.sq s).skip && !x.vbusVal.lost && x.vstr / 20 < x.vbus - (d.sq s).vbus1 then d.abortPre m s 1
        else d
      | .negOn => if (d.sq s).join then d else d.chargeAt m s x
      | .charge => d.chargeAt m s x
      | .matchWait =>
        if !x.vstrVal.lost && !x.vbusVal.lost && decide (mag (x.vstr - x.vbus) ≤ m.img.match_ s * x.vstr) then
          d.matched m s
        else d
      | _ => d
    else d

/-! ### A sweep end (R185, R190, R191) -/

/-- The steps of an orderly disconnect at a sweep end (R191 steps 2 and 3): a sweep without an OK current
sample takes none. -/
def Dev.drainStep (m : Mem) (s : Nat) (d : Dev) : Dev :=
  if d.strState s = 7 then
    match d.meanI s with
    | none => d
    | some i =>
      let d := if (d.sq s).opn = .drain && mag i ≤ d.rated s / 50 then
          d.modSq s fun x => { x with opn := .breakWait } else d
      if (d.sq s).opn = .breakWait && mag i ≤ m.img.iBreak s then
        ((d.coilOff m (3 * s)).modSq s fun x => { x with
          opn := if d.auxClosed (3 * s) then .posOff else .lowWait }).wr (SEQ_STATE.STATE s) 8
      else d
  else d

/-- The repeated prediction after NEG closure on a join (R190). -/
def Dev.joinStep (m : Mem) (s : Nat) (d : Dev) : Dev :=
  if (d.sq s).again && d.inSequence s then
    let d := d.modSq s fun x => { x with again := false }
    if d.joinPasses m s then
      (d.coilOff m (3 * s + 2)).matched m s
    else
      let d := (d.coilOff m (3 * s + 2)).coilOff m (3 * s + 1)
      let d := d.modSq s fun x => { x with close := .idle }
      ((d.modSeq fun x => { x with queue := x.queue ++ [s] }).wr (SEQ_STATE.STATE s) 2).showQueue
  else d

/-- SEQ at a sweep end: a written shed order takes effect (R201), then disconnects, joins and the
selection go on. -/
def Dev.seqSweepEnd (m : Mem) (d : Dev) : Dev :=
  if !d.seqActs then d else
  let d := match d.seq.shed with
    | some v =>
      (d.each (List.range 8) fun k d => d.wr (SEQ_SHED.POS k) (v / 16 ^ k)).modSeq fun x =>
        { x with shed := none }
    | none => d
  let d := d.each strings (Dev.drainStep m)
  let d := d.each strings (Dev.joinStep m)
  d.showQueue.selectJoin m

/-! ### Feedback (R181, R182) -/

/-- A string whose POS is closed and PRE open again is CONNECTED (R187 step 9, R190). -/
def Dev.tryConnected (s : Nat) (d : Dev) : Dev :=
  if d.strState s = 5 && (d.sq s).close = .preOff && d.con (3 * s) = 2 && d.con (3 * s + 2) = 0 &&
      !d.coil (3 * s + 2) then
    ((d.modSq s fun x => { x with close := .idle }).wr (SEQ_PREC.ATTEMPTS s) 0).wr (SEQ_STATE.STATE s) 6
  else d

/-- What a closed aux brings to a string's close sequence (R187). -/
def Dev.closedStep (m : Mem) (s c : Nat) (d : Dev) : Dev :=
  match (d.sq s).close with
  | .preOn =>
    if c = 3 * s + 2 && decide (mag (d.vpre s - d.vstr s) ≤ d.vstr s / 50) then d.preClosed s else d
  | .negOn =>
    if c = 3 * s + 1 then
      if (d.sq s).join then d.modSq s fun x => { x with again := true }
      else if mag (d.vstr s - d.vbus s) ≤ m.img.match_ s * d.vstr s then
        (d.modSq s fun x => { x with close := .waived }).wr (SEQ_STATE.FIT_WAIVED s) 1
      else d.modSq s fun x => { x with close := .charge }
    else d
  | .posOn =>
    if c = 3 * s then
      if (d.sq s).join then (d.modSq s fun x => { x with close := .preOff }).tryConnected s
      else d.modSq s fun x => { x with close := .overlap }
    else d
  | _ => d

/-- What a closed aux brings to the bank close (R186). -/
def Dev.bankClosedStep (m : Mem) (c : Nat) (d : Dev) : Dev :=
  if d.seq.bank = .bnegOn && c = 25 then
    d.closeCoil m 26 fun d => d.modSeq fun x => { x with bank := .bpreOn }
  else if d.seq.bank = .bpreOn && c = 26 then d.modSeq fun x => { x with bank := .settle }
  else if d.seq.bank = .bposOn && c = 24 then d.modSeq fun x => { x with bank := .overlap }
  else d

/-- What an opened aux brings to a string (R187 step 9, R191 steps 4 and 5). -/
def Dev.openedStep (m : Mem) (s c : Nat) (d : Dev) : Dev :=
  let d := d.tryConnected s
  let d := if d.strState s = 8 && (d.sq s).opn = .posOff && c = 3 * s then
      d.modSq s fun x => { x with opn := .lowWait } else d
  ((d.settle s).afterOpen m).startFirst m

/-- What an opened aux brings to the bank contactors (R186 step B6, R192). -/
def Dev.bankOpenedStep (m : Mem) (c : Nat) (d : Dev) : Dev :=
  if d.seq.bank = .bpreOff && c = 26 then
    ((d.modSeq fun x => { x with bank := .idle }).wr SEQ_BANK.STATE 3).startFirst m
  else d.settleBank

/-- A BPRE whose aux reads open already closes the bank at once (R186 step B6). -/
def Dev.bankOpenedIfOpen (m : Mem) (d : Dev) : Dev := if d.auxClosed 26 then d else d.bankOpenedStep m 26

/-- What an aux that now reads `closed` brings (R181, R182): wear is counted (R195), the contactor and its
sequence advance. A change with no coil change is an AUX_FAULT, which in a connected string or a closed bank is
CONTACTOR_FAULT too (R196). DEDUCED, log 55. -/
def Dev.auxStep (m : Mem) (c : Nat) (closed : Bool) (d : Dev) : Dev :=
  let w := ownerOf c
  let d := d.wearOn m c closed
  if closed then
    if d.con c = 1 then
      let d := d.wr (conFld c) 2
      if w = 8 then d.bankClosedStep m c else d.closedStep m w c
    else if d.con c = 0 || d.con c = 6 then
      if tget false d.seq.judge c then d.wr (conFld c) 3
      else
        let d := if decide (w < 8) && d.connected w then d.openString m 0x0A w
          else if w = 8 && d.rd SEQ_BANK.STATE = 3 then d.openBank m 0x0A else d
        d.weld m c 5
    else d
  else if d.con c = 3 then
    let d := d.wr (conFld c) 0
    if w = 8 then d.bankOpenedStep m c else d.openedStep m w c
  else if d.con c = 2 then
    let d := if decide (w < 8) && d.connected w then d.openString m 0x0A w
      else if w = 8 && d.rd SEQ_BANK.STATE = 3 then d.openBank m 0x0A else d
    (d.weld m c 5).afterOpen m
  else d

/-- AUX_CHANGE (R181, R182). While the supervisor is in reset, or SEQ's bed is out and the coils are held
(R199),
the aux alone changes, and SEQ reads it when it resumes. -/
def execAuxChange (con : Con) (closed : Bool) (s : State) : Host.Outcome State Fault Refusal :=
  s.run fun m d =>
    let c := con.val
    if d.con c = 7 || d.auxClosed c = closed then d
    else
      let d := d.modSeq fun x => { x with aux := tset false x.aux c closed }
      if d.seqActs then d.auxStep m c closed else d

/-- The aux contacts as SEQ finds them after a supervisor reset (R199): each that has changed meanwhile brings
what its change brings. DEDUCED, log 88. -/
def Dev.auxResume (m : Mem) (d : Dev) : Dev :=
  d.each (List.range 27) fun c d =>
    let st := d.con c
    if d.auxClosed c && (st = 0 || st = 1 || st = 6) then d.auxStep m c true
    else if !d.auxClosed c && (st = 2 || st = 3) then d.auxStep m c false
    else d

/-- CONTACTOR_NO_CLOSE (R182). The aux has not closed by T_CLOSE: the coil goes off, recorded; inside a
close sequence the attempt aborts, elsewhere it is CONTACTOR_FAULT (R196). -/
def execContactorNoClose (con : Con) (s : State) : Host.Outcome State Fault Refusal :=
  s.run fun m d =>
    let c := con.val
    let w := ownerOf c
    if !d.seqActs || d.con c ≠ 1 then d
    else
      let d := (d.coilOff m c).wr (conFld c) 6
      let d := d.record recContactorNoClose [BitVec.ofNat 8 c]
      if w = 8 then d.openBank m 0x0A
      else if d.inSequence w then d.abortPre m w 2
      else (d.openString m 0x0A w).afterOpen m

/-- NEG_WELD_WATCH_END (R187 step 3). The 100 ms watch ends and the NEG coil goes on. -/
def execNegWeldWatchEnd (str : Str) (s : State) : Host.Outcome State Fault Refusal :=
  s.run fun m d =>
    if d.seqActs && d.inSequence str.val && (d.sq str.val).close = .watch then
      d.closeCoil m (3 * str.val + 1) fun d =>
        (d.modSq str.val fun x => { x with close := .negOn, negAt := d.clk }).wr (SEQ_STATE.STATE str.val) 4
    else d

/-- FIT_WAIVED (R187). 100 ms after a NEG closure on matching voltages, SEQ goes to step 6: POS goes on at the
first strobe at which the voltages match. DEDUCED, log 50. -/
def execFitWaived (str : Str) (s : State) : Host.Outcome State Fault Refusal :=
  s.run fun _ d =>
    if d.seqActs && d.inSequence str.val && (d.sq str.val).close = .waived then
      d.modSq str.val fun x => { x with close := .matchWait }
    else d

/-- T90_TIMEOUT (R189). No t90 by T90_MAX: TOO_SLOW. -/
def execT90Timeout (str : Str) (s : State) : Host.Outcome State Fault Refusal :=
  s.run fun m d =>
    let q := d.sq str.val
    if d.seqActs && (q.close = .charge || q.close = .negOn) && q.fit.t0.isSome && q.fit.t90.isNone then
      (d.abortPre m str.val 6).afterOpen m
    else d

/-- MATCH_TIMEOUT (R189). No match by T_PRE_MAX: NO_MATCH, with the fit or without. -/
def execMatchTimeout (str : Str) (s : State) : Host.Outcome State Fault Refusal :=
  s.run fun m d =>
    let q := d.sq str.val
    if d.seqActs && (q.close = .matchWait || (q.close = .charge || q.close = .negOn) && q.fit.t90.isSome) then
      (d.abortPre m str.val 9).afterOpen m
    else d

/-- OVERLAP_END (R186 step B6, R187 step 8). OVERLAP ends: the PRE or BPRE coil goes off. -/
def execOverlapEnd (who : Who) (s : State) : Host.Outcome State Fault Refusal :=
  s.run fun m d =>
    if !d.seqActs then d
    else if who.val = 8 then
      if d.seq.bank = .overlap then
        ((d.modSeq fun x => { x with bank := .bpreOff }).coilOff m 26).bankOpenedIfOpen m
      else d
    else if d.strState who.val = 5 && (d.sq who.val).close = .overlap then
      ((d.modSq who.val fun x => { x with close := .preOff }).coilOff m (3 * who.val + 2)).tryConnected who.val
    else d

/-- BUS_SETTLED (R186 step B4). VBUS has settled: the BPOS coil goes on. -/
def execBusSettled (s : State) : Host.Outcome State Fault Refusal :=
  s.run fun m d =>
    if d.seqActs && d.seq.bank = .settle then
      d.closeCoil m 24 fun d => d.modSeq fun x => { x with bank := .bposOn }
    else d

/-- BANK_SETTLE_TIMEOUT (R186). VBUS has not settled by T_SETTLE_MAX: the bank close ends with
PRECHARGE_ABORT for the bank, and the queue is emptied. -/
def execBankSettleTimeout (s : State) : Host.Outcome State Fault Refusal :=
  s.run fun m d =>
    if d.seqActs && d.seq.bank = .settle then
      (d.openBank m 0x08).each strings Dev.dequeue
    else d

/-- COOL_END (R189). COOL has passed: the string leaves COOLDOWN. DESIGN CHOICE, log 5. -/
def execCoolEnd (str : Str) (s : State) : Host.Outcome State Fault Refusal :=
  s.run fun m d =>
    if d.seqActs && d.strState str.val = 9 then
      ((d.modSq str.val fun x => { x with holdEnd := 0 }).wr (SEQ_STATE.STATE str.val) 1).startFirst m
    else d

/-- JOIN_TIMEOUT (R185). A string has been QUEUED for JOIN_WAIT: it leaves the queue with its cause. -/
def execJoinTimeout (str : Str) (s : State) : Host.Outcome State Fault Refusal :=
  s.run fun m d =>
    if d.seqActs && d.strState str.val = 2 then d.openString m 0x09 str.val else d

/-- ORDER_WAIT_END (R191 step 2). ORDER_WAIT passes: the string goes on to break its current. -/
def execOrderWaitEnd (str : Str) (s : State) : Host.Outcome State Fault Refusal :=
  s.run fun _ d =>
    if d.seqActs && d.strState str.val = 7 && (d.sq str.val).opn = .drain then
      d.modSq str.val fun x => { x with opn := .breakWait }
    else d

/-- BREAK_WAIT_EXPIRED (R172, R192). The current has not fallen within BREAK_WAIT: SHUNT_TRIP fires and
the bank opens. -/
def execBreakWaitExpired (str : Str) (s : State) : Host.Outcome State Fault Refusal :=
  s.run fun m d =>
    if d.seqActs && d.strState str.val = 7 && (d.sq str.val).opn = .breakWait then d.openBank m 0x0D
    else d

/-- CURRENT_LOW_QUALIFIED (R191 step 4). After POS opened, the current has stayed low for 10 ms: PRE goes
off if it is closed, and 20 ms later NEG follows. -/
def execCurrentLowQualified (str : Str) (s : State) : Host.Outcome State Fault Refusal :=
  s.run fun m d =>
    if d.seqActs && d.strState str.val = 8 && (d.sq str.val).opn = .lowWait then
      (d.coilOff m (3 * str.val + 2)).modSq str.val fun x => { x with opn := .negDelay }
    else d

/-- NEG_COIL_DELAY_END (R191 step 4). The NEG coil goes off. -/
def execNegCoilDelayEnd (str : Str) (s : State) : Host.Outcome State Fault Refusal :=
  s.run fun m d =>
    if d.seqActs && d.strState str.val = 8 && (d.sq str.val).opn = .negDelay then
      (((d.coilOff m (3 * str.val + 1)).modSq str.val fun x => { x with opn := .negOff }).settle
        str.val).afterOpen m
    else d

/-- BNEG_DELAY_END (R192). 20 ms after BPOS in an orderly bank opening, BNEG opens. -/
def execBnegDelayEnd (s : State) : Host.Outcome State Fault Refusal :=
  s.run fun m d =>
    if d.seqActs && d.seq.bank = .bnegDelay then
      ((d.coilOff m 25).modSeq fun x => { x with bank := .allOff }).settleBank
    else d

/-- RECLOSE_HOLD_END (R196, R197). RECLOSE_HOLD after OPEN has passed: the HOLD latch clears. -/
def execRecloseHoldEnd (str : Str) (s : State) : Host.Outcome State Fault Refusal :=
  s.run fun _ d =>
    if d.seqActs && d.isOpen str.val && (d.sq str.val).hold then
      (d.modSq str.val fun x => { x with hold := false, holdEnd := 0 }).showLatch str.val
    else d

/-- TRIP_PULSE_END (R192). SHUNT_TRIP is de-energised. -/
def execTripPulseEnd (s : State) : Host.Outcome State Fault Refusal :=
  s.run fun _ d =>
    if d.seq.firing then (d.modSeq fun x => { x with firing := false }).wr CHN_SHUNT.FIRING 0 else d

/-- Every coil of a contactor's current path is off: its string's, or the bank's. -/
def Dev.pathOff (d : Dev) (w : Nat) : Bool := (consOf w).all fun c => !d.coil c

/-- The verdict of R193 on contactor `c`, T_OPEN after its coil-off: 0 OPEN, 4 WELDED, 5 AUX_FAULT. The
neutral case of an open aux, with neither current test met, stands as OPEN. DEDUCED, log 55. -/
def Dev.verdict (m : Mem) (c : Nat) (current : WeldCurrent) (d : Dev) : Nat :=
  let w := ownerOf c
  let persists := decide (current = .persists) && d.pathOff w
  if !d.auxClosed c then if persists then 4 else 0
  else
    let posNeg := decide (w < 8) && c = 3 * w && d.con (3 * w + 1) = 2
    let dv := mag (d.vstr w - d.vbus w)
    let ocv := d.stringOcv m w
    if persists then 4
    else if posNeg && decide (dv < d.vstr w / 100) && decide (ocv / 20 ≤ mag (d.vbus w - ocv)) then 4
    else if decide (current = .low) && (!posNeg || decide (d.vstr w / 20 ≤ dv)) then 5
    else 4

/-- WELD_VERDICT (R193, R194). T_OPEN after a coil-off, the contactor is judged. -/
def execWeldVerdict (con : Con) (current : WeldCurrent) (s : State) : Host.Outcome State Fault Refusal :=
  s.run fun m d =>
    let c := con.val
    if !d.seqActs || d.coil c || !tget false d.seq.judge c then d
    else
      let d := d.modSeq fun x => { x with judge := tset false x.judge c false }
      let v := d.verdict m c current
      if v = 0 then
        let d := if d.con c = 6 || d.con c = 3 then d.wr (conFld c) 0 else d
        if ownerOf c = 8 then d.settleBank else (d.settle (ownerOf c)).afterOpen m
      else if d.con c = 4 || d.con c = 5 then d
      else (d.weld m c v).afterOpen m

/-- WELD_UNISOLATED (R194). Current has persisted for 100 ms with both main poles off: SHUNT_TRIP fires
and the bank opens. -/
def execWeldUnisolated (who : Who) (s : State) : Host.Outcome State Fault Refusal :=
  s.run fun m d =>
    let w := who.val
    if d.seqActs && d.con (3 * w) ≠ 7 && !d.coil (3 * w) && !d.coil (3 * w + 1) then d.openBank m 0x0C
    else d

/-! ### Commands (R184, R192, R196, R197, R200 to R202) -/

/-- Go through the strings of MASK. -/
def Dev.named (mask : Nat) (f : Nat → Dev → Dev) (d : Dev) : Dev := d.each (bitsOf 8 mask) f

/-- CLOSE (R184): the result is OK when a named string was queued. -/
def Dev.cmdClose (m : Mem) (mask : Nat) (d : Dev) : Did :=
  let r := (bitsOf 8 mask).foldl (fun (a : Dev × Bool) s =>
    let j := a.1.judgeClose m s
    if j.1 = 0 then
      let d := a.1.modSeq fun x => { x with queue := x.queue ++ [s] }
      let d := d.modSq s fun x => { x with queuedAt := d.clk }
      ((d.wr (SEQ_STATE.STATE s) 2).showQueue, true)
    else (a.1.seqResult j.1 s j.2, a.2)) (d, false)
  if r.2 then (r.1.startFirst m, wrOk)
  else (r.1, wrRefused (r.1.rd SEQ_RESULT.REASON) SEQ_CTRL.CMD.addr)

/-- The named strings open with cause HOST_OPEN; one that drains or opens already meets no effect. A mask that
names every configured string ends a bank close too (R199). -/
def Dev.openNamed (m : Mem) (mask : Nat) (d : Dev) : Dev :=
  let ends := d.bankClosing && strings.all fun s => !d.configured s || mask.testBit s
  let d := d.named mask fun s d =>
    if d.isOpen s || d.strState s = 7 || d.strState s = 8 then d else d.openString m 0x01 s
  if ends then d.bankOff m else d

/-- OPEN (R196): an orderly opening of the named strings, HOST_OPEN. -/
def Dev.cmdOpen (m : Mem) (mask : Nat) (d : Dev) : Did := ((d.openNamed m mask).afterOpen m, wrOk)

/-- OPEN_BANK (R192): an orderly opening of bank scope, HOST_OPEN. -/
def Dev.cmdOpenBank (m : Mem) (d : Dev) : Did := (d.openBank m 0x01, wrOk)

/-- LOCKOUT (R200): a connected string opens in order, a queued one leaves the queue; the string stays
locked out. -/
def Dev.cmdLockout (m : Mem) (mask : Nat) (d : Dev) : Did :=
  (((d.openNamed m mask).named mask fun s d => d.wr (SEQ_STATE.LOCKED_OUT s) 1).afterOpen m, wrOk)

/-- UNLOCK (R200). -/
def Dev.cmdUnlock (mask : Nat) (d : Dev) : Did :=
  (d.named mask fun s d => d.wr (SEQ_STATE.LOCKED_OUT s) 0, wrOk)

/-- CANCEL_JOIN (R185): the named strings leave the queue. -/
def Dev.cmdCancelJoin (mask : Nat) (d : Dev) : Did := (d.named mask Dev.dequeue, wrOk)

/-- CLEAR_LATCH on one target, 8 for the bank (R197): poles in WELDED or AUX_FAULT are judged by their
aux; a latch of cause WELD clears only when every pole is then OPEN, any other one when none is left in those
states. DEDUCED, log 56. -/
def Dev.clearOne (w : Nat) (d : Dev) : Dev :=
  if tget 0 d.nv.maint w = 0 then d
  else
    let d := d.each (consOf w) fun c d =>
      if (d.con c = 4 || d.con c = 5) && !d.auxClosed c then d.wr (conFld c) 0 else d
    let ok (c : Nat) : Bool :=
      if tget 0 d.nv.maint w = 0x0B then d.con c = 0 || d.con c = 7 else d.con c ≠ 4 && d.con c ≠ 5
    if (consOf w).all ok then
      let d := (d.modNv fun n => { n with maint := tset 0 n.maint w 0 }).showLatch w
      if w = 8 then
        if d.rd SEQ_BANK.STATE = 5 || d.rd SEQ_BANK.STATE = 4 then
          (d.wr SEQ_BANK.STATE (if d.con 24 = 7 then 0 else if (consOf 8).all d.conIdle then 1 else 4))
        else d
      else
        if d.strState w = 10 then d.wr (SEQ_STATE.STATE w) 1 else d
    else d.seqResult 8 (if w = 8 then 0x80 else w) 0x0B

/-- CLEAR_LATCH and RESET_WEAR are accepted from a steward session that holds the Maintainer role; any other
session is refused with ROLE_REQUIRED (R202). -/
def Dev.asMaintainer (d : Dev) (sid : Nat) (go : Dev → Did) : Did :=
  if d.isSteward sid .seq && (d.sess sid).role = .maintainer then go d
  else (d.seqResult 13 0 0, wrRefused 13 SEQ_CTRL.CMD.addr)

/-- CLEAR_LATCH (R197): MASK 0 names every latch of class MAINT. -/
def Dev.cmdClearLatch (mask : Nat) (d : Dev) : Did :=
  if mask = 0 then (d.each (List.range 9) Dev.clearOne, wrOk)
  else (d.named mask Dev.clearOne, wrOk)

/-- The bytes of a wear entry, in the order of R195. -/
def Wear.bytes (w : Wear) : List Byte :=
  leBytes 4 w.ops ++ leBytes 2 w.breaks ++ leBytes 1 w.excess ++ leBytes 1 w.welds ++ leBytes 4 w.sum ++
    leBytes 2 w.imax

/-- RESET_WEAR (R195, R202): zeroes one entry and records what it held. -/
def Dev.cmdResetWear (ix : Nat) (d : Dev) : Did :=
  if 26 < ix then (d.seqResult 14 0 0, wrRefused 14 SEQ_CTRL.CMD.addr)
  else
    let old := tget Wear.zero d.nv.wear ix
    ((d.record recWearReset (leBytes 1 ix ++ old.bytes)).modNv fun n =>
      { n with wear := tset Wear.zero n.wear ix .zero }, wrOk)

/-- Whether a word is a permutation of 0 to 7, one digit each (R201). -/
def isPerm (v : Nat) : Bool :=
  (List.range 8).all fun s => (List.range 8).any fun k => v / 16 ^ k % 16 = s

/-- A write of SEQ_SHED (R201, R203): no permutation is refused; a valid order takes effect at the next
sweep end. -/
def Dev.cmdShed (v : Nat) (d : Dev) : Did :=
  if isPerm v then (d.modSeq fun x => { x with shed := some v }, wrOk)
  else (d, wrInvalid 0x05 (SEQ_SHED.POS 0).addr)

def execCloseStrings (sid : Sid) (mask : Byte) (s : State) : Host.Outcome State Fault Refusal :=
  s.run fun m d => d.host sid.val fun d =>
    d.asSteward sid.val .seq SEQ_CTRL.CMD.addr (Dev.cmdClose m mask.toNat)

def execOpenStrings (sid : Sid) (mask : Byte) (s : State) : Host.Outcome State Fault Refusal :=
  s.run fun m d => d.host sid.val fun d =>
    d.asSteward sid.val .seq SEQ_CTRL.CMD.addr (Dev.cmdOpen m mask.toNat)

def execOpenBank (sid : Sid) (s : State) : Host.Outcome State Fault Refusal :=
  s.run fun m d => d.host sid.val fun d =>
    d.asSteward sid.val .seq SEQ_CTRL.CMD.addr (Dev.cmdOpenBank m)

def execLockout (sid : Sid) (mask : Byte) (s : State) : Host.Outcome State Fault Refusal :=
  s.run fun m d => d.host sid.val fun d =>
    d.asSteward sid.val .seq SEQ_CTRL.CMD.addr (Dev.cmdLockout m mask.toNat)

def execUnlock (sid : Sid) (mask : Byte) (s : State) : Host.Outcome State Fault Refusal :=
  s.run fun _ d => d.host sid.val fun d =>
    d.asSteward sid.val .seq SEQ_CTRL.CMD.addr (Dev.cmdUnlock mask.toNat)

def execClearLatch (sid : Sid) (mask : Byte) (s : State) : Host.Outcome State Fault Refusal :=
  s.run fun _ d => d.host sid.val fun d =>
    d.asMaintainer sid.val (Dev.cmdClearLatch mask.toNat)

def execResetWear (sid : Sid) (index : Fin 32) (s : State) : Host.Outcome State Fault Refusal :=
  s.run fun _ d => d.host sid.val fun d =>
    d.asMaintainer sid.val (Dev.cmdResetWear index.val)

def execCancelJoin (sid : Sid) (mask : Byte) (s : State) : Host.Outcome State Fault Refusal :=
  s.run fun _ d => d.host sid.val fun d =>
    d.asSteward sid.val .seq SEQ_CTRL.CMD.addr (Dev.cmdCancelJoin mask.toNat)

def execSeqShed (sid : Sid) (value : Word) (s : State) : Host.Outcome State Fault Refusal :=
  s.run fun _ d => d.host sid.val fun d =>
    d.asSteward sid.val .seq (SEQ_SHED.POS 0).addr (Dev.cmdShed value.toNat)

end Sys2Proof.Machine
end

