-- ==== Sys2Proof/Machine/Estimate.lean ====
section
/-! DEFINITION. Cell state estimation (R116 to R140): the work of one sweep in its ten steps, and the
events of strings at rest, empty, discharging and asking for a probe. All of the estimator's arithmetic
is FP32 (R123): each stored result is the exact value rounded by `Config.fp32`. -/

namespace Sys2Proof.Machine

/-! ### Bed outages (R58) -/

def bedKern : Nat := 1
def bedSafe : Nat := 2
def bedEstm : Nat := 4
def bedThrm : Nat := 7
def bedBaln : Nat := 8

/-- Whether an outage of the bed runs. -/
def Dev.outage (d : Dev) (bed : Nat) : Bool := d.load.outage.contains bed

/-! ### Cells: defaults and initial states (R125, R141) -/

/-- Q_RATED of cell `c`'s profile in Ah. -/
def Dev.qRated (m : Mem) (c : Nat) (d : Dev) : Rat := m.img.qRated (d.prof c) / 3600

/-- The defaults of R141. -/
def Dev.defaultCell (m : Mem) (c : Nat) (d : Dev) : Dev :=
  let p := d.prof c
  let q := d.qRated m c
  d.modCell c fun x => { x with
    q := q, rohm := m.img.pInit p 0, rpa := m.img.pInit p 1, cpa := m.img.pInit p 2
    rpb := m.img.pInit p 3, cpb := m.img.pInit p 4, z0 := .blank, z1 := .blank, z2 := .blank
    qLearned := false, zLearned := false, zTime := 0, qUpdates := 0, pending := none }

/-- The mean of a list. -/
def meanOf (l : List Rat) : Rat := l.foldl (· + ·) 0 / (l.length : Nat)

/-- A diagonal P. -/
def diag3 (a b c : Rat) : List Rat := [a, 0, 0, 0, b, 0, 0, 0, c]

/-- The average voltage of a cell in the last sweep that has ended, in V, absent where COUNT is 0. -/
def Dev.avgV (d : Dev) (c : Nat) : Option Rat :=
  if d.on (CELL_VAVG.COUNT c) then some ((d.rd (CELL_VAVG.MEAN c) : Rat) / 10000) else none

/-- The OK samples of a cell in a sweep, as (strobe, V). -/
def Sweep.cellOk (w : Sweep) (c : Nat) : List (Nat × Rat) :=
  if w.adj.contains c then []
  else (tget [] w.cells c).filterMap fun x =>
    if x.val = .ok then some (x.strobe, (x.code : Rat) / 10000) else none

/-- CELL_VAVG of a cell in a sweep: MEAN, and COUNT (R112). -/
def Sweep.mean (w : Sweep) (c : Nat) : Nat :=
  let l := (w.cellOk c).map (·.2 * 10000)
  if l.isEmpty then 0 else roundTo 65535 (meanOf l)
def Sweep.count (w : Sweep) (c : Nat) : Nat := (w.cellOk c).length

/-- The average voltage of a cell in a sweep, in V, absent where COUNT is 0. -/
def Sweep.volts (w : Sweep) (c : Nat) : Option Rat :=
  if w.count c = 0 then none else some ((w.mean c : Nat) / 10000)

/-- The SoC an average voltage gives a cell, 0.5 without one (R125). -/
def Dev.socFrom (m : Mem) (v : Option Rat) (c : Nat) (d : Dev) : Rat :=
  match v with
  | some v => m.img.ocvInv (d.prof c) v (d.cell c).heat
  | none => 1 / 2

/-- The initial state of R125 and R148, from the cell's average voltage. -/
def Dev.initCell (m : Mem) (avg : Option Rat) (c : Nat) (d : Dev) : Dev :=
  let s := d.socFrom m avg c
  let v := m.img.noise (d.prof c) 3
  d.modCell c fun x => { x with
    init := true, soc := Config.fp32 s, va := 0, vb := 0, p := diag3 (1 / 4) (v * v) (v * v)
    reported := none }

/-! ### Ripple impedance (R127 to R130) -/

/-- The OK current samples of a string, as (strobe, A). -/
def Sweep.curOk (w : Sweep) (s : Nat) : List (Nat × Rat) :=
  (tget [] w.strs s).filterMap fun x => if x.iVal = .ok then some (x.strobe, x.i) else none

/-- The discrete Fourier coefficient at harmonic `h` of `n` samples (R127). -/
def fourier (h n : Nat) (l : List (Nat × Rat)) : Rat × Rat :=
  let ang (k : Nat) : Rat := ((h * k : Nat) : Rat) / (n : Nat)
  (2 / (n : Nat) * l.foldl (fun a x => a + x.2 * Config.cosTurn (ang x.1)) 0,
   -(2 / (n : Nat) * l.foldl (fun a x => a + x.2 * Config.sinTurn (ang x.1)) 0))

/-- The harmonic of slot `j`, 0 for disabled. -/
def Dev.harmonic (d : Dev) (j : Nat) : Nat :=
  if j = 0 then d.rd EST_CFG.H0 else if j = 1 then d.rd EST_CFG.H1 else d.rd EST_CFG.H2

def CellEst.z (x : CellEst) (j : Nat) : ZSt := if j = 0 then x.z0 else if j = 1 then x.z1 else x.z2
def CellEst.setZ (x : CellEst) (j : Nat) (z : ZSt) : CellEst :=
  if j = 0 then { x with z0 := z } else if j = 1 then { x with z1 := z } else { x with z2 := z }

/-- A difference of two angles in degrees, brought into ±180. -/
def wrapDeg (x : Rat) : Rat := x - 360 * ((x / 360 + 1 / 2).floor : Int)

/-- Step 2 for one string at one slot: the cycle's acceptance (R128), and the filter of R129 for the cells
whose samples are all OK. -/
def Dev.rippleAt (w : Sweep) (single : Bool) (s j : Nat) (d : Dev) : Dev :=
  let h := d.harmonic j
  let cur := w.curOk s
  let i := fourier h w.n cur
  let a := Config.argDeg i.1 i.2
  let steady := match look (d.se s).args j with
    | some (a0, t) => decide (t + secClk 1 < w.endAt) || decide (mag (wrapDeg (a - a0)) ≤ 45 / 2)
    | none => true
  if h = 0 || cur.length ≠ w.n || d.stage ≠ 0 || !single || !steady ||
      decide (i.1 * i.1 + i.2 * i.2 < d.rated s / 200 * (d.rated s / 200)) then d
  else
    let d := d.modSe s fun x => { x with args := place x.args j (a, w.endAt) }
    let al := 1 - Config.exp (-w.tc)
    d.each (d.cellsOf s) fun c d =>
      let v := w.cellOk c
      if v.length ≠ w.n then d
      else
        let u := fourier h w.n v
        let q := i.1 * i.1 + i.2 * i.2
        let re := (u.1 * i.1 + u.2 * i.2) / q
        let im := (u.2 * i.1 - u.1 * i.2) / q
        d.modCell c fun x =>
          let z := x.z j
          let re2 := Config.fp32 (z.re + al * (re - z.re))
          let im2 := Config.fp32 (z.im + al * (im - z.im))
          let e := wrapDeg (Config.argDeg re im - Config.argDeg re2 im2)
          x.setZ j { z with
            re := re2, im := im2, at_ := w.cycle, any := true, aged := false
            dev := z.dev + al * (e * e - z.dev) }

/-- Whether the slot of a cell has been accepted in a sweep. -/
def ZSt.now (z : ZSt) (w : Sweep) : Bool := z.any && !z.aged && z.at_ = w.cycle

/-- A cell's virtual temperature is available: H0 × NOM_FREQ is the frequency its TVIRT was taken at. -/
def Dev.tvAvailable (m : Mem) (c : Nat) (d : Dev) : Bool :=
  d.rd EST_CFG.H0 * d.rd ACQ_PH_CFG.NOM_FREQ = m.img.tvFreq (d.prof c)

/-- The virtual temperature at phase `ph` in degrees with its slope, clamped to the table's ends (R130). -/
def Img.tvirt (i : Img) (p : Nat) (ph : Rat) : Rat × Rat :=
  if ph ≤ i.tvPhase p 0 then (i.tvTemp p 0, 0)
  else if i.tvPhase p 31 ≤ ph then (i.tvTemp p 31, 0)
  else
    let j := (List.range 31).foldl (fun a j => if i.tvPhase p j ≤ ph then j else a) 0
    let g := (i.tvTemp p (j + 1) - i.tvTemp p j) / (i.tvPhase p (j + 1) - i.tvPhase p j)
    (i.tvTemp p j + g * (ph - i.tvPhase p j), g)

/-- A cell's virtual temperature now. -/
def Dev.tvirtOf (m : Mem) (c : Nat) (d : Dev) : Rat × Rat :=
  let z := (d.cell c).z0
  m.img.tvirt (d.prof c) (Config.argDeg z.re z.im)

/-! ### Model temperature (R120, R206, R212) -/

/-- TEMPS record fields of pack point `p`. -/
def Img.temps (i : Img) (p : Nat) : Nat := i.at_ secTemps + 24 * p
def Img.pointZone (i : Img) (p : Nat) : Nat := i.u8 (i.temps p)
def Img.pointKind (i : Img) (p : Nat) : Nat := i.u8 (i.temps p + 1) % 4
def Img.pointFirst (i : Img) (p : Nat) : Nat := i.u16 (i.temps p + 2)
def Img.pointCells (i : Img) (p : Nat) : List Nat :=
  (List.range (i.u8 (i.temps p + 4))).map (i.pointFirst p + ·)
def Img.pointNeighbours (i : Img) (p : Nat) : List Nat :=
  (List.range (i.u8 (i.temps p + 5))).map fun k => i.u16 (i.temps p + 6 + 2 * k)

/-- Whether a pack point is used (R113). -/
def Dev.pointUsed (m : Mem) (p : Nat) (d : Dev) : Bool :=
  let r := d.portRec (lcOfMon (p / 16))
  decide (r.str < 8) && decide (p % 16 < r.temps) && m.img.pointZone p ≠ 0xFF

/-- The pack points. -/
def packPoints : List Nat := List.range 1024

/-- Whether point `p` touches cell `c`. -/
def Img.touches (i : Img) (p c : Nat) : Bool :=
  decide (i.pointFirst p ≤ c) && decide (c < i.pointFirst p + i.u8 (i.temps p + 4))

/-- Whether a point is valid: VALID or UNCHECKED, with a value (R212). -/
def Dev.pointValid (d : Dev) (p : Nat) : Bool := (d.point p).any && decide (d.rd (TEMP_VAL.STANDING p) ≤ 1)

/-- Step 3: T_model of one cell. -/
def Dev.heatCell (m : Mem) (c : Nat) (d : Dev) : Dev :=
  if d.tvAvailable m c && !(d.cell c).z0.aged then
    let t := (d.tvirtOf m c).1
    d.modCell c fun x => { x with heat := t, heated := true, cold := false }
  else
    match packPoints.filter (fun p => d.pointUsed m p && m.img.touches p c && d.pointValid p) with
    | [] => d.modCell c fun x => { x with cold := !x.heated }
    | l =>
      let t := meanOf (l.map fun p => (d.point p).temp)
      d.modCell c fun x => { x with heat := t, heated := true, cold := false }

/-! ### Adapted parameters and capacity (R126, R148, R151) -/

/-- The highest enabled slot by harmonic number. -/
def Dev.topSlot (d : Dev) : Nat :=
  [1, 2].foldl (fun a j => if d.harmonic a < d.harmonic j then j else a) 0

/-- Whether a value stands at one of its bounds. -/
def Img.atBound (i : Img) (p k : Nat) (v : Rat) : Bool := v = i.pMin p k || v = i.pMax p k

/-- PARAM_BOUND: whether any parameter of a cell is at a bound (R126). -/
def Dev.paramBound (m : Mem) (c : Nat) (d : Dev) : Bool :=
  let x := d.cell c
  let p := d.prof c
  m.img.atBound p 0 x.rohm || m.img.atBound p 1 x.rpa || m.img.atBound p 2 x.cpa || m.img.atBound p 3 x.rpb ||
    m.img.atBound p 4 x.cpb

/-- Step 4: the resistances of one cell (R126). -/
def Dev.adaptCell (m : Mem) (w : Sweep) (dt : Rat) (c : Nat) (d : Dev) : Dev :=
  let x := d.cell c
  let z := x.z d.topSlot
  if z.now w then
    let p := d.prof c
    let target := z.re / m.img.rtemp p x.heat
    let ro := clamp (Config.fp32 (x.rohm + (target - x.rohm) * dt / 3600)) (m.img.pMin p 0) (m.img.pMax p 0)
    let k := ro / m.img.pInit p 0
    let ra := clamp (Config.fp32 (m.img.pInit p 1 * k)) (m.img.pMin p 1) (m.img.pMax p 1)
    let rb := clamp (Config.fp32 (m.img.pInit p 3 * k)) (m.img.pMin p 3) (m.img.pMax p 3)
    d.modCell c fun x => { x with rohm := ro, rpa := ra, rpb := rb }
  else d

/-- Z_LEARNED after 600 s of accepted cycles at H0 (R148). -/
def Dev.learnZ (w : Sweep) (dt : Rat) (c : Nat) (d : Dev) : Dev :=
  if (d.cell c).z0.now w then
    d.modCell c fun x => { x with zTime := x.zTime + dt, zLearned := x.zLearned || decide (600 ≤ x.zTime + dt) }
  else d

/-- Step 4: capacities due (R151, R152); one record per sweep with updates. DEDUCED, log 48. -/
def Dev.learnQ (l : List Nat) (d : Dev) : Dev :=
  let due := l.filter fun c => (d.cell c).pending.isSome
  let d := d.each due fun c d => d.modCell c fun x =>
    match x.pending with
    | none => x
    | some (q, g) => { x with
        q := Config.fp32 (x.q + g * (q - x.q)), pending := none, qLearned := true
        qUpdates := min 65535 (x.qUpdates + 1), relearned := true }
  if due.isEmpty then d else d.record recLrnQUpdate (leBytes 2 due.length)

/-! ### The cell filter (R122, R123) -/

/-- The OK pairs of a cell and its string: (V, A) at the strobes at which both samples are OK. -/
def Sweep.pairs (w : Sweep) (c s : Nat) : List (Rat × Rat) :=
  let cur := w.curOk s
  (w.cellOk c).filterMap fun x => (cur.find? fun y => y.1 = x.1).map fun y => (x.2, y.2)

/-- Entry (i, j) of a 3 × 3 matrix. -/
def at3 (p : List Rat) (i j : Nat) : Rat := p.getD (3 * i + j) 0

/-- A 3 × 3 matrix by entries, each rounded. -/
def mat3 (f : Nat → Nat → Rat) : List Rat := (List.range 9).map fun k => Config.fp32 (f (k / 3) (k % 3))

/-- Step 5 prediction over `dt` with the counted charge `dq`. -/
def Dev.predictCell (m : Mem) (dt dq : Rat) (c : Nat) (d : Dev) : Dev :=
  let p := d.prof c
  d.modCell c fun x =>
    let rt := m.img.rtemp p x.heat
    let ra := x.rpa * rt
    let rb := x.rpb * rt
    let ea := Config.exp (-(dt / (ra * x.cpa)))
    let eb := Config.exp (-(dt / (rb * x.cpb)))
    let i := dq / dt
    let eta := if 0 < dq then m.img.etaChg p else 1
    let f (k : Nat) : Rat := if k = 0 then 1 else if k = 1 then ea else eb
    { x with
      soc := Config.fp32 (x.soc + eta * dq / (3600 * x.q))
      va := Config.fp32 (ea * x.va + ra * (1 - ea) * i)
      vb := Config.fp32 (eb * x.vb + rb * (1 - eb) * i)
      count := x.count + eta * dq
      p := mat3 fun a b => f a * at3 x.p a b * f b + (if a = b then m.img.noise p a * dt else 0) }

/-- After a gap beyond 600 s the polarisation starts anew (R122). -/
def Dev.longGap (m : Mem) (c : Nat) (d : Dev) : Dev :=
  let v := m.img.noise (d.prof c) 3
  d.modCell c fun x => { x with
    va := 0, vb := 0
    p := mat3 fun a b => if a = 0 && b = 0 then at3 x.p 0 0 else if a = b then v * v else 0 }

/-- Step 5 measurement update from the OK pairs of the sweep; a cell whose block missed the sweep is predicted
only
(R124). DEDUCED, log 48. -/
def Dev.updateCell (m : Mem) (w : Sweep) (s c : Nat) (d : Dev) : Dev :=
  let l := w.pairs c s
  if w.n / 4 ≤ l.length && !w.missed.contains (c / 24) && !(d.block (c / 24)).hold then
    let p := d.prof c
    let v := meanOf (l.map (·.1))
    let i := meanOf (l.map (·.2))
    let sg := m.img.noise p 3
    d.modCell c fun x =>
      let vh := m.img.ocv p x.soc x.heat + x.rohm * m.img.rtemp p x.heat * i + x.va + x.vb
      let h (k : Nat) : Rat := if k = 0 then m.img.docv p x.soc x.heat else 1
      let ph (a : Nat) : Rat := at3 x.p a 0 * h 0 + at3 x.p a 1 * h 1 + at3 x.p a 2 * h 2
      let hp (b : Nat) : Rat := h 0 * at3 x.p 0 b + h 1 * at3 x.p 1 b + h 2 * at3 x.p 2 b
      let sv := h 0 * ph 0 + h 1 * ph 1 + h 2 * ph 2 + sg * sg
      let k (a : Nat) : Rat := ph a / sv
      { x with
        soc := Config.fp32 (x.soc + k 0 * (v - vh))
        va := Config.fp32 (x.va + k 1 * (v - vh))
        vb := Config.fp32 (x.vb + k 2 * (v - vh))
        p := mat3 fun a b => at3 x.p a b - k a * hp b
        skip := false }
  else d.modCell c fun x => { x with skip := true }

/-- The charge balancing has removed of a cell since the last processed sweep (R121). -/
def Dev.balSince (w : Sweep) (c : Nat) (d : Dev) : Rat := tget 0 w.bal c - (d.cell c).balAt

/-- Step 5 for one cell; at the first sweep processed after a start, and for a cell that has no initial values
since,
they stand in place of the prediction (R125). -/
def Dev.filterCell (m : Mem) (w : Sweep) (dt dq : Rat) (s c : Nat) (d : Dev) : Dev :=
  let q := dq - d.balSince w c
  let d := if d.est.any && (d.cell c).init then d.predictCell m dt q c else d.initCell m (w.volts c) c
  let d := if 600 < dt then d.longGap m c else d
  let d := d.updateCell m w s c
  d.modCell c fun x => { x with soc := clamp x.soc (-1 / 20) (21 / 20) }

/-! ### Empty voltage (R136) -/

/-- Whether an average voltage stands at or below V_EMPTY of cell `c`, or at or above V_FULL. -/
def Dev.atEmpty (m : Mem) (avg : Option Rat) (c : Nat) (d : Dev) : Bool :=
  match avg with
  | some v => decide (v ≤ m.img.vEmpty (d.prof c))
  | none => false
def Dev.atFull (m : Mem) (avg : Option Rat) (c : Nat) (d : Dev) : Bool :=
  match avg with
  | some v => decide (m.img.vFull (d.prof c) ≤ v)
  | none => false

/-- How many sweeps in a row cell `c` has been at or below V_EMPTY with sweep `w` (R136). -/
def Dev.lowRun (m : Mem) (w : Sweep) (c : Nat) (d : Dev) : Nat :=
  if d.atEmpty m (w.volts c) c then min 255 ((d.cell c).low + 1) else 0

/-- Whether that is as many as EMPTY_CYCLES asks. -/
def Dev.lowLong (m : Mem) (w : Sweep) (c : Nat) (d : Dev) : Bool :=
  decide (d.rd EST_EMPTY.EMPTY_CYCLES ≤ d.lowRun m w c) && decide (0 < d.lowRun m w c)

/-- Step 6 for one cell: its run of sweeps at or below V_EMPTY. -/
def Dev.emptyCell (m : Mem) (w : Sweep) (c : Nat) (d : Dev) : Dev :=
  let low := d.atEmpty m (w.volts c) c
  let above := (w.volts c).isSome && !low
  let k := d.lowRun m w c
  let long := d.lowLong m w c
  d.modCell c fun x => { x with low := k, empty := (x.empty || long) && !above }

/-! ### String and bank estimates (R132, R133, R150) -/

/-- ∫ ocv(s, T) ds from `a` to `b` over the table's segments, by the trapezoid rule. -/
def Img.ocvArea (i : Img) (p : Nat) (t a b : Rat) : Rat :=
  sumOf (List.range 63) fun k =>
    let lo := max a ((k : Rat) / 63)
    let hi := min b (((k : Rat) + 1) / 63)
    if lo < hi then (i.ocv p lo t + i.ocv p hi t) / 2 * (hi - lo) else 0

/-- What R132 computes for a string. -/
structure StrVals where
  qd : Rat
  qc : Rat
  edis : Rat
  echg : Rat
  sohQ : Rat
  sohR : Rat
  spread : Rat
  minCell : Nat
  maxCell : Nat
  deriving DecidableEq, Repr

/-- A cell's SoC clamped for aggregation. -/
def Dev.soc01 (d : Dev) (c : Nat) : Rat := clamp (d.cell c).soc 0 1

/-- The standard deviation of a cell's SoC. -/
def Dev.socSigma (d : Dev) (c : Nat) : Rat := Config.sqrt (at3 (d.cell c).p 0 0)

/-- The energy to empty and to full of string `s` in Wh for charges to empty and to full in Ah. -/
def Dev.energyDown (m : Mem) (s : Nat) (qd : Rat) (d : Dev) : Rat :=
  sumOf (d.cellsOf s) fun c =>
    (d.cell c).q * m.img.ocvArea (d.prof c) (d.cell c).heat (d.soc01 c - qd / (d.cell c).q) (d.soc01 c)
def Dev.energyUp (m : Mem) (s : Nat) (qc : Rat) (d : Dev) : Rat :=
  sumOf (d.cellsOf s) fun c =>
    (d.cell c).q * m.img.ocvArea (d.prof c) (d.cell c).heat (d.soc01 c) (d.soc01 c + qc / (d.cell c).q)

/-- The values of R132 for string `s`, from its cells alone. -/
def Dev.strVals (m : Mem) (s : Nat) (d : Dev) : StrVals :=
  let l := d.cellsOf s
  let down (c : Nat) : Rat := d.soc01 c * (d.cell c).q
  let up (c : Nat) : Rat := (1 - d.soc01 c) * (d.cell c).q
  let cd := (leastBy down l).getD 0
  let cu := (leastBy up l).getD 0
  let qd := down cd
  let qc := up cu
  { qd := qd, qc := qc
    edis := d.energyDown m s qd, echg := d.energyUp m s qc
    sohQ := (d.cell ((leastBy (fun c => (d.cell c).q) l).getD 0)).q / d.qRated m (l.headD 0)
    sohR := (sumOf l fun c => m.img.pInit (d.prof c) 0) / sumOf l fun c => (d.cell c).rohm
    spread := max (d.socSigma cd) (d.socSigma cu)
    minCell := cd, maxCell := cu }

/-- The same with the stale bound of R150. -/
def Dev.strEst (m : Mem) (s : Nat) (d : Dev) : StrVals :=
  let v := d.strVals m s
  let r := d.strLrn s
  if r.stale && r.learned then
    let k := if r.q < v.qd + v.qc then r.q / (v.qd + v.qc) else 1
    let qd := v.qd * k
    let qc := v.qc * k
    { v with qd := qd, qc := qc, edis := d.energyDown m s qd, echg := d.energyUp m s qc
             sohQ := min v.sohQ (r.q / d.qRated m ((d.cellsOf s).headD 0)) }
  else v

/-- The configured strings. -/
def Dev.confStrs (d : Dev) : List Nat := strings.filter d.configured

/-- The counted strings (R133). -/
def Dev.counted (d : Dev) : List Nat :=
  let on := strings.filter d.connected
  if on.isEmpty then d.confStrs else on

/-! ### Runs of sweeps (R134, R138, R148) -/

/-- The mean current a discharging state is judged by, and the rated current it is judged against: a string's,
or the sums
over the counted strings (R134). -/
def Dev.whoMean (w : Nat) (d : Dev) : Option Rat :=
  if w < 8 then d.meanI w
  else d.counted.foldl (fun a s =>
    match a, d.meanI s with
    | some x, some i => some (x + i)
    | _, _ => none) (some 0)
def Dev.whoRated (w : Nat) (d : Dev) : Rat := if w < 8 then d.rated w else sumOf d.counted d.rated

/-- Whether |x| lies within 0.2% of rated. -/
def Dev.inRest (d : Dev) (s : Nat) (i : Rat) : Bool := decide (mag i ≤ d.rated s / 500)

/-- The sweep that ends extends or breaks the runs of one string or the bank; one without an OK current sample
does
neither, and is left out of their spans. DEDUCED, log 96. -/
def Dev.runWho (k : Nat) (d : Dev) : Dev :=
  match d.whoMean k with
  | none => d
  | some i =>
    let tc := d.acq.fill.tc
    let below := decide (i < -(d.whoRated k / 500))
    let rest := decide (k < 8) && d.inRest k i
    let now := d.acq.fill.cycle
    d.modSe k fun x => { x with
      below := if below then x.below + tc else 0, above := if below then 0 else x.above + tc
      rest := if rest then x.rest + tc else 0, restFrom := if rest && x.rest ≠ 0 then x.restFrom else now }

/-- One string or the bank as the sweep that ends finds it. -/
def StrEst.endOf (x : StrEst) : StrEnd := ⟨x.charge, x.below, x.above, x.rest, x.restFrom⟩

def Sweep.end_ (w : Sweep) (k : Nat) : StrEnd := tget .blank w.ends k

/-- The discharging state that sweep `w` gives (R134). -/
def Dev.disAt (w : Sweep) (k : Nat) (d : Dev) : Bool :=
  if 1 ≤ (w.end_ k).below then true else if 1 ≤ (w.end_ k).above then false else (d.se k).dis

/-- Whether the rest of string `s` qualifies at sweep `w` (R138): it has lasted REST_TIME and has not
qualified before. -/
def Dev.restDue (w : Sweep) (s : Nat) (d : Dev) : Bool :=
  let x := w.end_ s
  decide (0 < x.rest) && decide ((60 * d.rd EST_REST.REST_TIME : Nat) ≤ x.rest) && (d.se s).rested ≠ some x.restFrom

/-- RESTED at sweep `w`: the rest that has qualified goes on. -/
def Dev.restedAt (w : Sweep) (s : Nat) (d : Dev) : Bool :=
  decide (0 < (w.end_ s).rest) && (d.se s).rested = some (w.end_ s).restFrom

/-! ### Reported values (R134 to R137) -/

/-- R135: the reported value from the estimate, the last one, the counted rise and dt. -/
def reportRule (discharging hold : Bool) (e : Rat) (last : Option Rat) (u dt : Rat) : Rat :=
  match last with
  | none => clamp e 0 1
  | some r =>
    clamp (if discharging then min e r else if hold then min e (r + u)
      else min e (r + u + dt / 6000)) 0 1

/-- A fraction in 0.01%. -/
def pct (x : Rat) : Nat := roundTo 65535 (x * 10000)

/-- Whether every used cell of string `s` shows voltage headroom in sweep `w` (R137). -/
def Dev.headroom (m : Mem) (w : Sweep) (s : Nat) (d : Dev) : Bool :=
  (d.cellsOf s).all fun c =>
    match w.volts c with
    | some v => decide (m.img.vEmpty (d.prof c) + (d.rd EST_EMPTY.EMPTY_MARGIN : Rat) / 1000 ≤ v)
    | none => false

/-- A reported value with the floor of R137 where `floor` says, and whether the floor holds it. -/
def floored (floor : Bool) (r : Rat) : Rat := if floor && r < 1 / 100 then 1 / 100 else r

/-- Step 9 and 10 for one cell. -/
def Dev.reportCell (m : Mem) (w : Sweep) (dt dq : Rat) (s c : Nat) (d : Dev) : Dev :=
  let x := d.cell c
  let p := d.prof c
  let q := dq - d.balSince w c
  let eta := if 0 < q then m.img.etaChg p else 1
  let u := max 0 (eta * q / (3600 * x.q))
  let r := reportRule (d.se s).dis (d.se s).hold x.soc x.reported u dt
  let r := if (d.se s).first && x.empty then 0 else floored (!x.empty) r
  let jump := match x.reported with
    | some r0 => decide (1 / 50 < r0 - r)
    | none => false
  let dev := d.socSigma c * 10000
  let sg := roundTo 65535 dev
  let z := x.z (d.rd EST_CFG.Z_SEL)
  let tv := d.tvAvailable m c
  let t := d.tvirtOf m c
  let bound := d.paramBound m c
  let full := d.atFull m (w.volts c) c
  let empty := d.atEmpty m (w.volts c) c
  let d := d.modCell c fun x => { x with reported := some r, balAt := tget 0 w.bal c }
  let d := (d.wr (CELL_SOC.SOC c) (pct r)).wr (CELL_SOC.SIGMA c) sg
  let d := (d.wr (CELL_SOH.SOH_Q c) (pct (x.q / d.qRated m c))).wr (CELL_SOH.SOH_R c)
    (pct (m.img.pInit p 0 / x.rohm))
  let d := (d.wr (CELL_ZRE.Z c) (unsigned 32 (nearest (z.re * 1000000000)))).wr (CELL_ZIM.Z c)
    (unsigned 32 (nearest (z.im * 1000000000)))
  let d := (d.wr (CELL_TVIRT.TEMP c) (if tv then unsigned 16 (nearest (t.1 * 100)) else 0)).wr
    (CELL_TVIRT.SIGMA c) (if tv then roundTo 255 (mag t.2 * Config.sqrt x.z0.dev * 10) else 0)
  let d := (((d.flag (CELL_FLAGS.TV_NA c) (!tv)).flag (CELL_FLAGS.TV_AGED c) x.z0.aged).flag
    (CELL_FLAGS.Z_AGED c) z.aged).flag (CELL_FLAGS.HELD_UP c) (decide (1 / 10000 < x.soc - r))
  let d := ((d.flag (CELL_FLAGS.EKF_SKIP c) x.skip).flag (CELL_FLAGS.T_DEFAULT c) x.cold).flag
    (CELL_FLAGS.PARAM_BOUND c) bound
  let d := if jump then d.wr (CELL_FLAGS.SOC_JUMP c) 1 else d
  let d := (d.flag (CELL_FLAGS.AT_FULL c) full).flag (CELL_FLAGS.AT_EMPTY c) empty
  let d := if d.works .lrn && x.qLearned && x.zLearned then d.wr (CELL_FLAGS.NEW c) 0 else d
  let hi := d.rd EST_SIGMA.SIGMA_MAX
  let d := d.flag (CELL_FLAGS.VAR_HIGH c) (decide (hi < sg))
  if dev < (hi : Nat) then d.wr (CELL_FLAGS.ECC_REINIT c) 0 else d

/-- Step 9 and 10 for a string, or the bank as 8: the reported SoC and SoE with the floor of R137 where
`floor` says, both 0
in the sweep in which a string becomes voltage-empty (R136). -/
def Dev.reportWho (k : Nat) (v : StrVals) (u dt : Rat) (floor : Bool) (d : Dev) : Dev :=
  let x := d.se k
  let e := quot v.qd (v.qd + v.qc)
  let g := quot v.edis (v.edis + v.echg)
  let r0 := reportRule x.dis x.hold e x.soc u dt
  let q0 := reportRule x.dis x.hold g x.soe u dt
  let r := if x.first then 0 else floored floor r0
  let q := if x.first then 0 else floored floor q0
  let low := floor && (decide (r0 < 1 / 100) || decide (q0 < 1 / 100))
  let d := d.modSe k fun x => { x with soc := some r, soe := some q }
  let d := (d.flag (EST_SFLAGS.FLOOR k) low).flag (EST_SFLAGS.HELD_UP k)
    (decide (1 / 10000 < e - r) || decide (1 / 10000 < g - q))
  let d := ((d.wr (EST_SOC.SOC k) (pct r)).wr (EST_SOC.SIGMA k) (pct v.spread)).wr (EST_SOE.SOE k) (pct q)
  let d := d.wr (EST_EDIS.VALUE k) (roundTo (2 ^ 32 - 1) (q * (v.edis + v.echg)))
  let d := (d.wr (EST_SOH.SOH_Q k) (pct v.sohQ)).wr (EST_SOH.SOH_R k) (pct v.sohR)
  (d.flag (EST_SFLAGS.DISCHARGING k) x.dis).flag (EST_SFLAGS.EMPTY_HOLD k) x.hold

/-- The hottest available virtual temperature that is not AGED among some cells (EST_TVMAX). -/
def Dev.showTvMax (w : Nat) (l : List Nat) (d : Dev) : Dev :=
  let on := l.filter fun c => !d.on (CELL_FLAGS.TV_NA c) && !d.on (CELL_FLAGS.TV_AGED c)
  match leastBy (fun c => -((signed 16 (d.rd (CELL_TVIRT.TEMP c)) : Int) : Rat)) on with
  | some c => (d.wr (EST_TVMAX.CELL w) c).wr (EST_TVMAX.TEMP w) (d.rd (CELL_TVIRT.TEMP c))
  | none => (d.wr (EST_TVMAX.CELL w) 0).wr (EST_TVMAX.TEMP w) 0

/-- The counted rise of a string or the bank (R135): the cells of `l` give the efficiency in charge. -/
def Dev.rise (m : Mem) (l : List Nat) (dq q : Rat) (d : Dev) : Rat :=
  let eta := if 0 < dq then m.img.etaChg (d.prof (l.headD 0)) else 1
  max 0 (quot (eta * dq) (3600 * q))

/-- Steps 8 to 10 for one string. -/
def Dev.reportStr (m : Mem) (w : Sweep) (dt dq : Rat) (s : Nat) (d : Dev) : Dev :=
  let v := d.strEst m s
  let l := d.cellsOf s
  let d := d.reportWho s v (d.rise m l dq (v.qd + v.qc)) dt (!(d.se s).empty)
  let d := (d.wr (EST_QAV.QD s) (roundTo 65535 (v.qd * 10))).wr (EST_QAV.QC s) (roundTo 65535 (v.qc * 10))
  let d := (d.wr (EST_EXT.MIN_CELL s) v.minCell).wr (EST_EXT.MAX_CELL s) v.maxCell
  let d := d.showTvMax s l
  let d := if d.on (EST_SFLAGS.FLOOR s) && decide (v.qd = 0) && d.headroom m w s && !(d.se s).countVolt then
      (d.modSe s fun x => { x with countVolt := true }).record recCountVoltDisagree [BitVec.ofNat 8 s]
    else d
  let x := d.se s
  let d := (d.flag (EST_SFLAGS.COUNT_VOLT_DISAGREE s) x.countVolt).flag (EST_SFLAGS.VOLT_COUNT_DISAGREE s) x.voltCount
  let d := ((d.flag (EST_SFLAGS.VOLT_EMPTY s) x.empty).flag (EST_SFLAGS.RESTED s) (d.restedAt w s)).flag
    (EST_SFLAGS.PROBE s) x.probe
  let d := d.flag (EST_SFLAGS.EKF_SKIP_ANY s) (l.any fun c => (d.cell c).skip)
  let d := d.flag (EST_SFLAGS.Z_AGED s) (l.all fun c => (d.cell c).z0.aged)
  d.flag (EST_SFLAGS.STALE s) (d.strLrn s).stale

/-- The bank's values (R133). -/
def Dev.reportBank (m : Mem) (dt dq : Rat) (d : Dev) : Dev :=
  let l := d.counted
  let v (s : Nat) : StrVals := d.strEst m s
  let cells := l.flatMap d.cellsOf
  let g (s : Nat) : Rat := 1 / sumOf (d.cellsOf s) fun c => (d.cell c).rohm
  let g0 (s : Nat) : Rat := 1 / sumOf (d.cellsOf s) fun c => m.img.pInit (d.prof c) 0
  let b : StrVals :=
    { qd := sumOf l fun s => (v s).qd, qc := sumOf l fun s => (v s).qc
      edis := sumOf l fun s => (v s).edis, echg := sumOf l fun s => (v s).echg
      sohQ := meanOf (l.map fun s => (v s).sohQ), sohR := sumOf l g / sumOf l g0
      spread := l.foldl (fun a s => max a (v s).spread) 0, minCell := 0, maxCell := 0 }
  let any (f : Nat → Fld) (d : Dev) : Dev := d.flag (f 8) (l.any fun s => d.on (f s))
  let d := d.modSe 8 fun x => { x with hold := l.any fun s => (d.se s).hold }
  let d := d.reportWho 8 b (d.rise m cells dq (b.qd + b.qc)) dt (l.any fun s => !(d.se s).empty)
  let d := (d.wr EST_B_QD.VALUE (roundTo (2 ^ 32 - 1) (b.qd * 100))).wr EST_B_QC.VALUE
    (roundTo (2 ^ 32 - 1) (b.qc * 100))
  let d := (d.wr EST_B_SOH.SOH_Q (pct b.sohQ)).wr EST_B_SOH.SOH_R (pct b.sohR)
  let d := d.showTvMax 8 cells
  let d := any EST_SFLAGS.VOLT_EMPTY (any EST_SFLAGS.RESTED (any EST_SFLAGS.Z_AGED (any EST_SFLAGS.PROBE
    (any EST_SFLAGS.STALE (any EST_SFLAGS.EKF_SKIP_ANY d)))))
  let d := any EST_SFLAGS.VOLT_COUNT_DISAGREE (any EST_SFLAGS.COUNT_VOLT_DISAGREE d)
  d.flag (EST_SFLAGS.ALL_OPEN 8) (!(strings.any d.connected))

/-! ### What a sweep brings beside the estimates (R131, R136, R150, R152) -/

/-- Capacity test phases that a sweep moves (R152). -/
def Dev.capSweep (s : Nat) (d : Dev) : Dev :=
  let ph := d.rd (LRN_CAPTEST.PHASE s)
  if ph = 1 && (d.cellsOf s).any (fun c => d.on (CELL_FLAGS.AT_FULL c)) then d.wr (LRN_CAPTEST.PHASE s) 2
  else if ph = 2 && (d.se s).dis then d.wr (LRN_CAPTEST.PHASE s) 1
  else d

/-- A string is relearned: its values are taken from its cells (R150). -/
def Dev.relearn (m : Mem) (s : Nat) (d : Dev) : Dev :=
  let l := d.cellsOf s
  if (d.strLrn s).stale && l.all (fun c => (d.cell c).relearned) then
    let v := d.strVals m s
    let r := sumOf l fun c => (d.cell c).rohm
    let t := d.domSec 0
    (d.modStrLrn s fun x => { x with
      q := v.qd + v.qc, r := r, stale := false, learned := true, learnTime := t }).record
        recStringRelearned [BitVec.ofNat 8 s]
  else d

/-- The end of a probe request (R131). -/
def Dev.probeStr (w : Sweep) (dt : Rat) (s : Nat) (d : Dev) : Dev :=
  if (d.se s).probe then
    let good := (d.cellsOf s).all fun c => (d.cell c).z0.now w
    let t := if good then (d.se s).probed + dt else 0
    let on := d.on EST_PROBE.PROBE_EN && d.connected s && d.stage = 0 && decide (t < 10)
    d.modSe s fun x => { x with probed := t, probe := on }
  else d

/-- A string becomes voltage-empty (R136), with the phase of a capacity test that waits for it (R152). Its
reported
values follow at step 9. -/
def Dev.voltEmpty (m : Mem) (s : Nat) (d : Dev) : Dev :=
  let v := d.strEst m s
  let e := quot v.qd (v.qd + v.qc)
  let excess := decide (1 / 100 < e)
  let d := d.openString m 0x02 s
  let d := d.modSe s fun x => { x with
    empty := true, first := true, hold := true, voltCount := x.voltCount || excess }
  let d := if excess then d.record recVoltCountDisagree (leBytes 1 s ++ leBytes 2 (pct e)) else d
  if d.rd (LRN_CAPTEST.PHASE s) = 3 then d.wr (LRN_CAPTEST.PHASE s) 4 else d

/-- Whether string `s` becomes voltage-empty with sweep `w`. -/
def Dev.emptyDue (m : Mem) (w : Sweep) (s : Nat) (d : Dev) : Bool :=
  !(d.se s).empty && (d.cellsOf s).any (d.lowLong m w)

/-- Step 6 for one string. -/
def Dev.emptyStr (m : Mem) (w : Sweep) (s : Nat) (d : Dev) : Dev :=
  let due := d.emptyDue m w s
  let l := d.cellsOf s
  let d := d.each l (Dev.emptyCell m w)
  if due then d.voltEmpty m s
  else
    let low := l.any fun c => d.atEmpty m (w.volts c) c
    d.modSe s fun x => { x with first := false, empty := x.empty && low }

/-- Whether a completed sweep is processed rather than left out: at Prune 3 and deeper only cycles divisible
by 4 are, and
none that lies inside a gap (R122). -/
def Dev.processed (d : Dev) (w : Sweep) : Bool := (d.stage < 3 || w.cycle % 4 = 0) && d.est.from_ ≤ w.cycle

/-- The interval in s that step 5 predicts over with sweep `w` (R122). DEDUCED, log 48. -/
def Dev.sweepDt (w : Sweep) (d : Dev) : Rat := if d.est.any then (w.endAt - d.est.lastEnd) / 100000000 else w.tc

/-- How many cycles sweep `w` lies behind the last processed one, and whether that is one cycle. -/
def Dev.sweepGap (w : Sweep) (d : Dev) : Nat := w.cycle - d.est.last
def Dev.single (w : Sweep) (d : Dev) : Bool := !d.est.any || d.sweepGap w = 1

/-- The charge of string `s` since the last processed sweep (R121). -/
def Dev.sweepDq (w : Sweep) (s : Nat) (d : Dev) : Rat := (w.end_ s).charge - (d.se s).chargeAt

/-- Steps 1 to 5 for one string. -/
def Dev.estString (m : Mem) (w : Sweep) (single : Bool) (dt : Rat) (s : Nat) (d : Dev) : Dev :=
  let dq := d.sweepDq w s
  let l := d.cellsOf s
  let d := d.each [0, 1, 2] (Dev.rippleAt w single s)
  let d := d.each l (Dev.heatCell m)
  let d := if d.works .lrn then
      (if d.stage = 0 then d.each l (Dev.adaptCell m w dt) else d).each l (Dev.learnZ w dt) else d
  d.each l (Dev.filterCell m w dt dq s)

end Sys2Proof.Machine
end

