-- ==== Sys2Proof/Machine/Thermal.lean ====
section
/-! DEFINITION. Thermal watch (R204 to R224): the points and their standing, the zones and their factors,
holds, thermal shutdown and its latch. Temperatures are in °C, rates in K/min. -/

namespace Sys2Proof.Machine

/-! ### ZONES (R207) -/

def Img.zoneCount (i : Img) : Nat := min 64 (i.u8 (i.at_ secZones))
def Img.intWarn (i : Img) : Int := signed 16 (i.u16 (i.at_ secZones + 2))
def Img.intShut (i : Img) : Int := signed 16 (i.u16 (i.at_ secZones + 4))
def Img.zoneRec (i : Img) (z : Nat) : Nat := i.at_ secZones + 32 + 28 * z
def Img.useVirtual (i : Img) (z : Nat) : Bool := i.u8 (i.zoneRec z + 1) % 2 = 1
/-- An unsigned field of a zone record in hundredths. -/
def Img.zoneHundredth (i : Img) (z off : Nat) : Rat := (i.u16 (i.zoneRec z + off) : Rat) / 100
/-- A signed field of a zone record in hundredths. -/
def Img.zoneLevel (i : Img) (z off : Nat) : Rat := ((signed 16 (i.u16 (i.zoneRec z + off)) : Int) : Rat) / 100
def Img.rate10 (i : Img) (z : Nat) : Rat := i.zoneHundredth z 2
def Img.rate60 (i : Img) (z : Nat) : Rat := i.zoneHundredth z 4
def Img.rateShut (i : Img) (z : Nat) : Rat := i.zoneHundredth z 6
def Img.tWarn (i : Img) (z : Nat) : Rat := i.zoneLevel z 8
def Img.tThrot (i : Img) (z : Nat) : Rat := i.zoneLevel z 10
def Img.tCut (i : Img) (z : Nat) : Rat := i.zoneLevel z 12
def Img.tShut (i : Img) (z : Nat) : Rat := i.zoneLevel z 14
def Img.fRate (i : Img) (z : Nat) : Rat := (i.u16 (i.zoneRec z + 16) : Rat) / 10000
def Img.plausBand (i : Img) (z : Nat) : Rat := i.zoneHundredth z 18
def Img.subOffset (i : Img) (z : Nat) : Rat := i.zoneLevel z 20
def Img.hyst (i : Img) (z : Nat) : Rat := i.zoneHundredth z 22

/-- The configured zones. -/
def Img.zones (i : Img) : List Nat := List.range i.zoneCount

/-- The pack points of zone `z` (R209). -/
def Dev.zonePoints (m : Mem) (z : Nat) (d : Dev) : List Nat :=
  packPoints.filter fun p => d.pointUsed m p && m.img.pointZone p = z

/-- The cells of a zone (R209). -/
def Dev.zoneCells (m : Mem) (z : Nat) (d : Dev) : List Nat := (d.zonePoints m z).flatMap m.img.pointCells

/-- Whether string `s` belongs to zone `z` (R209). -/
def Dev.inZone (m : Mem) (s z : Nat) (d : Dev) : Bool := (d.zoneCells m z).any fun c => d.cellStr c = s

/-! ### Values of a point (R204, R205, R213, R214) -/

/-- The larger of two values of which one may be absent. -/
def maxOpt (a b : Option Rat) : Option Rat :=
  match a, b with
  | some x, some y => some (max x y)
  | some x, none => some x
  | none, y => y

/-- The greatest value of a list, if any. -/
def greatest (l : List (Option Rat)) : Option Rat := l.foldl maxOpt none

/-- A value in hundredths, as a signed 16-bit field holds it. -/
def hundredths (x : Rat) : Nat := unsigned 16 (nearest (x * 100))

/-- Whether a virtual point is available (R204). -/
def Dev.virtAvail (d : Dev) (c : Nat) : Bool :=
  d.cellUsed c && (d.est.any && (!d.on (CELL_FLAGS.TV_NA c) && !d.on (CELL_FLAGS.TV_AGED c)))

/-- The virtual temperature a published sweep reports. -/
def Dev.virt (d : Dev) (c : Nat) : Option Rat :=
  if d.virtAvail c then some ((signed 16 (d.rd (CELL_TVIRT.TEMP c)) : Rat) / 100) else none

/-- The virtual reference of a pack point (R204). -/
def Dev.virtRef (m : Mem) (p : Nat) (d : Dev) : Option Rat := greatest ((m.img.pointCells p).map d.virt)

/-- An NTC code as a temperature (R205). -/
def ntcTemp (kind code : Nat) : Rat :=
  let r : Rat := (code : Rat) / 65536
  let ohm := 10000 * r / (1 - r)
  let r25 : Rat := if kind = 2 then 100000 else 10000
  let b : Rat := if kind = 0 then 3435 else if kind = 1 then 3950 else 4250
  1 / (1 / (29815 / 100) + Config.ln (ohm / r25) / b) - 27315 / 100

/-- The validity of a point's last sample (R107): STALE too while its port is not in UP or MISSING. -/
def Dev.tempValid (d : Dev) (p : Nat) : Nat :=
  if d.isLive (lcOfMon (p / 16)) then d.rd (TEMP_RAW.VALID p) else 3

/-- Whether a point has a latest measured value that is neither SUSPECT nor STALE. -/
def Dev.tempFresh (m : Mem) (p : Nat) (d : Dev) : Bool :=
  d.pointUsed m p && (d.point p).any && d.tempValid p = 0

/-- The median of the neighbours' values, with at least two of them (R213). -/
def Dev.neighMedian (m : Mem) (p : Nat) (d : Dev) : Option Rat :=
  let l := (m.img.pointNeighbours p).filter fun q => d.tempFresh m q
  if 2 ≤ l.length then some (median (l.map fun q => (d.point q).temp)) else none

/-- The substitute of R214. -/
def Dev.substitute (m : Mem) (p : Nat) (d : Dev) : Option Rat :=
  maxOpt ((d.neighMedian m p).map (· + m.img.subOffset (m.img.pointZone p))) (d.virtRef m p)

/-- The value used (R212): measured, or the substitute. -/
def Dev.pointValue (m : Mem) (p : Nat) (d : Dev) : Option Rat :=
  if d.rd (TEMP_VAL.STANDING p) ≤ 1 then (if (d.point p).any then some (d.point p).temp else none)
  else d.substitute m p

/-- TEMP_VAL.TEMP takes the value used. -/
def Dev.showPoint (m : Mem) (p : Nat) (d : Dev) : Dev :=
  d.wr (TEMP_VAL.TEMP p) (match d.pointValue m p with | some x => hundredths x | none => 0)

/-! ### Standing (R212, R213) -/

/-- A point takes a standing: entries to IMPLAUSIBLE are recorded, and both bad standings counted. -/
def Dev.setStanding (p st : Nat) (d : Dev) : Dev :=
  if d.rd (TEMP_VAL.STANDING p) = st then d
  else
    let d := (d.wr (TEMP_VAL.STANDING p) st).modPoint p fun x => { x with bad := 0, good := 0 }
    if st = 2 then (d.bump THW_CNT.IMPL).record recPointImplausible (leBytes 2 p)
    else if st = 3 then d.bump THW_CNT.FAIL else d

/-- Whether a conversion fails the tests of R213; none when neither is available. -/
def Dev.judgeTemp (m : Mem) (p : Nat) (d : Dev) : Option Bool :=
  let t := (d.point p).temp
  let band := m.img.plausBand (m.img.pointZone p)
  match d.neighMedian m p, d.virtRef m p with
  | some a, some b => some (decide (band < mag (t - a)) && decide (band < mag (t - b)))
  | some a, none => some (decide (2 * band < mag (t - a)))
  | none, some b => some (decide (2 * band < mag (t - b)))
  | none, none => none

/-- The judgement of one conversion that is neither SUSPECT nor STALE (R213), after all of its frame are
stored. A conversion that fails changes no standing before the third; a FAILED point returns from it UNCHECKED. DEDUCED, log 59. -/
def Dev.judgePoint (m : Mem) (p : Nat) (d : Dev) : Dev :=
  let v := d.judgeTemp m p
  let fails := v = some true
  let d :=
    if d.rd (TEMP_VAL.STANDING p) = 2 then
      let n := if fails then 0 else (d.point p).good + 1
      let d := d.modPoint p fun x => { x with good := n }
      if 10 ≤ n then d.setStanding p 0 else d
    else
      let n := if fails then (if d.rd (TEMP_VAL.STANDING p) = 3 then 1 else (d.point p).bad + 1) else 0
      let st := d.rd (TEMP_VAL.STANDING p)
      if 3 ≤ n then d.setStanding p 2
      else (d.setStanding p (if v.isNone then 1 else if !fails then 0 else if st = 3 then 1 else st)).modPoint p
        fun x => { x with bad := n }
  let d := if d.rd (TEMP_VAL.STANDING p) ≤ 1 then
      d.modPoint p fun x => { x with
        hist := ((x.at_, x.temp) :: x.hist).filter fun e => decide (d.clk ≤ e.1 + secClk 60) }
    else d
  d.showPoint m p

/-- A judgement of a point whose record an ECC error has struck acts on the standing that returns at the
sweep's end
(R18). -/
def Dev.underEcc (m : Mem) (p : Nat) (f : Dev → Dev) (d : Dev) : Dev :=
  match (d.point p).ecc with
  | none => f d
  | some st =>
    let d := f (d.wr (TEMP_VAL.STANDING p) st)
    let now := d.rd (TEMP_VAL.STANDING p)
    ((d.modPoint p fun x => { x with ecc := some now }).wr (TEMP_VAL.STANDING p) 2).showPoint m p

/-- Whether R107 makes a code SUSPECT. -/
def badCode (suspect : Bool) (code : Nat) : Bool := suspect || decide (code < 0x100) || decide (0xFF00 < code)

/-- The used points of monitor port `k`. -/
def Dev.portPoints (m : Mem) (k : Nat) (d : Dev) : List Nat :=
  ((List.range 16).map (16 * k + ·)).filter fun p => d.pointUsed m p

/-- The codes of a TEMPS frame reach TEMP_RAW (R105, R107, R113). -/
def Dev.storeCodes (m : Mem) (k : Nat) (suspect : Bool) (codes : List Nat) (d : Dev) : Dev :=
  d.each (d.portPoints m k) fun p d =>
    let code := codes.getD (p % 16) 0
    ((d.wr (TEMP_RAW.CODE p) code).wr (TEMP_RAW.VALID p) (if badCode suspect code then 2 else 0)).modPoint p fun x =>
      { x with rawAt := some d.clk }

/-- THW takes the codes of a TEMPS frame that came at clk `t` (R205, R212, R213): all are converted, or
FAILED, then the
converted points are judged. -/
def Dev.takeCodes (m : Mem) (k : Nat) (suspect : Bool) (codes : List Nat) (t : Nat) (d : Dev) : Dev :=
  let l := d.portPoints m k
  let bad (p : Nat) : Bool := badCode suspect (codes.getD (p % 16) 0)
  let d := d.each l fun p d =>
    if bad p then d.underEcc m p (Dev.setStanding p 3)
    else d.modPoint p fun x => { x with
      any := true, temp := ntcTemp (m.img.pointKind p) (codes.getD (p % 16) 0), at_ := t }
  d.each l fun p d => if bad p then d.showPoint m p else d.underEcc m p (Dev.judgePoint m p)

/-- A CRC-good TEMPS frame of monitor port `k`; in a THRM outage THW takes its codes afterwards (R58). -/
def Dev.pointFrame (m : Mem) (k : Nat) (suspect : Bool) (codes : List Nat) (d : Dev) : Dev :=
  let d := d.storeCodes m k suspect codes
  if d.outage bedThrm then d.modThw fun x => { x with buffer := x.buffer ++ [.frame k suspect codes d.clk] }
  else d.takeCodes m k suspect codes d.clk

/-- A temperature cycle of port `k` without a TEMPS frame: its points are STALE (R107). -/
def Dev.pointsStale (m : Mem) (k : Nat) (d : Dev) : Dev :=
  d.each (((List.range 16).map (16 * k + ·)).filter fun p => d.pointUsed m p) fun p d =>
    d.wr (TEMP_RAW.VALID p) 3

/-! ### Rates and fast mode (R210, R211) -/

/-- The least-squares slope of a point's values over the last `win` seconds in K/min, with at least
`need` of them (R210). -/
def Dev.pointRate (p win need : Nat) (d : Dev) : Option Rat :=
  let l := (d.point p).hist.filter fun e => decide (d.clk ≤ e.1 + secClk win)
  if l.length < need then none
  else some (slopeOf (l.map fun e => ((e.1 : Rat), e.2)) * 6000000000)

def Dev.pointRate10 (d : Dev) (p : Nat) : Option Rat := d.pointRate p 10 6
def Dev.pointRate60 (d : Dev) (p : Nat) : Option Rat := d.pointRate p 60 30

/-- Whether a value that may be absent exceeds a bound. -/
def exceeds (x : Option Rat) (b : Rat) : Bool :=
  match x with
  | some v => decide (b < v)
  | none => false

/-- The condition of fast mode (R211). -/
def Dev.fastCond (m : Mem) (p : Nat) (d : Dev) : Bool :=
  let z := m.img.pointZone p
  let pct : Rat := (d.rd THW_CFG.RATE_FAST : Rat) / 100
  (match d.pointValue m p with
    | some v => decide (m.img.tThrot z - (d.rd THW_CFG.FAST_MARGIN : Nat) ≤ v)
    | none => false) ||
  exceeds (d.pointRate10 p) (pct * m.img.rate10 z) || exceeds (d.pointRate60 p) (pct * m.img.rate60 z)

/-- Whether a point of monitor port `k` is in fast mode. -/
def Dev.portFast (k : Nat) (d : Dev) : Bool := (List.range 16).any fun t => d.on (TEMP_VAL.FAST (16 * k + t))

/-! ### Thermal shutdown (R220, R221) -/

/-- A cause of R220 (1 ZONE_LEVEL, 2 ZONE_RATE, 3 INTERNAL) with its zone or internal point, its value and
rate in hundredths. -/
structure HotCause where
  cause : Nat
  index : Nat
  value : Nat
  rate : Nat
  deriving DecidableEq, Repr

def HotCause.bytes (c : HotCause) : List Byte :=
  leBytes 1 c.cause ++ leBytes 1 c.index ++ leBytes 2 c.value ++ leBytes 2 c.rate

/-- Step 4 of R221: the latch is set, and the module enters THERMAL_LATCH. -/
def Dev.setThermalLatch (d : Dev) : Dev :=
  let c := d.thw.last
  let d := d.modThw fun x => { x with latch := true, cleared := false, declared := false }
  let d := ((d.wr THW_LATCH.CAUSE c.1).wr THW_LATCH.INDEX c.2.1).wr THW_LATCH.VALUE c.2.2
  d.showLatches.abandonApply

/-- Causes of R220 at one evaluation: of those `found` the first declares the shutdown, the others are
THW_TRIGGER records
(R221); after that declaration each cause that begins to hold is one. The latch follows the THERMAL_SHUTDOWN
record's write. DEDUCED, log 59. -/
def Dev.hotCauses (m : Mem) (found begun : List HotCause) (d : Dev) : Dev :=
  let trigger (l : List HotCause) (d : Dev) : Dev :=
    l.foldl (fun d c => d.record recThwTrigger c.bytes) d
  if d.thw.latch || d.thw.declared then trigger begun d
  else
    match found with
    | [] => d
    | c :: rest =>
      trigger rest (((d.openBank m 0x12).record recThermalShutdown c.bytes).modThw fun x => { x with
        declared := true, last := (c.cause, c.index, c.value) })

/-! ### Zone evaluation (R214 to R219) -/

/-- A candidate for the zone maximum: its value, source and index. -/
abbrev Cand := Rat × Nat × Nat

/-- The highest candidate; the first among equals. -/
def highest (l : List Cand) : Option Cand :=
  l.foldl (fun a c => match a with | none => some c | some b => if b.1 < c.1 then some c else a) none

/-- What may set the maximum of zone `z` (R215): pack points, then virtual points where the zone uses
them. -/
def Dev.candidates (m : Mem) (z : Nat) (d : Dev) : List Cand :=
  (d.zonePoints m z).filterMap (fun p => (d.pointValue m p).map fun v =>
    (v, if d.rd (TEMP_VAL.STANDING p) ≤ 1 then 0 else 2, p)) ++
  (if m.img.useVirtual z then (d.zoneCells m z).filterMap fun c => (d.virt c).map fun v => (v, 1, c)
   else [])

/-- g(T) of R216. -/
def Img.thermG (i : Img) (z : Nat) (t : Rat) : Rat :=
  clamp ((i.tCut z - t) / (i.tCut z - i.tThrot z)) 0 1

/-- Whether the point that set the last maximum has been lost (R219): a pack point has become IMPLAUSIBLE or
FAILED since,
while the factor was below 1, or a virtual point is no longer available. -/
def Dev.hottestLost (d : Dev) (x : ZoneSt) : Bool :=
  let now := d.rd (TEMP_VAL.STANDING x.hottest)
  ((x.src = 0 || x.src = 2) && decide (x.f < 1) && decide (2 ≤ now) && now ≠ x.stand) ||
    (x.src = 1 && !d.virtAvail x.hottest)

/-- HOLD at one evaluation (R219). -/
def ZoneSt.holdAt (x : ZoneSt) (lost : Bool) (tz : Option Rat) (hyst : Rat) (clk : Nat) : ZoneSt :=
  if lost && !x.hold then { x with hold := true, holdTemp := tz.getD x.holdTemp, holdFrom := clk }
  else if x.hold then
    match tz with
    | some t =>
      if hyst < mag (t - x.holdTemp) then { x with holdTemp := t, holdFrom := clk }
      else if lost then { x with holdFrom := clk } else x
    | none => if lost then { x with holdFrom := clk } else x
  else x

/-- The factors of R216. -/
def ZoneSt.factors (x : ZoneSt) (i : Img) (z : Nat) (tz : Option Rat) : ZoneSt :=
  let fAbs := match tz with
    | some t => min (i.thermG z t) (max x.fAbs (i.thermG z (t + i.hyst z)))
    | none => x.fAbs
  let f := if x.rateHigh || x.blind then min fAbs (i.fRate z) else fAbs
  let f := if x.hold then min f x.f else f
  { x with fAbs := fAbs, f := f, throttle := decide (f < 1) }

/-- The rate registers hold 0x8000 for an unavailable rate. -/
def rateField (x : Option Rat) : Nat := match x with | some v => hundredths v | none => 0x8000

/-- The registers of zone `z`. -/
def Dev.showZone (z : Nat) (tz : Option Rat) (fast : Bool) (d : Dev) : Dev :=
  let x := d.zone z
  let d := ((d.wr (THW_ZMAX.SRC z) x.src).wr (THW_ZMAX.INDEX z) x.hottest).wr (THW_ZMAX.TEMP z)
    (match tz with | some t => hundredths t | none => 0)
  let d := (d.wr (THW_ZSTAT.FACTOR z) (pct x.f)).flag (THW_ZSTAT.SHUT z) (x.level || x.rate)
  let d := ((d.flag (THW_ZSTAT.HOLD z) x.hold).flag (THW_ZSTAT.BLIND z) x.blind).flag
    (THW_ZSTAT.RATE_HIGH z) x.rateHigh
  ((d.flag (THW_ZSTAT.THROTTLE z) x.throttle).flag (THW_ZSTAT.WARN z) x.warn).flag (THW_ZSTAT.FAST z) fast

/-- The pack points as the last sweep's end found them (R215): the device with those in place of its own. -/
def Dev.asEnded (d : Dev) : Dev :=
  d.thw.ended.foldl (fun d e =>
    ((d.modPoint e.1 fun _ => e.2.point).wr (TEMP_VAL.STANDING e.1) e.2.standing).wr (TEMP_RAW.VALID e.1) e.2.valid)
    (d.modThw fun x => { x with points := [] })

/-- A sweep's end: the points as zones are evaluated from, and the end of what an ECC error made of a point
(R18, R215). -/
def Dev.thwSweepEnd (m : Mem) (d : Dev) : Dev :=
  let used := packPoints.filter fun p => d.pointUsed m p
  let d := d.modThw fun x => { x with ended := used.map fun p =>
    (p, ⟨d.point p, d.rd (TEMP_VAL.STANDING p), d.tempValid p⟩) }
  d.each used fun p d =>
    match (d.point p).ecc with
    | none => d
    | some st => ((d.modPoint p fun x => { x with ecc := none }).wr (TEMP_VAL.STANDING p) st).showPoint m p

/-- One zone's evaluation (R214 to R220) from the points of `e`, a sweep's end: the device, the causes that
have held twice
and those that begin to hold. DEDUCED, log 90. -/
def Dev.evalZone (m : Mem) (e : Dev) (z : Nat) (d : Dev) : Dev × List HotCause × List HotCause :=
  let pts := e.zonePoints m z
  let d := d.each pts fun p d =>
    let d := if e.fastCond m p then d.wr (TEMP_VAL.FAST p) 1 else d
    (d.wr (TEMP_VAL.HOTTEST p) 0).showPoint m p
  let was := d.zone z
  let r10 := greatest (pts.map e.pointRate10)
  let r60 := greatest (pts.map e.pointRate60)
  let blind := pts.all fun p => (e.pointValue m p).isNone
  let best := if blind then none else highest (e.candidates m z)
  let tz := best.map (·.1)
  let lost := e.hottestLost was
  let high := exceeds r10 (m.img.rate10 z) || exceeds r60 (m.img.rate60 z)
  let hot (v : Option Rat) : Bool := match v with | some x => decide (m.img.tShut z ≤ x) | none => false
  let judged := d.works .thw
  let top := greatest ((pts.map fun p => if e.pointValid p then e.pointValue m p else none) ++
    (if m.img.useVirtual z then (e.zoneCells m z).map e.virt else []))
  let level := judged && hot top
  let rate := judged && (match r10 with | some x => decide (m.img.rateShut z ≤ x) | none => false)
  let warn := match tz with | some t => decide (m.img.tWarn z ≤ t) | none => false
  let d := d.modZone z fun x =>
    let x := { x with
      rateHigh := x.rateHigh || high, blind := blind, warn := warn
      src := match best with | some b => b.2.1 | none => 3
      hottest := match best with | some b => b.2.2 | none => 0
      stand := match best with | some b => e.rd (TEMP_VAL.STANDING b.2.2) | none => 0
      level := level, rate := rate, levelTwo := level && was.level, rateTwo := rate && was.rate }
    (x.holdAt lost tz (m.img.hyst z) d.clk).factors m.img z tz
  let x := d.zone z
  let rec1 (on : Bool) (k : Kind) (d : Dev) : Dev :=
    if on then d.record k (leBytes 1 z ++ leBytes 2 (hundredths (tz.getD 0))) else d
  let d := rec1 (lost && !was.hold) recThwHottestLost d
  let d := rec1 (blind && !was.blind) recZoneBlind d
  let d := rec1 (warn && !was.warn) recThwWarn d
  let d := rec1 (x.throttle && !was.throttle) recThwThrottle d
  let d := rec1 (x.rateHigh && !was.rateHigh) recThwRateHigh d
  let d := match best with
    | some (_, 1, _) => d
    | some (_, _, p) => d.wr (TEMP_VAL.HOTTEST p) 1
    | none => d
  let d := d.showZone z tz (pts.any fun p => d.on (TEMP_VAL.FAST p))
  let d := (d.wr (THW_ZRATE.RATE10 z) (rateField r10)).wr (THW_ZRATE.RATE60 z) (rateField r60)
  let byLevel : HotCause := ⟨1, z, hundredths (top.getD 0), hundredths (r10.getD 0)⟩
  let byRate : HotCause := ⟨2, z, hundredths (r10.getD 0), hundredths (r10.getD 0)⟩
  (d, (if x.levelTwo then [byLevel] else []) ++ (if x.rateTwo then [byRate] else []),
    (if level && !was.level then [byLevel] else []) ++ (if rate && !was.rate then [byRate] else []))

/-- The thermal factor of string `s` (R218). -/
def Dev.strFactor (m : Mem) (s : Nat) (d : Dev) : Dev :=
  match leastBy (fun z => (d.zone z).f) (m.img.zones.filter fun z => d.inZone m s z) with
  | some z => (d.wr (THW_SFACT.ZONE s) z).wr (THW_SFACT.FACTOR s) (pct (d.zone z).f)
  | none => (d.wr (THW_SFACT.ZONE s) 0xFF).wr (THW_SFACT.FACTOR s) 10000

/-- ZONE_EVALUATION (R215). DEDUCED, log 59. -/
def execZoneEvaluation (s : State) : Host.Outcome State Fault Refusal :=
  s.run fun m d =>
    if !d.alive || !d.runs .thw || !m.hasImage || d.outage bedThrm then d
    else
      d.withDemand m fun d =>
        let e := d.asEnded
        let r := m.img.zones.foldl (fun (a : Dev × List HotCause × List HotCause) z =>
          let x := Dev.evalZone m e z a.1
          (x.1, a.2.1 ++ x.2.1, a.2.2 ++ x.2.2)) (d, [], [])
        (r.1.each strings (Dev.strFactor m)).hotCauses m r.2.1 r.2.2

/-- A reading of the twelve internal points in 0.01 °C (R217, R220). -/
def Dev.takeInternal (m : Mem) (temps : List Int) (d : Dev) : Dev :=
  let at_ (k : Nat) : Int := temps.getD k (signed 16 (d.rd (THW_INT.TEMP k)))
  let ks := List.range 12
  let warn := ks.any fun k => decide (m.img.intWarn ≤ at_ k)
  let excess (k : Nat) : Bool := decide (m.img.intShut ≤ at_ k)
  let cause (k : Nat) : HotCause := ⟨3, k, unsigned 16 (at_ k), 0⟩
  let run (k : Nat) : Nat := tget 0 d.thw.intRun k
  let found := (ks.filter fun k => excess k && decide (1 ≤ run k)).map cause
  let begun := (ks.filter fun k => excess k && run k = 0).map cause
  let was := d.on THW_STATUS.INT_WARN
  let d := d.each ks fun k d => d.wr (THW_INT.TEMP k) (unsigned 16 (at_ k))
  let d := d.flag THW_STATUS.INT_WARN warn
  let d := if warn && !was then
      match ks.find? fun k => decide (m.img.intWarn ≤ at_ k) with
      | some k => d.record recThwIntWarn (leBytes 1 k ++ leBytes 2 (unsigned 16 (at_ k)))
      | none => d
    else d
  let d := d.each ks fun k d => d.modThw fun x => { x with
    intRun := tset 0 x.intRun k (if excess k then min 2 (tget 0 x.intRun k + 1) else 0) }
  d.hotCauses m found begun

/-- INTERNAL_POINT_READING (R204, R217, R220), at 10 Hz, whether or not zones are evaluated. In a THRM outage
the reading is
buffered (R58). -/
def execInternalPointReading (temps : List Int) (s : State) : Host.Outcome State Fault Refusal :=
  s.run fun m d =>
    if !d.alive || !d.runs .thw || !m.hasImage then d
    else if d.outage bedThrm then d.modThw fun x => { x with buffer := x.buffer ++ [.internal temps] }
    else d.takeInternal m temps

/-- THW resumes from a THRM outage: what has been buffered is processed in order (R58, R390). -/
def Dev.thwResume (m : Mem) (d : Dev) : Dev :=
  let l := d.thw.buffer
  l.foldl (fun d x =>
    match x with
    | .internal temps => if d.runs .thw then d.takeInternal m temps else d
    | .frame k suspect codes t => d.takeCodes m k suspect codes t) (d.modThw fun x => { x with buffer := [] })

/-- POINT_STALE_FAILED (R212). A STALE point passes an AGE of 3 s. -/
def execPointStaleFailed (p : Point) (s : State) : Host.Outcome State Fault Refusal :=
  s.run fun m d =>
    if d.alive && d.runs .thw && d.pointUsed m p.val && d.tempValid p.val = 3 then
      d.underEcc m p.val fun d => (d.setStanding p.val 3).showPoint m p.val
    else d

/-- FAST_MODE_END (R211). Neither condition has held for FAST_HOLD. -/
def execFastModeEnd (p : Point) (s : State) : Host.Outcome State Fault Refusal :=
  s.run fun m d =>
    if d.alive && d.runs .thw && d.on (TEMP_VAL.FAST p.val) && !d.fastCond m p.val then
      d.wr (TEMP_VAL.FAST p.val) 0
    else d

/-- RATE_HIGH_END (R216). Both rates have stayed within their limits for 60 s. -/
def execRateHighEnd (z : Zone) (s : State) : Host.Outcome State Fault Refusal :=
  s.run fun m d =>
    let pts := d.zonePoints m z.val
    if d.alive && d.runs .thw && (d.zone z.val).rateHigh &&
        !exceeds (greatest (pts.map d.pointRate10)) (m.img.rate10 z.val) &&
        !exceeds (greatest (pts.map d.pointRate60)) (m.img.rate60 z.val) then
      d.withDemand m fun d =>
        (d.modZone z.val fun x => { x with rateHigh := false }).wr (THW_ZSTAT.RATE_HIGH z.val) 0
    else d

/-- HOLD_END (R219). The hold timer has reached 2 × GRACE. -/
def execHoldEnd (z : Zone) (s : State) : Host.Outcome State Fault Refusal :=
  s.run fun _ d =>
    if d.alive && d.runs .thw && (d.zone z.val).hold then
      (d.modZone z.val fun x => { x with hold := false }).wr (THW_ZSTAT.HOLD z.val) 0
    else d

/-- THERMAL_LATCH_CLEAR (R222). Both aux inputs have stayed absent for 1.8 to 2.0 s: the retention cell on
the power die clears; the next start reports it. -/
def execThermalLatchClear (s : State) : Host.Outcome State Fault Refusal :=
  s.run fun _ d =>
    if d.thw.latch then
      (d.modThw fun x => { x with latch := false, cleared := true }).showLatches
    else d

end Sys2Proof.Machine
end

