-- ==== Sys2Proof/Machine/Learn.lean ====
section
/-! DEFINITION. Learned data, restore and block replacement (R141 to R154): the learning record, the shared
buffer and its commands, the identity of blocks, declarations of NEW, anchors and capacity tests. -/

namespace Sys2Proof.Machine

/-! ### The buffer's layout (R142) -/

def recordLen : Nat := 51856

def blockAt (k : Nat) : Nat := 64 + 32 * k
def strAt (s : Nat) : Nat := 2112 + 64 * s
def bankAt : Nat := 2624
def cellAt (c : Nat) : Nat := 2688 + 32 * c

/-- One bit of the reflected CRC-32 with polynomial 0x04C1_1DB7. -/
def crc32RefBit (c : Nat) : Nat := if c % 2 = 1 then Nat.xor (c / 2) 0xEDB88320 else c / 2

def crc32RefByte (c : Nat) (b : Byte) : Nat :=
  (List.range 8).foldl (fun c _ => crc32RefBit c) (Nat.xor c b.toNat)

/-- CRC-32 with reflected input and output, initial 0xFFFF_FFFF, final complement (R142). -/
def crc32Ref (l : List Byte) : Nat := 0xFFFFFFFF - l.foldl crc32RefByte 0xFFFFFFFF

/-- The monitor ports. -/
def monPorts : List Nat := List.range 64

/-- Whether monitor port `k` is used. -/
def Dev.monUsed (d : Dev) (k : Nat) : Bool := d.portUsed (lcOfMon k)

/-- The string of monitor port `k`. -/
def Dev.monStr (d : Dev) (k : Nat) : Nat := (d.portRec (lcOfMon k)).str

/-- The used monitor ports of string `s`. -/
def Dev.blocksOf (d : Dev) (s : Nat) : List Nat := monPorts.filter fun k => d.monStr k = s

/-! ### Identity and signature (R147) -/

/-- The identity kind of block `k`. -/
def Dev.identKind (d : Dev) (k : Nat) : IdentKind := (d.portRec (lcOfMon k)).kind

/-- The signature of block `k` now in K: each point's difference from the median, absent without a valid value
(R147). -/
def Dev.signature (m : Mem) (k : Nat) (d : Dev) : List (Option Rat) :=
  let l := (List.range 16).filter fun t => d.pointUsed m (16 * k + t) && d.pointValid (16 * k + t)
  let mid := median (l.map fun t => (d.point (16 * k + t)).temp)
  (List.range 16).map fun t => if l.contains t then some ((d.point (16 * k + t)).temp - mid) else none

/-- A difference as the signed eight bits of a block entry hold it, −127 to 127; −128 stands for no value
(R142). DEDUCED, log 51. -/
def sigByte (x : Option Rat) : Byte :=
  match x with
  | some x => BitVec.ofInt 8 (max (-127) (min 127 (nearest (x * 10))))
  | none => BitVec.ofInt 8 (-128)

/-- A difference that a block entry's eight bits hold. -/
def sigOf (b : Nat) : Option Rat := if b = 128 then none else some ((signed 8 b : Int) / 10)

/-- Whether two signatures match (R147). DEDUCED, log 51. -/
def Dev.sigMatch (a b : List (Option Rat)) (d : Dev) : Bool :=
  let far := (List.range 16).filter fun t =>
    match a.getD t none, b.getD t none with
    | some x, some y => decide ((d.rd LRN_CFG.SIG_BAND : Rat) / 10 < mag (x - y))
    | _, _ => false
  decide (far.length < d.rd LRN_CFG.SIG_COUNT)

/-- Whether an identity reading lies within ±512 codes of another. -/
def identNear (a b : Nat) : Bool := decide (a ≤ b + 512) && decide (b ≤ a + 512)

/-- The identity part of the comparison. -/
def identSame (kind : IdentKind) (a0 a1 b0 b1 : Nat) : Bool :=
  match kind with
  | .oneWire => a0 = b0
  | .resistor => identNear a0 b0 && identNear a1 b1
  | .none => true

/-- Whether a block with a reading and a signature is judged the same as a reference (R147). -/
def Dev.sameBlock (k a0 a1 : Nat) (sa : List (Option Rat)) (b0 b1 : Nat) (sb : List (Option Rat)) (d : Dev) : Bool :=
  identSame (d.identKind k) a0 a1 b0 b1 && (d.identKind k = .oneWire || d.sigMatch sa sb)

def Dev.ident0 (d : Dev) (k : Nat) : Nat := d.rd (PORT_IDENT.IDENT0 (lcOfMon k))
def Dev.ident1 (d : Dev) (k : Nat) : Nat := d.rd (PORT_IDENT.IDENT1 (lcOfMon k))

/-! ### Declarations of NEW (R148, R152) -/

/-- A capacity test of string `s` is active. -/
def Dev.capActive (d : Dev) (s : Nat) : Bool :=
  decide (1 ≤ d.rd (LRN_CAPTEST.PHASE s)) && decide (d.rd (LRN_CAPTEST.PHASE s) ≤ 4)

/-- A capacity test ends FAILED. -/
def Dev.capFail (s : Nat) (d : Dev) : Dev :=
  if d.capActive s then (d.wr (LRN_CAPTEST.PHASE s) 6).record recCaptestFailed [BitVec.ofNat 8 s] else d

/-- Block `k` is declared NEW; the rest follows at the next sweep boundary. -/
def Dev.declareNew (k : Nat) (d : Dev) : Dev :=
  (d.modBlock k fun b => { b with state := 4, declared := true, run := 0, rest := 0 }).capFail (d.monStr k)

/-- A string goes STALE: its cells' updates count from now (R150). DEDUCED, log 51. -/
def Dev.setStale (s : Nat) (d : Dev) : Dev :=
  if (d.strLrn s).stale then d
  else
    (d.modStrLrn s fun x => { x with stale := true }).each (d.cellsOf s) fun c d =>
      d.modCell c fun x => { x with relearned := false }

/-- A cell takes the defaults of R141 with CSTATE NEW only, and loses its anchor. -/
def Dev.newCell (m : Mem) (c : Nat) (d : Dev) : Dev :=
  ((d.defaultCell m c).modCell c fun x => { x with anchor := none, relearned := false }).wr (CELL_FLAGS.NEW c) 1

/-- Steps 1 to 4 of R148. -/
def Dev.renewCells (m : Mem) (k : Nat) (d : Dev) : Dev :=
  let d := d.each (d.blockCells k) fun c d => (d.newCell m c).initCell m (d.avgV c) c
  d.modBlock k fun b => { b with hold := true, late := false }

/-- R148 for block `k`. While EST is STOPPED, steps 1 to 4 wait for its START. -/
def Dev.replaceBlock (m : Mem) (k : Nat) (d : Dev) : Dev :=
  let d := if d.runs .est then d.renewCells m k else d.modBlock k fun b => { b with late := true }
  let d := d.setStale (d.monStr k)
  let b := d.block k
  let sig := d.signature m k
  let data := leBytes 1 k ++ leBytes 2 b.ref0 ++ leBytes 2 b.ref1 ++ leBytes 2 (d.ident0 k) ++
    leBytes 2 (d.ident1 k)
  (d.modBlock k fun b => { b with
    declared := false, known := true, ref0 := d.ident0 k, ref1 := d.ident1 k, sig := sig }).record
      recBlockReplaced data

/-! ### Identity at training and between trainings (R147) -/

/-- The comparison at training: with no reference, the readings are taken for it. -/
def Dev.trainBlock (m : Mem) (k : Nat) (d : Dev) : Dev :=
  let b := d.block k
  let sig := d.signature m k
  if !b.known then
    d.modBlock k fun b => { b with
      state := 3, known := true, ref0 := d.ident0 k, ref1 := d.ident1 k, sig := sig, run := 0, missRun := 0 }
  else if d.sameBlock k (d.ident0 k) (d.ident1 k) sig b.ref0 b.ref1 b.sig then
    d.modBlock k fun b => { b with state := 3, run := 0, missRun := 0 }
  else d.declareNew k

/-- Whether an identity reading is missing on an input the kind uses. -/
def Dev.identGone (d : Dev) (k : Nat) : Bool :=
  match d.identKind k with
  | .oneWire => d.ident0 k = 0xFFFF
  | .resistor => d.ident0 k = 0xFFFF || d.ident1 k = 0xFFFF
  | .none => false

/-- Whether the reference of block `k` itself lacks a reading that the kind uses. -/
def Dev.refGone (d : Dev) (k : Nat) : Bool :=
  match d.identKind k with
  | .oneWire => (d.block k).ref0 = 0xFFFF
  | .resistor => (d.block k).ref0 = 0xFFFF || (d.block k).ref1 = 0xFFFF
  | .none => true

/-- A run of changed readings ends before three. -/
def Dev.glitchEnd (k : Nat) (d : Dev) : Dev :=
  if (d.block k).run = 0 then d
  else (d.modBlock k fun b => { b with run := 0 }).bump LRN_CNT.IDENT_GLITCH

/-- A run of missing readings, a change too where the reference has them, ends; before three it counts as a
glitch. -/
def Dev.missEnd (k : Nat) (d : Dev) : Dev :=
  let b := d.block k
  let short := b.known && !d.refGone k && decide (0 < b.missRun) && decide (b.missRun < 3)
  let d := d.modBlock k fun b => { b with missRun := 0 }
  if short then d.bump LRN_CNT.IDENT_GLITCH else d

/-- The identity readings of one TEMPS frame of a trained port. DEDUCED, log 52. -/
def Dev.frameIdent (m : Mem) (k : Nat) (d : Dev) : Dev :=
  let b := d.block k
  if d.identGone k then
    let d := (d.glitchEnd k).modBlock k fun b => { b with missRun := min 3 (b.missRun + 1) }
    if b.missRun = 2 && b.state ≠ 6 then
      (d.modBlock k fun b => { b with state := 6 }).record recIdentMissing [BitVec.ofNat 8 k]
    else d
  else
    let d := d.missEnd k
    if b.state = 6 then d.trainBlock m k
    else if !b.known || b.declared || identSame (d.identKind k) (d.ident0 k) (d.ident1 k) b.ref0 b.ref1 then
      d.glitchEnd k
    else if b.run = 2 then d.declareNew k
    else d.modBlock k fun b => { b with run := b.run + 1 }

/-! ### The learning record (R142, R143) -/

/-- The block entry of monitor port `k`. -/
def Dev.blockEntry (k : Nat) (d : Dev) : List Byte :=
  let r := d.portRec (lcOfMon k)
  let b := d.block k
  if d.monUsed k then
    leBytes 2 b.ref0 ++ leBytes 2 b.ref1 ++ leBytes 1 r.str ++ leBytes 1 r.inputs ++ leBytes 1 r.profile ++
      leBytes 1 b.state ++ (List.range 16).map fun t => sigByte (b.sig.getD t none)
  else leBytes 2 0xFFFF ++ leBytes 2 0xFFFF ++ leBytes 1 0xFF

/-- The string entry of `s`. -/
def Dev.strEntry (s : Nat) (d : Dev) : List Byte :=
  let x := d.strLrn s
  leBytes 4 (f32Bits x.q) ++ leBytes 4 (f32Bits x.r) ++ leBytes 4 x.fec ++
    leBytes 4 (x.stale.toNat + 2 * x.learned.toNat) ++ leBytes 8 x.learnTime

/-- The bank entry. -/
def Dev.bankEntry (d : Dev) : List Byte :=
  leBytes 4 (f32Bits (sumOf d.confStrs fun s => (d.strLrn s).q)) ++ leBytes 4 d.lrn.fec

/-- The cell entry of a used cell. -/
def Dev.cellEntry (c : Nat) (d : Dev) : List Byte :=
  let x := d.cell c
  leBytes 4 (f32Bits x.q) ++ leBytes 4 (f32Bits x.rohm) ++ leBytes 4 (f32Bits x.z0.re) ++
    leBytes 4 (f32Bits x.z0.im) ++ leBytes 1 (d.rd EST_CFG.H0) ++
    leBytes 1 ((d.rd (CELL_FLAGS.NEW c)) + 2 * x.qLearned.toNat + 4 * x.zLearned.toNat) ++
    leBytes 2 x.qUpdates

/-- The header. -/
def Dev.recHeader (m : Mem) (d : Dev) : List Byte :=
  leBytes 4 0x4345524C ++ leBytes 2 1 ++
    leBytes 2 (d.rd LRN_STATUS.RESTORED + 2 * (d.runs .lrn).toNat) ++ leBytes 4 recordLen ++
    leBytes 4 (m.img.u32 12) ++ leBytes 8 Config.deviceId ++
    leBytes 8 (if (d.dom 0).stepped then d.domSec 0 else 0) ++
    leBytes 8 (d.rd EST_SWEEP0.CYCLE_LO + 4294967296 * d.rd EST_SWEEP1.CYCLE_HI) ++
    leBytes 2 1536 ++ leBytes 1 64 ++ leBytes 1 8

/-- The copy of a snapshot. -/
def Dev.fillBuffer (m : Mem) (d : Dev) : Dev :=
  let b : Img := Img.store [] 0 (d.recHeader m)
  let b := monPorts.foldl (fun b k => Img.store b (blockAt k) (d.blockEntry k)) b
  let b := strings.foldl (fun b s => Img.store b (strAt s) (d.strEntry s)) b
  let b := Img.store b bankAt d.bankEntry
  let b := (d.confStrs.flatMap d.cellsOf).foldl (fun b c => Img.store b (cellAt c) (d.cellEntry c)) b
  let b := Img.store b 51840 (leBytes 4 (crc32Ref (Img.slice b 0 51840)))
  d.modLrn fun x => { x with buf := b, copied := true }

/-- The values of a snapshot are taken where a session waits for them (R143). -/
def Dev.takeSnapshot (m : Mem) (d : Dev) : Dev :=
  if d.rd LRN_STATUS.STATE = 1 && !d.lrn.copied then d.fillBuffer m else d

/-- Full-equivalent cycles of a string and of the bank (R141). No rule says how they are counted: after a
sweep through
which charge has passed they are free. DESIGN CHOICE, log 97. -/
def Dev.countFec (w : Sweep) (d : Dev) : Dev :=
  let l := d.confStrs.filter fun s => d.sweepDq w s ≠ 0
  if l.isEmpty then d
  else
    let d := d.each l fun s d =>
      let v := Config.freeNat d.free
      { d with free := d.free + 1 }.modStrLrn s fun x => { x with fec := v % 2 ^ 32 }
    let v := Config.freeNat d.free
    { d with free := d.free + 1 }.modLrn fun x => { x with fec := v % 2 ^ 32 }

/-! ### The buffer's owner and its commands (R143, R144, R146) -/

def Dev.lrnState (d : Dev) : Nat := d.rd LRN_STATUS.STATE
def Dev.lrnOwner (d : Dev) : Nat := d.rd LRN_STATUS.OWNER

/-- The buffer is IDLE, owned by no one and empty. -/
def Dev.bufferIdle (d : Dev) : Dev :=
  (((d.wr LRN_STATUS.STATE 0).wr LRN_STATUS.OWNER 0)).modLrn fun x =>
    { x with buf := [], accepted := [], pending := [], copied := false }

/-- Staging fails with a reason (R144): its contents are discarded. -/
def Dev.stagingFails (reason : Nat) (d : Dev) : Dev :=
  (((d.wr LRN_STATUS.STATE 6).wr LRN_STATUS.REASON reason).wr LRN_STATUS.RESTORE_INCOMPLETE 1).modLrn fun x =>
    { x with buf := [], accepted := [], pending := [] }

/-- The buffer serves a restore that has not been swapped in. -/
def Dev.staging (d : Dev) : Bool := decide (3 ≤ d.lrnState) && decide (d.lrnState ≤ 5)

/-- The owning session is lost (R143, R146). -/
def Dev.lrnOwnerLost (sid : Nat) (d : Dev) : Dev :=
  if d.lrnOwner = sid && sid ≠ 0 then
    let d := if d.staging then
        (d.wr LRN_STATUS.RESTORE_INCOMPLETE 1).wr LRN_STATUS.REASON 9 else d
    d.bufferIdle
  else d

/-- A refusal of LRN with its reason. -/
def Dev.lrnRefuse (reason addr : Nat) (d : Dev) : Did := (d.wr LRN_STATUS.REASON reason, wrRefused reason addr)

def lrnCtrl : Nat := LRN_CTRL.CMD.addr

def Dev.cmdSnapshot (sid : Nat) (d : Dev) : Did :=
  if d.lrnState ≠ 0 then d.lrnRefuse 1 lrnCtrl
  else ((d.wr LRN_STATUS.STATE 1).wr LRN_STATUS.OWNER sid, wrOk)

def Dev.cmdLrnRelease (sid : Nat) (d : Dev) : Did :=
  if d.lrnOwner ≠ sid then d.lrnRefuse 2 lrnCtrl
  else if d.lrnState = 1 || d.lrnState = 2 then (d.bufferIdle, wrOk)
  else d.lrnRefuse 1 lrnCtrl

/-- DEDUCED, log 51. -/
def Dev.cmdOpenStage (sid : Nat) (d : Dev) : Did :=
  if d.lrnState = 0 || (d.lrnState = 6 && d.lrnOwner = sid) then
    ((d.bufferIdle.wr LRN_STATUS.STATE 3).wr LRN_STATUS.OWNER sid, wrOk)
  else d.lrnRefuse 1 lrnCtrl

def Dev.cmdLrnAbort (sid : Nat) (d : Dev) : Did :=
  if d.lrnOwner ≠ sid then d.lrnRefuse 2 lrnCtrl
  else if 3 ≤ d.lrnState then (d.bufferIdle.wr LRN_STATUS.RESTORE_INCOMPLETE 1, wrOk)
  else d.lrnRefuse 1 lrnCtrl

/-- A write of one word of the window through the session's page (R153). -/
def Dev.cmdLrnWin (sid k value : Nat) (d : Dev) : Did :=
  let a := (LRN_WIN.BYTES k).addr
  let o := 8192 * (d.sess sid).lrnPage + 4 * k
  if d.lrnOwner ≠ sid then d.lrnRefuse 2 a
  else if d.lrnState ≠ 3 then d.lrnRefuse 1 a
  else if recordLen ≤ o then d.lrnRefuse 7 a
  else (d.modLrn fun x => { x with buf := Img.store x.buf o (leBytes 4 value) }, wrOk)

/-! ### Judging a staged record (R144, R145) -/

/-- The header checks of R144 step 4. -/
def headerOk (b : Img) : Bool :=
  b.u32 0 = 0x4345524C && b.u16 4 = 1 && b.u32 8 = recordLen && b.u16 40 = 1536 && b.u8 42 = 64 &&
    b.u8 43 = 8 && (List.range 20).all fun k => b.u8 (44 + k) = 0

/-- Whether a cell entry is within its bounds and finite. -/
def Dev.entryOk (m : Mem) (b : Img) (c : Nat) (d : Dev) : Bool :=
  let a := cellAt c
  let p := d.prof c
  let q := f32 (b.u32 a)
  let r := f32 (b.u32 (a + 4))
  [0, 4, 8, 12].all (fun k => f32Finite (b.u32 (a + k))) &&
    decide (d.qRated m c / 2 ≤ q) && decide (q ≤ d.qRated m c * 6 / 5) &&
    decide (m.img.pMin p 0 ≤ r) && decide (r ≤ m.img.pMax p 0)

def stagedSig (b : Img) (k : Nat) : List (Option Rat) := (List.range 16).map fun t => sigOf (b.u8 (blockAt k + 8 + t))

/-- Whether a staged block agrees with the block's reference. DEDUCED, log 51. -/
def Dev.stagedSame (b : Img) (k : Nat) (d : Dev) : Bool :=
  let x := d.block k
  x.known && d.sameBlock k (b.u16 (blockAt k)) (b.u16 (blockAt k + 2)) (stagedSig b k) x.ref0 x.ref1 x.sig

/-- R145 for one used block: 0 rejected, 1 pending, 2 accepted. DEDUCED, log 51. -/
def Dev.judgeBlock (m : Mem) (b : Img) (k : Nat) (d : Dev) : Nat :=
  let r := d.portRec (lcOfMon k)
  let a := blockAt k
  if b.u8 (a + 4) ≠ r.str || b.u8 (a + 5) ≠ r.inputs || b.u8 (a + 6) ≠ r.profile then 0
  else if !(d.blockCells k).all fun c => d.entryOk m b c then 0
  else if (d.block k).state = 1 then 1
  else if d.stagedSame b k then 2
  else 0

/-- The used blocks. -/
def Dev.usedBlocks (d : Dev) : List Nat := monPorts.filter d.monUsed

/-- A write of the commit word (R144 step 3): the check begins. -/
def Dev.cmdCommit (sid word : Nat) (d : Dev) : Did :=
  let a := LRN_COMMIT.CRC.addr
  if d.lrnOwner ≠ sid then d.lrnRefuse 2 a
  else if d.lrnState ≠ 3 then d.lrnRefuse 1 a
  else ((d.modLrn fun x => { x with word := word }).wr LRN_STATUS.STATE 4, wrOk)

/-- The check of a committed record (R144 steps 4 and 5). DEDUCED, log 51. -/
def Dev.checkStaged (m : Mem) (d : Dev) : Dev :=
  let b : Img := d.lrn.buf
  let crc := crc32Ref (b.slice 0 51840)
  if d.lrnState ≠ 4 then d
  else if !headerOk b then d.stagingFails 3
  else if b.u32 51840 ≠ crc then d.stagingFails 4
  else if d.lrn.word ≠ crc then d.stagingFails 5
  else
    let of (r : Nat) : List Nat := d.usedBlocks.filter fun k => d.judgeBlock m b k = r
    (d.modLrn fun x => { x with accepted := of 2, pending := of 1, checkedAt := d.clk }).wr LRN_STATUS.STATE 5

/-- The values of one staged cell are taken (R145). -/
def Dev.takeCell (b : Img) (c : Nat) (d : Dev) : Dev :=
  let a := cellAt c
  let st := b.u8 (a + 17)
  let z : ZSt := if b.u8 (a + 16) = d.rd EST_CFG.H0 then
      { ZSt.blank with re := f32 (b.u32 (a + 8)), im := f32 (b.u32 (a + 12)) } else .blank
  (d.modCell c fun x => { x with
    q := f32 (b.u32 a), rohm := f32 (b.u32 (a + 4)), z0 := z, qLearned := st / 2 % 2 = 1
    zLearned := st / 4 % 2 = 1, qUpdates := b.u16 (a + 18) }).wr (CELL_FLAGS.NEW c) (st % 2)

/-- Rpa25 and Rpb25 follow from Rohm25 (R126, R141). -/
def Dev.followRohm (m : Mem) (c : Nat) (d : Dev) : Dev :=
  let p := d.prof c
  d.modCell c fun x =>
    let k := x.rohm / m.img.pInit p 0
    { x with
      rpa := clamp (Config.fp32 (m.img.pInit p 1 * k)) (m.img.pMin p 1) (m.img.pMax p 1)
      rpb := clamp (Config.fp32 (m.img.pInit p 3 * k)) (m.img.pMin p 3) (m.img.pMax p 3) }

/-- A block's staged values are taken. -/
def Dev.takeBlock (m : Mem) (b : Img) (k : Nat) (d : Dev) : Dev :=
  d.each (d.blockCells k) fun c d => (d.takeCell b c).followRohm m c

/-- One used block at the swap: accepted, pending, or rejected and declared NEW. A pending block that has
trained since is compared now. -/
def Dev.swapBlock (m : Mem) (b : Img) (k : Nat) (d : Dev) : Dev :=
  if d.lrn.accepted.contains k then d.takeBlock m b k
  else if d.lrn.pending.contains k then
    let d := d.takeBlock m b k
    if (d.block k).known then (if d.stagedSame b k then d else d.declareNew k)
    else d.modBlock k fun x => { x with
      state := if x.state = 1 then 2 else x.state, known := true
      ref0 := b.u16 (blockAt k), ref1 := b.u16 (blockAt k + 2), sig := stagedSig b k }
  else d.declareNew k

/-- A string entry is taken (R145). DEDUCED, log 51. -/
def Dev.swapStr (b : Img) (s : Nat) (d : Dev) : Dev :=
  let a := strAt s
  let bad := (d.blocksOf s).any fun k => !d.lrn.accepted.contains k && !d.lrn.pending.contains k
  let stale := b.u8 (a + 12) % 2 = 1 || bad
  let d := d.modStrLrn s fun x => { x with
    q := f32 (b.u32 a), r := f32 (b.u32 (a + 4)), stale := false, learned := b.u8 (a + 12) / 2 % 2 = 1
    learnTime := b.u64 (a + 16) % 2 ^ 48, fec := b.u32 (a + 8) }
  if stale then d.setStale s else d

/-- RESTORE_SWAP (R144 step 6, R146). -/
def execRestoreSwap (s : State) : Host.Outcome State Fault Refusal :=
  s.run fun m d =>
    if !d.alive || d.lrnState ≠ 5 || d.outage bedEstm || !d.boundaryFor d.lrn.checkedAt then d
    else
      let b : Img := d.lrn.buf
      let acc := d.lrn.accepted.length
      let pen := d.lrn.pending.length
      let rej := d.usedBlocks.length - acc - pen
      let d := d.each d.usedBlocks (Dev.swapBlock m b)
      let d := d.each strings (Dev.swapStr b)
      let d := d.modLrn fun x => { x with fec := b.u32 (bankAt + 4) }
      let d := ((d.wr LRN_RESULT.ACCEPTED acc).wr LRN_RESULT.PENDING pen).wr LRN_RESULT.REJECTED rej
      let d := (d.bufferIdle.wr LRN_STATUS.RESTORED 1).wr LRN_STATUS.RESTORE_INCOMPLETE 0
      d.record recLrnRestored (leBytes 1 acc ++ leBytes 1 pen ++ leBytes 1 rej)

/-- A Trellis switch meets a pending commit (R146). DEDUCED, log 36. -/
def Dev.lrnTopologyChanged (d : Dev) : Dev := if d.lrnState = 5 then d.stagingFails 6 else d

/-! ### Commands -/

/-- SNAPSHOT (R143). -/
def execSnapshot (sid : Sid) (s : State) : Host.Outcome State Fault Refusal :=
  s.run fun _ d => d.host sid.val fun d => d.asSteward sid.val .lrn lrnCtrl (Dev.cmdSnapshot sid.val)

/-- SNAPSHOT_COPY_DONE (R142, R143). -/
def execSnapshotCopyDone (s : State) : Host.Outcome State Fault Refusal :=
  s.run fun _ d =>
    if d.alive && d.lrnState = 1 && d.lrn.copied then d.wr LRN_STATUS.STATE 2 else d

/-- LRN_RELEASE (R143). -/
def execLrnRelease (sid : Sid) (s : State) : Host.Outcome State Fault Refusal :=
  s.run fun _ d => d.host sid.val fun d => d.asSteward sid.val .lrn lrnCtrl (Dev.cmdLrnRelease sid.val)

/-- OPEN_STAGE (R144). -/
def execOpenStage (sid : Sid) (s : State) : Host.Outcome State Fault Refusal :=
  s.run fun _ d => d.host sid.val fun d => d.asSteward sid.val .lrn lrnCtrl (Dev.cmdOpenStage sid.val)

/-- LRN_WIN_WRITE (R153). -/
def execLrnWinWrite (sid : Sid) (k : Fin 2048) (value : Word) (s : State) :
    Host.Outcome State Fault Refusal :=
  s.run fun _ d => d.host sid.val fun d =>
    d.asSteward sid.val .lrn (LRN_WIN.BYTES k.val).addr (Dev.cmdLrnWin sid.val k.val value.toNat)

/-- LRN_COMMIT (R144). -/
def execLrnCommit (sid : Sid) (value : Word) (s : State) : Host.Outcome State Fault Refusal :=
  s.run fun _ d => d.host sid.val fun d =>
    d.asSteward sid.val .lrn LRN_COMMIT.CRC.addr (Dev.cmdCommit sid.val value.toNat)

/-- LRN_ABORT (R146). -/
def execLrnAbort (sid : Sid) (s : State) : Host.Outcome State Fault Refusal :=
  s.run fun _ d => d.host sid.val fun d => d.asSteward sid.val .lrn lrnCtrl (Dev.cmdLrnAbort sid.val)

/-- A CAPTEST command (R152). -/
def Dev.cmdCaptest (target : Nat) (d : Dev) : Did :=
  if 8 ≤ target || !d.configured target then d.lrnRefuse 8 lrnCtrl
  else if d.fnState Func.lrn.num ≠ 1 || d.capActive target then d.lrnRefuse 10 lrnCtrl
  else (d.wr (LRN_CAPTEST.PHASE target) 1, wrOk)

/-- A CAPTEST_CANCEL command (R152). -/
def Dev.cmdCaptestCancel (target : Nat) (d : Dev) : Did :=
  if 8 ≤ target || !d.configured target then d.lrnRefuse 8 lrnCtrl else (d.capFail target, wrOk)

/-- A DECLARE_NEW command (R148). -/
def Dev.cmdDeclareNew (target : Nat) (d : Dev) : Did :=
  if 64 ≤ target || !d.monUsed target then d.lrnRefuse 8 lrnCtrl else (d.declareNew target, wrOk)

/-- CAPTEST (R152). -/
def execCaptest (sid : Sid) (target : BitVec 7) (s : State) : Host.Outcome State Fault Refusal :=
  s.run fun _ d => d.host sid.val fun d =>
    d.asSteward sid.val .lrn lrnCtrl (Dev.cmdCaptest target.toNat)

/-- CAPTEST_CANCEL (R152). -/
def execCaptestCancel (sid : Sid) (target : BitVec 7) (s : State) : Host.Outcome State Fault Refusal :=
  s.run fun _ d => d.host sid.val fun d =>
    d.asSteward sid.val .lrn lrnCtrl (Dev.cmdCaptestCancel target.toNat)

/-- CAPTEST_SPAN_EXPIRED (R152). SPAN_MAX runs out after ANCHORED. -/
def execCaptestSpanExpired (str : Str) (s : State) : Host.Outcome State Fault Refusal :=
  s.run fun _ d =>
    let ph := d.rd (LRN_CAPTEST.PHASE str.val)
    if d.alive && (ph = 3 || ph = 4) then d.capFail str.val else d

/-- DECLARE_NEW (R148). -/
def execDeclareNew (sid : Sid) (target : BitVec 7) (s : State) : Host.Outcome State Fault Refusal :=
  s.run fun _ d => d.host sid.val fun d =>
    d.asSteward sid.val .lrn lrnCtrl (Dev.cmdDeclareNew target.toNat)

/-! ### Anchors and rest (R138, R148, R151, R152) -/

/-- docv of cell `c` where its average voltage `avg` puts it. -/
def Dev.restSlope (m : Mem) (avg : Option Rat) (c : Nat) (d : Dev) : Rat :=
  m.img.docv (d.prof c) (d.socFrom m avg c) (d.cell c).heat

/-- The variance of a SoC taken from a rested voltage (R138). -/
def Dev.restVar (m : Mem) (avg : Option Rat) (c : Nat) (d : Dev) : Rat :=
  let v := quot (m.img.noise (d.prof c) 3) (d.restSlope m avg c)
  v * v

/-- The same capped at 0.25, which a flat curve reaches (R148). -/
def Dev.restVarCapped (m : Mem) (avg : Option Rat) (c : Nat) (d : Dev) : Rat :=
  if d.restSlope m avg c = 0 then 1 / 4 else min (1 / 4) (d.restVar m avg c)

/-- A cell takes its SoC from its rested voltage, with a variance. DEDUCED, log 49. -/
def Dev.restSoc (m : Mem) (avg : Option Rat) (var : Rat) (c : Nat) (d : Dev) : Dev :=
  let s := d.socFrom m avg c
  d.modCell c fun x => { x with
    soc := Config.fp32 s
    p := mat3 fun a b => if a = 0 && b = 0 then var else if a = b then at3 x.p a b else 0 }

/-- An anchor at the cell's SoC (R151), the second anchor of a capacity test with weight 1 (R152). -/
def Dev.anchorCell (m : Mem) (test : Bool) (c : Nat) (d : Dev) : Dev :=
  let x := d.cell c
  let b : Rat × Rat × Nat := (x.soc, x.count, d.clk)
  let keep (d : Dev) : Dev := d.modCell c fun x => { x with anchor := some b }
  match x.anchor with
  | none => keep d
  | some a =>
    let ds := mag (b.1 - a.1)
    let qm := mag (b.2.1 - a.2.1) / (3600 * ds)
    let lo := d.qRated m c / 2
    let hi := d.qRated m c * 6 / 5
    let ran := d.runs .acq && d.runs .lrn && decide (d.lrn.broken < a.2.2) && d.stage = 0
    let span := decide (d.clk ≤ a.2.2 + secClk (86400 * d.rd LRN_CFG2.SPAN_MAX))
    let deep := decide ((d.rd LRN_CFG.DEPTH_MIN : Rat) / 100 ≤ ds)
    if qm < lo || hi < qm then keep (d.bump LRN_CNT.Q_REJECT)
    else if !ran || !span then keep d
    else if !deep then
      if mag (b.1 - 1 / 2) < mag (a.1 - 1 / 2) then d else keep d
    else (keep d).modCell c fun x => { x with
      pending := some (qm, if test then 1 else (d.rd LRN_CFG.Q_GAIN : Rat) / 256) }

/-- Whether R138 resets a cell's SoC: the slope there is at least SLOPE_MIN, or is waived. -/
def Dev.recalSoc (m : Mem) (w : Sweep) (waive : Bool) (c : Nat) (d : Dev) : Bool :=
  waive || decide ((d.rd EST_REST.SLOPE_MIN : Rat) / 100000 ≤ d.restSlope m (w.volts c) c / 100)

/-- R138 for one cell: polarisation and its variances anew, and the SoC where the slope suffices. DEDUCED, log 49. -/
def Dev.recalCell (m : Mem) (w : Sweep) (waive : Bool) (c : Nat) (d : Dev) : Dev :=
  let v := m.img.noise (d.prof c) 3
  let e := d.modCell c fun x => { x with
    va := 0, vb := 0
    p := mat3 fun a b => if a = 0 && b = 0 then at3 x.p 0 0 else if a = b then v * v else 0 }
  if d.recalSoc m w waive c then e.restSoc m (w.volts c) (d.restVar m (w.volts c) c) c else e

/-- The used cells of string `s` with COUNT of at least N/4 in sweep `w`. -/
def Dev.restCells (w : Sweep) (s : Nat) (d : Dev) : List Nat :=
  (d.cellsOf s).filter fun c => decide (w.n ≤ 4 * w.count c)

/-- The capacity test moves on at a rest (R152): ANCHORED after FULL_SEEN, DONE or FAILED after
EMPTY_SEEN. -/
def Dev.capRest (m : Mem) (s : Nat) (d : Dev) : Dev :=
  let ph := d.rd (LRN_CAPTEST.PHASE s)
  if ph = 2 then d.wr (LRN_CAPTEST.PHASE s) 3
  else if ph = 4 then
    let l := d.cellsOf s
    let all := l.all fun c => (d.cell c).pending.isSome
    let d := d.learnQ l
    if all then
      ((d.wr (LRN_CAPTEST.PHASE s) 5).record recCaptestDone [BitVec.ofNat 8 s]).relearn m s
    else d.capFail s
  else d

/-- Step 7 for string `s` whose rest qualifies with sweep `w` (R138, R147, R151, R152). -/
def Dev.restString (m : Mem) (w : Sweep) (s : Nat) (d : Dev) : Dev :=
  let l := d.restCells w s
  let ph := d.rd (LRN_CAPTEST.PHASE s)
  let waive := ph = 2 || ph = 4
  let reset := l.filter fun c => d.recalSoc m w waive c
  let d := d.each l (Dev.recalCell m w waive)
  let d := d.each reset (Dev.anchorCell m (ph = 4))
  let d := d.modSe s fun x => { x with
    countVolt := false, voltCount := false, hold := x.hold && x.empty, rested := some (w.end_ s).restFrom }
  let d := d.record recRestRecal (leBytes 1 s ++ leBytes 2 reset.length)
  let d := d.each ((d.blocksOf s).filter fun k => (d.block k).state = 3) fun k d =>
    let sig := d.signature m k
    d.modBlock k fun b => { b with sig := sig }
  d.capRest m s

/-- Whether the hold of block `k` ends: its string has rested for NEW_REST since the declaration (R148). -/
def Dev.holdDue (d : Dev) (k : Nat) : Bool :=
  let b := d.block k
  b.hold && !b.declared && decide ((60 * d.rd LRN_CFG2.NEW_REST : Nat) ≤ b.rest)

/-- The hold of block `k` ends: step 3 of R148 is repeated from the rested voltage. -/
def Dev.endHold (m : Mem) (k : Nat) (d : Dev) : Dev :=
  let d := d.each (d.blockCells k) fun c d =>
    let avg := d.avgV c
    let d := d.initCell m avg c
    d.restSoc m avg (d.restVarCapped m avg c) c
  d.modBlock k fun b => { b with hold := false }

/-- NEW_BLOCK_HOLD_END (R148). -/
def execNewBlockHoldEnd (str : Str) (s : State) : Host.Outcome State Fault Refusal :=
  s.run fun m d =>
    if d.alive && d.works .est then d.each ((d.blocksOf str.val).filter d.holdDue) (Dev.endHold m) else d

end Sys2Proof.Machine
end

