-- ==== Sys2Proof/Machine/Balance.lean ====
section
/-! DEFINITION. Cell balancing (R225 to R236): which cells a slot's mask enables, the masks written to the
companions, the charge the switches remove, forcing, and the switch tests. -/

namespace Sys2Proof.Machine

/-! ### Suspension and eligibility (R227, R230) -/

/-- Whether a condition of R230 holds. -/
def Dev.balSuspended (m : Mem) (d : Dev) : Bool :=
  !d.works .bal || d.outage bedBaln || decide (2 ≤ d.stage) || d.phase.balHold ||
    d.mode m = .transport || d.mode m = .safe || d.mode m = .thermalLatch

/-- Whether the switch of cell `c` is marked FAILED (R234). -/
def Dev.switchFailed (d : Dev) (c : Nat) : Bool := (tget 0 d.nv.balFailed (c / 24)).testBit (c % 24)

/-- Whether a zone that holds cell `c` is in WARN. -/
def Dev.cellWarn (m : Mem) (c : Nat) (d : Dev) : Bool :=
  packPoints.any fun p => d.pointUsed m p && m.img.touches p c && (d.zone (m.img.pointZone p)).warn

/-- Eligible in a slot (R227). -/
def Dev.eligible (m : Mem) (c : Nat) (d : Dev) : Bool :=
  !d.switchFailed c && !(d.block (c / 24)).hold && !d.on (CELL_FLAGS.ECC_REINIT c) &&
    !d.on (CELL_FLAGS.VAR_HIGH c) && !d.on (CELL_FLAGS.AT_EMPTY c) && (d.avgV c).isSome &&
    decide (d.rd BAL_CFG.VMIN ≤ d.rd (CELL_VAVG.MEAN c)) && !d.cellWarn m c &&
    !d.on (EST_SFLAGS.VOLT_EMPTY (d.cellStr c)) && d.isUp (lcOfMon (c / 24))

/-- Whether a cell is active. -/
def Dev.balActive (d : Dev) (c : Nat) : Bool := tget false d.bal.active c

/-- The active state of string `s`'s cells at a mask write (R228). -/
def Dev.activate (m : Mem) (s : Nat) (d : Dev) : Dev :=
  let l := d.cellsOf s
  let ok := l.filter fun c => d.eligible m c
  let ref := match leastBy d.soc01 ok with | some c => d.soc01 c | none => 0
  d.each l fun c d =>
    let e := (d.soc01 c - ref) * (d.cell c).q
    let q := d.qRated m c / 10000
    let on := ok.contains c &&
      (decide ((d.rd BAL_CFG.START : Nat) * q ≤ e) ||
        (d.balActive c && decide ((d.rd BAL_CFG.STOP : Nat) * q < e)))
    d.modBal fun x => { x with active := tset false x.active c on }

/-- The cells of string `s` that conduct in slots of a parity: its active cells at positions of that
parity (R225, R228). -/
def Dev.slotCells (s parity : Nat) (d : Dev) : List Nat :=
  let l := d.cellsOf s
  ((List.range l.length).filter fun k => k % 2 = parity && d.balActive (l.getD k 0)).map fun k => l.getD k 0

/-! ### Masks (R225, R226, R231) -/

/-- The used inputs of monitor port `k` whose switches have not failed, as a mask. -/
def Dev.goodInputs (d : Dev) (k : Nat) : Nat :=
  maskOf 24 fun j => decide (j < (d.portRec (lcOfMon k)).inputs) && !d.switchFailed (24 * k + j)

/-- The mask of monitor port `k` for a slot of a parity: forced, all-off for a test under way, or
scheduled. -/
def Dev.slotMask (m : Mem) (k parity : Nat) (d : Dev) : Nat :=
  if d.balSuspended m then 0
  else
    match (d.balPort k).forced with
    | some v => Nat.land v (d.goodInputs k)
    | none =>
      if ((d.balPort k).test.map fun t => decide (t.stage ≠ 0)) = some true then 0
      else
        let on := d.slotCells (d.monStr k) parity
        maskOf 24 fun j => on.contains (24 * k + j)

/-- WRITE a mask to monitor port `k`, with further entries behind it in the same frame. -/
def Dev.writeMask (k mask : Nat) (more : List (Nat × Nat)) (d : Dev) : Dev :=
  (d.sendDown (lcOfMon k) ftWrite ([(12, mask % 65536), (13, mask / 65536)] ++ more)).modPort (lcOfMon k)
    fun p => { p with newMask := some mask }

/-- The mask under which the strobe intervals run from strobe 0 on. -/
def PortSt.maskNow (p : PortSt) : Nat := p.nextMask.getD p.mask

/-! ### Charge removed (R229) -/

/-- Cell `c`'s switch conducts in the strobe intervals that begin at strobes `l` of the sweep in progress, for
`ton` s
each. -/
def Dev.conducted (c : Nat) (l : List Nat) (ton : Rat) (d : Dev) : Dev :=
  d.modAcq fun a => { a with fill := { a.fill with on := tmod [] a.fill.on c fun o => o ++ l.map fun k => (k, ton) } }

/-- The on-time in one strobe interval, of a port under CONTINUOUS forcing or not (R229). -/
def Dev.onTime (k : Nat) (d : Dev) : Rat :=
  let ts := d.acq.fill.tc / (d.acq.fill.n : Nat)
  if d.noWindows (lcOfMon k) then ts
  else ts - ((d.rd ACQ_QW.QW_PRE : Nat) + (d.rd ACQ_QW.QW_POST : Nat)) / 1000000

/-- The switches that a port's mask holds on in the interval of strobe `k`. -/
def Dev.balConduct (k n : Nat) (d : Dev) : Dev :=
  d.each (bitsOf 24 (d.port (lcOfMon n)).maskNow) fun j d => d.conducted (24 * n + j) [k] (d.onTime n)

/-- The code that opens the interval of strobe `k`: the cell's sample there, or its last OK code. -/
def Sweep.codeAt (w : Sweep) (c k was : Nat) : Nat :=
  match (tget [] w.cells c).find? fun x => decide (x.strobe ≤ k) && x.val = .ok && !w.adj.contains c with
  | some x => x.code
  | none => was

/-- The charge the switches removed in a sweep that has ended, q_bal of R229, and the cells' last OK codes. -/
def Dev.balSweep (d : Dev) : Dev :=
  let w := d.acq.fill
  let r : Rat := (d.rd BAL_CFG2.R_BAL : Rat) / 100
  d.each (d.confStrs.flatMap d.cellsOf) fun c d => d.modCell c fun x =>
    { x with
      bal := x.bal + (tget [] w.on c).foldl (fun a o => a + (w.codeAt c o.1 x.okCode : Nat) / 10000 / r * o.2) 0
      okCode := w.codeAt c w.n x.okCode }

/-! ### Switch tests (R232 to R234) -/

/-- The latest sample of cell `c` at strobe `k` of the sweep in progress, if it is OK. -/
def Dev.okAt (c k : Nat) (d : Dev) : Option Nat :=
  if d.acq.fill.adj.contains c then none
  else
    match (tget [] d.acq.fill.cells c).find? fun x => x.strobe = k with
    | some x => if x.val = .ok then some x.code else none
    | none => none

/-- The string's OK current at strobe `k` of the sweep in progress. -/
def Dev.ampsAt (s k : Nat) (d : Dev) : Option Rat :=
  match (tget [] d.acq.fill.strs s).find? fun x => x.strobe = k with
  | some x => if x.iVal = .ok then some x.i else none
  | none => none

/-- Whether a port of string `s` is forced: its tests wait (R232). -/
def Dev.strForced (s : Nat) (d : Dev) : Bool := (d.blocksOf s).any fun k => (d.balPort k).forced.isSome

/-- Whether a string may take a test step (R232). -/
def Dev.testOpen (s : Nat) (d : Dev) : Bool :=
  (d.isOpen s || match d.meanI s with
    | some i => decide (mag i ≤ d.rated s / 50)
    | none => false) && !d.strForced s

/-- A test that is interrupted begins anew at the next opportunity. -/
def BalTest.again (t : BalTest) : BalTest := { t with stage := 0, vOff := none, iOff := none, iOn := none, vOn := none }

/-- The ports that hold a mask or run a test while R230 holds every switch off: the all-off mask is written, and
SW_TEST 0 where a test had its switch closed; the test begins anew later. -/
def Dev.allOff (m : Mem) (d : Dev) : Dev :=
  if d.balSuspended m then
    d.each monPorts fun k d =>
      let p := d.port (lcOfMon k)
      let shut := match (d.balPort k).test with | some t => t.stage = 2 | none => false
      let h := d.acq.fill.n / 2
      let d := match (d.balPort k).test with
        | some t =>
          let l := if t.stage = 2 && decide (d.phase.k ≤ h + 1) then List.range (d.phase.k - 1) else []
          (d.conducted (24 * k + t.input) l (d.onTime k)).modBalPort k fun b => { b with test := some t.again }
        | none => d
      if d.isLive (lcOfMon k) && (shut || p.newMask.getD p.maskNow ≠ 0) then
        d.writeMask k 0 (if shut then [(14, 0)] else [])
      else d
  else d

/-- The step of a string's test pass, one above its input; 0 when it takes none. -/
def Dev.passStep (d : Dev) (s : Nat) : Nat := tget 0 d.bal.steps s

/-- String `s` goes to step `j`: every port that uses input `j` tests it; beyond the last used input the
string has finished. -/
def Dev.enterStep (s j : Nat) (d : Dev) : Dev :=
  let l := (d.blocksOf s).filter fun k => decide (j < (d.portRec (lcOfMon k)).inputs)
  if l.isEmpty then d.modBal fun x => { x with steps := tset 0 x.steps s 0 }
  else
    (d.modBal fun x => { x with steps := tset 0 x.steps s (j + 1) }).each l fun k d =>
      d.modBalPort k fun b => { b with todo := b.todo ++ [(j, false)] }

/-- A test pass begins (R232). -/
def Dev.startPass (d : Dev) : Dev :=
  let d := d.modBal fun x => { x with pass := true, tested := 0, failed := 0, unclear := 0 }
  d.each d.confStrs fun s d => d.enterStep s 0

/-- A pass ends once every string has finished (R234). DESIGN CHOICE, log 60. -/
def Dev.endPass (d : Dev) : Dev :=
  if d.bal.pass && d.bal.steps.isEmpty then
    let b := d.bal
    let d := d.modBal fun x => { x with pass := false, ageS := -(d.clkS : Int) }
    let d := (d.wr BAL_TESTSTAT.INCONCL (min 255 b.unclear)).wr BAL_TESTSTAT.FAILED (min 255 b.failed)
    d.record recBalTestDone (leBytes 2 b.tested ++ leBytes 2 b.failed ++ leBytes 2 b.unclear)
  else d

/-- Whether every port of string `s` has finished its tests. -/
def Dev.stepDone (s : Nat) (d : Dev) : Bool :=
  (d.blocksOf s).all fun k => (d.balPort k).todo.isEmpty && (d.balPort k).test.isNone

/-- A port's test ends: in a pass it is counted, and with the last of the string the next step follows. DEDUCED, log 61. -/
def Dev.testEnds (k : Nat) (failed unclear : Bool) (d : Dev) : Dev :=
  let s := d.monStr k
  let cmd := match (d.balPort k).test with | some t => t.cmd | none => false
  let d := d.modBalPort k fun b => { b with test := none }
  let d := if d.bal.pass && !cmd then
      d.modBal fun x => { x with
        tested := x.tested + 1, failed := x.failed + failed.toNat, unclear := x.unclear + unclear.toNat }
    else d
  if d.passStep s ≠ 0 && d.stepDone s then (d.enterStep s (d.passStep s)).endPass else d

/-- An attempt gave no verdict: repeated at the next opportunity, given up after the third (R233). -/
def Dev.testUnclear (k : Nat) (d : Dev) : Dev :=
  match (d.balPort k).test with
  | none => d
  | some t =>
    if 3 ≤ t.unclear + 1 then d.testEnds k false true
    else d.modBalPort k fun b => { b with test := some { t.again with unclear := t.unclear + 1 } }

/-- The verdict on input `j` from the SW_TEST readback (R233): whether the current and the step pass. -/
def Dev.testPasses (m : Mem) (k : Nat) (t : BalTest) (read vOff vOn : Nat) (iOff iOn : Rat) (d : Dev) :
    Bool × Int :=
  let isw : Rat := (read / 256 % 256 : Nat) * 2 / 1000
  let want : Rat := (vOff : Rat) / 10000 / ((d.rd BAL_CFG2.R_BAL : Rat) / 100)
  let step := ((vOn : Rat) - (vOff : Rat)) / 10000 - d.cellRo m (24 * k + t.input) * (iOn - iOff)
  (decide (mag (isw - want) ≤ want * (d.rd BAL_TEST.I_TOL : Nat) / 100) &&
    decide (-((d.rd BAL_TEST.STEP_MAX : Rat) / 1000) ≤ step) &&
    decide (step ≤ -((d.rd BAL_TEST.STEP_MIN : Rat) / 1000)), nearest (step * 10000))

/-- v_on: the cell's code at strobe N/2 whatever its validity, which R233 does not ask of it, or its last
code. DEDUCED, log 61. -/
def Dev.vOnOf (c : Nat) (d : Dev) : Nat :=
  match (tget [] d.acq.fill.cells c).find? fun x => x.strobe = d.acq.fill.n / 2 with
  | some x => x.code
  | none => d.rd (CELL_V.CODE c)

/-- The SW_TEST readback of monitor port `k` (R233, R234). -/
def Dev.testReadback (m : Mem) (k read : Nat) (d : Dev) : Dev :=
  match (d.balPort k).test with
  | none => d
  | some t =>
    if t.stage ≠ 3 then d
    else
      let vOn := d.vOnOf (24 * k + t.input)
      let t := { t with vOn := some vOn, iOn := d.ampsAt (d.monStr k) (d.acq.fill.n / 2) }
      match t.vOff, t.iOff, t.iOn with
      | some vOff, some iOff, some iOn =>
        if read / 128 % 2 = 0 || read % 32 ≠ t.input then d.testUnclear k
        else
          let r := d.testPasses m k t read vOff vOn iOff iOn
          let bit := 2 ^ t.input
          let old := tget 0 d.nv.balFailed k
          if r.1 then
            let d := if t.cmd && old.testBit t.input then
                (d.modNv fun n => { n with balFailed := tset 0 n.balFailed k (old - bit) }).record
                  recBalSwitchRestored (leBytes 1 k ++ leBytes 1 t.input)
              else d
            d.testEnds k false false
          else if t.fails + 1 = 2 then
            let d := d.modNv fun n => { n with balFailed := tset 0 n.balFailed k (Nat.lor old bit) }
            let d := d.record recBalSwitchFailed (leBytes 1 k ++ leBytes 1 t.input ++
              leBytes 1 (read / 256) ++ leBytes 2 (unsigned 16 r.2))
            d.testEnds k true false
          else d.modBalPort k fun b => { b with test := some { t.again with fails := t.fails + 1 } }
      | _, _, _ => d.testUnclear k

/-- At strobe N/2 of cycle b + 1 the switch has conducted from strobe 0 on; it opens QW_POST later, and
SW_TEST is read
back in the exchange slot that follows (R229, R233). DEDUCED, log 61. -/
def Dev.testMid (d : Dev) : Dev :=
  d.each (monPorts.filter d.monUsed) fun k d =>
    match (d.balPort k).test with
    | none => d
    | some t =>
      if t.stage = 2 then
        let d := d.conducted (24 * k + t.input) (List.range (d.acq.fill.n / 2 + 1)) (d.onTime k)
        let d := d.modBalPort k fun b => { b with test := some { t with stage := 3 } }
        if d.isLive (lcOfMon k) then d.sendDown (lcOfMon k) ftRead [(14, 1)] else d
      else d

/-- The tests of monitor port `k` at a mask write: an unanswered readback is inconclusive, a test in cycle
b closes its switch in the next, and a test that may begin begins (R232, R233). What follows the mask in
the same frame is given back. -/
def Dev.testSlot (m : Mem) (k : Nat) (d : Dev) : Dev × List (Nat × Nat) :=
  let halt := d.balSuspended m || d.strForced (d.monStr k)
  let d := match (d.balPort k).test with
    | some t =>
      if halt then d.modBalPort k fun b => { b with test := some t.again }
      else if t.stage = 3 then d.testUnclear k else d
    | none => d
  match (d.balPort k).test with
  | some t =>
    if t.stage = 1 then
      let h := d.acq.fill.n / 2
      (d.modBalPort k fun b => { b with test := some { t with
        stage := 2, vOff := d.okAt (24 * k + t.input) h, iOff := d.ampsAt (d.monStr k) h } },
        [(14, 0x8000 + t.input)])
    else if t.stage = 0 && !halt && d.testOpen (d.monStr k) then
      (d.modBalPort k fun b => { b with test := some { t with stage := 1 } }, [])
    else (d, [])
  | none =>
    match (d.balPort k).todo with
    | (j, cmd) :: rest =>
      if !halt && d.testOpen (d.monStr k) then
        (d.modBalPort k fun b => { b with todo := rest, test := some { BalTest.start j cmd with stage := 1 } }, [])
      else (d, [])
    | [] => (d, [])

/-- The masks of the slot of cycle `c`, written at strobe N − 1 of the cycle before (R226). -/
def Dev.balSlot (m : Mem) (c : Nat) (d : Dev) : Dev :=
  if !m.hasImage then d
  else
    let d := if d.balSuspended m then d.modBal fun x => { x with active := [] }
      else d.each d.confStrs (Dev.activate m)
    d.each (monPorts.filter d.monUsed) fun k d =>
      let r := d.testSlot m k
      if d.isLive (lcOfMon k) then r.1.writeMask k (r.1.slotMask m k (c % 2)) r.2 else r.1

/-- A block is replaced (R234): its switches are as new, and every input is tested. -/
def Dev.balNewBlock (k : Nat) (d : Dev) : Dev :=
  let d := d.modNv fun n => { n with balFailed := tset 0 n.balFailed k 0 }
  d.modBalPort k fun b => { b with
    todo := b.todo ++ (List.range (d.portRec (lcOfMon k)).inputs).map fun j => (j, false) }

/-- BLOCK_REPLACED (R148, R234). At the sweep boundary after a declaration of NEW. -/
def execBlockReplaced (port : Mon) (s : State) : Host.Outcome State Fault Refusal :=
  s.run fun m d =>
    if d.alive && d.runs .acq && d.monUsed port.val && (d.block port.val).declared then
      (d.replaceBlock m port.val).balNewBlock port.val
    else d

/-! ### Commands (R231, R232, R234, R235) -/

def balCtrl : Nat := BAL_CTRL.CMD.addr

/-- DEDUCED, log 22. -/
def Dev.balRefuse (reason : Nat) (d : Dev) : Did := (d.wr BAL_STATUS.REASON reason, wrRefused reason balCtrl)

/-- A FORCE command (R231). DEDUCED, log 42. DEDUCED, log 67. -/
def Dev.cmdForce (m : Mem) (sid k : Nat) (d : Dev) : Did :=
  let s := d.monStr k
  let cont := d.on BAL_FORCE.CONTINUOUS
  if (d.sess sid).role ≠ .maintainer then d.balRefuse 1
  else if 64 ≤ k || !d.monUsed k then d.balRefuse 2
  else if cont && (d.connected s || d.closing s) then d.balRefuse 3
  else if d.balSuspended m then d.balRefuse 4
  else
    let was := d.noWindows (lcOfMon k)
    let mask := Nat.land (d.rd BAL_FORCE.MASK) (d.goodInputs k)
    let d := d.modBalPort k fun b => { b with forced := some mask, cont := cont }
    let d := if was ≠ cont && d.isLive (lcOfMon k) then d.sendDown (lcOfMon k) ftWrite (d.windows (lcOfMon k)) else d
    (d.record recBalForced (leBytes 1 k ++ leBytes 3 mask ++ leBytes 1 (d.rd BAL_FORCE.MINUTES) ++
      leBytes 1 cont.toNat), wrOk)

/-- Forcing of monitor port `k` ends (R231). -/
def Dev.forceEnds (k : Nat) (d : Dev) : Dev :=
  let was := d.noWindows (lcOfMon k)
  let d := d.modBalPort k fun b => { b with forced := none, cont := false }
  if was && d.isLive (lcOfMon k) then d.sendDown (lcOfMon k) ftWrite (d.windows (lcOfMon k)) else d

/-- An UNFORCE command (R231). -/
def Dev.cmdUnforce (k : Nat) (d : Dev) : Did := (d.forceEnds k, wrOk)

/-- A TEST command (R234, R235). DEDUCED, log 61. -/
def Dev.cmdTest (k j : Nat) (d : Dev) : Did :=
  if d.bal.pass then d.balRefuse 5
  else if 64 ≤ k || !d.monUsed k || (d.portRec (lcOfMon k)).inputs ≤ j then d.balRefuse 2
  else (d.modBalPort k fun b => { b with todo := b.todo ++ [(j, true)] }, wrOk)

/-- A TEST_ALL command (R232, R235). -/
def Dev.cmdTestAll (d : Dev) : Did := if d.bal.pass then d.balRefuse 5 else (d.startPass, wrOk)

/-- FORCE (R231). -/
def execForce (sid : Sid) (port : Mon) (s : State) : Host.Outcome State Fault Refusal :=
  s.run fun m d => d.host sid.val fun d => d.asSteward sid.val .bal balCtrl (Dev.cmdForce m sid.val port.val)

/-- UNFORCE (R231). -/
def execUnforce (sid : Sid) (port : Mon) (s : State) : Host.Outcome State Fault Refusal :=
  s.run fun _ d => d.host sid.val fun d => d.asSteward sid.val .bal balCtrl (Dev.cmdUnforce port.val)

/-- FORCE_EXPIRY (R231). MINUTES have elapsed. -/
def execForceExpiry (port : Mon) (s : State) : Host.Outcome State Fault Refusal :=
  s.run fun _ d => if d.alive && (d.balPort port.val).forced.isSome then d.forceEnds port.val else d

/-- TEST (R234). -/
def execBalTest (sid : Sid) (port : Mon) (input : Fin 32) (s : State) : Host.Outcome State Fault Refusal :=
  s.run fun _ d => d.host sid.val fun d =>
    d.asSteward sid.val .bal balCtrl (Dev.cmdTest port.val input.val)

/-- TEST_ALL (R232). -/
def execTestAll (sid : Sid) (s : State) : Host.Outcome State Fault Refusal :=
  s.run fun _ d => d.host sid.val fun d => d.asSteward sid.val .bal balCtrl Dev.cmdTestAll

/-- TEST_PASS_DUE (R232). PERIOD days since the last complete pass have passed. -/
def execTestPassDue (s : State) : Host.Outcome State Fault Refusal :=
  s.run fun m d =>
    if d.alive && m.hasImage && d.works .bal && !d.bal.pass then
      (d.modBal fun x => { x with ageS := max x.ageS (86400 * (d.rd BAL_TEST.PERIOD : Int) - d.clkS) }).startPass
    else d

end Sys2Proof.Machine
end

