-- ==== Sys2Proof/Machine/SafetySystem.lean ====
section
/-! DEFINITION. The safety functions and the Curtain (R261 to R289): inputs and demands, fault loops, the
processor-path compares, faults and their reactions, the safety reset, SHUNT_TRIP's gate and proof tests. -/

namespace Sys2Proof.Machine

/-- Whether the Curtain works: from the end of the start-up sequence on, and not in TRANSPORT. -/
def Dev.curtain (d : Dev) : Bool := d.awake && !d.pwr.inTransport

/-! ### Safety inputs (R272 to R275) -/

def Dev.closedAt (d : Dev) (k : Nat) (b : Bool) : Bool := tget false d.saf.term (2 * k + b.toNat)

/-- The state a channel's terminal shows (R273). -/
def Dev.chanShows (m : Mem) (k : Nat) (b : Bool) (d : Dev) : InState :=
  if d.closedAt k b = (b && m.img.inAntivalent k) then .demand else .healthy

/-- The strings an input acts on. -/
def Img.inStrs (i : Img) (k : Nat) : List Nat := bitsOf 8 (i.inStrings k)

/-- Whether an SDR input in demand forbids a direction on string `s` (R272). -/
def Dev.sdrForbids (m : Mem) (s : Nat) (dis : Bool) (d : Dev) : Bool :=
  (List.range 8).any fun k =>
    d.inDemand k && m.img.inFunc k = (if dis then 3 else 4) && (m.img.inStrings k).testBit s

/-- The direction input `k` forbids is discharge. -/
def Img.sdrDis (i : Img) (k : Nat) : Bool := i.inFunc k = 3

/-- Write or withdraw SDR_CMP in the comparator of a string's direction (R272): the supervisor's share, absent
while
it is in reset (R283). -/
def Dev.setSdr (m : Mem) (s : Nat) (dis on : Bool) (d : Dev) : Dev :=
  if !d.alive || tget false d.saf.sdr (2 * s + dis.toNat) = on then d
  else (d.modSaf fun x => { x with sdr := tset false x.sdr (2 * s + dis.toNat) on }).writeOc m s

/-- A demand begins (R269, R273, R418). DEDUCED, log 89. -/
def Dev.demandBegins (m : Mem) (k : Nat) (d : Dev) : Dev :=
  let f := m.img.inFunc k
  let d := d.abandonProof
  if f = 1 then
    (d.modRet fun r => { r with demand := tset false r.demand k true }).enterSafe m true
  else if f = 2 then
    let d := d.modRet fun r => { r with demand := tset false r.demand k true }
    d.curtainOpen m (if m.img.inBank k then 0x1FF else m.img.inStrings k) 0x0F
  else d.modSaf fun x => { x with demandAt := tset 0 x.demandAt k d.clk }

/-- An SDR input leaves demand: the comparators return to OC where no other input forbids (R272). -/
def Dev.demandEnds (m : Mem) (k : Nat) (d : Dev) : Dev :=
  if m.img.inFunc k = 3 || m.img.inFunc k = 4 then
    d.each (m.img.inStrs k) fun s d =>
      if d.sdrForbids m s (m.img.sdrDis k) then d else d.setSdr m s (m.img.sdrDis k) false
  else d

/-- The supervisor again: the comparators of directions that no input forbids any more return to OC (R272,
R283). -/
def Dev.sdrReclaim (m : Mem) (d : Dev) : Dev :=
  d.each strings fun s d => [false, true].foldl (fun d dis =>
    if d.sdrForbids m s dis then d else d.setSdr m s dis false) d

/-- Latch the discrepancy of input `k` (R274). -/
def Dev.latchDiscrep (k : Nat) (d : Dev) : Dev :=
  let well := d.filtered k false = .healthy && d.filtered k true = .healthy
  (d.modRet fun r => { r with discrep := tset false r.discrep k true }).modSaf fun x =>
    { x with together := tset false x.together k well }

/-- DISCREP of input `k` in ms, and how long its channels have stood in different states, in clk (R274). -/
def Img.inDiscrep (i : Img) (k : Nat) : Nat := i.u16 (i.inRec k + 4)
def Dev.differs (k : Nat) (d : Dev) : Nat := d.clk + 1 - tget 0 d.saf.differAt k

/-- What a newly filtered channel brings to the disagreement of its input (R274): an interval begins, or ends,
and one
that lasted longer than 1.03 T + 1 ms has faulted. DEDUCED, log 101. -/
def Dev.judgeChannels (m : Mem) (k : Nat) (d : Dev) : Dev :=
  let a := d.filtered k false
  let b := d.filtered k true
  if a = .unknown || b = .unknown then d
  else if a = b then
    let late := tget 0 d.saf.differAt k ≠ 0 && decide (msClk 1 * (103 * m.img.inDiscrep k + 100) < 100 * d.differs k)
    let d := d.modSaf fun x => { x with differAt := tset 0 x.differAt k 0 }
    let d := if late && !tget false d.saf.ret.discrep k then d.latchDiscrep k else d
    if a = .healthy then d.modSaf fun x => { x with together := tset false x.together k true } else d
  else if tget 0 d.saf.differAt k = 0 then
    d.modSaf fun x => { x with differAt := tset 0 x.differAt k (d.clk + 1) }
  else d

/-- SAFETY_INPUT_CHANGE (R273). The terminal changes; the filter decides later. -/
def execSafetyInputChange (input : Fin 8) (chB closed : Bool) (s : State) :
    Host.Outcome State Fault Refusal :=
  s.run fun _ d => d.modSaf fun x => { x with term := tset false x.term (2 * input.val + chB.toNat) closed }

/-- INPUT_CHANNEL_FILTERED (R273). The channel takes the state its terminal has held for FILTER. -/
def execInputChannelFiltered (input : Fin 8) (chB : Bool) (s : State) :
    Host.Outcome State Fault Refusal :=
  s.run fun m d =>
    let k := input.val
    if !d.curtain || m.img.inFunc k = 0 then d
    else
      let was := d.inDemand k
      let e := (d.modSaf fun x => { x with
        filt := tset .unknown x.filt (2 * k + chB.toNat) (d.chanShows m k chB) }).judgeChannels m k
      if e.inDemand k && !was then e.demandBegins m k
      else if was && !e.inDemand k then e.demandEnds m k
      else e

/-- DISCREPANCY (R274). The channels have disagreed beyond DISCREP, as a channel of the safety system judges, no
sooner than 0.97 T − 1 ms: the discrepancy latches; the demand has acted already. DEDUCED, log 101. -/
def execDiscrepancy (input : Fin 8) (s : State) : Host.Outcome State Fault Refusal :=
  s.run fun m d =>
    let k := input.val
    if d.curtain && m.img.inFunc k ≠ 0 && tget 0 d.saf.differAt k ≠ 0 &&
        decide (msClk 1 * (97 * m.img.inDiscrep k - 100) ≤ 100 * d.differs k) then
      d.latchDiscrep k
    else d

/-- SDR_COMPARATOR_WRITE (R272). SDR_TIME after the demand, SDR_CMP stands in the comparators of the
forbidden direction. -/
def execSdrComparatorWrite (input : Fin 8) (s : State) : Host.Outcome State Fault Refusal :=
  s.run fun m d =>
    let k := input.val
    if d.alive && d.inDemand k && (m.img.inFunc k = 3 || m.img.inFunc k = 4) then
      d.each (m.img.inStrs k) fun s d => d.setSdr m s (m.img.sdrDis k) true
    else d

/-- At a sweep end SDR_CMP is written where the cycle-mean current in the forbidden direction lies below it
(R272). -/
def Dev.sdrSweepEnd (m : Mem) (d : Dev) : Dev :=
  d.each strings fun s d =>
    match tget none d.acq.mean s with
    | none => d
    | some i =>
      let d := if d.sdrForbids m s true && decide (-i < m.img.sdrCmp s) then d.setSdr m s true true else d
      if d.sdrForbids m s false && decide (i < m.img.sdrCmp s) then d.setSdr m s false true else d

/-! ### Processor-path compares (R270 to R272, R277) -/

/-- A trip of SLW, SLC or SDR opens string `s`; while it is already opening for that cause, a further sample
beyond the threshold adds nothing (R196: one record). DEDUCED, log 89. -/
def Dev.tripString (m : Mem) (s : Nat) (d : Dev) : Dev :=
  if d.strState s = 8 && tget 0 d.saf.ret.latch s = 0x0F then d else d.openString m 0x0F s

/-- SLW on one CRC-good cell sample (R270); absent while the supervisor is in reset (R283). -/
def Dev.slwCompare (m : Mem) (c code : Nat) (disturbed : Bool) (d : Dev) : Dev :=
  if !d.alive then d else
  let s := d.cellStr c
  let w := if disturbed then 10 * m.img.distWiden s else 0
  if code + w < m.img.slwLo s || m.img.slwHi s + w < code || 50000 < code then
    let n := tget 0 d.saf.slw c + 1
    let d := d.modSaf fun x => { x with slw := tset 0 x.slw c n }
    if m.img.slwCount s ≤ n then d.tripString m s else d
  else d.modSaf fun x => { x with slw := tset 0 x.slw c 0 }

/-- The value SLC compares with (R271), or 1.10 × the degraded cap where that is lower (R277). -/
def Dev.slcAmps (m : Mem) (s : Nat) (dis : Bool) (d : Dev) : Rat :=
  let v := if dis then m.img.slcDis s else m.img.slcChg s
  if d.saf.slcCap && d.degradeCap m s * 11 / 10 < v then d.degradeCap m s * 11 / 10 else v

/-- One direction of SLC and SDR on a CRC-good current sample `i` taken at `t` (R271, R272), with `i`
counted positive in that direction. -/
def Dev.currentCompare (m : Mem) (s : Nat) (dis : Bool) (i : Rat) (t : Nat) (d : Dev) : Dev :=
  let key := 2 * s + dis.toNat
  let d :=
    if d.slcAmps m s dis < i then
      let first := if tget 0 d.saf.slcRun key = 0 then t else tget 0 d.saf.slcRun key - 1
      let d := d.modSaf fun x => { x with slcRun := tset 0 x.slcRun key (first + 1) }
      if msClk (m.img.u16 (m.img.strSaf s + 10)) ≤ t - first then d.tripString m s else d
    else d.modSaf fun x => { x with slcRun := tset 0 x.slcRun key 0 }
  let due := (List.range 8).any fun k =>
    d.inDemand k && m.img.inFunc k = (if dis then 3 else 4) && (m.img.inStrings k).testBit s &&
      decide (tget 0 d.saf.demandAt k + msClk (m.img.u16 (m.img.inRec k + 8)) ≤ t)
  if due && decide (m.img.sdrCmp s < i) then d.tripString m s else d

/-- SLC and SDR on a current sample, positive when charging; absent while the supervisor is in reset (R283). -/
def Dev.currentCompares (m : Mem) (s : Nat) (i : Rat) (t : Nat) (d : Dev) : Dev :=
  if d.alive then (d.currentCompare m s false i t).currentCompare m s true (-i) t else d

/-! ### Fault loops (R79, R80, R283, R418) -/

/-- The supervisor's measurement of a loop, while it runs (R80). -/
def Dev.measureLoop (n : Nat) (current : BitVec 16) (d : Dev) : Dev :=
  if d.alive then d.wr (PORT_LOOP.LOOP_CURR n) current.toNat else d

/-- Whether link controller `n`'s loop is judged: a string uses its port (R81). -/
def Dev.loopJudged (d : Dev) (n : Nat) : Bool := d.curtain && d.portUsed n

/-- LOOP_LEAVES_WINDOW (R79, R80). The current, in 10 µA, crosses an edge of the comparator's window, which
lies outside 4.0 to 16.0 mA: the debounce starts. -/
def execLoopLeavesWindow (lc : Lc) (current : BitVec 16) (s : State) : Host.Outcome State Fault Refusal :=
  s.run fun _ d =>
    let n := lc.val
    if d.loopJudged n && (current.toNat < 400 || 1600 < current.toNat) then
      let d := d.measureLoop n current
      let d := d.modSaf fun x => { x with
        loopOut := tset false x.loopOut n true, loopDeb := tset false x.loopDeb n true }
      d.wr (PORT_STATE.LOOP_FAULT n) 1
    else d

/-- LOOP_RETURNS_TO_WINDOW (R80). Inside the edges again: a debounce that runs ends without effect. -/
def execLoopReturnsToWindow (lc : Lc) (current : BitVec 16) (s : State) :
    Host.Outcome State Fault Refusal :=
  s.run fun _ d =>
    let n := lc.val
    if d.loopJudged n && 360 ≤ current.toNat && current.toNat ≤ 1640 then
      let d := d.measureLoop n current
      let d := d.modSaf fun x => { x with
        loopOut := tset false x.loopOut n false, loopDeb := tset false x.loopDeb n false }
      d.wr (PORT_STATE.LOOP_FAULT n) 0
    else d

/-- LOOP_DEBOUNCE_EXPIRY (R80, R269, R418). The excursion has lasted 64 ck: the loop trip latches and the
groups of its map entry open. A loop of an armed cassette trips nothing (R88). DESIGN CHOICE, log 117. -/
def execLoopDebounceExpiry (lc : Lc) (s : State) : Host.Outcome State Fault Refusal :=
  s.run fun m d =>
    let n := lc.val
    if d.loopJudged n && tget false d.saf.loopDeb n then
      let d := d.modSaf fun x => { x with loopDeb := tset false x.loopDeb n false }
      if d.on PORT_SWAP_STATUS.ARMED && n / 9 = d.rd PORT_SWAP_STATUS.CASSETTE then d
      else
        let d := d.modRet fun r => { r with loops := tset false r.loops n true }
        d.curtainOpen m (m.img.loopMap n) 0x0E
    else d

/-- LOOP_MARGINAL (R79, R80). 100 ms in a marginal band: flag and record. -/
def execLoopMarginal (lc : Lc) (current : BitVec 16) (s : State) : Host.Outcome State Fault Refusal :=
  s.run fun _ d =>
    let n := lc.val
    let i := current.toNat
    if d.alive && d.portUsed n && ((400 ≤ i && i ≤ 800) || (1200 ≤ i && i ≤ 1600)) then
      ((d.measureLoop n current).wr (PORT_STATE.LOOP_MARGINAL n) 1).record recLoopMarginal
        (BitVec.ofNat 8 n :: leBytes 2 i)
    else d

/-! ### Faults and the cross-compare (R17, R262 to R264, R276) -/

/-- A fault's condition has gone. -/
def Dev.condGone (code : Nat) (d : Dev) : Dev :=
  d.modSaf fun x => { x with cond := tset false x.cond code false }

/-- The heartbeat is lost (R263): the Curtain opens every gate and the module enters SAFE. -/
def Dev.heartbeatLost (m : Mem) (d : Dev) : Dev :=
  if d.saf.hbLost then d
  else (d.modSaf fun x => { x with hbLost := true, pause := false }).safFault m 7 1

/-- The bytes over which the CRC-16 of a message runs: the order in which it carries its content is the model's. DESIGN CHOICE, log 102. -/
def Cross.bytes (x : Cross) : List Byte :=
  leBytes 2 x.seq ++ leBytes 9 x.loops ++ leBytes 3 x.inputs ++ leBytes 2 (x.gates + 512 * x.rly.toNat)

/-- The message as the supervisor sends it: its loop readings, its view of the channels, and the gates as the
retained
state asks (R262). -/
def Dev.crossOf (m : Mem) (seq inputs : Nat) (d : Dev) : Cross :=
  { seq := seq
    loops := maskOf 72 fun n => decide (400 ≤ d.rd (PORT_LOOP.LOOP_CURR n)) && decide (d.rd (PORT_LOOP.LOOP_CURR n) ≤ 1600)
    inputs := inputs
    gates := maskOf 9 fun g => !d.gateHeld g
    rly := d.rlyDriven m }

/-- The channels and the reset pair as the Curtain sees them. -/
def Dev.curtainInputs (d : Dev) : Nat :=
  maskOf 18 fun k =>
    if k < 16 then tget InState.unknown d.saf.filt k = .demand
    else d.on (if k = 16 then SAF_RESET.A else SAF_RESET.B)

/-- The Curtain's answer (R262). -/
def Dev.crossAnswer (m : Mem) (seq : Nat) (d : Dev) : Cross :=
  { seq := seq, loops := maskOf 72 fun n => !tget false d.saf.loopOut n, inputs := d.curtainInputs
    gates := maskOf 9 fun g => !d.gateHeld g, rly := d.rlyGate m }

/-- Whether the views of a loop differ (R276): the Curtain finds it outside while the supervisor reads 4.4 to
15.6 mA, or the supervisor reads below 3.2 or above 16.8 mA while the Curtain finds it inside. -/
def Dev.loopDiffers (n : Nat) (d : Dev) : Bool :=
  let i := d.rd (PORT_LOOP.LOOP_CURR n)
  d.portUsed n &&
    (if tget false d.saf.loopOut n then decide (440 ≤ i) && decide (i ≤ 1560)
     else decide (i < 320) || decide (1680 < i))

/-- Whether the views of a channel, or of a contact of the reset pair, differ (R262); an input whose discrepancy
stands is exempt (R274). -/
def Dev.inputDiffers (m : Mem) (inputs k : Nat) (d : Dev) : Bool :=
  (decide (16 ≤ k) || m.img.inFunc (k / 2) ≠ 0 && !tget false d.saf.ret.discrep (k / 2) &&
      tget InState.unknown d.saf.filt k ≠ .unknown) &&
    d.curtainInputs.testBit k ≠ inputs.testBit k

/-- Whether the views of item `k` differ: the loops at 0 to 71, the channels from 72 on. -/
def Dev.itemDiffers (m : Mem) (inputs k : Nat) (d : Dev) : Bool :=
  if k < 72 then d.loopDiffers k else d.inputDiffers m inputs (k - 72)

/-- One item's run of mismatches grows or ends; at three it is a fault, a shorter one is counted (R262, R276).
After
reclaim the first message must pass (R283). -/
def Dev.mismatch (m : Mem) (first : Bool) (inputs k : Nat) (d : Dev) : Dev :=
  let n := tget 0 d.saf.runs k
  if d.itemDiffers m inputs k then
    let d := d.modSaf fun x => { x with runs := tset 0 x.runs k (min 3 (n + 1)) }
    if n = 2 || first then d.safFault m (if k < 72 then 1 else 2) 0 else d
  else if n = 0 then d
  else
    let d := d.modSaf fun x => { x with runs := tset 0 x.runs k 0 }
    if n < 3 then d.bump SAF_XCMP.MISMATCH else d

/-- The compare of every view in a valid message (R262). -/
def Dev.compareViews (m : Mem) (first : Bool) (inputs : Nat) (d : Dev) : Dev :=
  let d := if (List.range 72).any (fun k => d.itemDiffers m inputs k) then d else d.condGone 1
  let d := if (List.range 18).any (fun k => d.itemDiffers m inputs (72 + k)) then d else d.condGone 2
  d.each (List.range 90) (Dev.mismatch m first inputs)

/-- The supervisor's readings of the loops that have changed (R80). -/
def Dev.readLoops (l : List (Lc × BitVec 16)) (d : Dev) : Dev :=
  l.foldl (fun d e => d.wr (PORT_LOOP.LOOP_CURR e.1.val) e.2.toNat) d

/-- CROSS_COMPARE (R80, R262, R263, R264, R276, R283). The supervisor measures the loops and sends its
message; one
with a bad CRC or out of order is counted and nothing more. DESIGN CHOICE, log 102. -/
def execCrossCompare (seq crc : BitVec 16) (view : CrossView) (s : State) : Host.Outcome State Fault Refusal :=
  s.run fun m d =>
    if !d.alive || d.pwr.inTransport then d
    else
      let x := d.saf
      let d := d.readLoops view.loops
      let out := d.crossOf m seq.toNat view.inputs.toNat
      let good := crc16 out.bytes = crc.toNat
      let inOrder := match x.xseq with
        | some q => q = seq.toNat
        | none => true
      let next := if good then (seq.toNat + 1) % 65536 else (x.xseq.getD 0 + 1) % 65536
      let d := d.modSaf fun y => { y with
        xseq := if good || x.xseq.isSome then some next else none, first := false, sent := some out }
      if !(good && inOrder) then
        let d := (d.bump SAF_XCMP.MSG_MISS).modSaf fun y => { y with badRun := min 3 (y.badRun + 1) }
        if x.badRun = 2 || x.first then d.safFault m 3 1 else d
      else
        let d := d.modSaf fun y => { y with badRun := 0, hbLost := false, pause := false, heard := d.clk }
        let d := ((d.condGone 3).condGone 7).compareViews m (x.first || x.pause) view.inputs.toNat
        d.modSaf fun y => { y with answer := some (d.crossAnswer m seq.toNat) }

/-- HB_LOST (R263, R276). No valid message for 2²³ ck; during a bed pause R264 judges instead.
DESIGN CHOICE, log 5. -/
def execHbLost (s : State) : Host.Outcome State Fault Refusal :=
  s.run fun m d => if d.curtain && !d.saf.pause then d.heartbeatLost m else d

/-- BED_PAUSE_EXPIRED (R264). The window of 2²⁷ ck ends with no message. -/
def execBedPauseExpired (s : State) : Host.Outcome State Fault Refusal :=
  s.run fun m d => if d.curtain && d.saf.pause then d.heartbeatLost m else d

/-- CLOCK_CHECK (R17). The system clock periods of one window of 1,024 ck, against 3,200 ± 10%. -/
def execClockCheck (count : Nat) (s : State) : Host.Outcome State Fault Refusal :=
  s.run fun m d => if d.curtain && (count < 2880 || 3520 < count) then d.heartbeatLost m else d

/-- CURTAIN_SELFTEST (R276). -/
def execCurtainSelftest (pass : Bool) (s : State) : Host.Outcome State Fault Refusal :=
  s.run fun m d => if !d.curtain then d else if pass then d.condGone 4 else d.safFault m 4 1

/-- SUP_SELFTEST (R276). -/
def execSupSelftest (pass : Bool) (s : State) : Host.Outcome State Fault Refusal :=
  s.run fun m d =>
    if !d.alive || d.pwr.inTransport then d else if pass then d.condGone 5 else d.safFault m 5 0

/-- GATE_READBACK (R276). -/
def execGateReadback (_group : Fin 9) (s : State) : Host.Outcome State Fault Refusal :=
  s.run fun m d => if d.curtain then d.safFault m 6 1 else d

/-- CURTAIN_TEMP (R276). -/
def execCurtainTemp (s : State) : Host.Outcome State Fault Refusal :=
  s.run fun m d => if d.curtain then d.safFault m 8 1 else d

/-! ### DEGRADED and its end (R277, R278, R276) -/

/-- DEGRADED_SLC_CAP (R277 step 3). -/
def execDegradedSlcCap (s : State) : Host.Outcome State Fault Refusal :=
  s.run fun m d =>
    if d.alive && d.saf.ret.degraded && !d.saf.slcCap then
      (d.modSaf fun x => { x with slcCap := true }).each strings (Dev.writeOc m)
    else d

/-- DEGRADE_TIMEOUT (R278). Every string opens in order; SAFE follows the last. -/
def execDegradeTimeout (s : State) : Host.Outcome State Fault Refusal :=
  s.run fun m d =>
    if d.alive && d.saf.ret.degraded && !d.saf.degOut then
      let d := d.modSaf fun x => { x with degOut := true }
      d.openAll m 0x11
    else d

/-- RECOVERY_TIME_END (R276, R280). RECOVERY after the reaction has completed. -/
def execRecoveryTimeEnd (s : State) : Host.Outcome State Fault Refusal :=
  s.run fun _ d =>
    if d.saf.recovering && !d.saf.ret.degraded && d.allOpen then
      d.modSaf fun x => { x with recovering := false }
    else d

/-! ### Safety reset (R281, R282) -/

/-- The full class, and a module with no image, resets by edge (R282, R374). DEDUCED, log 65. -/
def edgeReset (m : Mem) : Bool := m.full || !m.hasImage

/-- Whether an ESTOP or SAFE_DISCONNECT input is in demand on either channel. -/
def Dev.demandPresent (m : Mem) (d : Dev) : Bool :=
  (List.range 8).any fun k => (m.img.inFunc k = 1 || m.img.inFunc k = 2) && d.inDemand k

/-- Whether a latched fault's condition still holds. For GATE_READBACK and CURTAIN_TEMP no rule says how
the module finds that it has gone: `gone` says so. -/
def Dev.faultHolds (gone : Bool) (d : Dev) : Bool :=
  (List.range 9).any fun c =>
    tget false d.saf.ret.faults c && tget false d.saf.cond c && !((c = 6 || c = 8) && gone)

/-- The first reason of R281 that refuses a valid reset, before the self-test; 0 for none. -/
def Dev.resetReason (m : Mem) (gone : Bool) (d : Dev) : Nat :=
  if d.on SAF_RESET.STUCK then 1
  else if d.demandPresent m then 2
  else if controllers.any fun n => tget false d.saf.ret.loops n && tget false d.saf.loopOut n then 2
  else if d.saf.recovering then 3
  else if d.faultHolds gone then 4
  else 0

/-- A valid reset (R281): counted, refused with its reason or met by the Curtain's self-test. DEDUCED, log 65. -/
def Dev.validReset (m : Mem) (d : Dev) : Dev :=
  let r := d.resetReason m d.drawBool.1
  let d := d.drawBool.2.bumpMod SAF_RESET.COUNT
  if r ≠ 0 then d.wr SAF_RESET.REASON r else d.modSaf fun x => { x with testing := true }

/-- RESET_PAIR_CHANGE (R282). `heldCurtain` and `heldSup` are the length in ms each channel gives the press
that ends, `apart` that the two contacts changed more than 200 ms apart. -/
def execResetPairChange (a b : Bool) (heldCurtain heldSup : Nat) (apart : Bool) (s : State) :
    Host.Outcome State Fault Refusal :=
  s.run fun m d =>
    let d := (d.flag SAF_RESET.A a).flag SAF_RESET.B b
    let d := if apart && a = b && d.alive then d.wr SAF_RESET.REASON 5 else d
    if a && b then d.modSaf fun x => { x with pressed := true, counts := !apart }
    else if !a && !b && d.saf.pressed then
      let ok := d.saf.counts && !apart && 50 ≤ heldCurtain && heldCurtain ≤ 3000 &&
        50 ≤ heldSup && heldSup ≤ 3000
      let d := d.modSaf fun x => { x with pressed := false, counts := false }
      if edgeReset m && ok && d.alive then d.validReset m else d
    else d

/-- LEVEL_RESET (R282). In the compact class the pair has been pressed for 200 ms; the next reset needs a
release of 100 ms first. -/
def execLevelReset (s : State) : Host.Outcome State Fault Refusal :=
  s.run fun m d =>
    if d.alive && !edgeReset m && d.saf.pressed && d.saf.counts && d.on SAF_RESET.ARMED then
      (d.wr SAF_RESET.ARMED 0).validReset m
    else d

/-- RESET_STUCK (R282). -/
def execResetStuck (s : State) : Host.Outcome State Fault Refusal :=
  s.run fun _ d =>
    if d.alive && d.saf.pressed && !d.on SAF_RESET.STUCK then
      ((d.wr SAF_RESET.STUCK 1).wr SAF_RESET.ARMED 0).record recResetStuck []
    else d

/-- RESET_STUCK_CLEAR (R282). Released for long enough: RESET_STUCK clears and the next press is judged. -/
def execResetStuckClear (s : State) : Host.Outcome State Fault Refusal :=
  s.run fun _ d =>
    if d.alive && !d.on SAF_RESET.A && !d.on SAF_RESET.B then
      (d.wr SAF_RESET.STUCK 0).wr SAF_RESET.ARMED 1
    else d

/-- Whether a reset has anything to clear. -/
def Dev.anythingSet (d : Dev) : Bool :=
  !(d.saf.ret.latch.isEmpty && d.saf.ret.loops.isEmpty && d.saf.ret.demand.isEmpty &&
    d.saf.ret.discrep.isEmpty && d.saf.ret.faults.isEmpty) || d.saf.ret.safe || d.saf.ret.degraded

/-- What a successful reset leaves of the retained state: discrepancies of inputs that have not been healthy
on both
channels together (R274). -/
def Dev.cleared (d : Dev) : Retained :=
  { latch := [], loops := [], demand := []
    discrep := d.saf.ret.discrep.filter fun e => !tget false d.saf.together e.1
    faults := [], safe := false, degraded := false }

/-- A recovery phase runs for 60 s from now (R388). -/
def Dev.startRecovery (d : Dev) : Dev := d.modPwr fun p => { p with recovEnd := some (d.clk + secClk 60) }

/-- RESET_SELFTEST_DONE (R281). The Curtain's self-test at a reset ends. A condition of the table that has
arisen
meanwhile, or a failed self-test, refuses the reset; otherwise everything clears in one step and the gates are
re-enabled. DEDUCED, log 65. -/
def execResetSelftestDone (pass : Bool) (s : State) : Host.Outcome State Fault Refusal :=
  s.run fun m d =>
    if !d.saf.testing then d
    else
      let d := d.modSaf fun x => { x with testing := false }
      let r := d.resetReason m d.drawBool.1
      let d := d.drawBool.2
      if r ≠ 0 || !pass then d.wr SAF_RESET.REASON (if r ≠ 0 then r else 4)
      else
        let groups := maskOf 9 fun g => tget 0 d.saf.ret.latch g ≠ 0
        let faults := maskOf 9 fun c => tget false d.saf.ret.faults c
        let had := d.anythingSet
        let d := if had && !d.thw.latch then d.startRecovery else d
        let d := d.modRet fun _ => d.cleared
        let d := if d.saf.slcCap then
            (d.modSaf fun x => { x with slcCap := false }).each strings (Dev.writeOc m)
          else d
        let d := d.modSaf fun x => { x with cond := [], degOut := false }
        let d := (d.wr SAF_STATUS.FIRST_FAULT 0).wr SAF_STATUS.SECOND_FAULT 0
        let d := d.showLatches
        d.record recSafetyReset (leBytes 2 groups ++ leBytes 1 (faults / 2))

/-! ### SHUNT_TRIP's gate (R284) -/

/-- SHUNT_STUCK (R284). -/
def execShuntStuck (s : State) : Host.Outcome State Fault Refusal :=
  s.run fun _ d =>
    if d.curtain && !d.saf.shuntOpen then
      (d.modSaf fun x => { x with shuntOpen := true }).record recShuntStuck []
    else d

/-- SHUNT_GATE_REARM (R284). -/
def execShuntGateRearm (s : State) : Host.Outcome State Fault Refusal :=
  s.run fun _ d => if d.seq.firing then d else d.modSaf fun x => { x with shuntOpen := false }

/-! ### Proof test (R286) -/

/-- The configured gate groups: each configured string's, and the bank's where its contactors are fitted. -/
def Dev.groupsConfigured (m : Mem) (d : Dev) : Nat :=
  maskOf 9 fun g => if g = 8 then m.img.bankPresent else d.configured g

/-- A PROOF_TEST command (R286). DEDUCED, log 67. -/
def Dev.cmdProof (sid groups : Nat) (d : Dev) : Did :=
  let a := SAF_CTRL.CMD.addr
  if (d.sess sid).role ≠ .safetySteward then (d.wr SAF_PROOF.RESULT 5, wrRefused 5 a)
  else if (bitsOf 8 groups).any (fun s => !d.isOpen s) || (groups.testBit 8 && !d.allOpen) then
    (d.wr SAF_PROOF.RESULT 4, wrRefused 4 a)
  else
    (((d.wr SAF_PROOF.RESULT 1).wr SAF_PROOF.GROUPS groups).modSaf fun x =>
      { x with proof := some groups }, wrOk)

/-- PROOF_TEST (R286). -/
def execProofTest (sid : Sid) (groups : BitVec 9) (s : State) : Host.Outcome State Fault Refusal :=
  s.run fun _ d => d.host sid.val fun d => d.cmdProof sid.val groups.toNat

/-- PROOF_TEST_DONE (R286). A failure latches GATE_READBACK, or CURTAIN_SELFTEST where the loop
comparators failed (`loops`). -/
def execProofTestDone (pass loops : Bool) (s : State) : Host.Outcome State Fault Refusal :=
  s.run fun m d =>
    match d.saf.proof with
    | none => d
    | some g =>
      let d := d.modSaf fun x => { x with proof := none }
      let d := d.wr SAF_PROOF.RESULT (if pass then 2 else 3)
      let d := d.record recSafProof (leBytes 2 g ++ leBytes 1 (if pass then 2 else 3))
      if pass then
        let mask := Nat.lor d.nv.proofMask g
        if Nat.land mask (d.groupsConfigured m) = d.groupsConfigured m then
          (d.modNv fun n => { n with proofS := -(d.clkS : Int), proofMask := 0 }).wr SAF_STATUS.PROOF_DUE 0
        else d.modNv fun n => { n with proofMask := mask }
      else d.safFault m (if loops then 4 else 6) 1

/-- PROOF_DUE (R286). PROOF_DAYS have passed: flag and one record. -/
def execProofDue (s : State) : Host.Outcome State Fault Refusal :=
  s.run fun m d =>
    if d.alive && m.hasImage && !d.on SAF_STATUS.PROOF_DUE then
      let d := d.modNv fun n => { n with proofS := max n.proofS (86400 * m.img.proofDays - d.clkS : Int) }
      (d.wr SAF_STATUS.PROOF_DUE 1).record recProofDue []
    else d

end Sys2Proof.Machine
end

