-- ==== Sys2Proof/Machine/Limits.lean ====
section
/-! DEFINITION. Power envelope and throttling (R155 to R175): the base limits of a processed sweep, the
publication, and compliance with its escalation. -/

namespace Sys2Proof.Machine

/-! ### The DERATE and CONSERV sections (R157, R158, R161) -/

def Img.derate (i : Img) (s : Nat) : Nat := i.at_ secDerate + 512 * s

/-- I_CAP at horizon `h`, in charge or discharge. -/
def Img.iCap (i : Img) (s : Nat) (dis : Bool) (h : Nat) : Rat := f32 (i.u32 (i.derate s + 16 * dis.toNat + 4 * h))
def Img.pCap (i : Img) (s : Nat) (dis : Bool) : Rat := f32 (i.u32 (i.derate s + 32 + 4 * dis.toNat))
def Img.tdTemp (i : Img) (s k : Nat) : Rat := (signed 16 (i.u16 (i.derate s + 40 + 6 * k)) : Rat) / 100
def Img.tdFactor (i : Img) (s : Nat) (dis : Bool) (k : Nat) : Rat :=
  (i.u16 (i.derate s + 42 + 6 * k + 2 * dis.toNat) : Rat) / 10000
/-- CHG_TAPER, CHG_END, DIS_TAPER, DIS_END as 0 to 3. -/
def Img.socWin (i : Img) (s k : Nat) : Rat := (i.u16 (i.derate s + 136 + 2 * k) : Rat) / 10000

/-- The CONSERV record's current of string `w`, or of the bank as 8. -/
def Img.iRec (i : Img) (w : Nat) (dis : Bool) (h : Nat) : Rat :=
  f32 (i.u32 (i.at_ secConserv + 64 * w + 16 * dis.toNat + 4 * h))
def Img.pRec (i : Img) (w : Nat) (dis : Bool) : Rat := f32 (i.u32 (i.at_ secConserv + 64 * w + 32 + 4 * dis.toNat))

/-- ftemp_d(T): linear in the derating table, clamped to its ends (R157). -/
def Img.ftemp (i : Img) (s : Nat) (dis : Bool) (t : Rat) : Rat :=
  if t ≤ i.tdTemp s 0 then i.tdFactor s dis 0
  else if i.tdTemp s 15 ≤ t then i.tdFactor s dis 15
  else
    let k := (List.range 15).foldl (fun a k => if i.tdTemp s k ≤ t then k else a) 0
    let w := (t - i.tdTemp s k) / (i.tdTemp s (k + 1) - i.tdTemp s k)
    i.tdFactor s dis k + (i.tdFactor s dis (k + 1) - i.tdFactor s dis k) * w

/-- A linear taper: 1 at or before `a`, 0 at or beyond `b`. -/
def taper (x a b : Rat) : Rat := clamp ((b - x) / (b - a)) 0 1

/-! ### Headroom and base limits (R156, R157) -/

/-- The horizons, and t_h in s. -/
def horizons : List Nat := [0, 1, 2, 3]
def horizonS (h : Nat) : Rat := if h = 0 then 2 else if h = 1 then 10 else if h = 2 then 60 else 900

/-- The stale factor kR of a string (R156). -/
def Dev.staleFactor (s : Nat) (d : Dev) : Rat :=
  let r := d.strLrn s
  if r.stale && r.learned then max 1 (r.r / sumOf (d.cellsOf s) fun c => (d.cell c).rohm) else 1

/-- v_base and Reff of one cell at one horizon (R156). -/
def Dev.cellBase (m : Mem) (w : Sweep) (kR : Rat) (s h c : Nat) (d : Dev) : Rat × Rat :=
  let p := d.prof c
  let x := d.cell c
  let k := m.img.rtemp p x.heat * kR
  let ro := x.rohm * k
  let ra := x.rpa * k
  let rb := x.rpb * k
  let l := w.pairs c s
  let now := if w.n / 4 ≤ l.length && !l.isEmpty then meanOf (l.map (·.1)) - ro * meanOf (l.map (·.2))
    else m.img.ocv p x.soc x.heat + x.va + x.vb
  let ea := Config.exp (-(horizonS h / (ra * x.cpa)))
  let eb := Config.exp (-(horizonS h / (rb * x.cpb)))
  (now - x.va * (1 - ea) - x.vb * (1 - eb),
   ro + ra * (1 - ea) + rb * (1 - eb) + m.img.docv p (clamp x.soc 0 1) x.heat * horizonS h / (3600 * x.q))

/-- The headroom current of one cell in one direction, from its v_base and Reff (R156). -/
def Dev.cellHead (m : Mem) (s : Nat) (dis : Bool) (c : Nat) (b : Rat × Rat) (d : Dev) : Rat :=
  let p := d.prof c
  if dis then
    max 0 ((b.1 - (max (m.img.vEmpty p) ((m.img.slwLo s : Rat) / 10000) + (d.rd LIM_CFG.V_MARGIN_DIS : Rat) / 1000)) / b.2)
  else
    max 0 ((min (m.img.vFull p) ((m.img.slwHi s : Rat) / 10000) - (d.rd LIM_CFG.V_MARGIN_CHG : Rat) / 1000 - b.1) / b.2)

/-- fsoc_d of a string (R157). -/
def Dev.fsoc (m : Mem) (s : Nat) (dis : Bool) (d : Dev) : Rat :=
  let l := (d.cellsOf s).map d.soc01
  if dis then
    if d.on (EST_SFLAGS.COUNT_VOLT_DISAGREE s) then 1
    else taper (-(l.foldl min 1)) (-(m.img.socWin s 2)) (-(m.img.socWin s 3))
  else taper (l.foldl max 0) (m.img.socWin s 0) (m.img.socWin s 1)

/-- The base limits of a string from the sweep just processed (R156, R157). -/
def Dev.limBase (m : Mem) (w : Sweep) (s : Nat) (d : Dev) : Dev :=
  let l := d.cellsOf s
  let kR := d.staleFactor s
  let b (h c : Nat) : Rat × Rat := d.cellBase m w kR s h c
  let ts := l.map fun c => (d.cell c).heat
  let hot := ts.foldl max (ts.headD 0)
  let cold := ts.foldl min (ts.headD 0)
  let cur (dis : Bool) (h : Nat) : Rat :=
    l.foldl (fun a c => min a (d.cellHead m s dis c (b h c))) (m.img.iCap s dis h) *
      min (m.img.ftemp s dis hot) (m.img.ftemp s dis cold) * d.fsoc m s dis
  let r := sumOf l fun c => (d.cell c).rohm * m.img.rtemp (d.prof c) (d.cell c).heat * kR
  let bc := horizons.map (cur false)
  let bd := horizons.map (cur true)
  let sv := horizons.map fun h => sumOf l fun c => (b h c).1
  let sr := horizons.map fun h => sumOf l fun c => (b h c).2
  d.modOne s fun x => { x with baseChg := bc, baseDis := bd, sumV := sv, sumR := sr, r := r }

/-! ### One string's limits (R159 to R162) -/

def bedLims : Nat := 5
def bedNets : Nat := 10

/-- An outage in which the conservative limits are published with BED_UPDATE (R58). -/
def Dev.bedUpdate (d : Dev) : Bool := d.outage bedEstm || d.outage bedLims

/-- CONSERV_MODE for every string (R58, R161). -/
def Dev.conservAll (d : Dev) : Bool := !d.works .est || d.lim.conserv || d.bedUpdate

/-- CONSERV_MODE for string `s` (R161). -/
def Dev.conservStr (s : Nat) (d : Dev) : Bool :=
  d.conservAll || (d.cellsOf s).any fun c => d.on (CELL_FLAGS.ECC_REINIT c)

/-- The throttle factor of a string (R159): thermal, supply and host. -/
def Dev.throttle (s : Nat) (d : Dev) : Rat :=
  min (min ((d.rd (THW_SFACT.FACTOR s) : Rat) / 10000) (if 4 ≤ d.stage then 0 else 1))
    (min 1 ((d.rd (LIM_HOST.FACTOR s) : Rat) / 10000))

/-- The largest MISS_COUNT among a string's ports (R86). -/
def Dev.missMax (s : Nat) (d : Dev) : Nat := (d.portsOf s).foldl (fun a n => max a (d.rd (PORT_STATE.MISS_COUNT n))) 0

/-- The link-age factor (R86). -/
def Dev.linkAge (s : Nat) (d : Dev) : Rat :=
  let l := d.rd PORT_CFG.LINK_MISS_LIMIT
  ((l - d.missMax s : Nat) : Rat) / (l : Nat)

/-- The base limit of a string (R157). -/
def Dev.baseAmps (m : Mem) (s : Nat) (dis : Bool) (h : Nat) (d : Dev) : Rat :=
  if d.conservStr s then m.img.iRec s dis h
  else ((if dis then (d.one s).baseDis else (d.one s).baseChg).getD h 0)

/-- R159 steps 1 and 2, and all of it. -/
def Dev.scaledAmps (m : Mem) (s : Nat) (dis : Bool) (h : Nat) (d : Dev) : Rat :=
  d.baseAmps m s dis h * d.throttle s * d.linkAge s
def Dev.cappedAmps (m : Mem) (s : Nat) (dis : Bool) (h : Nat) (d : Dev) : Rat :=
  if d.sdrForbids m s dis then 0 else min (d.scaledAmps m s dis h) (d.slcAmps m s dis)

/-- Whether step 3 or 4 of R159 lowers a limit. DESIGN CHOICE, log 54. -/
def Dev.safetyCapped (m : Mem) (s : Nat) (d : Dev) : Bool :=
  [false, true].any fun dis => horizons.any fun h => decide (d.cappedAmps m s dis h < d.scaledAmps m s dis h)

/-- No longer horizon exceeds a shorter one, nor `top` (R160). -/
def notRising (top : Rat) : List Rat → List Rat
  | [] => []
  | a :: l => min a top :: notRising (min a top) l

/-- What a limit may rise by in this cycle, as a fraction of its cap (R160). -/
def Dev.rampUp (d : Dev) : Rat := (d.rd LIM_CFG.RAMP_UP : Rat) / 100 / d.phase.rate

/-- Steps 1 and 2 of R160 on four limits, against those of the previous cycle and their caps. -/
def Dev.shape (l was : List Rat) (cap : Nat → Rat) (d : Dev) : List Rat :=
  let l := notRising (l.headD 0) l
  horizons.map fun h => min (l.getD h 0) (was.getD h 0 + d.rampUp * cap h)

/-- Whether a string is given 0 in every limit: one that is not in CONNECTED (R160, R163), one the string
ladder disconnects (R170) or every one after an ACQ STOP found strings connected (R24). -/
def Dev.shut (s : Nat) (d : Dev) : Bool :=
  d.strState s ≠ 6 || (d.one s).stage = 3 || d.acq.stopHeld

/-- The power of a string at current `i` (R160); the link-age factor, which the current holds already, scales
its cap too (R86). DEDUCED, log 100. -/
def Dev.powerAt (m : Mem) (s : Nat) (dis : Bool) (h : Nat) (i : Rat) (d : Dev) : Rat :=
  if d.conservStr s then m.img.pRec s dis * min 1 (i / m.img.iRec s dis h)
  else
    let x := d.one s
    let v := if dis then x.sumV.getD h 0 - i * x.sumR.getD h 0 else x.sumV.getD h 0 + i * x.sumR.getD h 0
    max 0 (min (m.img.pCap s dis * d.linkAge s) (i * v))

/-- The limits of one string (R159, R160, R277). -/
def Dev.limString (m : Mem) (s : Nat) (d : Dev) : Lims :=
  if d.shut s then .zero
  else
    let cur (dis : Bool) : List Rat :=
      let was := if dis then (d.one s).pub.dis else (d.one s).pub.chg
      d.shape (horizons.map fun h =>
        let i := d.cappedAmps m s dis h
        if d.saf.ret.degraded then min i (d.degradeCap m s) else i) was (m.img.iCap s dis)
    let pow (dis : Bool) : List Rat := horizons.map fun h => d.powerAt m s dis h ((cur dis).getD h 0)
    ⟨cur false, cur true, pow false, pow true⟩

/-! ### The bank (R163) -/

/-- C: the strings in CONNECTED. -/
def Dev.sharing (d : Dev) : List Nat := strings.filter fun s => d.strState s = 6

/-- The share w_s of a string. -/
def Dev.share (s : Nat) (d : Dev) : Rat := 1 / (d.one s).r / sumOf d.sharing fun t => 1 / (d.one t).r

/-- The bank's host factor. -/
def Dev.hostBank (d : Dev) : Rat := min 1 ((d.rd LIM_HOST_B.FACTOR : Rat) / 10000)

/-- The bank's limits from those of its strings, `of`. DEDUCED, log 53. -/
def Dev.limBank (m : Mem) (of : Nat → Lims) (d : Dev) : Lims :=
  if d.sharing.isEmpty || d.acq.stopHeld then .zero
  else
    let cons := d.conservAll
    let cap (dis : Bool) : Rat := (if dis then d.rd LIM_BCAP.DIS else d.rd LIM_BCAP.CHG : Nat)
    let one (dis : Bool) (h : Nat) : Rat :=
      let i := d.sharing.foldl (fun a s => min a ((if dis then (of s).dis else (of s).chg).getD h 0 / d.share s)) (cap dis)
      (if cons then min i (m.img.iRec 8 dis h) else i) * d.hostBank
    let cur (dis : Bool) : List Rat :=
      let was := if dis then (d.one 8).pub.dis else (d.one 8).pub.chg
      d.shape (horizons.map (one dis)) was fun _ => if cons then m.img.iRec 8 dis 0 else cap dis
    let pow (dis : Bool) : List Rat := horizons.map fun h =>
      let i := (cur dis).getD h 0
      let p := sumOf d.sharing fun s => d.powerAt m s dis h (d.share s * i)
      if cons then min p (m.img.pRec 8 dis * min 1 (i / m.img.iRec 8 dis h)) else p
    ⟨cur false, cur true, pow false, pow true⟩

/-- The bank's throttle factor: the least of its host factor and its strings' factors. DEDUCED, log 53. -/
def Dev.throttleBank (d : Dev) : Rat := d.sharing.foldl (fun a s => min a (d.throttle s)) d.hostBank

/-! ### The reference and GRACE (R168, R173) -/

/-- The grace time in clk: 40 ms for the reduction of Prune 4. -/
def Dev.graceClk (d : Dev) : Nat := if 4 ≤ d.stage then msClk 40 else msClk (100 * d.rd LIM_ESC.GRACE)

/-- The 2 s limits. -/
def Lims.two (l : Lims) : Rat × Rat := (l.chg.getD 0 0, l.dis.getD 0 0)

/-- The reference in one direction. -/
def Dev.reference (w : Nat) (dis : Bool) (d : Dev) : Rat :=
  let pick (x : Rat × Rat) : Rat := if dis then x.2 else x.1
  (d.one w).hist.foldl (fun a e => if d.clk < e.1 + d.graceClk then max a (pick e.2) else a)
    (pick (d.one w).pub.two)

/-- GRACE in clk: until the reference equals the published 2 s limit. -/
def Dev.graceLeft (w : Nat) (d : Dev) : Nat :=
  let p := (d.one w).pub.two
  (d.one w).hist.foldl (fun a e =>
    if p.1 < e.2.1 || p.2 < e.2.2 then max a (e.1 + d.graceClk - d.clk) else a) 0

/-- Publish new limits of `w`: those they replace stay in the reference for the grace time. -/
def Dev.putLims (w : Nat) (l : Lims) (d : Dev) : Dev :=
  let t := d.clk
  let g := d.graceClk
  d.modOne w fun x =>
    let was := x.pub.two
    { x with
      pub := l
      hist := ((t, was) :: x.hist).filter fun e =>
        decide (t < e.1 + g) && (decide (l.two.1 < e.2.1) || decide (l.two.2 < e.2.2)) }

/-! ### The limit message (R164 to R167) -/

/-- The safe direction word of one string's limits (R164). -/
def Lims.dir (l : Lims) : Nat := (if 0 < l.two.1 then 1 else 0) + (if 0 < l.two.2 then 2 else 0)

/-- The configured strings that permit a direction, joined over the connected ones (R164). -/
def Dev.bankDir (d : Dev) : Nat :=
  (strings.filter d.connected).foldl (fun a s => Nat.lor a (d.one s).pub.dir) 0

/-- A flag at its bit. -/
def bit (k : Nat) (b : Bool) : Nat := if b then 2 ^ k else 0

/-- Whether `w` reports a flag that holds for one string, the bank for any string in `l`. -/
def anyOf (w : Nat) (l : List Nat) (p : Nat → Bool) : Bool := if w < 8 then p w else l.any p

/-- FLAGS of R166 for string `w`, or the bank as 8. -/
def Dev.limFlags (m : Mem) (w : Nat) (empty excess : Bool) (d : Dev) : Nat :=
  let on := strings.filter d.connected
  let stage := (d.one w).stage
  bit 0 (if w < 8 then d.conservStr w else d.conservAll) + bit 1 excess + bit 2 d.bedUpdate +
    bit 3 (d.outage bedNets) + bit 4 (anyOf w strings fun s => d.on (EST_SFLAGS.PROBE s)) +
    bit 5 (decide (1 ≤ stage)) + bit 6 (decide (2 ≤ stage)) +
    bit 7 (anyOf w on fun s => decide (d.linkAge s < 1)) +
    bit 8 (anyOf w strings fun s => (d.strLrn s).stale) + bit 9 (d.rd ACQ_PH_STATUS.STATE ≠ 2) +
    bit 10 (anyOf w on (d.safetyCapped m)) +
    bit 11 (empty || (if w < 8 then d.isOpen w else on.isEmpty)) +
    bit 12 (if w < 8 then d.lim.shed.contains w else !d.lim.shed.isEmpty)

/-- The throttle factor of `w`. DESIGN CHOICE, log 54. -/
def Dev.factorOf (w : Nat) (d : Dev) : Rat := if w < 8 then d.throttle w else d.throttleBank

/-- V_STR in V (R166). -/
def Dev.limVolts (w : Nat) (d : Dev) : Rat :=
  if w < 8 then d.vstr w
  else
    let on := strings.filter d.connected
    if on.isEmpty then 0 else meanOf (on.map d.vbus)

/-- Bytes 0 to 59 of a record (R166). DEDUCED, log 90. -/
def Dev.limBody (m : Mem) (w dir : Nat) (empty excess : Bool) (d : Dev) : List Byte :=
  let l := (d.one w).pub
  let k := d.rd LIM_PUB.DOMAIN
  leBytes 1 (if w < 8 then w else 0x80) ++ leBytes 1 dir ++ leBytes 2 (d.limFlags m w empty excess) ++
    leBytes 4 d.lim.seq ++ leBytes 6 (d.domSec k) ++ leBytes 4 (d.domNs k % 1000000000) ++
    leBytes 1 (k + 4 * d.quality k) ++ leBytes 1 0 ++
    (l.chg ++ l.dis).flatMap (fun x => leBytes 2 (roundTo 65535 (x * 10))) ++
    (l.pchg ++ l.pdis).flatMap (fun x => leBytes 2 (roundTo 65535 (x / 200))) ++
    leBytes 2 (roundTo 65535 (d.limVolts w * 10)) ++ leBytes 2 (d.rd (EST_SOC.SOC w)) ++
    leBytes 2 (pct (d.factorOf w)) ++ leBytes 2 (roundTo 65535 ((d.graceLeft w : Rat) / msClk 100))

/-- A record of 64 bytes. -/
def withCrc (l : List Byte) : List Byte := l ++ leBytes 4 (crc32 l)

/-- Bytes "RLIM", version, count and a reserved byte (R167). -/
def rlim (n : Nat) : List Byte := leBytes 4 0x4D494C52 ++ leBytes 2 1 ++ leBytes 1 n ++ leBytes 1 0

/-- The paths a publication uses: the enabled ports of LIM_PUB that NETWORK enables too, only CAN0 and ETH0
while
the NETS bed is out (R58, R167) or ETH1 and CAN1 are idle from Prune 2 on (R337). -/
def Dev.limPaths (m : Mem) (d : Dev) : List Path :=
  ((bitsOf 4 (d.rd LIM_PUB.PORTS)).filter fun k =>
    (k = 0 || k = 2 || !d.outage bedNets && decide (d.stage < 2)) &&
      (decide (k < 2) || (m.img.canFlags (k - 2)).testBit 0)).map Path.ofNum

/-- The destination of a path's limit message: a datagram's address and port, or a frame's identifier, `n` above
the base (R167, R319). -/
def Img.limDest (i : Img) (p : Path) (n : Nat) : LimDest :=
  if p.num < 2 then .udp (i.slice (i.ethRec p.num + 40) 16) (i.u16 (i.ethRec p.num + 38))
  else .can (i.u32 (i.canRec (p.num - 2) + 4) + n)

/-- Send the message (R167). -/
def Dev.sendLimits (m : Mem) (empty excess : Bool) (d : Dev) : Dev :=
  let bank := withCrc (d.limBody m 8 (if empty then 0 else d.bankDir) empty excess)
  let strs := d.confStrs.map fun s => withCrc (d.limBody m s (d.one s).pub.dir empty excess)
  (d.limPaths m).foldl (fun d p =>
    if p.num < 2 then
      (d.occupy p.num (m.img.limHeaders p.num + 72 + 64 * strs.length)).emit
        (.limit p (m.img.limDest p 0) (rlim (strs.length + 1) ++ bank ++ strs.flatten))
    else
      let d := d.emit (.limit p (m.img.limDest p 0) bank)
      if d.on LIM_CFG.CAN_STR then
        (d.confStrs.zip strs).foldl (fun d r => d.emit (.limit p (m.img.limDest p (1 + r.1)) r.2)) d
      else d) d

/-- The LIM registers of `w` (R174). -/
def Dev.showLims (m : Mem) (w dir : Nat) (empty excess : Bool) (d : Dev) : Dev :=
  let l := (d.one w).pub
  let a (x : Rat) : Nat := roundTo 65535 (x * 10)
  let p (x : Rat) : Nat := roundTo 65535 (x / 200)
  let d := ((d.wr (LIM_STAT.FLAGS w) (d.limFlags m w empty excess)).wr (LIM_STAT.STAGE w) (d.one w).stage).wr
    (LIM_STAT.DIR w) dir
  let d := (d.wr (LIM_IC01.CHG_2S w) (a (l.chg.getD 0 0))).wr (LIM_IC01.CHG_10S w) (a (l.chg.getD 1 0))
  let d := (d.wr (LIM_IC23.CHG_60S w) (a (l.chg.getD 2 0))).wr (LIM_IC23.CHG_CONT w) (a (l.chg.getD 3 0))
  let d := (d.wr (LIM_ID01.DIS_2S w) (a (l.dis.getD 0 0))).wr (LIM_ID01.DIS_10S w) (a (l.dis.getD 1 0))
  let d := (d.wr (LIM_ID23.DIS_60S w) (a (l.dis.getD 2 0))).wr (LIM_ID23.DIS_CONT w) (a (l.dis.getD 3 0))
  let d := (d.wr (LIM_PWR.CHG_CONT w) (p (l.pchg.getD 3 0))).wr (LIM_PWR.DIS_CONT w) (p (l.pdis.getD 3 0))
  let th := if w < 8 then d.rd (THW_SFACT.FACTOR w)
    else d.sharing.foldl (fun a s => min a (d.rd (THW_SFACT.FACTOR s))) 10000
  let d := (d.wr (LIM_FACT.THROTTLE w) (pct (d.factorOf w))).wr (LIM_FACT.THERMAL w) th
  (d.wr (LIM_REF.GRACE w) (roundTo 65535 ((d.graceLeft w : Rat) / msClk 100))).wr (LIM_REF.DIS_REF w)
    (a (d.reference w true))

/-! ### Escalation stages (R169 to R171) -/

/-- Whether the bank ladder holds the string ladders (R171). -/
def Dev.bankHolds (d : Dev) : Bool := decide (2 ≤ (d.one 8).stage)

/-- Whether what REQUEST rests on holds for `w` (R169). -/
def Dev.requested (w : Nat) (d : Dev) : Bool :=
  decide (d.factorOf w < 1) || decide (0 < d.graceLeft w) ||
    (d.saf.ret.degraded && (decide (w < 8) || !d.sharing.isEmpty))

/-- The stages NONE and REQUEST of `w` anew; a string that is not connected holds NONE. -/
def Dev.restage (w : Nat) (d : Dev) : Dev :=
  let r := d.requested w
  if w < 8 && !d.connected w then
    d.modOne w fun x => { x with stage := 0, excess := 0, within := 0, request := r }
  else
    let held := w < 8 && d.bankHolds
    d.modOne w fun x => { x with
      request := r, stage := if x.stage ≤ 1 && !held then (if r then 1 else 0) else x.stage }

/-- Strings and bank of a publication: the configured strings, then the bank. -/
def Dev.limWho (d : Dev) : List Nat := d.confStrs ++ [8]

/-! ### Publication (R33, R162, R165) -/

/-- Whether no processed sweep stands behind the cue (R165): none since the start, or the cycle before held
no sweep. -/
def Dev.noSweep (d : Dev) : Bool :=
  !d.est.any || (match d.lim.swept with
    | some c => c + 1 ≠ d.phase.cycle
    | none => true)

/-- Whether the limits of the sweep before the cue are due and not there (R33): EST runs, no outage of
its bed, and a sweep that is processed at all (R162). DEDUCED, log 53. -/
def Dev.overrun (d : Dev) : Bool :=
  d.works .est && !d.outage bedEstm && d.est.last + 1 ≠ d.phase.cycle &&
    (decide (d.stage < 3) || (d.phase.cycle - 1) % 4 = 0)

/-- The overrun count of R33: two in a row bring CONSERV_MODE, ten on time end it. -/
def Dev.countOverrun (excess : Bool) (d : Dev) : Dev :=
  let onTime := d.est.last + 1 = d.phase.cycle
  d.modLim fun x =>
    if excess then { x with overruns := x.overruns + 1, onTime := 0, conserv := x.conserv || decide (1 ≤ x.overruns) }
    else if onTime then
      { x with overruns := 0, onTime := x.onTime + 1, conserv := x.conserv && decide (x.onTime + 1 < 10) }
    else { x with overruns := 0 }

/-- The limits of every string and the bank: zero without a sweep, the previous ones on a first overrun. DEDUCED, log 53. -/
def Dev.nextLims (m : Mem) (empty again : Bool) (d : Dev) : Nat → Lims :=
  if empty then fun _ => .zero
  else if again then fun w => (d.one w).pub
  else fun w => if w < 8 then d.limString m w else d.limBank m fun s => d.limString m s

/-- LIM_STATUS, but for RUN and SUPPLY_ZERO, which its view reads. -/
def Dev.showLimStatus (excess : Bool) (d : Dev) : Dev :=
  ((d.flag LIM_STATUS.BED_UPDATE d.bedUpdate).flag LIM_STATUS.EST_OVERRUN excess).flag LIM_STATUS.CONSERV d.conservAll

/-- One publication at the cue (R165). -/
def Dev.publishLims (m : Mem) (d : Dev) : Dev :=
  let empty := d.noSweep
  let excess := !empty && d.overrun
  let again := excess && d.lim.overruns = 0
  let d := if empty then d else d.countOverrun excess
  let c := d.phase.cycle
  let d := d.modLim fun x => { x with seq := (x.seq + 1) % 2 ^ 32, sent := some c }
  let next := d.nextLims m empty again
  let d := d.each d.limWho fun w d => d.putLims w (next w)
  let d := d.each d.limWho Dev.restage
  let d := d.each d.confStrs fun s d => d.showLims m s (d.one s).pub.dir empty excess
  let d := d.showLims m 8 (if empty then 0 else d.bankDir) empty excess
  let d := (d.wr LIM_SEQ.SEQ d.lim.seq).showLimStatus excess
  d.sendLimits m empty excess

/-- LIMIT_PUBLICATION (R165). The clock goes on to the publication phase of the cycle. -/
def execLimitPublication (s : State) : Host.Outcome State Fault Refusal :=
  s.run fun m d =>
    if !d.alive || !d.runs .lim || !m.hasImage then d
    else
      let t := d.phase.start + d.cycleClk * (d.rd LIM_PUB.PHASE : Nat) / 65536
      (d.advanceTo (nearest t).toNat).publishLims m

/-! ### Compliance (R168 to R173) -/

/-- The cycle-mean current of `w`, where every part of it has an OK sample. -/
def Dev.limMean (w : Nat) (d : Dev) : Option Rat :=
  if w < 8 then d.meanI w
  else (strings.filter d.connected).foldl (fun a s =>
    match a, d.meanI s with
    | some x, some i => some (x + i)
    | _, _ => none) (some 0)

/-- Whether a mean current exceeds the reference with its tolerances (R168). -/
def Dev.exceeds (w : Nat) (i : Rat) (d : Dev) : Bool :=
  let lim (dis : Bool) : Rat :=
    d.reference w dis * (1 + (d.rd LIM_TOL.TOL_REL : Rat) / 1000) + (d.rd LIM_TOL.TOL_ABS : Nat)
  decide (lim false < i) || decide (lim true < -i)

/-- The compliance of `w` in a sweep, and the return from HARD_REQUEST and DISCONNECT. -/
def Dev.comply (w : Nat) (d : Dev) : Dev :=
  let d := match d.limMean w with
    | none => d
    | some i =>
      let bad := d.exceeds w i
      d.modOne w fun x =>
        if bad then { x with excess := x.excess + 1, within := 0 } else { x with excess := 0, within := x.within + 1 }
  let n := d.rd LIM_ESC.CONFIRM
  if w < 8 && d.bankHolds then d
  else d.modOne w fun x =>
    if 2 ≤ x.stage && n ≤ x.within then { x with stage := if x.request then 1 else 0 } else x

/-- What a sweep end brings LIM: compliance of the bank and of every connected string, stages, and the
strings shed that have reclosed. -/
def Dev.limSweepEnd (d : Dev) : Dev :=
  let c := d.phase.cycle
  let d := d.modLim fun x => { x with swept := some c }
  if d.works .lim && !d.outage bedLims then
    let d := (d.comply 8).restage 8
    let d := d.each d.confStrs fun s d => if d.connected s then (d.comply s).restage s else d.restage s
    let keep := d.lim.shed.filter fun s => d.strState s ≠ 6
    d.modLim fun x => { x with shed := keep }
  else d

/-- A row of LIM runs. -/
def Dev.limActs (m : Mem) (d : Dev) : Bool := d.alive && d.works .lim && !d.outage bedLims && m.hasImage

/-- Whether `w`'s ladder may move: a connected string while the bank's does not hold it, or the bank. -/
def Dev.ladderMoves (w : Nat) (d : Dev) : Bool := if w < 8 then d.connected w && !d.bankHolds else true

/-- The subject of a record: a string, or 0x80 for the bank. -/
def whoByte (w : Nat) : Byte := if w < 8 then BitVec.ofNat 8 w else 0x80

/-- HARD_REQUEST (R169). -/
def execHardRequest (who : Who) (s : State) : Host.Outcome State Fault Refusal :=
  s.run fun m d =>
    let w := who.val
    if d.limActs m && d.ladderMoves w && decide ((d.one w).stage ≤ 1) &&
        decide (d.rd LIM_ESC.CONFIRM ≤ (d.one w).excess) && decide (0 < (d.one w).excess) then
      let t := d.clk
      (d.modOne w fun x => { x with stage := 2, stageAt := t, within := 0 }).record recLimHardRequest [whoByte w]
    else d

/-- The first connected string in SEQ's shed order that the ladder has not opened yet (R170, R201). -/
def Dev.firstShed (d : Dev) : Option Nat :=
  ((List.range 8).map fun k => d.rd (SEQ_SHED.POS k)).find? fun s =>
    decide (s < 8) && (d.strState s = 6 || d.connected s && !d.lim.shed.contains s)

/-- The bank ladder opens the next string; it leaves its own ladder at NONE (R170, R171). -/
def Dev.ladderOpens (m : Mem) (d : Dev) : Dev :=
  match d.firstShed with
  | none => d
  | some s =>
    let t := d.clk
    let d := d.modLim fun x => { x with shed := x.shed.filter (· ≠ s) ++ [s] }
    let d := d.modOne s fun x => { x with stage := 0, excess := 0, within := 0 }
    (d.modOne 8 fun x => { x with stageAt := t }).openString m 0x04 s

/-- LIM_ESCALATE (R169, R170). -/
def execLimEscalate (who : Who) (s : State) : Host.Outcome State Fault Refusal :=
  s.run fun m d =>
    let w := who.val
    if d.limActs m && d.ladderMoves w && (d.one w).stage = 2 &&
        decide ((d.one w).stageAt + d.graceClk ≤ d.clk) then
      let t := d.clk
      let d := (d.modOne w fun x => { x with stage := 3, stageAt := t }).record recLimEscalate [whoByte w]
      if w < 8 then d.openString m 0x04 w else d.ladderOpens m
    else d

/-- LADDER_STEP (R170). -/
def execLadderStep (s : State) : Host.Outcome State Fault Refusal :=
  s.run fun m d =>
    if d.limActs m && (d.one 8).stage = 3 && decide (0 < (d.one 8).excess) &&
        decide ((d.one 8).stageAt + msClk (100 * d.rd LIM_ESC.STEP) ≤ d.clk) then d.ladderOpens m
    else d

/-- LINK_LOSS (R86). -/
def execLinkLoss (str : Str) (s : State) : Host.Outcome State Fault Refusal :=
  s.run fun m d =>
    if d.limActs m && !d.isOpen str.val && decide (d.rd PORT_CFG.LINK_MISS_LIMIT ≤ d.missMax str.val) then
      (d.openString m 0x03 str.val).afterOpen m
    else d

/-- SUPPLY_PRUNE (R173). -/
def execSupplyPrune (s : State) : Host.Outcome State Fault Refusal :=
  s.run fun m d =>
    if d.alive && d.pwr.p4 && m.hasImage then
      d.openAll m 0x05
    else d

end Sys2Proof.Machine
end

