-- ==== Sys2Proof/Machine/EstimateRows.lean ====
section
/-! DEFINITION. The estimator's rows (R116, R129, R131, R134, R136, R138): a published sweep with the base
limits LIM takes from it, and what strings at rest, empty, discharging and asking for a probe bring. -/

namespace Sys2Proof.Machine

/-- Whether EST acts on an event of its own. -/
def Dev.estActs (m : Mem) (d : Dev) : Bool := d.alive && d.works .est && !d.outage bedEstm && m.hasImage

/-- Steps 1 to 7 of R116 for sweep `w`, once. -/
def Dev.workSweep (m : Mem) (w : Sweep) (d : Dev) : Dev :=
  if d.est.worked = some w.cycle then d
  else
    let ss := d.confStrs
    let dt := d.sweepDt w
    let d := if d.works .lrn && d.stage = 0 then d.learnQ (ss.flatMap d.cellsOf) else d
    let d := d.each ss (Dev.estString m w (d.single w) dt)
    let d := d.each ss (Dev.emptyStr m w)
    let d := d.each ss fun s d => if d.restDue w s then d.restString m w s else d
    d.modEst fun x => { x with worked := some w.cycle }

/-- The discharging states of step 9 (R134). -/
def Dev.judgeSweep (w : Sweep) (d : Dev) : Dev :=
  d.each (d.confStrs ++ [8]) fun k d => d.modSe k fun x => { x with dis := d.disAt w k }

/-- EST completes its processing of sweep `w` and publishes (R116): what is left of steps 1 to 7, and steps 8
to 10. -/
def Dev.publish (m : Mem) (w : Sweep) (d : Dev) : Dev :=
  let d := (d.workSweep m w).judgeSweep w
  let dt := d.sweepDt w
  let gap := d.sweepGap w
  let ss := d.confStrs
  let d := if d.works .lrn then (d.countFec w).each ss (Dev.relearn m) else d
  let dqs (s : Nat) : Rat := d.sweepDq w s
  let d := d.each ss fun s d => d.each (d.cellsOf s) fun c d => d.reportCell m w dt (dqs s) s c
  let d := d.each ss (Dev.probeStr w dt)
  let d := d.each ss fun s d => d.reportStr m w dt (dqs s) s
  let d := d.each ss (Dev.capSweep)
  let d := d.reportBank m dt (sumOf d.counted dqs)
  let d := d.each ss fun s d => d.modSe s fun x => { x with chargeAt := (w.end_ s).charge }
  let d := if d.est.resume && d.est.any then
      (d.wr EST_STATUS.RESUMED 1).wr EST_STATUS.GAP (min 255 gap) else d
  let d := d.flag EST_STATUS.PHASE_UNLOCKED w.unlocked
  let d := (d.flag EST_STATUS.Z_SUSPENDED (decide (1 ≤ d.stage))).flag EST_STATUS.QUARTER_RATE
    (decide (3 ≤ d.stage))
  let d := d.flag EST_STATUS.PROBE (ss.any fun s => (d.se s).probe)
  let d := (d.wr EST_SWEEP0.CYCLE_LO w.cycle).wr EST_SWEEP1.CYCLE_HI (w.cycle / 2 ^ 32)
  (d.modEst fun x => { x with
    any := true, last := w.cycle, lastEnd := w.endAt, resume := false, worked := none }).takeSnapshot m

/-- EST_PUBLISH (R116, R122, R155). A sweep that is left out leaves everything as it is. -/
def execEstPublish (s : State) : Host.Outcome State Fault Refusal :=
  s.run fun m d =>
    if d.estActs m then
      match d.acq.done with
      | none => d
      | some w =>
        let d := if d.processed w then (d.publish m w).each d.confStrs (Dev.limBase m w) else d
        d.modAcq fun a => { a with done := a.late, late := none }
    else d

/-- The sweep EST is processing, if any. -/
def Dev.working (m : Mem) (d : Dev) : Option Sweep :=
  if d.estActs m then d.acq.done.filter d.processed else none

/-- DISCHARGE_STATE_CHANGE (R134): EST reaches step 9, in which the state of `who` turns over; the publication
shows it. -/
def execDischargeStateChange (who : Who) (s : State) : Host.Outcome State Fault Refusal :=
  s.run fun m d =>
    match d.working m with
    | some w =>
      if (who.val = 8 || d.configured who.val) && d.disAt w who.val ≠ (d.se who.val).dis then
        (d.workSweep m w).judgeSweep w
      else d
    | none => d

/-- VOLT_EMPTY (R136): EST reaches step 6, in which the string becomes voltage-empty; the publication shows
it. -/
def execVoltEmpty (str : Str) (s : State) : Host.Outcome State Fault Refusal :=
  s.run fun m d =>
    match d.working m with
    | some w => if d.configured str.val && d.emptyDue m w str.val then d.workSweep m w else d
    | none => d

/-- REST_QUALIFIED (R138): EST reaches step 7, in which the string's rest qualifies; the publication shows it.
-/
def execRestQualified (str : Str) (s : State) : Host.Outcome State Fault Refusal :=
  s.run fun m d =>
    match d.working m with
    | some w => if d.configured str.val && d.restDue w str.val then d.workSweep m w else d
    | none => d

/-- IMPEDANCE_AGED (R129, R130); the next publication shows it. -/
def execImpedanceAged (c : Cell) (slot : Fin 3) (s : State) : Host.Outcome State Fault Refusal :=
  s.run fun m d =>
    let z := (d.cell c.val).z slot.val
    if d.alive && m.hasImage && d.cellUsed c.val && !z.aged then
      d.modCell c.val fun x => x.setZ slot.val { z with aged := true }
    else d

/-- PROBE_REQUEST (R131); the next publication shows it. -/
def execProbeRequest (str : Str) (s : State) : Host.Outcome State Fault Refusal :=
  s.run fun m d =>
    let k := str.val
    if d.estActs m && d.on EST_PROBE.PROBE_EN && d.connected k && d.stage = 0 &&
        !(d.se k).probe && (d.cellsOf k).all (fun c => (d.cell c).z0.aged) then
      (d.modSe k fun x => { x with probed := 0, probe := true }).record recProbeRequest [BitVec.ofNat 8 k]
    else d

end Sys2Proof.Machine
end

