-- ==== Sys2Proof/Machine/Links.lean ====
section
/-! DEFINITION. Isolated port links (R61 to R91, R104 to R115): uplink frames, training, delays, retries,
and the swap of a cassette. A frame whose CRC fails is discarded whole (R63). -/

namespace Sys2Proof.Machine

def bedPort : Nat := 3

/-- Whether the port hub works: a supervisor reset leaves strobing running (R372). -/
def Dev.linkWorks (m : Mem) (d : Dev) : Bool := d.awake && !d.pwr.inTransport && m.hasImage && !d.outage bedPort

/-- Whether a port has passed step 4 of R83 and is strobed from there on (R82). -/
def Dev.strobing (d : Dev) (n : Nat) : Bool :=
  d.link n = 2 && ((d.port n).step = .temps || (d.port n).step = .boundary)

/-- Whether ACQ is STOPPED. -/
def Dev.acqStopped (d : Dev) : Bool := d.fnState 0 = 0

/-! ### Status words (R74, R75, R78, R84, R91) -/

/-- The threshold checksum is wrong (R78): reloaded, at most twice in a row; then every sweep counts as
missed. -/
def Dev.threshWrong (m : Mem) (n : Nat) (d : Dev) : Dev :=
  let p := d.port n
  if (List.range 5).any fun k => p.writing (3 + k) then d
  else if p.reloads < 2 then
    (d.modPort n fun p => { p with reloads := p.reloads + 1 }).loadThresholds m n
  else (d.modPort n fun p => { p with threshBad := true }).wr (PORT_STATE.CAUSE n) causeThresh

/-- The threshold checksum is right again. -/
def Dev.threshRight (n : Nat) (d : Dev) : Dev :=
  let bad := (d.port n).threshBad
  let d := d.modPort n fun p => { p with reloads := 0, threshBad := false }
  if bad then d.wr (PORT_STATE.CAUSE n) 0 else d

/-- A companion has woken (R84): THRESH_CRC is read again, the quiet windows are written, and no switch is
on until BAL's next mask. -/
def Dev.wokeUp (n : Nat) (d : Dev) : Dev :=
  let d := d.wr (PORT_STATE.WOKE n) 1
  if d.isLive n || d.strobing n then
    let d := d.modPort n fun p => { p with
      mask := 0, newMask := none, nextMask := none
      comp := tset 0 (tset 0 (tset 0 p.comp 12 0) 13 0) 14 0 }
    (if isFront n then d else d.loadWindows n).sendDown n ftRead [(8, 1)]
  else d

/-- The status word of any uplink frame. -/
def Dev.onStatus (m : Mem) (n status : Nat) (d : Dev) : Dev :=
  let front := isFront n
  let d := d.wr (PORT_STAT.STATUS n) status
  let d := if !front && status.testBit 24 then d.wr (PORT_STATE.IDENT_CHANGED n) 1 else d
  let d := if status.testBit (if front then 29 else 27) then d.wokeUp n else d
  if d.isLive n || d.strobing n then
    if status.testBit (if front then 27 else 26) then d.threshWrong m n else d.threshRight n
  else d

/-! ### Sample frames (R69, R71 to R73, R85, R104, R107) -/

/-- The index and instant of the strobe whose samples arrive. -/
def Dev.smpStrobe (d : Dev) : Nat := d.phase.k - 1
def Dev.smpAt (d : Dev) : Nat :=
  (nearest (d.phase.start + d.cycleClk * (d.smpStrobe : Nat) / (d.phase.n : Nat))).toNat

/-- In training, a sample frame tells the companion's strobe count (R71). -/
def Dev.syncStrobes (n seq : Nat) (d : Dev) : Dev :=
  if d.strobing n then d.modPort n fun p => { p with strobes := seq } else d

/-- Whether a CRC-good sample frame is the one due: of a port in UP or MISSING, for this strobe. -/
def Dev.smpDue (n seq : Nat) (d : Dev) : Bool :=
  d.isLive n && !(d.port n).got && decide (0 < d.phase.k) && (d.port n).strobes % 256 = seq

/-- A valid sample frame: MISSING returns to UP. -/
def Dev.smpTaken (n : Nat) (d : Dev) : Dev :=
  let d := d.modPort n fun p => { p with got := true, valid := p.valid + 1 }
  if d.link n = 4 then
    (d.wr (PORT_STATE.LINK n) 3).wr (PORT_STATE.CAUSE n) (if (d.port n).threshBad then causeThresh else 0)
  else d

/-- VALID codes. -/
def Validity.code : Validity → Nat
  | .ok => 0
  | .disturbed => 1
  | .suspect => 2
  | .stale => 3

/-! ### CELLS (R107, R109, R110, R112) -/

/-- The cells before and behind `c` in series order. -/
def neighbours (l : List Nat) (c : Nat) : List Nat :=
  (l.zip (l.drop 1)).flatMap fun p => (if p.1 = c then [p.2] else []) ++ (if p.2 = c then [p.1] else [])

/-- What a strobe that carries BAL_AT_STROBE disturbs: the switched cells of the loaded mask, or the whole
block where it is not known, with every adjacent cell (R109). -/
def Dev.disturbedBy (k : Nat) (d : Dev) : List Nat :=
  let p := d.port (lcOfMon k)
  let on := (d.blockCells k).filter fun c => !p.maskKnown || p.mask.testBit (c % 24)
  let l := d.cellsOf (d.monStr k)
  on ++ on.flatMap (neighbours l)

/-- The cells R110 marks for the whole sweep: two adjacent switches of one mask, with the cells on either
side. -/
def Dev.adjacentOn (k : Nat) (d : Dev) : List Nat :=
  let p := d.port (lcOfMon k)
  if p.maskKnown then
    let l := d.cellsOf (d.monStr k)
    let on (c : Nat) : Bool := c / 24 = k && p.mask.testBit (c % 24)
    (l.zip (l.drop 1)).flatMap fun q =>
      if on q.1 && on q.2 then q.1 :: q.2 :: (neighbours l q.1 ++ neighbours l q.2) else []
  else []

/-- Take cells into a list that holds none twice. -/
def joinNew (a l : List Nat) : List Nat := l.foldl (fun a c => if a.contains c then a else a ++ [c]) a

/-- An OK sample of the present strobe becomes DISTURBED. -/
def Dev.remark (c : Nat) (d : Dev) : Dev :=
  let k := d.smpStrobe
  let hit := (tget [] d.acq.fill.cells c).any fun x => x.strobe = k && x.val = .ok
  let d := d.modAcq fun a => { a with fill := { a.fill with
    cells := tmod [] a.fill.cells c fun l =>
      l.map fun x => if x.strobe = k && x.val = .ok then { x with val := .disturbed } else x } }
  if hit then d.wr (CELL_V.VALID c) 1 else d

/-- BAL_AT_STROBE on a port (R109, R110). The sweep's record follows at its end (`Dev.recordAdjacent`). -/
def Dev.markBalance (k : Nat) (d : Dev) : Dev :=
  let l := d.disturbedBy k
  let d := d.modAcq fun a => { a with fill := { a.fill with dist := joinNew a.fill.dist l } }
  let d := d.each l Dev.remark
  match d.adjacentOn k with
  | [] => d
  | a =>
    (d.modAcq fun x => { x with fill := { x.fill with adj := joinNew x.fill.adj a } }).wr ACQ_STATUS.ADJ_BALANCE 1

/-- One cell's code (R76, R107, R112): stored, and compared on the processor path. -/
def Dev.storeCell (m : Mem) (selftest : Bool) (c code : Nat) (d : Dev) : Dev :=
  let dist := d.acq.fill.dist.contains c || d.acq.fill.adj.contains c
  let v : Validity := if 50000 < code || selftest then .suspect else if dist then .disturbed else .ok
  let k := d.smpStrobe
  let d := d.modAcq fun a => { a with fill := { a.fill with
    cells := tmod [] a.fill.cells c fun l => ⟨k, code, v⟩ :: l } }
  let d := ((d.wr (CELL_V.CODE c) code).wr (CELL_V.STROBE c) k).wr (CELL_V.VALID c) v.code
  d.slwCompare m c code (v = .disturbed)

/-- CELLS (R63, R72). -/
def execCellsFrame (port : Mon) (seq : Byte) (check : LinkCheck) (codes : List (BitVec 16)) (status : Word)
    (s : State) : Host.Outcome State Fault Refusal :=
  s.run fun m d =>
    let n := lcOfMon port.val
    let good := uplinkGood 0x8 48 seq.toNat check.len.toNat (halves (codes.map (·.toNat))) status.toNat check.crc.toNat
    if d.linkWorks m && good && d.portUsed n then
      let st := status.toNat
      let due := d.smpDue n seq.toNat
      let d := (d.syncStrobes n seq.toNat).onStatus m n st
      if due then
        d.withDemand m fun d =>
          let d := d.smpTaken n
          let d := if st.testBit 28 then d.markBalance port.val else d
          d.each (d.blockCells port.val) fun c d =>
            d.storeCell m (st.testBit 25) c (codes.getD (c % 24) 0).toNat
      else d
    else d

/-! ### STRING (R73, R107, R114) -/

/-- The value of an ACQ register from A or V, in mA or mV. -/
def milli (x : Rat) : Nat := unsigned 30 (nearest (x * 1000))

/-- A string's sample of one strobe with its registers. A STALE one keeps the previous values. -/
def Dev.storeString (s : Nat) (x : StrSmp) (d : Dev) : Dev :=
  let d := d.modAcq fun a => { a with fill := { a.fill with
    strs := tmod [] a.fill.strs s fun l => x :: l } }
  let put (f g : Fld) (v : Rat) (val : Validity) (d : Dev) : Dev :=
    (if val = .stale then d else d.wr f (milli v)).wr g val.code
  put (ACQ_I.VALUE s) (ACQ_I.VALID s) x.i x.iVal (put (ACQ_VSTR.VALUE s) (ACQ_VSTR.VALID s) x.vstr x.vstrVal
    (put (ACQ_VBUS.VALUE s) (ACQ_VBUS.VALID s) x.vbus x.vbusVal
      (put (ACQ_VPRE.VALUE s) (ACQ_VPRE.VALID s) x.vpre x.vpreVal d)))

/-- STRING (R63, R72). -/
def execStringFrame (front : Str) (seq : Byte) (check : LinkCheck) (shunt vstr vbus vpre : Word) (status : Word)
    (s : State) : Host.Outcome State Fault Refusal :=
  s.run fun m d =>
    let n := lcOfFront front.val
    let good := uplinkGood 0x9 16 seq.toNat check.len.toNat ([shunt, vstr, vbus, vpre].map (·.toNat)) status.toNat check.crc.toNat
    if d.linkWorks m && good && d.portUsed n then
      let st := status.toNat
      let due := d.smpDue n seq.toNat
      let d := (d.syncStrobes n seq.toNat).onStatus m n st
      if due then
        d.withDemand m fun d =>
          let k := d.lcStr n
          let code := shunt.toInt
          let i : Rat := (code : Rat) / 100000000 / (d.strRec k).shunt
          let hv (w : Word) : Rat := (w.toInt : Rat) * 4 / 1000
          let self := st.testBit 26
          let iv : Validity :=
            if code = 0x7FFFFF || code = -0x800000 || st.testBit 25 || self then .suspect else .ok
          let vv (w : Word) : Validity := if 1600 ≤ mag (hv w) || self then .suspect else .ok
          let t := d.smpAt
          let d := (d.smpTaken n).storeString k
            { strobe := d.smpStrobe, at_ := t, i := i, iVal := iv, vstr := hv vstr, vstrVal := vv vstr
              vbus := hv vbus, vbusVal := vv vbus, vpre := hv vpre, vpreVal := vv vpre }
          let d := if iv = .ok then d.modSe k fun x => { x with lastI := i } else d
          d.currentCompares m k i t
      else d
    else d

/-! ### Missing sample frames (R69, R82) -/

/-- A STALE sample of a string (R107): the values of the one before stand. -/
def Dev.staleString (s : Nat) (d : Dev) : Dev :=
  let k := d.smpStrobe
  let t := d.smpAt
  match d.lastSmp s with
  | some x => d.storeString s { x with
      strobe := k, at_ := t, iVal := .stale, vstrVal := .stale, vbusVal := .stale, vpreVal := .stale }
  | none => d.storeString s ⟨k, t, 0, .stale, 0, .stale, 0, .stale, 0, .stale⟩

/-- Every cell of a port reads STALE. -/
def Dev.staleCells (k : Nat) (d : Dev) : Dev := d.each (d.blockCells k) fun c d => d.wr (CELL_V.VALID c) 3

/-- The samples of a port for this strobe are STALE (R107). DEDUCED, log 41. -/
def Dev.staleSample (n : Nat) (d : Dev) : Dev :=
  match monOfLc n with
  | some k => d.staleCells k
  | none => d.staleString (d.lcStr n)

/-- FRAME_DEADLINE (R69). No valid frame has come for this strobe. -/
def execFrameDeadline (lc : Lc) (s : State) : Host.Outcome State Fault Refusal :=
  s.run fun m d =>
    let n := lc.val
    if d.linkWorks m && d.isLive n && !(d.port n).got && decide (0 < d.phase.k) then
      let d := (d.bump (PORT_ERR.FRAME_MISS n)).modPort n fun p => { p with got := true }
      (if d.link n = 3 then d.wr (PORT_STATE.LINK n) 4 else d).staleSample n
    else d

/-! ### TEMPS (R105, R113, R147) -/

/-- A TEMPS frame that was due is missing: one more request follows, unless it answered that one. -/
def Dev.tempsMissing (m : Mem) (k : Nat) (d : Dev) : Dev :=
  let n := lcOfMon k
  let d := d.modPort n fun p => { p with tempReq := false, tempRepeat := !p.tempRepeat }
  d.pointsStale m k

/-- TEMPS (R63, R72). In step 5 of training it gives the identity readings, and the port waits for the next
boundary. -/
def execTempsFrame (port : Mon) (seq : Byte) (check : LinkCheck) (codes : List (BitVec 16)) (id0 id1 : BitVec 16)
    (status : Word) (s : State) : Host.Outcome State Fault Refusal :=
  s.run fun m d =>
    let k := port.val
    let n := lcOfMon k
    let good := uplinkGood 0xA 36 seq.toNat check.len.toNat (halves ((codes ++ [id0, id1]).map (·.toNat))) status.toNat check.crc.toNat
    if d.linkWorks m && (d.port n).tempReq && (d.isLive n || d.strobing n) then
      if good && (d.port n).strobes % 256 = seq.toNat then
        let d := d.onStatus m n status.toNat
        let d := (d.wr (PORT_IDENT.IDENT0 n) id0.toNat).wr (PORT_IDENT.IDENT1 n) id1.toNat
        let d := (d.modPort n fun p => { p with tempReq := false, tempRepeat := false }).pointFrame m k
          (status.toNat.testBit 25) (codes.map (·.toNat))
        if d.strobing n then (d.modPort n fun p => { p with step := .boundary }).trainBlock m k
        else d.frameIdent m k
      else if d.isLive n then d.tempsMissing m k
      else d
    else d

/-! ### Answers (R70, R72, R77, R83) -/

/-- A written companion register, as acknowledged. -/
def PortSt.wrote (p : PortSt) (l : List (Nat × Nat)) : PortSt :=
  { p with comp := l.foldl (fun a e => tset 0 a e.1 e.2) p.comp }

/-- The frame in flight. -/
def Dev.flight (d : Dev) (n : Nat) : List (Nat × Nat) :=
  match (d.port n).awaits with
  | some f => f.entries
  | none => []

/-- ID_KIND of the companion a port serves (R61, R77). -/
def kindOf (n : Nat) : Nat := if isFront n then 0x0004 else 0x0024

/-- Step 4 has ended well: strobing starts (R83). -/
def Dev.trainLoaded (n : Nat) (d : Dev) : Dev :=
  d.modPort n fun p => { p with step := if isFront n then .boundary else .temps, reloads := 0, threshBad := false }

/-- What a READ_RESP brings: identity in step 2, THRESH_CRC in step 4 and later, a switch test. -/
def Dev.onRead (m : Mem) (n addr : Nat) (v : List Nat) (d : Dev) : Dev :=
  let v0 := v.getD 0 0
  if addr = 0 then
    if (d.port n).step = .kind then
      if v0 = kindOf n then d.modPort n fun p => { p with step := .probes, probes := [], lat := v.getD 2 0 }
      else d.failTrain n causeKind
    else d
  else if addr = 8 then
    if (d.port n).step = .thresholds then
      if v0 = d.threshSum m n then d.trainLoaded n else d.failTrain n causeThresh
    else if v0 = d.threshSum m n then d else d.threshWrong m n
  else if addr = 14 then
    match monOfLc n with
    | some k => d.testReadback m k v0
    | none => d
  else d

/-- READ_RESP (R63, R72). -/
def execReadResp (lc : Lc) (seq : Byte) (check : LinkCheck) (values : List (BitVec 16)) (status : Word)
    (s : State) : Host.Outcome State Fault Refusal :=
  s.run fun m d =>
    let n := lc.val
    let l := halves (values.map (·.toNat))
    let good := uplinkGood 0xB (4 * l.length) seq.toNat check.len.toNat l status.toNat check.crc.toNat
    if d.linkWorks m && good && (d.port n).awaitsSeq ftRead seq.toNat then
      let addr := ((d.flight n).headD (0, 0)).1
      ((d.nextDown n).onStatus m n status.toNat).onRead m n addr (values.map (·.toNat))
    else d

/-- WRITE_ACK (R63, R72). An acknowledged mask is the next one (R226). -/
def execWriteAck (lc : Lc) (seq : Byte) (check : LinkCheck) (status : Word) (s : State) :
    Host.Outcome State Fault Refusal :=
  s.run fun m d =>
    let n := lc.val
    let good := uplinkGood 0xC 0 seq.toNat check.len.toNat [] status.toNat check.crc.toNat
    if d.linkWorks m && good && (d.port n).awaitsSeq ftWrite seq.toNat then
      let l := d.flight n
      let d := d.modPort n fun p => p.wrote l
      let d := if l.any fun e => e.1 = 12 then
          d.modPort n fun p => { p with nextMask := p.newMask, newMask := none } else d
      (d.nextDown n).onStatus m n status.toNat
    else d

/-- STATUS (R63, R72). It ends step 1 of training. -/
def execStatusFrame (lc : Lc) (seq : Byte) (check : LinkCheck) (status : Word) (s : State) :
    Host.Outcome State Fault Refusal :=
  s.run fun m d =>
    let n := lc.val
    let good := uplinkGood 0xD 0 seq.toNat check.len.toNat [] status.toNat check.crc.toNat
    if d.linkWorks m && good && (d.port n).awaitsSeq ftPoll seq.toNat then
      let d := (d.nextDown n).onStatus m n status.toNat
      if (d.port n).step = .poll then
        (d.modPort n fun p => { p with step := .kind }).sendDown n ftRead [(0, 3)]
      else d
    else d

/-- NACK (R63, R72). The frame in flight was not carried out: a mask it held is not loaded. DESIGN CHOICE, log 114. -/
def execNack (lc : Lc) (seq : Byte) (check : LinkCheck) (reason : Byte) (status : Word) (s : State) :
    Host.Outcome State Fault Refusal :=
  s.run fun m d =>
    let n := lc.val
    let hit := match (d.port n).awaits with
      | some f => f.ftype ≠ ftProbe && f.seq = seq.toNat
      | none => false
    let good := uplinkGood 0xF 4 seq.toNat check.len.toNat [reason.toNat * 2 ^ 24] status.toNat check.crc.toNat
    if d.linkWorks m && good && hit && decide (1 ≤ reason.toNat) && decide (reason.toNat ≤ 4) then
      let l := d.flight n
      let d := if l.any fun e => e.1 = 12 then d.modPort n fun p => { p with newMask := none } else d
      (d.nextDown n).onStatus m n status.toNat
    else d

/-! ### Delays (R65, R66) -/

/-- d_p of a round trip in ns; one below the echo's turnaround is negative. -/
def delayOf (rtt : Nat) : Int := 5 * (rtt : Int) - 1000

/-- Insert a number into a rising list. -/
def insertInt (x : Int) : List Int → List Int
  | [] => [x]
  | y :: l => if y < x then y :: insertInt x l else x :: y :: l

/-- The median of delays: with an even number, the lower of the middle two. DEDUCED, log 40. -/
def medianInt (l : List Int) : Int := (l.foldl (fun a x => insertInt x a) []).getD ((l.length - 1) / 2) 0

/-- A new held delay (R66); DELAY holds no sign, and a median of probes just below 0 is held as 0. DEDUCED, log 40. -/
def Dev.holdDelay (n : Nat) (v : Int) (d : Dev) : Dev := d.wr (PORT_DELAY.DELAY n) v.toNat

/-- Whether probes in training are accepted: each within 20 ns of the median, which lies in 0 to 600 ns (R66).
-/
def probesOk (l : List Int) : Bool :=
  let mid := medianInt l
  l.all (fun v => decide (v ≤ mid + 20) && decide (mid ≤ v + 20)) && decide (0 ≤ mid) && decide (mid ≤ 600)

/-- An echo in training. The eighth decides: the port is accepted with its delay and the last round trip. DEDUCED, log 40. -/
def Dev.trainProbe (m : Mem) (n rtt : Nat) (d : Dev) : Dev :=
  let l := (d.port n).probes ++ [delayOf rtt]
  let d := d.modPort n fun p => { p with probes := l }
  if l.length < 8 then d
  else if probesOk l then
    (((d.modPort n fun p => { p with step := .thresholds, probes := l.drop 3 }).wr (PORT_DELAY.RTT n) rtt).holdDelay n
      (medianInt l)).loadCompanion m n
  else d.failTrain n causeDelay

/-- An echo in UP: within 100 ns of the held delay it counts, beyond it is discarded. -/
def Dev.upProbe (n rtt : Nat) (d : Dev) : Dev :=
  let v := delayOf rtt
  let held : Int := (d.rd (PORT_DELAY.DELAY n) : Nat)
  if v < held - 100 || held + 100 < v then
    let d := (d.bump (PORT_ERR.PROBE_ERR n)).modPort n fun p => { p with discards := p.discards + 1 }
    if 5 ≤ (d.port n).discards then d.retrain n else d
  else
    let l := ((d.port n).probes ++ [v])
    let l := l.drop (l.length - 5)
    (d.modPort n fun p => { p with probes := l, discards := 0, newDelay := some (medianInt l) }).wr
      (PORT_DELAY.RTT n) rtt

/-- ECHO (R65). -/
def execEcho (lc : Lc) (rtt : Nat) (s : State) : Host.Outcome State Fault Refusal :=
  s.run fun m d =>
    let n := lc.val
    let probe := match (d.port n).awaits with
      | some f => f.ftype = ftProbe
      | none => false
    if d.linkWorks m && probe then
      let d := d.nextDown n
      if (d.port n).step = .probes then d.trainProbe m n rtt
      else if d.isLive n then d.upProbe n rtt else d
    else d

/-- DELAY_PROBE (R66). -/
def execDelayProbe (lc : Lc) (s : State) : Host.Outcome State Fault Refusal :=
  s.run fun m d => if d.linkWorks m && d.isUp lc.val then d.sendDown lc.val ftProbe [] else d

/-! ### Retries and timeouts (R70, R82, R83, R226) -/

/-- The entries a repeated frame carries: a mask turns all-off (R226). -/
def retryEntries (l : List (Nat × Nat)) : List (Nat × Nat) :=
  l.map fun e => if e.1 = 12 || e.1 = 13 then (e.1, 0) else e

/-- COMMAND_RETRY (R70). POLLs of step 1 are sent anew each millisecond instead. DESIGN CHOICE, log 113. -/
def execCommandRetry (lc : Lc) (s : State) : Host.Outcome State Fault Refusal :=
  s.run fun m d =>
    let n := lc.val
    match d.linkWorks m, (d.port n).awaits with
    | true, some f =>
      if (d.port n).step = .poll then d
      else if !f.retry then
        let g := { f with retry := true, entries := if f.ftype = ftWrite then retryEntries f.entries else f.entries }
        let d := d.modPort n fun p => { p with
          awaits := some g
          newMask := if f.ftype = ftWrite && f.entries.any (fun e => e.1 = 12) then some 0 else p.newMask }
        d.emit (.down n g.words)
      else
        let d := d.bump (PORT_ERR.CMD_FAIL n)
        if d.link n = 2 then d.failTrain n causeNoResponse else d.nextDown n
    | _, _ => d

/-- POLL_TIMEOUT (R83). -/
def execPollTimeout (lc : Lc) (s : State) : Host.Outcome State Fault Refusal :=
  s.run fun m d =>
    if d.linkWorks m && d.link lc.val = 2 && (d.port lc.val).step = .poll then d.failTrain lc.val causeNoResponse
    else d

/-- TRAINING_TIMEOUT (R82). A port that has passed step 4 waits while ACQ is STOPPED (R83). DESIGN CHOICE, log 5. -/
def execTrainingTimeout (lc : Lc) (s : State) : Host.Outcome State Fault Refusal :=
  s.run fun m d =>
    if d.linkWorks m && d.link lc.val = 2 && !(d.acqStopped && d.strobing lc.val) then
      d.failTrain lc.val causeNoResponse
    else d

/-- MISSING_TIMEOUT (R82). -/
def execMissingTimeout (lc : Lc) (s : State) : Host.Outcome State Fault Refusal :=
  s.run fun m d =>
    if d.linkWorks m && d.link lc.val = 4 then (d.wr (PORT_STATE.CAUSE lc.val) causeMiss).retrain lc.val else d

/-- Whether the cassette of link controller `n` is present and stable. -/
def Dev.cassettePresent (d : Dev) (k : Nat) : Bool := (d.rd PORT_SWAP_STATUS.PRESENT).testBit k

/-- RETRAIN (R82). A single attempt, also where the cassette is absent, as DOWN is one state. -/
def execRetrain (lc : Lc) (s : State) : Host.Outcome State Fault Refusal :=
  s.run fun m d => if d.linkWorks m && d.link lc.val = 1 then d.startTrain lc.val true else d

/-- TRAINING_POLL (R83). POLL in step 1, a probe in step 3. -/
def execTrainingPoll (lc : Lc) (s : State) : Host.Outcome State Fault Refusal :=
  s.run fun m d =>
    let n := lc.val
    if d.linkWorks m && d.link n = 2 then
      match (d.port n).step with
      | .poll => (d.modPort n fun p => { p with awaits := none }).launchDown n ftPoll []
      | .probes => if (d.port n).awaits.isNone then d.launchDown n ftProbe [] else d
      | _ => d
    else d

/-- COMPANION_POLL (R22, R84). While ACQ is STOPPED, every companion that is trained is polled. -/
def execCompanionPoll (s : State) : Host.Outcome State Fault Refusal :=
  s.run fun m d =>
    if d.linkWorks m && d.acqStopped then
      d.each (controllers.filter fun n => d.isLive n || d.strobing n) fun n d => d.sendDown n ftPoll []
    else d

/-! ### Cassettes (R87 to R89) -/

/-- The ports of cassette `k` that a string uses. -/
def Dev.cassettePorts (d : Dev) (k : Nat) : List Nat :=
  ((List.range 9).map (9 * k + ·)).filter d.portUsed

def swapCtrl : Nat := PORT_SWAP_CTRL.CMD.addr

/-- An ARM command (R87, R88). DESIGN CHOICE, log 115. -/
def Dev.cmdArm (k : Nat) (d : Dev) : Did :=
  if (d.cassetteStrings k).any fun s => d.connected s || d.closing s then
    (d.wr PORT_SWAP_STATUS.REASON 1, wrRefused 1 swapCtrl)
  else if d.on PORT_SWAP_STATUS.ARMED && d.rd PORT_SWAP_STATUS.CASSETTE ≠ k then
    (d.wr PORT_SWAP_STATUS.REASON 2, wrRefused 2 swapCtrl)
  else if d.on PORT_SWAP_STATUS.ARMED then (d, wrOk)
  else
    let here := d.cassettePresent k
    let d := ((d.wr PORT_SWAP_STATUS.ARMED 1).wr PORT_SWAP_STATUS.CASSETTE k).wr PORT_SWAP_STATUS.PHASE
      (if here then 1 else 2)
    (d.each (d.cassettePorts k) fun n d =>
      (((d.quietPort n).wr (PORT_STATE.LINK n) 5).wr (PORT_STATE.CAUSE n) 6), wrOk)

/-- A DISARM command (R88). Ports still in SWAP are trained where their cassette is present, and DOWN where
it is not; the Curtain's hold ends. DESIGN CHOICE, log 116. -/
def Dev.cmdDisarm (d : Dev) : Did :=
  if d.on PORT_SWAP_STATUS.ARMED then
    let k := d.rd PORT_SWAP_STATUS.CASSETTE
    let here := d.cassettePresent k
    let d := ((d.wr PORT_SWAP_STATUS.ARMED 0).wr PORT_SWAP_STATUS.CASSETTE 0).wr PORT_SWAP_STATUS.PHASE 0
    (d.each ((d.cassettePorts k).filter fun n => d.link n = 5) fun n d =>
      if here then d.retrain n else d.downPort n causeAbsent, wrOk)
  else (d, wrOk)

/-- ARM (R87). -/
def execArm (sid : Sid) (k : Fin 8) (s : State) : Host.Outcome State Fault Refusal :=
  s.run fun _ d => d.host sid.val fun d => d.asSteward sid.val .acq swapCtrl (Dev.cmdArm k.val)

/-- DISARM (R88). -/
def execDisarm (sid : Sid) (s : State) : Host.Outcome State Fault Refusal :=
  s.run fun _ d => d.host sid.val fun d => d.asSteward sid.val .acq swapCtrl Dev.cmdDisarm

/-- PRES_STABLE (R88, R89, R415). The cassette's ports are powered and trained. DESIGN CHOICE, log 43. -/
def execPresStable (k : Fin 8) (s : State) : Host.Outcome State Fault Refusal :=
  s.run fun _ d =>
    if d.alive && !d.cassettePresent k.val then
      let d := d.wr PORT_SWAP_STATUS.PRESENT (Nat.lor (d.rd PORT_SWAP_STATUS.PRESENT) (2 ^ k.val))
      let d := if d.on PORT_SWAP_STATUS.ARMED && d.rd PORT_SWAP_STATUS.CASSETTE = k.val then
          d.wr PORT_SWAP_STATUS.PHASE 4 else d
      d.each (d.cassettePorts k.val) fun n d => (d.companionOff n).retrain n
    else d

/-- PRES_Ck is no longer asserted. -/
def Dev.cassetteGone (k : Nat) (d : Dev) : Dev :=
  if d.cassettePresent k then
    d.wr PORT_SWAP_STATUS.PRESENT (d.rd PORT_SWAP_STATUS.PRESENT - 2 ^ k)
  else d

/-- CASSETTE_REMOVED (R89). -/
def execCassetteRemoved (k : Fin 8) (s : State) : Host.Outcome State Fault Refusal :=
  s.run fun m d =>
    if d.alive && !(d.on PORT_SWAP_STATUS.ARMED && d.rd PORT_SWAP_STATUS.CASSETTE = k.val) then
      let d := d.cassetteGone k.val
      let d := d.each (d.cassettePorts k.val) fun n d => d.downPort n causeAbsent
      let d := d.record recCassetteRemoved [BitVec.ofNat 8 k.val]
      d.withDemand m fun d => d.each (d.cassetteStrings k.val) (Dev.openString m 0x07)
    else d

/-- ARMED_CASSETTE_REMOVED (R88). No opening and no record follow. -/
def execArmedCassetteRemoved (k : Fin 8) (s : State) : Host.Outcome State Fault Refusal :=
  s.run fun _ d =>
    if d.alive && d.on PORT_SWAP_STATUS.ARMED && d.rd PORT_SWAP_STATUS.CASSETTE = k.val then
      let d := (d.cassetteGone k.val).wr PORT_SWAP_STATUS.PHASE 2
      d.each (d.cassettePorts k.val) fun n d =>
        ((d.quietPort n).wr (PORT_STATE.LINK n) 5).wr (PORT_STATE.CAUSE n) 6
    else d

end Sys2Proof.Machine
end

