-- ==== Sys2Proof/Machine/Phase.lean ====
section
/-! DEFINITION. Phase-locked acquisition (R31, R34, R92 to R103, R112, R121, R311, R313, R355): the phase
clock and its sources, strobes, sweep boundaries and sweep ends. -/

namespace Sys2Proof.Machine

/-- A little-endian value of `n` bytes from byte `a` of a list. -/
def leAt (l : List Byte) (a n : Nat) : Nat := ((l.drop a).take n).foldr (fun b v => b.toNat + 256 * v) 0

/-! ### A cue entry's fields (R307) -/

def Cue.action (c : Cue) : Nat := leAt c.bytes 0 1
def Cue.flags (c : Cue) : Nat := leAt c.bytes 1 1
/-- Domain base, or else phase base. -/
def Cue.inDomain (c : Cue) : Bool := c.flags.testBit 0
def Cue.dom (c : Cue) : Nat := c.flags / 2 % 4
def Cue.lateRun (c : Cue) : Bool := c.flags.testBit 3
def Cue.window (c : Cue) : Bool := c.flags.testBit 4
def Cue.repeats (c : Cue) : Bool := c.flags.testBit 5
def Cue.target (c : Cue) : Nat := leAt c.bytes 2 2

/-- The instant at byte `a`, in ns of its domain or in 1/65,536 cycle of phase time. -/
def Cue.instant (c : Cue) (a : Nat) : Nat :=
  let w := leAt c.bytes a 2 * 2 ^ 32 + leAt c.bytes (a + 4) 4
  if c.inDomain then w * 1000000000 + leAt c.bytes (a + 8) 4 else w * 65536 + leAt c.bytes (a + 8) 2

def Cue.start (c : Cue) : Nat := c.instant 4
def Cue.stop (c : Cue) : Nat := c.instant 16

/-- PERIOD in the unit of the entry's instants. -/
def Cue.period (c : Cue) : Nat := leAt c.bytes 28 4 * (if c.inDomain then 1000 else 65536)

/-- START and END of occurrence `k` (R309). -/
def Cue.startAt (c : Cue) (k : Nat) : Nat := c.start + k * c.period
def Cue.stopAt (c : Cue) (k : Nat) : Nat := c.stop + k * c.period

/-- Whether the entry exists and has an occurrence yet to run. -/
def Cue.live (c : Cue) : Bool := !c.bytes.isEmpty && (c.repeats || c.ran = 0)

/-- How many occurrences start before `x`. -/
def Cue.passed (c : Cue) (x : Nat) : Nat :=
  if x ≤ c.start then 0 else if c.repeats then (x - c.start + (c.period - 1)) / c.period else 1

/-! ### A strobe's samples are in (R121, R188, R229, R313, R355) -/

/-- The energy of one strobe of string `s` in the ledger (R355). -/
def Dev.ledgerStrobe (s : Nat) (d : Dev) : Dev :=
  if d.strState s ≤ 1 then d
  else
    let ok := d.rd (ACQ_I.VALID s) = 0 && d.rd (ACQ_VSTR.VALID s) = 0
    let p := if ok then d.vstr s * d.amps s else tget 0 d.lgr.lastP s
    let e := p * d.acq.fill.tc / (d.acq.fill.n : Nat) * 1000 / 3600
    d.modLgr fun g => { g with
      lastP := tset 0 g.lastP s p
      chg := if 0 < e then tmod 0 g.chg s (· + e) else g.chg
      dis := if e < 0 then tmod 0 g.dis s (· - e) else g.dis }

/-- The seconds the ledger goes by: its domain's, or the local clock's while that is UNSET (R356). -/
def Dev.ledgerSec (d : Dev) : Nat :=
  let k := d.rd LGR_CFG.DOMAIN
  if (d.dom k).state = 0 then d.clk / 100000000 else d.domSec k

/-- A step of domain `k` to `ns` meets the ledger: multiples passed give one checkpoint with STEP, and after
a step back the next one counts (R356). -/
def Dev.ledgerStepped (k ns : Nat) (d : Dev) : Dev :=
  let old := d.ledgerSec / 900
  let new := ns / 1000000000 / 900
  if d.domIx (d.rd LGR_CFG.DOMAIN) ≠ d.domIx k then d
  else if old < new then d.modLgr fun g => { g with stepped := true }
  else if new < old then d.modLgr fun g => { g with mult := new }
  else d

/-- No checkpoint for a multiple that passed while LGR did not work; the next one carries GAP (R356). -/
def Dev.ledgerMissed (d : Dev) : Dev :=
  if d.lgr.mult < d.ledgerSec / 900 then d.modLgr fun g => { g with mult := d.ledgerSec / 900, gap := true } else d

/-- The codes of a voltage and of a current (R73). -/
def hvCode (v : Rat) : Nat := unsigned 32 (nearest (v * 250))
def shuntCode (i r : Rat) : Nat := unsigned 32 (nearest (i * r * 100000000))

/-- One entry of the capture buffer (R313) for the strobe whose samples are in. -/
def Dev.captureEntry (d : Dev) : List Byte :=
  let k := d.rd CUE_CAP_STATUS.PORT
  let s := d.monStr k
  let cells := (List.range 24).map (24 * k + ·)
  let x := (d.lastSmp s).getD ⟨0, 0, 0, .stale, 0, .stale, 0, .stale, 0, .stale⟩
  let phase := d.smpStrobe * 65536 / d.phase.n
  leBytes 2 phase ++ leBytes 6 d.phase.cycle ++
    leBytes 6 (cells.foldr (fun c a => 4 * a + d.rd (CELL_V.VALID c)) 0) ++
    leBytes 1 (x.iVal.code + 4 * x.vstrVal.code + 16 * x.vbusVal.code + 64 * x.vpreVal.code) ++ leBytes 1 0 ++
    leBytes 4 (shuntCode x.i (d.strRec s).shunt) ++ leBytes 4 (hvCode x.vstr) ++ leBytes 4 (hvCode x.vbus) ++
    leBytes 4 (hvCode x.vpre) ++ cells.flatMap (fun c => leBytes 2 (d.rd (CELL_V.CODE c))) ++
    leBytes 8 (10 * d.smpAt) ++ leBytes 8 0

/-- The quantised timestamp of the strobe whose samples are awaited, in an entry's base (R311): its phase
time, or the
domain's reading at its clk. -/
def Dev.strobeReading (c : Cue) (d : Dev) : Nat :=
  if c.inDomain then
    ((d.dom c.dom).count - (d.clk - d.smpAt) * d.rd (TIME_INCR.INCR (d.domIx c.dom))) / 2 ^ 24
  else d.phase.cycle * 65536 + d.smpStrobe * 65536 / d.phase.n

/-- Whether the strobe whose samples are awaited belongs to the running capture: at or after the START of its
occurrence, and before its END where it has a window (R311, R313). -/
def Dev.inCapture (d : Dev) : Bool :=
  match d.cue.capBy with
  | some i =>
    let c := d.cueAt i
    let t := d.strobeReading c
    decide (c.startAt (c.ran - 1) ≤ t) && (!c.window || decide (t < c.stopAt (c.ran - 1)))
  | none => false

/-- A captured strobe's entry; a full buffer ends the capture. -/
def Dev.captureStrobe (d : Dev) : Dev :=
  if d.acq.capture then
    let e := d.captureEntry
    let d := (d.modAcq fun a => { a with capture := false }).modCueSt fun q => { q with
      cap := if q.cap.length < 256 then q.cap ++ [e] else q.cap }
    let d := d.wr CUE_CAP_STATUS.COUNT d.cue.cap.length
    if 256 ≤ d.cue.cap.length then
      ((d.wr CUE_CAP_STATUS.FULL 1).wr CUE_CAP_STATUS.RUNNING 0).modCueSt fun q => { q with capBy := none }
    else d
  else d

/-- The charge of one strobe in a string's accumulator (R121). -/
def Dev.countCharge (s : Nat) (d : Dev) : Dev :=
  let dt := d.acq.fill.tc / (d.acq.fill.n : Nat)
  d.modSe s fun x => { x with charge := x.charge + x.lastI * dt }

/-- The samples of the last strobe are counted: they are in, or their deadline has passed. -/
def Dev.closeStrobe (m : Mem) (d : Dev) : Dev :=
  if d.acq.waits then
    let d := d.modAcq fun a => { a with waits := false }
    let d := d.each d.confStrs fun s d => (d.countCharge s).ledgerStrobe s
    let d := d.each (monPorts.filter fun k => d.isLive (lcOfMon k)) (Dev.balConduct d.smpStrobe)
    if d.alive then d.captureStrobe.each d.confStrs (Dev.preStrobe m) else d.captureStrobe
  else d

/-! ### STROBE (R64, R101, R103 to R105) -/

/-- Whether cycle `c` is a temperature cycle of monitor port `k` (R105). -/
def Dev.tempCycle (c k : Nat) (d : Dev) : Bool :=
  c % d.rd ACQ_PH_CFG.NOM_FREQ = 0 || (decide (d.stage < 3) && d.portFast k)

/-- A port at a strobe: the count of R71, the mask that stands, the strobe symbol (R64, R109, R226). DEDUCED, log 41. -/
def Dev.strobePort (t : Nat) (n : Nat) (d : Dev) : Dev :=
  let first := d.phase.k = 0
  let p := d.port n
  let d := d.modPort n fun p => { p with
    strobes := p.strobes + 1, got := false, maskKnown := p.newMask.isNone
    mask := if first then p.mask else p.nextMask.getD p.mask
    nextMask := if first then p.nextMask else none }
  d.emit (.strobe n (nearest ((t : Rat) - ((d.rd (PORT_DELAY.DELAY n) : Nat) + (p.lat : Nat)) / 10)))

/-- The request of temperatures in the exchange slot of the last strobe, or in training at once (R83,
R105). -/
def Dev.askTemps (last : Bool) (k : Nat) (d : Dev) : Dev :=
  let n := lcOfMon k
  let p := d.port n
  let due := last && d.tempCycle (d.phase.cycle + 1) k
  if d.isLive n && last && (due || p.tempRepeat) then
    (d.modPort n fun p => { p with tempReq := true, tempRepeat := !due }).sendDown n ftTempReq []
  else if d.strobing n && p.step = .temps && !p.tempReq then
    (d.modPort n fun p => { p with tempReq := true }).sendDown n ftTempReq []
  else d

/-- STROBE_PERIOD of a companion follows the strobe interval of sweeps of `n` strobes, from which it lies
within 8
LSB (R103). -/
def Dev.followPeriod (j n : Nat) (d : Dev) : Dev :=
  let was : Rat := (tget 0 (d.port j).comp 11 : Nat)
  if 8 < mag (was - 8000000 / d.phase.rate / (n : Nat)) then d.sendDown j ftWrite [(11, d.strobePeriod n)] else d

/-- STROBE (R101). The clock goes on to the strobe's instant. A port that is neither UP nor MISSING has STALE
samples (R107). DEDUCED, log 88. -/
def execStrobe (s : State) : Host.Outcome State Fault Refusal :=
  s.run fun m d =>
    if !d.linkWorks m || !d.runs .acq || d.phase.n ≤ d.phase.k then d
    else d.withDemand m fun d =>
      let d := (d.checkStaged m).closeStrobe m
      let k := d.phase.k
      let n := d.phase.n
      let last := k + 1 = n
      let t := (nearest (d.phase.start + d.cycleClk * (k : Nat) / (n : Nat))).toNat
      let d := d.advanceTo t
      let late := if k = 1 then monPorts.filter fun j => d.isLive (lcOfMon j) && (d.port (lcOfMon j)).tempReq else []
      let d := d.each late (Dev.tempsMissing m)
      let d := d.each (controllers.filter fun j => d.isLive j || d.strobing j) (Dev.strobePort t)
      let held := d.phase.balHold
      let d := (d.modAcq fun a => { a with waits := true, fill := { a.fill with dist := [] } }).modPhase
        fun p => { p with k := k + 1, balHold := p.balHold && !(k = 1 && p.nNext = p.n) }
      let d := d.modAcq fun a => { a with capture := d.inCapture }
      let d := d.each (controllers.filter fun j => d.portUsed j && !d.isLive j) Dev.staleSample
      let up := (monPorts.map lcOfMon).filter d.isUp
      let d := if k = 0 then d.each up fun j d => d.followPeriod j n
        else if last && d.phase.nNext ≠ n then d.each up fun j d => d.sendDown j ftWrite [(11, d.strobePeriod d.phase.nNext)]
        else d
      let d := d.each monPorts (Dev.askTemps last)
      if !d.alive then d
      else
        let d := d.allOff m
        let d := if held && !d.phase.balHold then d.balSlot m d.phase.cycle else d
        let d := if k = n / 2 then d.testMid else d
        if last then d.balSlot m (d.phase.cycle + 1) else d

/-! ### SWEEP_END (R31, R34, R85, R112, R114) -/

/-- CELL_VAVG of one cell. -/
def Dev.averageCell (c : Nat) (d : Dev) : Dev :=
  (d.wr (CELL_VAVG.COUNT c) (d.acq.fill.count c)).wr (CELL_VAVG.MEAN c) (d.acq.fill.mean c)

/-- How many samples of a cell in the sweep count in a state. -/
def Sweep.countVal (w : Sweep) (v : Validity) (c : Nat) : Nat :=
  ((tget [] w.cells c).filter fun x =>
    (if x.val = .ok && w.adj.contains c then Validity.disturbed else x.val) = v).length

/-- Whether port `n` missed the sweep (R85). -/
def Dev.missedSweep (d : Dev) (n : Nat) : Bool :=
  let p := d.port n
  p.valid ≤ d.acq.fill.n / 2 || p.threshBad || !d.isLive n

/-- MISS_COUNT of one port (R85). -/
def Dev.missCount (n : Nat) (d : Dev) : Dev :=
  let d := if d.missedSweep n then d.bump (PORT_STATE.MISS_COUNT n) else d.wr (PORT_STATE.MISS_COUNT n) 0
  d.modPort n fun p => { p with valid := 0 }

/-- The sweep's record of adjacent switches: the lowest cell they mark and how many (R110). -/
def Dev.recordAdjacent (d : Dev) : Dev :=
  match d.acq.fill.adj with
  | [] => d
  | l => d.record recAdjBalance (leBytes 2 (l.foldl min 65535) ++ leBytes 2 l.length)

/-- The completed sweep goes to EST, behind the one it is still working on; a third is not held (R34). -/
def Dev.handSweep (d : Dev) : Dev :=
  let w := d.acq.fill
  let busy := d.works .est && !d.outage bedEstm
  match d.acq.done with
  | none => d.modAcq fun a => { a with done := some w }
  | some _ =>
    if !busy then d.modAcq fun a => { a with done := some w, late := none }
    else
      match d.acq.late with
      | none => d.modAcq fun a => { a with late := some w }
      | some x => (d.bump ARCH_SWEEP_SKIP.COUNT).modAcq fun a => { a with done := some x, late := some w }

/-- The rest of a string runs on, or breaks, for a block's new_block_hold (R148). -/
def Dev.runBlock (k : Nat) (d : Dev) : Dev :=
  match d.meanI (d.monStr k) with
  | none => d
  | some i =>
    let tc := d.acq.fill.tc
    let rest := d.inRest (d.monStr k) i
    if (d.block k).hold || (d.block k).declared then
      d.modBlock k fun b => { b with rest := if rest then b.rest + tc else 0 }
    else d

/-- Everything a sweep end brings. -/
def Dev.endSweep (m : Mem) (d : Dev) : Dev :=
  let d := (d.closeStrobe m).recordAdjacent.balSweep
  let w := d.acq.fill
  let cells := d.confStrs.flatMap d.cellsOf
  let total (v : Validity) : Nat := cells.foldl (fun a c => a + w.countVal v c) 0
  let all := cells.foldl (fun a c => a + (tget [] w.cells c).length) 0
  let d := d.each cells Dev.averageCell
  let d := ((d.wr ACQ_SWEEP0.CYCLE_LO w.cycle).wr ACQ_SWEEP1.CYCLE_HI (w.cycle / 2 ^ 32)).wr ACQ_SWEEP1.N w.n
  let d := ((d.wr ACQ_CNT_DIST.COUNT (total .disturbed)).wr ACQ_CNT_SUSP.COUNT (total .suspect)).wr
    ACQ_CNT_STALE.COUNT (w.n * cells.length - all)
  let mean (s : Nat) : Option Rat := match (w.curOk s).map (·.2) with
    | [] => none
    | l => some (meanOf l)
  let d := d.modAcq fun a => { a with mean := d.confStrs.foldl (fun t s => tset none t s (mean s)) [] }
  let d := (d.each (d.confStrs ++ [8]) Dev.runWho).each d.usedBlocks Dev.runBlock
  let missed := d.usedBlocks.filter fun k => d.missedSweep (lcOfMon k)
  let d := d.modAcq fun a => { a with fill := { a.fill with
    endAt := d.phase.start + d.cycleClk, missed := missed
    ends := (d.confStrs ++ [8]).map fun k => (k, (d.se k).endOf)
    bal := cells.filterMap fun c => if (d.cell c).bal = 0 then none else some (c, (d.cell c).bal) } }
  let d := d.each (controllers.filter d.portUsed) Dev.missCount
  let d := d.handSweep
  if d.alive then (((d.thwSweepEnd m).sdrSweepEnd m).seqSweepEnd m).limSweepEnd
  else d.modLim fun x => { x with swept := some d.phase.cycle }

/-- SWEEP_END (R31). Once per sweep, after its last strobe. -/
def execSweepEnd (s : State) : Host.Outcome State Fault Refusal :=
  s.run fun m d =>
    if d.linkWorks m && d.runs .acq && decide (d.phase.n ≤ d.phase.k) && d.acq.fill.cycle = d.phase.cycle &&
        d.lim.swept ≠ some d.phase.cycle then
      d.withDemand m (Dev.endSweep m)
    else d

/-- SWEEP_ABANDONED (R34). -/
def execSweepAbandoned (s : State) : Host.Outcome State Fault Refusal :=
  s.run fun _ d =>
    match d.acq.done with
    | some w =>
      if d.alive && d.works .est && decide (w.cycle + 2 ≤ d.phase.cycle) then
        (d.bump ARCH_SWEEP_SKIP.COUNT).modAcq fun a => { a with done := a.late, late := none }
      else d
    | none => d

/-! ### The phase clock's states (R96, R97, R99, R100) -/

def phUnlocked : Nat := 0
def phAcquiring : Nat := 1
def phLocked : Nat := 2
def phHold : Nat := 3
def phFree : Nat := 4

def Dev.phState (d : Dev) : Nat := d.rd ACQ_PH_STATUS.STATE

/-- The clock takes a state; entries to HOLD and LOCKED are recorded. -/
def Dev.setPhase (st : Nat) (d : Dev) : Dev :=
  if d.phState = st then d
  else
    let d := (d.wr ACQ_PH_STATUS.STATE st).flag ACQ_PH_STATUS.PHASE_HOLD (st = phUnlocked || st = phHold)
    let d := if st = phLocked then d else d.modAcq fun a => { a with fill := { a.fill with unlocked := true } }
    let d := d.modPhase fun p => { p with good := 0, bad := 0 }
    if st = phHold then d.record recPhaseHold []
    else if st = phLocked then d.record recPhaseLocked [] else d

/-- The source must qualify anew: no crossing accepted so far counts (R96, R100). -/
def Dev.forgetSource (d : Dev) : Dev :=
  (d.modPhase fun p => { p with accepted := none, ivals := [], qual := 0 }).wr ACQ_PH_STATUS.SRC_VALID 0

/-- The source is lost, or TIME leaves RUN: HOLD, and the source must qualify anew (R96, R100). -/
def Dev.loseSource (d : Dev) : Dev := d.forgetSource.setPhase phHold

/-- SOURCE_LOST (R96). -/
def execSourceLost (s : State) : Host.Outcome State Fault Refusal :=
  s.run fun _ d =>
    if d.awake && (d.phState = phAcquiring || d.phState = phLocked) then d.loseSource else d

/-! ### Crossings (R93 to R96) -/

/-- Whether an interval in clk corresponds to 45 to 65 Hz. -/
def mainsIval (x : Rat) : Bool := decide (100000000 / 65 ≤ x) && decide (x ≤ 100000000 / 45)

/-- Whether intervals agree with each other within 1%. -/
def agree (l : List Rat) : Bool :=
  match l with
  | [] => true
  | x :: _ => decide (l.foldl max x ≤ l.foldl min x * 101 / 100)

/-- An accepted crossing or timestamp at `t` clk, with the cycle length it gives: eight in a row that agree
qualify the source (R96). -/
def Dev.acceptCross (t : Rat) (ival : Option Rat) (d : Dev) : Dev :=
  let d := d.modPhase fun p =>
    let l := match ival with
      | some x => (x :: p.ivals).take 8
      | none => p.ivals
    let good := match ival with
      | some x => mainsIval x && agree (x :: p.ivals.take (p.qual - 1))
      | none => false
    { p with accepted := some t, ivals := l, qual := if good then min 8 (p.qual + 1) else 1 }
  if 8 ≤ d.phase.qual && d.runs .time && (d.phState = phUnlocked || d.phState = phHold) then
    (d.wr ACQ_PH_STATUS.SRC_VALID 1).setPhase phAcquiring
  else d

/-- The whole number of cycles that an interval spans at the clock's rate (R95). -/
def Dev.spanned (x : Rat) (d : Dev) : Nat := (nearest (mag x / d.cycleClk)).toNat

/-- A crossing or timestamp at `t`, an unknown number of cycles from the last accepted one, is accepted. One
that
names the same crossing again gives no interval; one that names an earlier crossing gives an interval, and the
last
accepted stays the latest. DEDUCED, log 44. -/
def Dev.takeCross (t : Rat) (d : Dev) : Dev :=
  match d.phase.accepted with
  | none => d.acceptCross t none
  | some a =>
    if d.spanned (t - a) = 0 then d
    else d.acceptCross (max a t) (some (mag (t - a) / (d.spanned (t - a) : Nat)))

/-- The phase error of a crossing at `t`, source minus clock, in cycles (R93, R98). -/
def Dev.crossError (t : Rat) (d : Dev) : Rat :=
  let x := (d.rd ACQ_PH_CFG.PH_OFFSET : Rat) / 65536 - (t - d.phase.start) / d.cycleClk
  x - ((x + 1 / 2).floor : Int)

/-- MAINS_CROSSING (R94). -/
def execMainsCrossing (at_ : Nat) (s : State) : Host.Outcome State Fault Refusal :=
  s.run fun _ d =>
    if !d.awake || d.pwr.inTransport || d.rd ACQ_PH_CFG.PH_SRC ≠ 0 then d
    else
      let t : Rat := (at_ : Nat)
      let was := d.phase.cross
      let d := d.modPhase fun p => { p with cross := some t }
      if d.phState = phLocked then
        if mag (d.crossError t) ≤ 1 / 8 then
          d.takeCross t
        else d.bumpMod ACQ_PH_STATUS.GLITCH
      else
        match was with
        | some a => if mainsIval (t - a) then d.acceptCross t (some (t - a))
          else d.modPhase fun p => { p with qual := 0 }
        | none => d

/-- REASON codes of a refused timestamp (R114). -/
def Dev.zcRefuse (reason addr : Nat) (d : Dev) : Did := (d.wr ACQ_ZC_STATUS.REASON reason, wrRefused reason addr)

/-- A write of ACQ_ZC_SEC1 submits the timestamp (R95). While TIME is STOPPED none is accepted (R100). DEDUCED, log 44. -/
def Dev.cmdZc (hi : Nat) (d : Dev) : Did :=
  let addr := ACQ_ZC_SEC1.SEC_HI.addr
  let k := d.rd ACQ_PH_CFG.ZC_DOMAIN
  let t : Int := ((hi * 2 ^ 32 + d.rd ACQ_ZC_SEC0.SEC_LO) * 1000000000 + d.rd ACQ_ZC_NS.NS : Nat)
  let now : Int := (d.domNs k : Nat)
  let at_ : Rat := (d.clk : Rat) - ((now - t : Int) : Rat) * 16777216 / (d.rd (TIME_INCR.INCR (d.domIx k)) : Nat)
  let stepped := match (d.dom k).lastStep with
    | some x => decide (at_ < x)
    | none => false
  if d.rd ACQ_PH_CFG.PH_SRC ≠ 1 then d.zcRefuse 1 addr
  else if 1000000000 < now - t then d.zcRefuse 2 addr
  else if 1000000 < t - now then d.zcRefuse 3 addr
  else if d.phState = phLocked && 1 / 8 < mag (d.crossError at_) then d.zcRefuse 4 addr
  else if stepped then d.zcRefuse 5 addr
  else if !d.runs .time then (d, wrOk)
  else
    ((d.takeCross at_).bumpMod ACQ_ZC_STATUS.ACCEPTED, wrOk)

/-- ZC_TIMESTAMP (R95). -/
def execZcTimestamp (sid : Sid) (hi : BitVec 16) (s : State) : Host.Outcome State Fault Refusal :=
  s.run fun _ d => d.host sid.val fun d =>
    d.asSteward sid.val .time ACQ_ZC_SEC1.SEC_HI.addr (Dev.cmdZc hi.toNat)

/-! ### SWEEP_BOUNDARY (R66, R83, R98, R99, R102) -/

/-- The nominal frequency in Hz; with no image, which alone supplies it, the clock runs at 50 Hz. DESIGN CHOICE, log 45. -/
def Dev.nomFreq (d : Dev) : Rat := if d.rd ACQ_PH_CFG.NOM_FREQ = 0 then 50 else (d.rd ACQ_PH_CFG.NOM_FREQ : Nat)

/-- The mean frequency of the last 4 accepted intervals. -/
def Dev.measFreq (d : Dev) : Rat :=
  let l := d.phase.ivals.take 4
  if l.isEmpty then d.phase.rate else 100000000 / meanOf l

/-- The phase error at this boundary, extrapolated from the last accepted crossing (R98). -/
def Dev.phaseError (d : Dev) : Rat :=
  match d.phase.accepted with
  | some t =>
    let x := (d.rd ACQ_PH_CFG.PH_OFFSET : Rat) / 65536 + (d.phase.start - t) * d.measFreq / 100000000
    x - ((x + 1 / 2).floor : Int)
  | none => 0

/-- The boundary's judgement of lock (R99). DEDUCED, log 44. -/
def Dev.judgeLock (e : Rat) (d : Dev) : Dev :=
  if d.phState = phAcquiring then
    if mag e ≤ 182 / 65536 then
      let d := d.modPhase fun p => { p with good := p.good + 1 }
      if 20 ≤ d.phase.good then d.setPhase phLocked else d
    else d.modPhase fun p => { p with good := 0 }
  else if d.phState = phLocked then
    if 2048 / 65536 < mag e then
      let d := d.modPhase fun p => { p with bad := p.bad + 1 }
      if 4 ≤ d.phase.bad then d.setPhase phAcquiring else d
    else d.modPhase fun p => { p with bad := 0 }
  else d

/-- The rate of the coming cycle (R98). -/
def Dev.steer (d : Dev) : Dev :=
  let e := d.phaseError
  let live := d.phState = phAcquiring || d.phState = phLocked
  let d := if live then (d.wr ACQ_PH_STATUS.PH_ERR (unsigned 16 (nearest (e * 65536)))).judgeLock e else d
  let f := d.measFreq
  let d := if live then d.modPhase fun p => { p with hold := f } else d
  let want :=
    if d.phState = phUnlocked || d.phState = phFree then d.nomFreq
    else if d.phState = phHold then d.phase.hold
    else f * (1 + clamp ((if d.phState = phLocked then 1 / 8 else 1) * e) (-1 / 100) (1 / 100))
  let r := clamp (clamp want (d.phase.rate * 98 / 100) (d.phase.rate * 102 / 100)) 45 65
  (d.modPhase fun p => { p with rate := r }).wr ACQ_FREQ.RATE (roundTo (2 ^ 32 - 1) (r * 65536))

/-- N_EFF from N_CFG and the stage in force (R102). -/
def Dev.evalN (d : Dev) : Nat := if 1 ≤ d.stage then 16 else 16 * 2 ^ d.rd ACQ_RATE.N_CFG

/-- A port at a boundary: a new delay takes effect (R66), and a trained port is UP (R83). DEDUCED, log 41. -/
def Dev.boundaryPort (m : Mem) (n : Nat) (d : Dev) : Dev :=
  let d := match (d.port n).newDelay with
    | some v => (d.holdDelay n v).modPort n fun p => { p with newDelay := none }
    | none => d
  if d.link n = 2 && (d.port n).step = .boundary && d.runs .acq && !d.outage bedPort && m.hasImage then
    let d := d.modPort n fun p => { p with step := .idle, fails := 0, single := false, valid := 0, got := true }
    (d.wr (PORT_STATE.LINK n) 3).wr (PORT_STATE.CAUSE n) 0
  else d

/-- The swap of an armed cassette is READY once its ports are UP. DESIGN CHOICE, log 43. -/
def Dev.swapReady (d : Dev) : Dev :=
  if d.on PORT_SWAP_STATUS.ARMED && d.rd PORT_SWAP_STATUS.PHASE = 4 &&
      (d.cassettePorts (d.rd PORT_SWAP_STATUS.CASSETTE)).all d.isUp then d.wr PORT_SWAP_STATUS.PHASE 5 else d

/-- Phase 0x0000 of the next cycle: the rate and N of the coming cycle, the ports, the ring half (R34, R98). DEDUCED, log 44. -/
def Dev.boundary (m : Mem) (d : Dev) : Dev :=
  let d := d.closeStrobe m
  let t := d.phase.start + d.cycleClk
  let d := d.advanceTo (nearest t).toNat
  let d := (d.modPhase fun p => { p with cycle := (p.cycle + 1) % 2 ^ 48, start := t, k := 0, boundAt := d.clk }).steer
  let d := d.modPhase fun p => { p with n := p.nNext }
  let d := d.modPhase fun p => { p with nNext := d.evalN, balHold := p.balHold || d.evalN ≠ p.n }
  let d := d.wr ACQ_STATUS.N_EFF d.phase.n
  let d := (d.each (controllers.filter d.portUsed) (Dev.boundaryPort m)).swapReady
  d.modAcq fun a => { a with fill :=
    { cycle := d.phase.cycle, n := d.phase.n, tc := 1 / d.phase.rate, cells := [], strs := [], adj := [], dist := []
      endAt := 0, unlocked := d.phState ≠ phLocked, missed := [], ends := [], bal := [], on := [] } }

end Sys2Proof.Machine
end

