-- ==== Sys2Proof/Machine/Cues.lean ====
section
/-! DEFINITION. The cue list, the frame queue and captures (R307 to R314, R317). -/

namespace Sys2Proof.Machine

/-! ### What an entry may hold (R307, R308) -/

/-- Whether the fraction of an instant at byte `a` and its reserved bytes lie within R307. -/
def Cue.instantOk (c : Cue) (a : Nat) : Bool :=
  leAt c.bytes (a + 2) 2 = 0 &&
    (if c.inDomain then decide (leAt c.bytes (a + 8) 4 < 1000000000) else leAt c.bytes (a + 10) 2 = 0)

/-- Whether TARGET lies within R307. DEDUCED, log 74. -/
def Cue.targetOk (c : Cue) : Bool :=
  if c.action = 1 then decide (c.target < 256)
  else if c.action = 2 then decide (c.target < 64)
  else if c.action = 3 || c.action = 4 then decide (c.target < 32)
  else true

/-- The first row of R308. -/
def Cue.good (c : Cue) : Bool :=
  decide (1 ≤ c.action) && decide (c.action ≤ 5) && decide (c.flags < 64) && c.targetOk && c.instantOk 4 &&
    (if c.window then c.instantOk 16 && decide (c.start < c.stop) && c.action ≠ 1 && c.action ≠ 4
      else leAt c.bytes 16 12 = 0) &&
    (if c.repeats then decide ((if c.inDomain then 1000 else 1) ≤ leAt c.bytes 28 4) &&
        (!c.window || decide (c.stop - c.start < c.period))
      else leAt c.bytes 28 4 = 0) &&
    (!c.lateRun || decide (c.action ≤ 2))

/-! ### Readings in an entry's base (R309) -/

/-- What the entry's base reads now. -/
def Dev.cueNow (c : Cue) (d : Dev) : Nat :=
  if c.inDomain then d.domNs c.dom else d.phase.cycle * 65536 + d.phaseNow

/-- What it reads 96 clk from now, rounded up. -/
def Dev.cueAhead (c : Cue) (d : Dev) : Nat :=
  if c.inDomain then
    (((d.dom c.dom).advance d.clk (d.rd (TIME_INCR.INCR (d.domIx c.dom))) 96).count + (2 ^ 24 - 1)) / 2 ^ 24
  else
    d.phase.cycle * 65536 + (((d.clk + 96 : Nat) - d.phase.start : Rat) / d.cycleClk * 65536).ceil.toNat

/-- The first clk at which the base reads at or after `x`, at the rate in force and, for a domain that absorbs
an
offset, at the one that follows (R298, R309). -/
def Dev.clkOf (c : Cue) (x : Nat) (d : Dev) : Nat :=
  if c.inDomain then (d.dom c.dom).reach d.clk (d.rd (TIME_INCR.INCR (d.domIx c.dom))) (x * 2 ^ 24)
  else (d.phase.start + d.cycleClk * ((x : Rat) - (d.phase.cycle * 65536 : Nat)) / 65536).ceil.toNat

/-- Whether the clk `before` the one of instant `x` comes in the running cycle, whose rate is known; a domain's
comes always. -/
def Dev.inReach (c : Cue) (x before : Nat) (d : Dev) : Bool :=
  c.inDomain || decide (((d.clkOf c x - before : Nat) : Rat) ≤ d.phase.start + d.cycleClk)

/-- The clock goes on to `before` clk before that instant, where that comes in the running cycle. DESIGN CHOICE, log 2. -/
def Dev.toInstant (c : Cue) (x before : Nat) (d : Dev) : Dev :=
  if d.inReach c x before then d.advanceTo (d.clkOf c x - before) else d

/-! ### Skipped and late occurrences (R308, R314) -/

/-- Causes in a CUE_SKIPPED record. -/
def skipJumped : Nat := 1
def skipChannel : Nat := 2
def skipCapture : Nat := 3

/-- An occurrence is skipped. DEDUCED, log 75. -/
def Dev.skipCue (i cause : Nat) (d : Dev) : Dev :=
  ((d.record recCueSkipped (leBytes 2 i ++ leBytes 1 cause)).bump CUE_CNT.SKIPPED).wr CUE_STATUS.SKIPPED 1

/-- An occurrence runs late. -/
def Dev.ranLate (i : Nat) (d : Dev) : Dev :=
  ((d.record recCueLate (leBytes 2 i)).bump CUE_CNT.LATE).wr CUE_STATUS.LATE 1

/-! ### The frame launcher (R312) -/

/-- Whether a port can send: its Ethernet link is up or its CAN port on, and it is not idle by pruning. DEDUCED, log 75. -/
def Dev.portLinked (p : Nat) (d : Dev) : Bool :=
  if p = 0 then d.on NET_STATUS.ETH0_LINK
  else if p = 1 then d.on NET_STATUS.ETH1_LINK && !d.on NET_STATUS.ETH1_IDLE
  else if p = 2 then d.on NET_STATUS.CAN0_ON
  else d.on NET_STATUS.CAN1_ON && !d.on NET_STATUS.CAN1_IDLE

/-- The clk for which a frame of `len` bytes, with preamble, FCS and gap, keeps a 100BASE-TX port.
PRESUMED, log 77. -/
def frameClk (len : Nat) : Nat := 8 * (len + 24)

/-- The reading of a domain in ns that a launched frame is stamped with: that of its launch on Ethernet, on
CAN that
of its start-of-frame edge, which arbitration decides, a free time later (R305, R312). DESIGN CHOICE, log 73. -/
def Dev.launchStamp (port dom : Nat) (d : Dev) : Nat × Dev :=
  if port < 2 then (d.domNs dom, d)
  else
    let r := d.drawNat
    (((d.dom dom).advance d.clk (d.rd (TIME_INCR.INCR (d.domIx dom))) r.1).count / 2 ^ 24, r.2)

/-- Launch the frame of a slot for entry `i`, its timestamp stated in domain `dom`. PRESUMED, log 77. -/
def Dev.launchSlot (slot i dom : Nat) (late : Bool) (d : Dev) : Dev :=
  let r := d.launchStamp (slot / 64) dom
  let d := r.2
  let d := if slot / 64 < 2 then d.occupy (slot / 64) (d.slot slot).bytes.length else d
  let d := d.modSlot slot fun x => { x with
    launches := (x.launches + 1) % 256, late := late, tsDom := dom, tsSec := r.1 / 1000000000
    tsNs := r.1 % 1000000000 }
  (if late then d.ranLate i else d).emit (.launch (slot / 64) (slot % 64) late)

/-- The clk of this cycle's limit message, where it goes out on the port and has not gone yet (R165, R167). -/
def Dev.limitDue (m : Mem) (port : Nat) (d : Dev) : Option Nat :=
  if d.alive && d.runs .lim && m.hasImage && (d.rd LIM_PUB.PORTS).testBit port && d.lim.sent ≠ some d.phase.cycle then
    some (nearest (d.phase.start + d.cycleClk * (d.rd LIM_PUB.PHASE : Nat) / 65536)).toNat
  else none

/-- Whether a launch on the port that meets `p` is committed: of an entry, by its trigger's clk and its index,
or of
the limit message, which comes before every entry of the same clk. -/
def Dev.launchAhead (m : Mem) (port : Nat) (p : Nat → Option Nat → Bool) (d : Dev) : Bool :=
  (match d.limitDue m port with
    | some t => p t none
    | none => false) ||
    d.cue.list.any fun x => x.2.committed && x.2.action = 1 && x.2.target / 64 = port &&
      p (d.clkOf x.2 (x.2.startAt x.2.ran)) (some x.1)

/-- Whether another launch on the port goes before entry `i`, which triggers now: an earlier trigger's, and on
equal
triggers the limit message's or a lower index's (R312). -/
def Dev.outrun (m : Mem) (port i : Nat) (d : Dev) : Bool :=
  d.launchAhead m port fun t k => decide (t < d.clk) || (t = d.clk && (match k with
    | some j => decide (j < i)
    | none => true))

/-- A FRAME occurrence: not sent without a running launcher or a link, waiting where the medium is taken or
another
launch goes first, else launched. DESIGN CHOICE, log 118. -/
def Dev.frameDue (m : Mem) (i : Nat) (late : Bool) (d : Dev) : Dev :=
  let c := d.cueAt i
  let k := c.target
  let dom := if c.inDomain then c.dom else 0
  if !d.works .net || !d.portLinked (k / 64) then d.record recCueFailed (leBytes 2 i)
  else if k / 64 < 2 && (decide (d.clk < tget 0 d.cue.busy (k / 64)) || d.outrun m (k / 64) i) then
    d.modSlot k fun x => { x with waiting := x.waiting ++ [(i, dom)] }
  else d.launchSlot k i dom late

/-! ### The actions (R310, R313) -/

/-- A capture starts; the strobe whose samples are still awaited belongs to it where it lies in the window, or
the
entry runs late (R308, R311). -/
def Dev.startCapture (i : Nat) (late : Bool) (d : Dev) : Dev :=
  let d := d.modCueSt fun q => { q with cap := [], capBy := some i }
  let d := d.modAcq fun a => { a with capture := a.waits && (late || d.inCapture) }
  (((d.wr CUE_CAP_STATUS.COUNT 0).wr CUE_CAP_STATUS.FULL 0).wr CUE_CAP_STATUS.RUNNING 1).wr
    CUE_CAP_STATUS.PORT (d.cueAt i).target

/-- Whether channel commands of cues act: CHN runs and no hold-through stands (R314). -/
def Dev.channelsTake (d : Dev) : Bool := d.runs .chn && d.pwr.sup = .running

/-- The next occurrence of entry `i` runs; one that is discarded opens no window. DEDUCED, log 75. -/
def Dev.fire (m : Mem) (i : Nat) (late : Bool) (d : Dev) : Dev :=
  let c := d.cueAt i
  let off := (c.action = 2 && d.cue.capBy.isSome) || ((c.action = 3 || c.action = 4) && !d.channelsTake)
  let d := d.modCue i fun x => { x with committed := false, ran := x.ran + 1, open_ := x.window && !off }
  if c.action = 1 then d.frameDue m i late
  else if c.action = 2 then
    if off then d.skipCue i skipCapture else (if late then d.ranLate i else d).startCapture i late
  else if c.action = 3 || c.action = 4 then
    if off then d.skipCue i skipChannel else d.chanCmd m i (2 ^ c.target) (c.action = 3)
  else d.record recCueMark (leBytes 2 c.target ++ leBytes 2 i)

/-- Skip the next `n` occurrences of entry `i`. -/
def Dev.skipMany (i n : Nat) (d : Dev) : Dev :=
  (d.each (List.range n) fun _ d => d.skipCue i skipJumped).modCue i fun x => { x with ran := x.ran + n }

/-- Entry `i` where its base has passed occurrences that have not run (R314): a committed one runs; of the
others one runs late where the entry may, the rest are skipped. A frame waits for the end of an outage. DEDUCED, log 76. -/
def Dev.catchUp (m : Mem) (i : Nat) (d : Dev) : Dev :=
  let c := d.cueAt i
  let n := c.passed (d.cueNow c + 1)
  if !c.live || n ≤ c.ran || (c.action = 1 && d.outage bedNets) then d
  else
    let d := if c.committed then d.fire m i false else d
    let left := n - (d.cueAt i).ran
    if left = 0 then d
    else if c.lateRun then (d.skipMany i (left - 1)).fire m i true
    else d.skipMany i left

/-- Every entry that `p` names catches up, in ascending index. DEDUCED, log 75. -/
def Dev.cuePast (m : Mem) (p : Cue → Bool) (d : Dev) : Dev :=
  d.each (d.cue.list.map (·.1)) fun i d => if p (d.cueAt i) then d.catchUp m i else d

/-- A step of domain `k` forward, for the entries in it. -/
def Dev.cueStepped (m : Mem) (k : Nat) (d : Dev) : Dev :=
  if d.runs .cue then d.cuePast m fun c => c.inDomain && d.domIx c.dom = d.domIx k else d

/-- CUE stops: nothing is committed any more. DEDUCED, log 76. -/
def Dev.cueStop (d : Dev) : Dev :=
  d.each (d.cue.list.map (·.1)) fun i d => d.modCue i fun x => { x with committed := false }

/-! ### Entry commands (R308, R317) -/

/-- A refused command of CUE_CTRL or CUE_FQ_CTRL. -/
def Dev.cueRefuse (reason addr : Nat) (d : Dev) : Did := (d.wr CUE_RESULT.REASON reason, wrRefused reason addr)

/-- Put an entry into the list, or none. -/
def Dev.putCue (i : Nat) (c : Cue) (d : Dev) : Dev :=
  let d := d.modCue i fun _ => c
  d.wr CUE_STATUS.ENTRIES d.cue.list.length

/-- The staged entry. DEDUCED, log 74. -/
def Dev.stagedCue (sid : Nat) (d : Dev) : Cue :=
  ⟨(List.range 8).flatMap fun k => leBytes 4 (d.rd (CUE_E.BYTES k)), sid, false, 0, false⟩

/-- The refusal of a staged entry by the first matching row of R308 up to row 6. DEDUCED, log 74. -/
def Dev.cueFault (m : Mem) (sid i : Nat) (c : Cue) (d : Dev) : Option Nat :=
  let chan := c.action = 3 || c.action = 4
  let role := m.img.chanRole c.target
  if !c.good then some 1
  else if chan && !d.isSteward sid .chn then some 7
  else if c.action = 1 && !(d.rd LIM_PUB.PORTS).testBit (c.target / 64) then some 11
  else if chan && !(role = 2 || role = 3 || role = 4) then some 8
  else if c.action = 1 && (d.slot c.target).bytes.isEmpty then some 4
  else if c.inDomain && (d.dom c.dom).state = 0 then some 3
  else if (d.cueAt i).committed || (d.cueAt i).open_ then some 5
  else none

/-- Whether a late entry may run at once: a FRAME, or a BURST whose END lies more than 96 clk ahead. DEDUCED, log 74. -/
def Dev.mayRunLate (c : Cue) (d : Dev) : Bool :=
  c.lateRun && (c.action = 1 || (c.window && decide (d.cueAhead c < c.stop)))

/-- WRITE: the staged entry stands at INDEX, or is refused whole. Occurrences past at the write never run,
but for the one that runs at once; while CUE does not work it waits with the others (R22, R314). -/
def Dev.cmdCueWrite (m : Mem) (sid i : Nat) (d : Dev) : Did :=
  let addr := CUE_CTRL.CMD.addr
  let d := d.wr CUE_RESULT.INDEX i
  let c := d.stagedCue sid
  match d.cueFault m sid i c with
  | some r => d.cueRefuse r addr
  | none =>
    if d.cueAhead c ≤ c.start then (d.putCue i c, wrOk)
    else if d.mayRunLate c then
      let d := d.putCue i { c with ran := c.passed (d.cueAhead c) - 1 }
      (if d.works .cue then d.fire m i true else d, wrOk)
    else d.cueRefuse 2 addr

/-- READ: the entry at INDEX goes to the staging registers. -/
def Dev.cmdCueRead (i : Nat) (d : Dev) : Did :=
  let c := d.cueAt i
  let d := (d.wr CUE_RESULT.INDEX i).wr CUE_RESULT.OWNER c.owner
  (d.each (List.range 8) fun k d => d.wr (CUE_E.BYTES k) (leAt c.bytes (4 * k) 4), wrOk)

/-- DELETE: by the session that wrote the entry or CUE's steward, unless it is committed. DEDUCED, log 74. -/
def Dev.cmdCueDelete (sid i : Nat) (d : Dev) : Did :=
  let c := d.cueAt i
  let d := d.wr CUE_RESULT.INDEX i
  if c.bytes.isEmpty then (d, wrOk)
  else if c.owner ≠ sid && !d.isSteward sid .cue then d.cueRefuse 6 CUE_CTRL.CMD.addr
  else if c.committed || c.open_ then d.cueRefuse 5 CUE_CTRL.CMD.addr
  else (d.putCue i .empty, wrOk)

/-- CAP_CLEAR: the capture buffer is empty. DEDUCED, log 76. -/
def Dev.cmdCapClear (d : Dev) : Did :=
  (((d.modCueSt fun q => { q with cap := [] }).wr CUE_CAP_STATUS.COUNT 0).wr CUE_CAP_STATUS.FULL 0, wrOk)

/-- CUE_WRITE (R308). -/
def execCueWrite (sid : Sid) (index : CueIx) (s : State) : Host.Outcome State Fault Refusal :=
  s.run fun m d => d.host sid.val fun d =>
    d.asGranted sid.val .cue CUE_CTRL.CMD.addr (Dev.cmdCueWrite m sid.val index.val)

/-- CUE_READ (R317). -/
def execCueRead (sid : Sid) (index : CueIx) (s : State) : Host.Outcome State Fault Refusal :=
  s.run fun _ d => d.host sid.val fun d =>
    d.asGranted sid.val .cue CUE_CTRL.CMD.addr (Dev.cmdCueRead index.val)

/-- DELETE (R308). -/
def execCueDelete (sid : Sid) (index : CueIx) (s : State) : Host.Outcome State Fault Refusal :=
  s.run fun _ d => d.host sid.val fun d =>
    d.asGranted sid.val .cue CUE_CTRL.CMD.addr (Dev.cmdCueDelete sid.val index.val)

/-- CAP_CLEAR (R313, R317). -/
def execCapClear (sid : Sid) (s : State) : Host.Outcome State Fault Refusal :=
  s.run fun _ d => d.host sid.val fun d => d.asGranted sid.val .cue CUE_CTRL.CMD.addr Dev.cmdCapClear

/-! ### Frame slots (R312, R314, R317) -/

/-- Whether an entry names the slot. -/
def Dev.slotNamed (k : Nat) (d : Dev) : Bool :=
  d.cue.list.any fun x => x.2.action = 1 && x.2.target = k

/-- Whether a launch of the slot is committed or still waits. -/
def Dev.slotCommitted (k : Nat) (d : Dev) : Bool :=
  !(d.slot k).waiting.isEmpty || d.cue.list.any fun x => x.2.committed && x.2.action = 1 && x.2.target = k

/-- The data bytes a CAN frame's DLC names; above 8 only an FD frame holds more. -/
def dlcBytes (fd : Bool) (dlc : Nat) : Nat :=
  if dlc ≤ 8 then dlc
  else if fd then [12, 16, 20, 24, 32, 48, 64].getD (dlc - 9) 64 else 8

/-- Whether `len` staged bytes are a frame for port `p`. -/
def frameOk (p len : Nat) (b : List Byte) : Bool :=
  if p < 2 then decide (60 ≤ len) && decide (len ≤ 1024)
  else len = 8 + dlcBytes ((leAt b 0 4).testBit 30) (leAt b 4 4 % 16)

/-- LOAD: the staged frame goes into a slot. -/
def Dev.cmdLoadSlot (p slot len : Nat) (d : Dev) : Did :=
  let k := 64 * p + slot
  let b := ((List.range 256).flatMap fun j => leBytes 4 (d.rd (CUE_FQ_WIN.BYTES j))).take len
  if !frameOk p len b then d.cueRefuse 10 CUE_FQ_CTRL.CMD.addr
  else if d.slotCommitted k then d.cueRefuse 9 CUE_FQ_CTRL.CMD.addr
  else (d.modSlot k fun x => { x with bytes := b, launches := 0, late := false }, wrOk)

/-- CLEAR: a slot that no entry names is empty. -/
def Dev.cmdClearSlot (p slot : Nat) (d : Dev) : Did :=
  let k := 64 * p + slot
  if d.slotCommitted k || d.slotNamed k then d.cueRefuse 9 CUE_FQ_CTRL.CMD.addr
  else (d.modSlot k fun x => { x with bytes := [], launches := 0, late := false }, wrOk)

/-- LOAD (R312). -/
def execLoadSlot (sid : Sid) (port : Path) (slot : Fin 64) (len : BitVec 11) (s : State) :
    Host.Outcome State Fault Refusal :=
  s.run fun _ d => d.host sid.val fun d =>
    d.asGranted sid.val .cue CUE_FQ_CTRL.CMD.addr (Dev.cmdLoadSlot port.num slot.val len.toNat)

/-- CLEAR (R312). -/
def execClearSlot (sid : Sid) (port : Path) (slot : Fin 64) (s : State) : Host.Outcome State Fault Refusal :=
  s.run fun _ d => d.host sid.val fun d =>
    d.asGranted sid.val .cue CUE_FQ_CTRL.CMD.addr (Dev.cmdClearSlot port.num slot.val)

/-! ### Occurrences (R309, R310, R312) -/

/-- CUE_COMMIT (R309). The clock goes on to 96 clk before the trigger; in phase base that comes in the running
cycle. -/
def execCueCommit (index : CueIx) (s : State) : Host.Outcome State Fault Refusal :=
  s.run fun _ d =>
    let c := d.cueAt index.val
    if d.awake && d.works .cue && c.live && !c.committed && d.inReach c (c.startAt c.ran) 96 then
      (d.toInstant c (c.startAt c.ran) 96).modCue index.val fun x => { x with committed := true }
    else d

/-- CUE_TRIGGER (R309, R310). The clock goes on to the trigger. A frame due in an outage of NETS waits for
its end (R314). -/
def execCueTrigger (index : CueIx) (s : State) : Host.Outcome State Fault Refusal :=
  s.run fun m d =>
    let c := d.cueAt index.val
    let x := c.startAt c.ran
    if d.awake && d.works .cue && c.live && c.committed && !c.open_ &&
        (c.inDomain || decide (x / 65536 ≤ d.phase.cycle)) then
      let d := d.toInstant c x 0
      if c.action = 1 && d.outage bedNets then d.modCue index.val fun x => { x with committed := false }
      else d.fire m index.val false
    else d

/-- The END of a window (R310). DEDUCED, log 75. -/
def Dev.endWindow (m : Mem) (i : Nat) (d : Dev) : Dev :=
  let c := d.cueAt i
  let d := d.modCue i fun x => { x with open_ := false }
  if c.action = 2 then
    if d.cue.capBy = some i then (d.modCueSt fun q => { q with capBy := none }).wr CUE_CAP_STATUS.RUNNING 0 else d
  else if c.action = 3 then
    if d.channelsTake then d.chanCmd m i (2 ^ c.target) false else d.skipCue i skipChannel
  else d.record recCueMarkEnd (leBytes 2 c.target ++ leBytes 2 i)

/-- CUE_WINDOW_END (R310). The clock goes on to the END of the open window. -/
def execCueWindowEnd (index : CueIx) (s : State) : Host.Outcome State Fault Refusal :=
  s.run fun m d =>
    let c := d.cueAt index.val
    let x := c.stopAt (c.ran - 1)
    if d.awake && c.open_ && (c.inDomain || decide (x / 65536 ≤ d.phase.cycle)) then
      (d.toInstant c x 0).endWindow m index.val
    else d

/-- Whether a frame of `len` bytes that starts now on an Ethernet port ends before its next committed launch
(R312). -/
def Dev.fitsAhead (m : Mem) (port len : Nat) (d : Dev) : Bool :=
  !d.launchAhead m port fun t _ => decide (t < d.clk + frameClk len)

/-- CUE_LATE (R312). The clock goes on to where the medium is free, and the launch that waits goes, where it
ends
before the port's next committed launch and the launcher works; without a link it is not sent (R314). -/
def execCueLate (port : Path) (slot : Fin 64) (s : State) : Host.Outcome State Fault Refusal :=
  s.run fun m d =>
    let k := 64 * port.num + slot.val
    match (d.slot k).waiting with
    | (i, dom) :: l =>
      if d.awake && d.works .net && !d.outage bedNets then
        let d := d.advanceTo (tget 0 d.cue.busy port.num)
        let e := d.modSlot k fun x => { x with waiting := l }
        if !d.portLinked port.num then e.record recCueFailed (leBytes 2 i)
        else if d.fitsAhead m port.num (d.slot k).bytes.length then e.launchSlot k i dom true
        else d
      else d
    | [] => d

end Sys2Proof.Machine
end

