-- ==== Sys2Proof/Machine/Time.lean ====
section
/-! DEFINITION. Time domains, the servo, pair modes and PTP (R290 to R304, R315, R416). -/

namespace Sys2Proof.Machine

/-! ### Sources and states (R293, R295) -/

def srcNone : Nat := 0
def srcPtp : Nat := 1
def srcHost : Nat := 2

def stUnset : Nat := 0
def stLocked : Nat := 1
def stAcquiring : Nat := 2
def stHoldover : Nat := 3
def stHost : Nat := 4
def stFree : Nat := 5

/-- The source of domain `k`. -/
def Dev.source (d : Dev) (k : Nat) : Nat := d.rd (TIME_DCFG.SOURCE k)

/-- D1 and D2 are privileged, D3 and D4 general (R294). -/
def privileged (k : Nat) : Bool := k < 2

/-- JUMP_THRESH of the pair of domain `k`, in ns. -/
def Dev.jumpThresh (d : Dev) (k : Nat) : Rat := (d.rd (TIME_JUMP.JUMP_THRESH (k / 2)) : Nat)

/-- Write INCR of a domain, in both members of a redundant pair. -/
def Dev.putIncr (k v : Nat) (d : Dev) : Dev := d.each (d.members k) fun j d => d.wr (TIME_INCR.INCR j) v

/-- The servo's rate becomes INCR (R296). -/
def Dev.putRate (k : Nat) (ppb : Rat) (d : Dev) : Dev :=
  (d.modDom k fun x => { x with ppb := ppb }).putIncr k (incrOf ppb)

/-- The rate of the INCR in force, in ppb. -/
def Dev.incrRate (d : Dev) (k : Nat) : Rat :=
  ((d.rd (TIME_INCR.INCR (d.domIx k)) : Rat) / 167772160 - 1) * 1000000000

/-- Seconds and nanoseconds as a TIME_STEP record holds them (R343). -/
def stepTime (ns : Nat) : List Byte := leBytes 6 (ns / 1000000000) ++ leBytes 4 (ns % 1000000000)

/-- A timestamp at a clk (R300): the four domains and the local clock, in ns. -/
def Dev.stamp (d : Dev) : List Rat :=
  ([0, 1, 2, 3].map fun k => ((d.dom k).count : Rat) / 16777216) ++ [((10 * d.clk : Nat) : Rat)]

/-- The readings of a timestamp in the domains of `l` move by `off`. -/
def shiftStamp (l : List Nat) (off : Rat) (s : List Rat) : List Rat :=
  (List.range s.length).map fun i => if l.contains i then s.getD i 0 + off else s.getD i 0

/-- The timestamps a port keeps follow a step of the domains of `l`. DEDUCED, log 69. -/
def PtpSt.moved (l : List Nat) (off : Rat) (x : PtpSt) : PtpSt :=
  { x with
    sync := x.sync.map fun y => (y.1, y.2.1, y.2.2.1, shiftStamp l off y.2.2.2)
    diff := x.diff.map (shiftStamp l off)
    req := x.req.map fun y => (y.1, shiftStamp l off y.2)
    preq := x.preq.map fun y => (y.1, shiftStamp l off y.2) }

/-- A step of domain `k` by `off` ns (R294, R347): recorded before it, the trackers' offsets and the
timestamps that
are kept follow it, and the ledger and the cue list meet it (R314, R356). DEDUCED, log 69. -/
def Dev.stepDom (m : Mem) (k : Nat) (off : Rat) (d : Dev) : Dev :=
  let old := d.domNs k
  let count := (((d.dom k).count + (off * 16777216).floor) % (domModulus : Int)).toNat
  let d := d.record recTimeStep ([BitVec.ofNat 8 k] ++ stepTime old ++ stepTime (count / 2 ^ 24))
  let d := d.ledgerStepped k (count / 2 ^ 24)
  let d := d.modDom k fun x => { x with count := count, stepped := true, lastStep := some d.clk }
  let d := d.each [0, 1] fun p d => d.modPtp p (PtpSt.moved (d.members k) off)
  let d := d.each (d.members k) fun j d =>
    (d.bumpMod (TIME_DSTAT.STEPS j)).modTrk j fun t => { t with prev := t.prev - off }
  if 0 < off then d.cueStepped m k else d

/-! ### The servo (R296) -/

/-- Whether member `j`'s source steers its domain. -/
def Dev.isActive (d : Dev) (j : Nat) : Bool := !d.redundant j || (j % 2 = 1) = d.upperActive j

/-- A PTP domain's state by its offset and the run of offsets below 1 µs. -/
def Dev.judgeState (k locked : Nat) (o : Rat) (d : Dev) : Dev :=
  d.modDom k fun x => { x with state :=
    if 16 ≤ locked then stLocked
    else if x.state = stLocked && mag o ≤ 10000 then stLocked else stAcquiring }

/-- The equations of R296 for the tracker that steers the domain. -/
def Dev.steerDom (m : Mem) (j : Nat) (o tm : Rat) (d : Dev) : Dev :=
  let step := !privileged j && decide (10000 < mag o)
  let d := if step then d.stepDom m j o else d
  let e := if step then 0 else o
  let t := d.trk j
  let y := t.y + e / (64 * tm)
  let ppb := clamp (y + e / (4 * tm)) (-100000) 100000
  let n := if mag o < 1000 then t.locked + 1 else 0
  let d := d.modTrk j fun t => { t with y := y, prev := e, last := d.clk, locked := n }
  let d := (d.putRate j ppb).modDom j fun x => { x with slewing := 100000 ≤ mag ppb }
  d.judgeState j n o

/-- A jump: the measurement is discarded, a record written (R297). -/
def Dev.jumpAt (j : Nat) (o : Rat) (d : Dev) : Dev :=
  let d := d.record recMasterJump ([BitVec.ofNat 8 j] ++ leBytes 4 (unsigned 32 (nearest o)))
  (d.bumpMod (TIME_DSTAT.JUMPS j)).modTrk j fun t => { t with jump := true, within := 0, restart := false }

/-- Tracking begins anew at offset `o`. DEDUCED, log 71. -/
def Dev.rejoin (j : Nat) (o : Rat) (d : Dev) : Dev :=
  d.modTrk j fun t => { t with prev := o, last := d.clk, locked := 0, within := 0, jump := false, restart := false }

/-- The domain of a tracker that steers holds over on its INCR, also where an offset was being absorbed (R296 to
R298). DEDUCED, log 72. -/
def Dev.holdOver (k : Nat) (d : Dev) : Dev :=
  if (d.dom k).stepped then d.modDom k fun x => { x with state := stHoldover, slewTo := none } else d

/-! ### Redundant pairs (R298) -/

/-- Whether a member's master is neither lost nor in a jump, and has been measured. -/
def Dev.trackerGood (d : Dev) (j : Nat) : Bool :=
  !(d.trk j).jump && !(d.trk j).lost && !(d.trk j).restart

/-- The other member of a pair. -/
def partner (j : Nat) : Nat := if j % 2 = 0 then j + 1 else j - 1

/-- The active output goes over to member `j`: recorded, and its offset is absorbed at the INCR limit. DEDUCED, log 70. -/
def Dev.switchTo (j : Nat) (d : Dev) : Dev :=
  let o := (d.trk j).prev
  let y := clamp (d.trk j).y (-100000) 100000
  let d := d.record recTimeSwitch ([BitVec.ofNat 8 (partner j), BitVec.ofNat 8 j] ++ leBytes 4 (unsigned 32 (nearest o)))
  let d := d.wr TIME_STATUS.SWITCHED 1
  let d := { d with time :=
    if j < 2 then { d.time with upper12 := j % 2 = 1 } else { d.time with upper34 := j % 2 = 1 } }
  let d := d.modDom j fun x => { x with
    state := if x.state = stHoldover || 10000 < mag o then stAcquiring else x.state }
  if !(d.dom j).stepped then d
  else if o = 0 then d.putRate j y
  else
    let ppb : Rat := if 0 < o then 100000 else -100000
    let close := mag (ppb - y)
    let n := if close = 0 then 0 else (mag o * 100000000 / close).ceil.toNat
    (d.putRate j ppb).modDom j fun x => { x with slewing := true, slewTo := some (d.clk + n, y) }

/-- When the active master is lost or has jumped, the pair's output switches to the partner where that is good,
or holds over. DEDUCED, log 71. -/
def Dev.settlePair (j : Nat) (d : Dev) : Dev :=
  let a := if d.upperActive j then 2 * (j / 2) + 1 else 2 * (j / 2)
  if !(d.trk a).jump && !(d.trk a).lost then d
  else if d.trackerGood (partner a) then d.switchTo (partner a) else d.holdOver a

/-! ### A measurement (R296 to R298, R416) -/

/-- A tracker measures `o` ns while its master has jumped or is judged anew. -/
def Dev.judgeAnew (j : Nat) (o : Rat) (d : Dev) : Dev :=
  let ok := decide (mag o ≤ d.jumpThresh j)
  if (d.trk j).jump then
    if !ok then d.modTrk j fun t => { t with within := 0 }
    else if 7 ≤ (d.trk j).within then
      let d := d.rejoin j o
      if d.isActive j then d.modDom j fun x => { x with state := stAcquiring } else d
    else d.modTrk j fun t => { t with within := t.within + 1 }
  else if ok then
    let d := (d.rejoin j o).modTrk j fun t => { t with y := 0 }
    if d.isActive j then
      d.modDom j fun x => { x with ppb := d.incrRate j, state := stAcquiring, slewing := false }
    else d
  else
    let d := d.jumpAt j o
    if d.redundant j then d else d.holdOver j

/-- A tracker measures `o` ns in the course of its tracking. DEDUCED, log 70. DEDUCED, log 71. -/
def Dev.track (m : Mem) (j : Nat) (o : Rat) (d : Dev) : Dev :=
  let t := d.trk j
  let tm : Rat := ((d.clk - t.last : Nat) : Rat) / 100000000
  let pred := t.prev - ((d.dom j).ppb - t.y) * tm
  if d.jumpThresh j < mag (o - pred) then
    let d := d.jumpAt j o
    if d.redundant j then d else d.holdOver j
  else if tm = 0 then d
  else if !d.isActive j then
    d.modTrk j fun t => { t with y := (d.dom j).ppb + (o - t.prev) / tm, prev := o, last := d.clk }
  else if (d.dom j).slewTo.isSome then d.modTrk j fun t => { t with prev := o, last := d.clk }
  else d.steerDom m j o tm

/-- The first step of a PTP domain (R294, R296). -/
def Dev.firstStep (m : Mem) (j : Nat) (o : Rat) (d : Dev) : Dev :=
  let d := (d.stepDom m j o).each (d.members j) fun i d => d.modTrk i fun t => { t with restart := true }
  let d := d.modTrk j fun _ => { Tracker.start with last := d.clk }
  d.modDom j fun x => { x with ppb := 0, state := stAcquiring, resync := false }

/-- A RESYNC: a step of any size, which also ends a jump (R294, R297). -/
def Dev.resyncStep (m : Mem) (j : Nat) (o : Rat) (d : Dev) : Dev :=
  let d := (d.stepDom m j o).rejoin j 0
  d.modDom j fun x => { x with resync := false, slewing := false, slewTo := none, state := stAcquiring }

/-- A tracker's offset register, saturating. -/
def Dev.putOffs (j : Nat) (o : Rat) (d : Dev) : Dev :=
  d.wr (TIME_OFFS.OFFSET j) (unsigned 32 (max (-2147483648) (min 2147483647 (nearest o))))

/-- One measurement of member `j`'s master: offset `o`, master less domain, in ns. -/
def Dev.measure (m : Mem) (j : Nat) (o : Rat) (d : Dev) : Dev :=
  let d := (d.putOffs j o).modTrk j fun t => { t with lost := false }
  let d :=
    if !(d.dom j).stepped then if d.isActive j then d.firstStep m j o else d
    else if (d.dom j).resync && d.isActive j then d.resyncStep m j o
    else if (d.trk j).jump || (d.trk j).restart then d.judgeAnew j o
    else d.track m j o
  if d.redundant j && (d.dom j).stepped then d.settlePair j else d

/-! ### Timestamps and ports (R300 to R304) -/

/-- Whether port `p` handles PTP messages: NET runs, no outage of NETS, and the port is not idle. DESIGN CHOICE, log 106. -/
def Dev.ptpOn (m : Mem) (p : Nat) (d : Dev) : Bool :=
  d.alive && m.hasImage && d.works .net && !d.outage bedNets && (p = 0 || !d.on NET_STATUS.ETH1_IDLE) &&
    m.img.ptpProfile p ≠ 0

/-- Whether messages received on port `p` are forwarded (R304). DESIGN CHOICE, log 106. -/
def Dev.forwards (m : Mem) (p : Nat) (d : Dev) : Bool :=
  d.alive && m.hasImage && m.img.tcEn && d.works .net && !d.outage bedNets && (p = 0 || !d.on NET_STATUS.ETH1_IDLE)

/-- Whether the port's mechanism is peer-to-peer (R306). -/
def peerToPeer (m : Mem) (p : Nat) : Bool := m.img.ptpProfile p = 2 || m.img.ptpProfile p = 3

/-- How a message leaves under a TRANSPORT (R302, R303): one changed on the fly has its checksum set to 0 over
IPv4,
and over IPv6 gets a 2-byte trailer that keeps it valid. Event messages use UDP port 319, the others 320. PRESUMED, log 119. -/
def wireOf (transport : Nat) (event changed : Bool) (plain : Checksum) : Wire :=
  let port := if event then 319 else 320
  if transport = 0 then ⟨0, 0, 0, .none⟩
  else if !changed then ⟨transport, port, 0, plain⟩
  else if transport = 1 then ⟨1, port, 0, .zero⟩
  else ⟨2, port, 2, .valid⟩

/-- Send a PTP message on port `p`; one that is timestamped as it leaves is changed on the fly (R301, R302). -/
def Dev.sendPtp (m : Mem) (p : Nat) (event changed : Bool) (x : PtpMsg) (d : Dev) : Dev :=
  d.emit (.ptp p (wireOf (m.img.ptpTransport p) event changed .valid) x)

/-- The transparent clock forwards a message of `kind`: an event message takes its residence time, and a Sync
under peer-to-peer the ingress port's meanLinkDelay, and is so changed on the fly (R302, R304). DESIGN CHOICE, log 73. -/
def Dev.forward (m : Mem) (p kind : Nat) (event : Bool) (d : Dev) : Dev :=
  if d.forwards m p then
    let r := d.drawNat
    let added : Int := if event then (r.1 : Nat) + (if kind = 0 && peerToPeer m p then (d.ptp p).delay else 0) else 0
    (if event then r.2 else d).emit (.forwarded (1 - p) kind (wireOf (m.img.ptpTransport p) event event .kept) added)
  else d

/-- Whether domain `k` takes its time from port `p` and domainNumber `n` (R293). -/
def Dev.servedBy (k p n : Nat) (d : Dev) : Bool :=
  d.source k = srcPtp && d.rd (TIME_DCFG.PORT k) = p && d.rd (TIME_DCFG.PTP_DOMAIN k) = n

/-- The clock by which a port's messages with domainNumber `n` are timestamped (R300): the domain it serves, the
lowest of several; 4, the local clock, where it serves none. DEDUCED, log 69. -/
def Dev.msgClock (p n : Nat) (d : Dev) : Nat := ((List.range 4).find? fun k => d.servedBy k p n).getD 4

/-- The clock by which a port's own messages are timestamped: its master's domain, or the lowest it follows. -/
def Dev.portClock (m : Mem) (p : Nat) (d : Dev) : Nat :=
  if m.img.ptpRole p ≠ 0 then m.img.ptpRole p - 1
  else ((List.range 4).find? fun k => d.source k = srcPtp && d.rd (TIME_DCFG.PORT k) = p).getD 4

/-- The domainNumber of a port's own messages, a free one where it serves no domain. DEDUCED, log 69. -/
def Dev.portDomain (m : Mem) (p : Nat) (d : Dev) : Nat × Dev :=
  let k := d.portClock m p
  if k < 4 then (d.rd (TIME_DCFG.PTP_DOMAIN k), d) else (d.drawNat.1 % 256, d.drawNat.2)

/-- A measurement from a Sync that came in at timestamp `at_` with corrected origin time `t1` in ns, for every
domain the message serves (R296, R300); while TIME is STOPPED the servo is suspended (R22). -/
def Dev.syncDone (m : Mem) (p n : Nat) (at_ : List Rat) (t1 : Int) (d : Dev) : Dev :=
  let d := (d.modPtp p fun x => { x with diff := some (at_.map (· - t1)) }).wr (TIME_PTP.STATE p) 9
  if d.runs .time then
    d.each ((List.range 4).filter fun k => d.servedBy k p n) fun k d =>
      d.measure m k ((d.ptp p).delay - (((d.ptp p).diff).getD []).getD k 0)
  else d

/-- A slave port of a running PTP handling. DEDUCED, log 69. -/
def Dev.slavePort (m : Mem) (p : Nat) (d : Dev) : Bool := d.ptpOn m p && m.img.ptpRole p = 0

/-- Whether port `p` serves some domain with domainNumber `n`. -/
def Dev.servesAny (p n : Nat) (d : Dev) : Bool := (List.range 4).any fun k => d.servedBy k p n

/-- SYNC (R296, R300, R301, R304). -/
def execSync (eth : Eth) (dom : Byte) (twoStep : Bool) (id : BitVec 16) (origin corr : Int) (s : State) :
    Host.Outcome State Fault Refusal :=
  s.run fun m d =>
    let p := eth.val
    let d := d.forward m p 0 true
    if d.slavePort m p && d.servesAny p dom.toNat then
      if twoStep then d.modPtp p fun x => { x with sync := some (dom.toNat, id.toNat, corr, d.stamp) }
      else d.syncDone m p dom.toNat d.stamp (origin + corr)
    else d

/-- FOLLOW_UP (R301). -/
def execFollowUp (eth : Eth) (dom : Byte) (id : BitVec 16) (origin corr : Int) (s : State) :
    Host.Outcome State Fault Refusal :=
  s.run fun m d =>
    let p := eth.val
    let d := d.forward m p 6 false
    match (d.ptp p).sync with
    | some (n, i, c, at_) =>
      if d.slavePort m p && n = dom.toNat && i = id.toNat then
        (d.modPtp p fun x => { x with sync := none }).syncDone m p n at_ (origin + c + corr)
      else d
    | none => d

/-- ANNOUNCE (R296). A port that listened is uncalibrated until a Sync serves it. -/
def execAnnounce (eth : Eth) (dom : Byte) (s : State) : Host.Outcome State Fault Refusal :=
  s.run fun m d =>
    let p := eth.val
    let d := d.forward m p 1 false
    if d.slavePort m p && d.servesAny p dom.toNat && d.rd (TIME_PTP.STATE p) = 4 then d.wr (TIME_PTP.STATE p) 8 else d

/-- The domain a master-only port serves. -/
def Dev.masterDom (m : Mem) (p : Nat) : Nat := m.img.ptpRole p - 1

/-- DELAY_REQ (R301). The answer carries the ingress timestamp in the domain the port serves. -/
def execDelayReq (eth : Eth) (dom : Byte) (id : BitVec 16) (corr : Int) (s : State) :
    Host.Outcome State Fault Refusal :=
  s.run fun m d =>
    let p := eth.val
    let d := d.forward m p 2 true
    let k := Dev.masterDom m p
    if d.ptpOn m p && m.img.ptpRole p ≠ 0 && !peerToPeer m p && d.rd (TIME_DCFG.PTP_DOMAIN k) = dom.toNat then
      d.sendPtp m p false false
        { kind := 3, domain := dom.toNat, id := id.toNat, time := (d.domNs k : Nat), corr := 65536 * corr, cls := 0
          prio1 := 0, prio2 := 0 }
    else d

/-- meanPathDelay or meanLinkDelay of a port, in ns, and its register. -/
def Dev.putDelay (p : Nat) (v : Int) (d : Dev) : Dev :=
  (d.modPtp p fun x => { x with delay := v }).wr (TIME_PTP.DELAY p) (min 65535 v.toNat)

/-- DELAY_RESP (R296, R301): the delay is half of what goes out and comes back. -/
def execDelayResp (eth : Eth) (dom : Byte) (id : BitVec 16) (received corr : Int) (s : State) :
    Host.Outcome State Fault Refusal :=
  s.run fun m d =>
    let p := eth.val
    let d := d.forward m p 3 false
    match (d.ptp p).req, (d.ptp p).diff with
    | some (i, t3), some diff =>
      if d.slavePort m p && !peerToPeer m p && i = id.toNat && d.servesAny p dom.toNat then
        let k := d.msgClock p dom.toNat
        (d.modPtp p fun x => { x with req := none }).putDelay p
          (nearest ((diff.getD k 0 + ((received - corr : Int) - t3.getD k 0)) / 2))
      else d
    | _, _ => d

/-- PDELAY_REQ (R301). The answer carries the turnaround, egress less ingress timestamp. DESIGN CHOICE, log 73. -/
def execPdelayReq (eth : Eth) (dom : Byte) (id : BitVec 16) (s : State) : Host.Outcome State Fault Refusal :=
  s.run fun m d =>
    let p := eth.val
    if d.ptpOn m p && peerToPeer m p then
      let r := d.drawNat
      r.2.sendPtp m p true true
        { kind := 5, domain := dom.toNat, id := id.toNat, time := 0, corr := 65536 * (r.1 : Nat), cls := 0
          prio1 := 0, prio2 := 0 }
    else d

/-- PDELAY_RESP (R296, R301). -/
def execPdelayResp (eth : Eth) (_dom : Byte) (twoStep : Bool) (id : BitVec 16) (turnaround : Int) (s : State) :
    Host.Outcome State Fault Refusal :=
  s.run fun m d =>
    let p := eth.val
    match (d.ptp p).preq with
    | some (i, t1) =>
      if d.ptpOn m p && peerToPeer m p && i = id.toNat then
        let k := d.portClock m p
        let v : Rat := d.stamp.getD k 0 - t1.getD k 0 - turnaround
        let d := d.modPtp p fun x => { x with preq := none, presp := if twoStep then some (i, v) else none }
        if twoStep then d else d.putDelay p (nearest (v / 2))
      else d
    | none => d

/-- PDELAY_RESP_FOLLOW_UP (R301). -/
def execPdelayRespFollowUp (eth : Eth) (_dom : Byte) (id : BitVec 16) (turnaround : Int) (s : State) :
    Host.Outcome State Fault Refusal :=
  s.run fun m d =>
    let p := eth.val
    match (d.ptp p).presp with
    | some (i, v) =>
      if d.ptpOn m p && peerToPeer m p && i = id.toNat then
        (d.modPtp p fun x => { x with presp := none }).putDelay p (nearest ((v - turnaround) / 2))
      else d
    | none => d

/-- A master's message in domain `k`. -/
def Dev.masterMsg (kind k id : Nat) (d : Dev) : PtpMsg :=
  { kind := kind, domain := d.rd (TIME_DCFG.PTP_DOMAIN k), id := id, time := (d.domNs k : Nat)
    corr := ((d.dom k).count / 2 ^ 8 % 65536 : Nat), cls := 0, prio1 := 0, prio2 := 0 }

/-- PTP_TRANSMIT (R301, R303). A master sends Sync with its transmit time and Announce with its class and
priorities; a slave under delay request-response sends Delay_Req, either under peer-to-peer Pdelay_Req. -/
def execPtpTransmit (eth : Eth) (kind : PtpKind) (s : State) : Host.Outcome State Fault Refusal :=
  s.run fun m d =>
    let p := eth.val
    let k := Dev.masterDom m p
    let master := m.img.ptpRole p ≠ 0
    let id := (d.ptp p).nextId
    let next (x : PtpSt) : PtpSt := { x with nextId := (x.nextId + 1) % 65536 }
    let req (kind n : Nat) : PtpMsg :=
      { kind := kind, domain := n, id := id, time := 0, corr := 0, cls := 0, prio1 := 0, prio2 := 0 }
    if !d.ptpOn m p then d
    else match kind with
    | .sync =>
      if master then (d.modPtp p next).sendPtp m p true true (d.masterMsg 0 k id) else d
    | .announce =>
      if master then
        let st := (d.dom k).state
        let cls := if st = stLocked || st = stHost then m.img.classLocked p else m.img.classHold p
        (d.modPtp p next).sendPtp m p false false
          { d.masterMsg 1 k id with cls := cls, prio1 := m.img.priority1 p, prio2 := m.img.priority2 p }
      else d
    | .delayReq =>
      if !master && !peerToPeer m p then
        let n := d.portDomain m p
        (n.2.modPtp p fun x => { next x with req := some (id, d.stamp) }).sendPtp m p true false (req 2 n.1)
      else d
    | .pdelayReq =>
      if peerToPeer m p then
        let n := d.portDomain m p
        (n.2.modPtp p fun x => { next x with preq := some (id, d.stamp), presp := none }).sendPtp m p true false
          (req 4 n.1)
      else d

/-- MANAGEMENT_MESSAGE (R303, R304). The clock ignores it, the transparent clock forwards it. -/
def execManagementMessage (eth : Eth) (s : State) : Host.Outcome State Fault Refusal :=
  s.run fun m d => d.forward m eth.val 7 false

/-- MASTER_LOST (R296 to R298). The member's master is lost: its domain holds over, or its pair switches. -/
def execMasterLost (k : Dom) (s : State) : Host.Outcome State Fault Refusal :=
  s.run fun _ d =>
    let j := k.val
    if d.alive && d.works .time && d.source j = srcPtp && !(d.trk j).lost then
      let d := d.modTrk j fun t => { t with lost := true, restart := true, locked := 0 }
      let d := if d.rd (TIME_PTP.STATE (d.rd (TIME_DCFG.PORT j))) = 9 then
        d.wr (TIME_PTP.STATE (d.rd (TIME_DCFG.PORT j))) 4 else d
      if d.redundant j then d.settlePair j else d.holdOver j
    else d

/-! ### Commands (R292 to R294, R315) -/

/-- A refusal that names a domain. DEDUCED, log 22. -/
def Dev.timeRefuse (reason k addr : Nat) (d : Dev) : Did :=
  ((d.wr TIME_RESULT.REASON reason).wr TIME_RESULT.DOMAIN k, wrRefused reason addr)

/-- The staged step offset in ns. -/
def Dev.stagedStep (d : Dev) : Int :=
  let v : Nat := (d.rd TIME_STEP_SEC1.SEC_HI * 2 ^ 32 + d.rd TIME_STEP_SEC0.SEC_LO) * 1000000000 + d.rd TIME_STEP_NS.NS
  if d.on TIME_STEP_SEC1.NEG then - (v : Int) else v

/-- STEP (R293, R294). -/
def Dev.cmdStep (m : Mem) (k : Nat) (d : Dev) : Did :=
  let addr := TIME_CTRL.CMD.addr
  let off : Rat := (d.stagedStep : Int)
  if d.source k = srcPtp then d.timeRefuse 4 k addr
  else if d.source k ≠ srcHost then d.timeRefuse 5 k addr
  else if (d.dom k).stepped && privileged k then d.timeRefuse 1 k addr
  else if (d.dom k).stepped && decide (d.jumpThresh k < mag off) then d.timeRefuse 2 k addr
  else ((d.stepDom m k off).modDom k fun x => { x with state := stHost }, wrOk)

/-- RESYNC (R294). -/
def Dev.cmdResync (k : Nat) (d : Dev) : Did :=
  let addr := TIME_CTRL.CMD.addr
  if privileged k then d.timeRefuse 1 k addr
  else if d.source k ≠ srcPtp then d.timeRefuse 5 k addr
  else (d.modDom k fun x => { x with resync := true }, wrOk)

/-- A write of TIME_INCR (R292, R293). DEDUCED, log 72. -/
def Dev.cmdIncr (k v : Nat) (d : Dev) : Did :=
  let addr := (TIME_INCR.INCR k).addr
  if d.source k = srcPtp then d.timeRefuse 4 k addr
  else if v < 0x09FFBE77 || 0x0A004189 < v then d.timeRefuse 3 k addr
  else (d.wr (TIME_INCR.INCR k) v, wrOk)

/-- STEP (R294). -/
def execTimeStep (sid : Sid) (k : Dom) (s : State) : Host.Outcome State Fault Refusal :=
  s.run fun m d => d.host sid.val fun d => d.asSteward sid.val .time TIME_CTRL.CMD.addr (Dev.cmdStep m k.val)

/-- RESYNC (R294). -/
def execResync (sid : Sid) (k : Dom) (s : State) : Host.Outcome State Fault Refusal :=
  s.run fun _ d => d.host sid.val fun d => d.asSteward sid.val .time TIME_CTRL.CMD.addr (Dev.cmdResync k.val)

/-- TIME_INCR (R292). -/
def execTimeIncr (sid : Sid) (k : Dom) (value : Word) (s : State) : Host.Outcome State Fault Refusal :=
  s.run fun _ d => d.host sid.val fun d =>
    d.asSteward sid.val .time (TIME_INCR.INCR k.val).addr (Dev.cmdIncr k.val value.toNat)

/-! ### TIME's start (R293, R416) -/

/-- What each domain reads under its source, at a start of the module or of TIME. A redundant pair holds its
lower member's counter. DEDUCED, log 71. -/
def Dev.domStart (k : Nat) (d : Dev) : Dev :=
  let x := d.dom k
  let src := d.source k
  let st :=
    if src = srcNone then stFree
    else if !x.stepped then stUnset
    else if src = srcHost then stHost else stAcquiring
  let d := d.modDom k fun x => { x with state := st, slewing := false, slewTo := none, resync := false }
  let d := if d.redundant k then d.putIncr k (d.rd (TIME_INCR.INCR (d.domIx k))) else d
  d.modTrk k fun t => { t with locked := 0, within := 0, jump := false, lost := false, restart := x.stepped }

/-- The source of domain `k` has changed while TIME is STOPPED (R416): it keeps its counter, its INCR and its
first
step; one past that step reads ACQUIRING under PTP from TIME START on only. DEDUCED, log 71. -/
def Dev.sourceChanged (k : Nat) (d : Dev) : Dev :=
  let src := d.source k
  d.modDom k fun x => { x with state :=
    if src = srcNone then stFree
    else if !x.stepped then stUnset
    else if src = srcHost then stHost else x.state }

/-- TIME reaches STOPPED: a domain goes on at its last INCR, also where an offset was being absorbed (R22). DEDUCED, log 72. -/
def Dev.servoStops (k : Nat) (d : Dev) : Dev := d.modDom k fun x => { x with slewTo := none }

/-- The portState of each Ethernet port as PTP handling starts (R315). -/
def Dev.ptpStart (m : Mem) (p : Nat) (d : Dev) : Dev :=
  (d.modPtp p fun x => { PtpSt.start with delay := x.delay, nextId := x.nextId }).wr (TIME_PTP.STATE p)
    (if !m.hasImage || m.img.ptpProfile p = 0 then 3 else if m.img.ptpRole p = 0 then 4 else 6)

/-- TIME starts: every domain under its source; the lower member's source of a pair is active after a start of
the module only. DEDUCED, log 72. -/
def Dev.timeStart (d : Dev) : Dev := d.each (List.range 4) Dev.domStart

end Sys2Proof.Machine
end

