-- ==== Sys2Proof/Machine/Validate.lean ====
section
/-! DEFINITION. Which registers an image supplies (R42), and the validation of each function's registers
that START and VERIFY make (R26, R49, R115, R140, R154, R175, R203, R224, R236, R260, R289, R316, R384). -/

namespace Sys2Proof.Machine

/-! ### Registers marked Trellis (R9, R42) -/

/-- The registers that the TIME section supplies (R306). -/
def timeRegs : List Nat := [0x600, 0xF00, 0xF01, 0xF02, 0xF04, 0xF05, 0xF06, 0xF07]

/-- The registers that DEFAULTS may list. -/
def defaultRegs : List Nat :=
  [PORT_CFG.LINK_TIMEOUT.addr, ACQ_RATE.N_CFG.addr, ACQ_QW.QW_PRE.addr, EST_CFG.H0.addr, EST_REST.REST_TIME.addr,
   EST_EMPTY.EMPTY_CYCLES.addr, EST_PROBE.PROBE_AGE.addr, EST_SIGMA.SIGMA_MAX.addr, LRN_CFG.DEPTH_MIN.addr,
   LRN_CFG2.NEW_REST.addr, LIM_CFG.RAMP_UP.addr, LIM_PUB.PHASE.addr, LIM_ESC.GRACE.addr, LIM_TOL.TOL_ABS.addr,
   LIM_BCAP.DIS.addr, SEQ_CFG.JOIN_WAIT.addr, (SEQ_SHED.POS 0).addr, THW_CFG.FAST_HOLD.addr, BAL_CFG.VMIN.addr,
   BAL_CFG2.R_BAL.addr, BAL_TEST.PERIOD.addr, CHN_CFG.STAGGER.addr, REC_CFG.DOMAIN.addr, LGR_CFG.DOMAIN.addr,
   PWR_THRESH.P1.addr, PWR_CFG.HOLD_MIN.addr]

/-- The registers that DEFAULTS must list: a field has no stated default and no section supplies it. -/
def neededRegs : List Nat := [LIM_PUB.PORTS.addr, LIM_BCAP.DIS.addr, (SEQ_SHED.POS 0).addr]

/-- The fields at an address. -/
def fieldsAt (a : Nat) : List Fld := (regFields a).getD []

/-- Write a whole word into the fields at an address. -/
def Dev.putWord (a v : Nat) (d : Dev) : Dev :=
  (fieldsAt a).foldl (fun d f => d.wr f (v / 2 ^ f.lo)) d

/-- The word that DEFAULTS gives register `a`, if it lists it, among the first `n` pairs (address, value). -/
def Img.findDefault (i : Img) (a : Nat) : Nat → Option Nat
  | 0 => none
  | n + 1 =>
    match i.findDefault a n with
    | some v => some v
    | none => if i.u32 (i.at_ secDefaults + 8 * n) = a then some (i.u32 (i.at_ secDefaults + 8 * n + 4)) else none

/-- How many pairs DEFAULTS holds. -/
def Img.defaultCount (i : Img) : Nat :=
  match i.sec secDefaults with
  | some (_, n) => n / 8
  | none => 0

/-- Register `a` at its reset value under an image: what the image supplies, or each field's default. -/
def Dev.reload (i : Img) (a : Nat) (d : Dev) : Dev :=
  let d := (fieldsAt a).foldl (fun d f => d.wr f f.rst) d
  let t := i.at_ secTime
  if a = 0x600 then d.putWord a (i.u32 (t + 12))
  else if a = 0xF00 then d.putWord a (i.u8 (t + 2))
  else if a = 0xF01 then d.putWord a (i.u32 (t + 4))
  else if a = 0xF02 then d.putWord a (i.u32 (t + 8))
  else if 0xF04 ≤ a ∧ a ≤ 0xF07 then d.putWord a (i.u32 (t + 16 + 4 * (a - 0xF04)))
  else
    match i.findDefault a i.defaultCount with
    | some v => d.putWord a v
    | none => d

/-! ### Validation -/

/-- A condition that fails, with its detail code and the first failing register. -/
def failing (c : Bool) (detail : Nat) (f : Fld) : Option (Nat × Nat) := if c then some (detail, f.addr) else none

/-- A field outside its range. -/
def Dev.outside (f : Fld) (lo hi detail : Nat) (d : Dev) : Option (Nat × Nat) :=
  failing (d.rd f < lo || hi < d.rd f) detail f

/-- The first condition that fails. -/
def firstFail (l : List (Option (Nat × Nat))) : Option (Nat × Nat) := l.findSome? id

/-- The enabled harmonics (R140). -/
def Dev.harmonics (d : Dev) : List Nat := [d.rd EST_CFG.H0, d.rd EST_CFG.H1, d.rd EST_CFG.H2]

/-- Whether two of the enabled harmonics are equal. -/
def Dev.harmonicsClash (d : Dev) : Bool :=
  let h0 := d.rd EST_CFG.H0
  let h1 := d.rd EST_CFG.H1
  let h2 := d.rd EST_CFG.H2
  h0 = h1 || (h1 ≠ 0 && h1 = h2) || h0 = h2

/-- The shed order as a word. -/
def Dev.shedWord (d : Dev) : Nat :=
  (List.range 8).foldr (fun k v => d.rd (SEQ_SHED.POS k) + 16 * v) 0

/-- A PTP source on a port that is DISABLED or MASTER_ONLY, or source 3 (R316). -/
def Dev.badSource (i : Img) (k : Nat) (d : Dev) : Bool :=
  let p := d.rd (TIME_DCFG.PORT k)
  d.source k = 3 || (d.source k = srcPtp && (i.ptpProfile p = 0 || i.ptpRole p ≠ 0))

/-- The first failing register of a redundant pair whose lower member is `k` (R316). -/
def Dev.badPair (k : Nat) (d : Dev) : Option (Nat × Nat) :=
  if !d.redundant k then none
  else if d.source k ≠ srcPtp then some (3, (TIME_DCFG.SOURCE k).addr)
  else
    let same := d.rd (TIME_DCFG.PORT k) = d.rd (TIME_DCFG.PORT (k + 1)) &&
      d.rd (TIME_DCFG.PTP_DOMAIN k) = d.rd (TIME_DCFG.PTP_DOMAIN (k + 1))
    failing (d.source (k + 1) ≠ srcPtp || same) 3 (TIME_DCFG.SOURCE (k + 1))

/-- The registers of function `f` against each other and the image `i`, of which `conf` says whether it
configures a string. DEDUCED, log 31. -/
def Dev.validate (i : Img) (conf : Bool) (f : Func) (d : Dev) : Option (Nat × Nat) :=
  match f with
  | .acq => firstFail [
      d.outside PORT_CFG.LINK_TIMEOUT 20 1000 1, d.outside PORT_CFG.LINK_MISS_LIMIT 1 16 2,
      d.outside ACQ_QW.QW_PRE 150 200 3, d.outside ACQ_QW.QW_POST 50 100 3,
      failing (220 < d.rd ACQ_QW.QW_PRE + d.rd ACQ_QW.QW_POST) 4 ACQ_QW.QW_PRE,
      failing (d.rd ACQ_RATE.N_CFG = 3) 5 ACQ_RATE.N_CFG]
  | .est => firstFail [
      failing (d.rd EST_CFG.H0 = 0 || d.harmonics.any (7 < ·) || d.harmonicsClash) 1 EST_CFG.H0,
      failing (d.rd EST_CFG.Z_SEL = 3 || d.harmonics.getD (d.rd EST_CFG.Z_SEL) 0 = 0) 2 EST_CFG.Z_SEL,
      d.outside EST_REST.REST_TIME 30 240 3, d.outside EST_REST.SLOPE_MIN 10 250 3,
      d.outside EST_EMPTY.EMPTY_CYCLES 1 60 4, d.outside EST_EMPTY.EMPTY_MARGIN 10 200 4,
      failing (d.rd EST_PROBE.PROBE_AGE < 60) 5 EST_PROBE.PROBE_AGE, d.outside EST_SIGMA.SIGMA_MAX 50 2000 6]
  | .lrn => firstFail [
      d.outside LRN_CFG.DEPTH_MIN 50 90 1, failing (d.rd LRN_CFG.Q_GAIN < 16) 2 LRN_CFG.Q_GAIN,
      d.outside LRN_CFG.SIG_BAND 5 50 3, failing (d.rd LRN_CFG.SIG_COUNT < 2) 3 LRN_CFG.SIG_COUNT,
      d.outside LRN_CFG2.NEW_REST 1 60 4, d.outside LRN_CFG2.SPAN_MAX 1 60 5]
  | .lim => firstFail [
      d.outside LIM_PUB.PHASE 0x3000 0xE000 1, failing (d.rd LIM_PUB.PORTS = 0) 2 LIM_PUB.PORTS,
      d.outside LIM_ESC.GRACE 5 300 3, d.outside LIM_ESC.STEP 5 100 3, d.outside LIM_ESC.CONFIRM 1 60 3,
      d.outside LIM_TOL.TOL_ABS 1 100 4, d.outside LIM_TOL.TOL_REL 5 100 4,
      failing (200 < d.rd LIM_CFG.V_MARGIN_CHG || 200 < d.rd LIM_CFG.V_MARGIN_DIS) 5 LIM_CFG.V_MARGIN_CHG,
      d.outside LIM_CFG.RAMP_UP 1 100 6,
      failing (conf && (d.rd LIM_BCAP.CHG = 0 || d.rd LIM_BCAP.DIS = 0)) 7 LIM_BCAP.CHG]
  | .seq => firstFail [
      d.outside SEQ_CFG.ORDER_WAIT 5 100 1, failing (d.rd SEQ_CFG.RECLOSE_HOLD < 10) 2 SEQ_CFG.RECLOSE_HOLD,
      failing (d.rd SEQ_CFG.JOIN_WAIT < 10) 3 SEQ_CFG.JOIN_WAIT,
      failing (d.rd SEQ_CFG.PRE_ATTEMPTS = 0) 4 SEQ_CFG.PRE_ATTEMPTS,
      failing (!isPerm d.shedWord) 5 (SEQ_SHED.POS 0)]
  | .thw => firstFail [
      d.outside THW_CFG.FAST_MARGIN 1 20 1, d.outside THW_CFG.RATE_FAST 10 90 2,
      failing (d.rd THW_CFG.FAST_HOLD < 10) 3 THW_CFG.FAST_HOLD]
  | .bal => firstFail [
      failing (d.rd BAL_CFG.START < 5 || 200 < d.rd BAL_CFG.START || 100 < d.rd BAL_CFG.STOP ||
        d.rd BAL_CFG.START ≤ d.rd BAL_CFG.STOP) 1 BAL_CFG.START,
      d.outside BAL_CFG.VMIN 25000 40000 2, d.outside BAL_CFG2.R_BAL 1000 4000 3,
      d.outside BAL_TEST.PERIOD 1 30 4, d.outside BAL_TEST.STEP_MAX 5 100 4, d.outside BAL_TEST.STEP_MIN 1 50 4,
      d.outside BAL_TEST.I_TOL 5 50 4, failing (d.rd BAL_TEST.STEP_MAX ≤ d.rd BAL_TEST.STEP_MIN) 4 BAL_TEST.STEP_MIN]
  | .chn => firstFail [
      failing (d.rd CHN_CFG.DEW_ON < 5 || 150 < d.rd CHN_CFG.DEW_ON || d.rd CHN_CFG.DEW_OFF < 10 ||
        200 < d.rd CHN_CFG.DEW_OFF || d.rd CHN_CFG.DEW_OFF ≤ d.rd CHN_CFG.DEW_ON) 1 CHN_CFG.DEW_ON,
      d.outside CHN_CFG.STAGGER 5 100 2]
  | .time => firstFail [
      d.outside (TIME_JUMP.JUMP_THRESH 0) 1000 1000000000 1, d.outside (TIME_JUMP.JUMP_THRESH 1) 1000 1000000000 1,
      failing (d.badSource i 0) 2 (TIME_DCFG.SOURCE 0), failing (d.badSource i 1) 2 (TIME_DCFG.SOURCE 1),
      failing (d.badSource i 2) 2 (TIME_DCFG.SOURCE 2), failing (d.badSource i 3) 2 (TIME_DCFG.SOURCE 3),
      d.badPair 0, d.badPair 2,
      failing (d.rd ACQ_PH_CFG.PH_SRC = 3) 0x20 ACQ_PH_CFG.PH_SRC,
      failing (d.rd ACQ_PH_CFG.NOM_FREQ ≠ 50 && d.rd ACQ_PH_CFG.NOM_FREQ ≠ 60) 0x21 ACQ_PH_CFG.NOM_FREQ]
  | .pwr => firstFail [
      d.outside PWR_THRESH.P1 160 200 1, d.outside PWR_THRESH.P2 130 185 1, d.outside PWR_THRESH.P3 115 170 1,
      d.outside PWR_THRESH.P4 100 155 1,
      failing (d.rd PWR_THRESH.P1 < d.rd PWR_THRESH.P2 + 15 || d.rd PWR_THRESH.P2 < d.rd PWR_THRESH.P3 + 15 ||
        d.rd PWR_THRESH.P3 < d.rd PWR_THRESH.P4 + 15) 2 PWR_THRESH.P1,
      d.outside PWR_CFG.HOLD_MIN 47 220 3, d.outside PWR_CFG.CAL_PERIOD 7 90 4]
  | .saf | .cue | .net | .recorder | .lgr => none

/-- Whether a structure configures any string. -/
def anyConf (t : Topo) : Bool := strings.any fun s => (tget StrRec.unused t.strs s).conf

/-- The validation against the running image. -/
def Dev.validateNow (m : Mem) (f : Func) (d : Dev) : Option (Nat × Nat) := d.validate m.img (anyConf d.topo) f

end Sys2Proof.Machine
end

