-- ==== Sys2Proof/Machine/Functions.lean ====
section
/-! DEFINITION. The 15 functions (R21 to R30, R334, R335): stewardship, STOP and START, what a function's
leaving and entering RUN brings, idling, and the close of a session. -/

namespace Sys2Proof.Machine

def bedChnl : Nat := 9

/-! ### Dependencies and idling (R27, R28) -/

/-- The functions `f` depends on. -/
def dependsOn : Func → List Func
  | .est | .thw | .lgr => [.acq]
  | .lrn => [.est]
  | .bal => [.acq, .est]
  | .cue | .net => [.time]
  | _ => []

/-- Whether every function that `f` depends on runs. -/
def Dev.depsRun (d : Dev) (f : Func) : Bool := (dependsOn f).all d.runs

/-- Learning stands still from now: windows of R151 begin anew and capacity tests end (R151, R152). -/
def Dev.breakLearning (d : Dev) : Dev :=
  (d.modLrn fun x => { x with broken := d.clk }).each strings Dev.capFail

/-- What comes with `f`'s idling or stopping beyond `Dev.works`: balancing ends. An idle LRN freezes its
values and
stays RUN, so its windows and tests go on (R28). -/
def Dev.quiet (m : Mem) (f : Func) (d : Dev) : Dev :=
  match f with
  | .bal => d.allOff m
  | _ => d

/-- Function `f` has left RUN: the functions that run and depend on it idle. -/
def Dev.idleOn (m : Mem) (f : Func) (d : Dev) : Dev :=
  (Func.all.filter fun g => (dependsOn g).contains f).foldl (fun d g =>
    if d.runs g then (d.wr (SESS_FUNC.IDLE g.num) 1).quiet m g else d) d

/-- The occurrences due while CUE stood still (R314). -/
def Dev.cueResume (m : Mem) (d : Dev) : Dev := d.cuePast m fun _ => true

/-- What comes with the return of `f` from idling or stopping beyond `Dev.works`. -/
def Dev.unquiet (m : Mem) (f : Func) (d : Dev) : Dev :=
  match f with
  | .est => d.modEst fun x => { x with resume := true, from_ := d.phase.cycle }
  | .cue => d.cueResume m
  | .lgr => d.ledgerMissed
  | _ => d

/-- A sweep boundary: idle functions whose missing function runs again resume (R28). -/
def Dev.endIdle (m : Mem) (d : Dev) : Dev :=
  Func.all.foldl (fun d f =>
    if d.on (SESS_FUNC.IDLE f.num) && d.runs f && d.depsRun f then
      (d.wr (SESS_FUNC.IDLE f.num) 0).unquiet m f
    else d) d

/-- CHN takes back the channels that a Trellis switch put to their safe default (R54). -/
def Dev.takeBackSwitched (m : Mem) (d : Dev) : Dev :=
  if d.chn.back.isEmpty || !d.works .chn || d.outage bedChnl then d
  else d.withDemand m fun d => (d.each d.chn.back (Dev.takeBack m)).modChn fun x => { x with back := [] }

/-- DEGRADED with every string open leads to SAFE (R387). -/
def Dev.degradedOpen (m : Mem) (d : Dev) : Dev :=
  if d.saf.ret.degraded && d.allOpen then d.enterSafe m false else d

/-- What a boundary brings to the learning record's buffer: the check of a committed record goes on, and a
snapshot that
waits is taken while EST is STOPPED (R143, R144). -/
def Dev.learnBoundary (m : Mem) (d : Dev) : Dev :=
  let d := d.checkStaged m
  if d.runs .est then d else d.takeSnapshot m

/-- SWEEP_BOUNDARY (R98). The clock goes on to phase 0x0000 of the next cycle. -/
def execSweepBoundary (s : State) : Host.Outcome State Fault Refusal :=
  s.run fun m d =>
    if d.alive then ((((d.boundary m).learnBoundary m).withDemand m (Dev.endIdle m)).takeBackSwitched m).degradedOpen m
    else if d.awake then d.boundary m else d

/-! ### Leaving and entering RUN (R22, R24, R25) -/

/-- Every trained companion takes the link timeout of ACQ's state (R84); step 4 of R83 gives it to the others.
-/
def Dev.setTimeouts (d : Dev) : Dev :=
  d.each (controllers.filter fun n => d.isLive n || d.strobing n) fun n d => d.sendDown n ftWrite [(3, d.linkTimeout)]

/-- Every accepted impedance is AGED (R22, R129). -/
def Dev.ageImpedance (d : Dev) : Dev :=
  d.each (d.confStrs.flatMap d.cellsOf) fun c d =>
    let d := d.modCell c fun x => { x with
      z0 := { x.z0 with aged := true }, z1 := { x.z1 with aged := true }, z2 := { x.z2 with aged := true } }
    (d.wr (CELL_FLAGS.Z_AGED c) 1).wr (CELL_FLAGS.TV_AGED c) 1

/-- Function `f` reaches STOPPED. -/
def Dev.stopped (m : Mem) (f : Func) (d : Dev) : Dev :=
  let d := (d.wr (SESS_FUNC.STATE f.num) 0).wr (SESS_FUNC.IDLE f.num) 0
  let d := match f with
    | .acq =>
      ((d.modAcq fun a => { a with stopHeld := false }).modLgr fun g => { g with gap := true }).setTimeouts.breakLearning
    | .est => d.ageImpedance
    | .chn => d.chnStop
    | .time => (d.each [0, 1, 2, 3] Dev.servoStops).loseSource
    | .lrn => d.breakLearning
    | .cue => d.cueStop
    | f => d.quiet m f
  d.idleOn m f

/-- Function `f` reaches RUN; it is idle at once where a function it depends on has left RUN meanwhile (R28). -/
def Dev.started (m : Mem) (f : Func) (d : Dev) : Dev :=
  let d := (d.wr (SESS_FUNC.STATE f.num) 1).wr (SESS_FUNC.IDLE f.num) (!d.depsRun f).toNat
  match f with
  | .acq => d.setTimeouts
  | .lrn => d.breakLearning
  | .est =>
    (d.unquiet m .est).each (monPorts.filter fun k => (d.block k).late) (Dev.renewCells m)
  | .chn => d.chnResume m
  | .time =>
    let d := d.forgetSource.timeStart
    if d.rd ACQ_PH_CFG.PH_SRC = 2 then d.setPhase phFree else d
  | .net => (d.ptpStart m 0).ptpStart m 1
  | f => if d.depsRun f then d.unquiet m f else d

/-- The functions that change state only at a sweep boundary (R25). -/
def atBoundary : Func → Bool
  | .acq | .est | .lrn | .lim | .bal => true
  | _ => false

/-- Whether a pending STOP or START of `f` takes effect now (R25). -/
def Dev.changeDue (f : Func) (d : Dev) : Bool := !atBoundary f || d.boundaryFor (tget 0 d.net.cmdAt f.num)

/-- FUNCTION_STATE_CHANGE (R24, R25). An accepted STOP or START takes effect; ACQ's stop waits for every
string to be open. What a stopped or idle THW asks of a ZONE channel acts as any demand does (R245, R254). -/
def execFunctionStateChange (f : Func) (s : State) : Host.Outcome State Fault Refusal :=
  s.run fun m d => d.withDemand m fun d =>
    let st := d.fnState f.num
    if !d.alive || !d.changeDue f then d
    else if st = 2 then (if f = .acq && !d.allOpen then d else d.stopped m f)
    else if st = 3 then d.started m f
    else d

/-! ### Commands of SESS_CTRL (R22, R23, R26, R27, R334) -/

/-- The refusal codes of SESS_RESULT (R340). -/
def sessHeld : Nat := 1
def sessNotSteward : Nat := 2
def sessRole : Nat := 3
def sessNotGranted : Nat := 4
def sessNotStoppable : Nat := 5
def sessConnected : Nat := 6
def sessPending : Nat := 7
def sessCfg : Nat := 8
def sessDepends : Nat := 9

/-- SESS_RESULT of the session: the reason, the function, the detail. -/
def Dev.sessResult (sid f reason detail : Nat) (d : Dev) : Dev :=
  d.modSess sid fun x => { x with result := reason * 2 ^ 24 + f * 2 ^ 20 + detail * 2 ^ 8 }

/-- A command accepted. -/
def Dev.sessOk (sid f : Nat) (d : Dev) : Did := (d.sessResult sid f 0 0, wrOk)

/-- A command refused. DEDUCED, log 24. -/
def Dev.sessRefuse (sid f reason : Nat) (d : Dev) : Did :=
  (d.sessResult sid f reason 0, wrRefused reason SESS_CTRL.CMD.addr)

/-- What a role may take stewardship of (R329). -/
def roleTakes (r : Role) (f : Func) : Bool :=
  match r with
  | .operator => f = .lim || f = .seq || f = .bal || f = .chn || f = .cue || f = .lrn
  | .maintainer => f ≠ .saf
  | .safetySteward => f = .saf
  | _ => false

/-- The FUNCS bit of a key; the factory key has none (R47, R325). -/
def keyTakes (m : Mem) (key : Nat) (f : Func) : Bool :=
  match m.img.key key with
  | some r => (m.img.u16 (r + 72)).testBit f.num
  | none => false

/-- TAKE. -/
def Dev.cmdTake (m : Mem) (sid : Nat) (f : Func) (d : Dev) : Did :=
  if d.isSteward sid f then d.sessOk sid f.num
  else if d.steward f ≠ 0 then d.sessRefuse sid f.num sessHeld
  else if !roleTakes (d.sess sid).role f then d.sessRefuse sid f.num sessRole
  else if !keyTakes m (d.sess sid).key f then d.sessRefuse sid f.num sessNotGranted
  else (d.wr (SESS_FUNC.STEWARD f.num) sid).sessOk sid f.num

/-- RELEASE. -/
def Dev.cmdRelease (sid : Nat) (f : Func) (d : Dev) : Did :=
  if d.isSteward sid f then (d.wr (SESS_FUNC.STEWARD f.num) 0).sessOk sid f.num
  else d.sessRefuse sid f.num sessNotSteward

/-- Whether a STOP of `f` needs every string open (R22). -/
def stopNeedsOpen : Func → Bool
  | .lim | .seq | .thw | .chn | .saf | .cue | .net => true
  | _ => false

/-- ACQ's STOP with a string not open: every published limit is zero, every connected string opens in order, a
closing one aborts and a queued one leaves the queue (R24, R196). -/
def Dev.acqStop (m : Mem) (d : Dev) : Dev :=
  let d := d.modAcq fun a => { a with stopHeld := true }
  let d := d.each d.limWho fun w d => (d.putLims w .zero).showLims m w 0 false false
  d.openAll m 6

/-- A STOP or START of `f` is accepted now (R25). -/
def Dev.commanded (f : Func) (d : Dev) : Dev := { d with net := { d.net with cmdAt := tset 0 d.net.cmdAt f.num d.clk } }

/-- STOP. DEDUCED, log 25. -/
def Dev.cmdStop (m : Mem) (sid : Nat) (f : Func) (d : Dev) : Did :=
  let st := d.fnState f.num
  if !d.isSteward sid f then d.sessRefuse sid f.num sessNotSteward
  else if st = 0 then d.sessOk sid f.num
  else if (f = .saf || f = .recorder) && d.mode m ≠ .commission then d.sessRefuse sid f.num sessNotStoppable
  else if stopNeedsOpen f && !d.allOpen then d.sessRefuse sid f.num sessConnected
  else if st ≠ 1 then d.sessRefuse sid f.num sessPending
  else
    let d := if f = .acq && (!d.allOpen || d.bankClosing) then d.acqStop m else d
    ((d.wr (SESS_FUNC.STATE f.num) 2).commanded f).sessOk sid f.num

/-- The DIGEST that the running image's directory gives its SAFETY section (R36, R289). -/
def Img.digestOf (i : Img) (ty : Nat) : List Byte :=
  match (List.range (min 32 (i.u16 24))).find? fun k => i.u16 (64 + 48 * k) = ty with
  | some k => i.slice (64 + 48 * k + 16) 32
  | none => []

/-- SAF's own checks at START (R289): the Curtain's section is the image's, and its self-test, whose outcome
is free here, passes. DESIGN CHOICE, log 28. -/
def Dev.safStart (m : Mem) (d : Dev) : Dev × Option (Nat × Nat) :=
  if d.saf.digest ≠ m.img.digestOf secSafety then (d, some (1, SAF_CTRL.CMD.addr))
  else
    let r := d.drawBool
    (r.2, if r.1 then none else some (2, SAF_CTRL.CMD.addr))

/-- The validation of `f` at a START (R26). -/
def Dev.startCheck (m : Mem) (f : Func) (d : Dev) : Dev × Option (Nat × Nat) :=
  if f = .saf then d.safStart m else (d, d.validateNow m f)

/-- START. DEDUCED, log 25. -/
def Dev.cmdStart (m : Mem) (sid : Nat) (f : Func) (d : Dev) : Did :=
  let st := d.fnState f.num
  if !d.isSteward sid f then d.sessRefuse sid f.num sessNotSteward
  else if st = 1 then d.sessOk sid f.num
  else
    let r := d.startCheck m f
    match r.2 with
    | some (detail, addr) => (r.1.sessResult sid f.num sessCfg detail, wrInvalid detail addr)
    | none =>
      if !r.1.depsRun f then r.1.sessRefuse sid f.num sessDepends
      else if st ≠ 0 then r.1.sessRefuse sid f.num sessPending
      else ((r.1.wr (SESS_FUNC.STATE f.num) 3).commanded f).sessOk sid f.num

/-- Whether the session may take the function, which is free (R329, R334). -/
def Dev.mayTake (m : Mem) (d : Dev) (f : Func) (sid : Nat) : Bool :=
  d.isOpened sid && roleTakes (d.sess sid).role f && keyTakes m (d.sess sid).key f

/-- The lower sessions whose TAKE of `f` arrives in the same clk, directly behind this one (R338). -/
def takers (f : Func) (sid : Nat) : List Instr → List Nat
  | .take k g :: l => (if g = f && decide (k.val < sid) then [k.val] else []) ++ takers f sid l
  | _ => []

/-- TAKE (R334). Of those that arrive in one clk the lowest session takes a free function (R338). DESIGN CHOICE, log 94. -/
def execTake (sid : Sid) (f : Func) (s : State) : Host.Outcome State Fault Refusal :=
  s.run fun m d => d.host sid.val fun d =>
    if d.steward f = 0 && d.mayTake m f sid.val && (takers f sid.val s.pending).any (d.mayTake m f) then
      d.sessRefuse sid.val f.num sessHeld
    else d.cmdTake m sid.val f

/-- RELEASE (R334). -/
def execRelease (sid : Sid) (f : Func) (s : State) : Host.Outcome State Fault Refusal :=
  s.run fun _ d => d.host sid.val (Dev.cmdRelease sid.val f)

/-- STOP (R22 to R24, R334). -/
def execStopFunc (sid : Sid) (f : Func) (s : State) : Host.Outcome State Fault Refusal :=
  s.run fun m d => d.host sid.val (Dev.cmdStop m sid.val f)

/-- START (R26, R27, R334). -/
def execStartFunc (sid : Sid) (f : Func) (s : State) : Host.Outcome State Fault Refusal :=
  s.run fun m d => d.host sid.val (Dev.cmdStart m sid.val f)

/-! ### The close of a session (R48, R335, R336) -/

/-- The load context's STATE codes (R60). -/
def ldIdle : Nat := 0
def ldLoading : Nat := 1
def ldVerifying : Nat := 2
def ldVerified : Nat := 3
def ldPending : Nat := 4
def ldMirroring : Nat := 5
def ldFailed : Nat := 6

def Dev.ldState (d : Dev) : Nat := d.rd IMG_LOAD_STATUS.STATE

/-- The load context ends without a switch; a mirror under way goes on. -/
def Dev.loadEnds (d : Dev) : Dev :=
  let d := d.wr IMG_LOAD_STATUS.OWNER 0
  if d.ldState = ldMirroring then d else d.wr IMG_LOAD_STATUS.STATE ldIdle

/-- Causes of SESSION_CLOSED (R336). -/
def closeHost : Nat := 1
def closeIdle : Nat := 2
def closeTrellis : Nat := 3
def closePrune : Nat := 4
def closeKern : Nat := 5
def closeEcc : Nat := 6
def closeTransport : Nat := 7
def closeReset : Nat := 8

/-- A session closes: its stewardships end, its load context and learning buffer with it, and its cue entries
stay (R335). CLOSE goes out where the cause sends it and the path is up. DEDUCED, log 27. -/
def Dev.closeSession (sid cause : Nat) (d : Dev) : Dev :=
  if !d.isOpened sid then d
  else
    let send := cause ≠ closeEcc && cause ≠ closeReset && d.portLinked (d.sess sid).path.num
    let d := Func.all.foldl (fun d f =>
      if d.steward f = sid then
        (d.wr (SESS_FUNC.STEWARD f.num) 0).record recStewardLost [BitVec.ofNat 8 f.num, BitVec.ofNat 8 sid]
      else d) d
    let d := if d.rd IMG_LOAD_STATUS.OWNER = sid then d.loadEnds else d
    let d := d.lrnOwnerLost sid
    let d := d.record recSessionClosed [BitVec.ofNat 8 sid, BitVec.ofNat 8 cause]
    let x := d.sess sid
    let d := d.modSess sid fun _ => .free
    if send then d.sendSealed x sid rapClose x.tx (leBytes 1 cause) else d

/-- The open sessions. -/
def Dev.openSessions (d : Dev) : List Nat := (List.range 64).filter d.isOpened

/-- Every session closes, and no establishment goes on. -/
def Dev.closeAll (cause : Nat) (d : Dev) : Dev :=
  let d := d.each d.openSessions fun k d => d.closeSession k cause
  d.each (List.range 64) fun k d => d.modSess k fun _ => .free

end Sys2Proof.Machine
end

