-- ==== Sys2Proof/Machine/Sessions.lean ====
section
/-! DEFINITION. Paths, sessions and their establishment (R47, R318 to R328, R336, R337, R339). -/

namespace Sys2Proof.Machine

/-! ### Paths (R47, R318 to R320, R337) -/

/-- Whether a path is idle by pruning (R337). DEDUCED, log 91. -/
def Dev.pathIdle (d : Dev) (p : Path) : Bool :=
  match p with
  | .eth1 => d.on NET_STATUS.ETH1_IDLE
  | .can1 => d.on NET_STATUS.CAN1_IDLE
  | _ => false

/-- Whether hosts are heard on a path: sessions run there, and with no image only on ETH0. DEDUCED, log 26. DEDUCED, log 91. -/
def Dev.rapOn (m : Mem) (p : Path) (d : Dev) : Bool :=
  d.alive && !d.pwr.inTransport && !d.pathIdle p &&
    (if !m.hasImage then p = .eth0
    else match p with
      | .eth0 => (m.img.ethFlags 0).testBit 2
      | .eth1 => (m.img.ethFlags 1).testBit 2
      | .can0 => (m.img.canFlags 0) % 4 = 3
      | .can1 => (m.img.canFlags 1) % 4 = 3)

/-- Whether an IP address, its 4 or 16 bytes in network order, is an enabled one of Ethernet port `p` (R47,
R318, R319). DEDUCED, log 104. -/
def Dev.hears (m : Mem) (p : Nat) (addr : List Byte) (d : Dev) : Bool :=
  let r := m.img.ethRec p
  d.alive && !d.pwr.inTransport && (p = 0 || !d.on NET_STATUS.ETH1_IDLE) &&
    (if m.hasImage then
      ((m.img.ethFlags p).testBit 0 && addr = m.img.slice (r + 8) 4) ||
        ((m.img.ethFlags p).testBit 1 && addr = m.img.slice (r + 20) 16)
    else p = 0 && addr = Config.factoryAddr)

/-- A frame for an enabled address is answered; another is discarded and counted (R318); without a running
supervisor
none is heard. -/
def Dev.answerFrame (m : Mem) (p kind : Nat) (addr : List Byte) (d : Dev) : Dev :=
  if !d.alive || d.pwr.inTransport then d
  else if d.hears m p addr then d.emit (.host p kind) else d.bump (NET_ETH.RX_DROP p)

/-- ARP (R318). -/
def execArp (eth : Eth) (addr : List Byte) (s : State) : Host.Outcome State Fault Refusal :=
  s.run fun m d => d.answerFrame m eth.val 0 addr

/-- NEIGHBOUR_DISCOVERY (R318). -/
def execNeighbourDiscovery (eth : Eth) (addr : List Byte) (s : State) : Host.Outcome State Fault Refusal :=
  s.run fun m d => d.answerFrame m eth.val 1 addr

/-- ICMP_ECHO (R318). -/
def execIcmpEcho (eth : Eth) (addr : List Byte) (s : State) : Host.Outcome State Fault Refusal :=
  s.run fun m d => d.answerFrame m eth.val 2 addr

/-- RX_DROP (R318). -/
def execRxDrop (eth : Eth) (s : State) : Host.Outcome State Fault Refusal :=
  s.run fun _ d => if d.alive then d.bump (NET_ETH.RX_DROP eth.val) else d

/-- RX_ERR (R339). -/
def execRxErr (eth : Eth) (s : State) : Host.Outcome State Fault Refusal :=
  s.run fun _ d => if d.alive then d.bump (NET_ETH.RX_ERR eth.val) else d

/-- ETH_LINK_CHANGE (R339). -/
def execEthLinkChange (eth : Eth) (up : Bool) (s : State) : Host.Outcome State Fault Refusal :=
  s.run fun _ d => d.flag (if eth.val = 0 then NET_STATUS.ETH0_LINK else NET_STATUS.ETH1_LINK) up

/-- CANx_ON (R339). -/
def canOn (p : Nat) : Fld := if p = 0 then NET_STATUS.CAN0_ON else NET_STATUS.CAN1_ON

/-- CAN_ERROR (R320, R339). The error state follows the counters as ISO 11898-1 has it; a disabled port stays
so. -/
def execCanError (upper : Bool) (tec rxc : Nat) (s : State) : Host.Outcome State Fault Refusal :=
  s.run fun _ d =>
    let p := upper.toNat
    if d.rd (NET_CAN.STATE p) = 3 then d
    else
      let st := if 256 ≤ tec then 2 else if 128 ≤ tec || 128 ≤ rxc then 1 else 0
      (((d.wr (NET_CAN.TEC p) (min 255 tec)).wr (NET_CAN.REC p) (min 255 rxc)).wr (NET_CAN.STATE p) st).flag
        (canOn p) (st ≠ 2)

/-- BUS_OFF_RECOVERY (R320). -/
def execBusOffRecovery (upper : Bool) (s : State) : Host.Outcome State Fault Refusal :=
  s.run fun _ d =>
    let p := upper.toNat
    if d.rd (NET_CAN.STATE p) = 2 then
      (((d.wr (NET_CAN.TEC p) 0).wr (NET_CAN.REC p) 0).wr (NET_CAN.STATE p) 0).wr (canOn p) 1
    else d

/-! ### Messages on CAN (R324) -/

def Dev.canRx (d : Dev) (k : Nat) : Option CanRx := look d.net.canRx k

/-- Keep or drop the message in reassembly under key `k`. -/
def Dev.putCanRx (k : Nat) (x : Option CanRx) (d : Dev) : Dev :=
  { d with net := { d.net with canRx := match x with
      | some x => place d.net.canRx k x
      | none => strike d.net.canRx k } }

/-- The longest message: 256 bytes of plaintext, and the tag of an encrypted one. -/
def canLongest (typ : Nat) : Nat := 256 + rapTag typ

/-- A message is complete. -/
def Dev.canComplete (k : Nat) (x : CanRx) (d : Dev) : Dev :=
  { d with net := { d.net with canIn := place d.net.canIn k x } }

/-- CAN_FRAGMENT (R324). A message whose fragments come out of order is discarded; a complete one waits for
the row of
its TYPE. DEDUCED, log 104. -/
def execCanFragment (upper : Bool) (session : Sid) (typ : Byte) (index count : Fin 8) (seq : Word)
    (bytes : List Byte) (s : State) : Host.Outcome State Fault Refusal :=
  s.run fun m d =>
    let path : Path := if upper then .can1 else .can0
    let k := canKey path session.val
    if !d.rapOn m path then d
    else
      let old : Option (List Byte) :=
        if count.val = 0 || bytes.isEmpty || 56 < bytes.length then none
        else if index.val = 0 then some []
        else match d.canRx k with
          | some x =>
            if x.typ = typ.toNat && x.count = count.val && x.seq = seq.toNat && x.next = index.val then some x.bytes
            else none
          | none => none
      match old with
      | none => d.putCanRx k none
      | some l =>
        let all := l ++ bytes
        if canLongest typ.toNat < all.length || count.val ≤ index.val then d.putCanRx k none
        else if index.val + 1 = count.val then
          (d.putCanRx k none).canComplete k ⟨typ.toNat, count.val, count.val, seq.toNat, all⟩
        else d.putCanRx k (some ⟨typ.toNat, count.val, index.val + 1, seq.toNat, all⟩)

/-- FRAGMENT_TIMEOUT (R324). -/
def execFragmentTimeout (upper : Bool) (session : Sid) (s : State) : Host.Outcome State Fault Refusal :=
  s.run fun _ d => d.putCanRx (canKey (if upper then .can1 else .can0) session.val) none

/-! ### Establishment (R325 to R328, R337) -/

/-- What the module knows of a key: ROLES, PATHS, MAX_SESS and IDLE_S (R47, R325). -/
def keyRights (m : Mem) (key : Nat) : Option (Nat × Nat × Nat × Nat) :=
  if !m.hasImage then (if key = 0 then some (16, 1, 1, 600) else none)
  else match m.img.key key with
    | some r => some (m.img.u8 (r + 66), m.img.u8 (r + 67), m.img.u8 (r + 68), m.img.u16 (r + 70))
    | none => none

/-- Sessions open under a key. -/
def Dev.openUnder (key : Nat) (d : Dev) : Nat := (d.openSessions.filter fun k => (d.sess k).key = key).length

/-- Establishments in progress. -/
def Dev.establishing (d : Dev) : List Nat := (List.range 64).filter fun k => (d.sess k).life = .establishing

/-- The session limit in force (R337). -/
def Dev.sessLimit (d : Dev) : Nat := if 2 ≤ d.stage then 8 else 63

/-- Whether pruning admits no further session. -/
def Dev.pruneFull (d : Dev) : Bool := 2 ≤ d.stage && (4 ≤ d.stage || d.sessLimit ≤ d.openSessions.length)

/-- The lowest free session ID. -/
def Dev.freeSid (d : Dev) : Option Nat := ((List.range 64).drop 1).find? fun k => (d.sess k).life = .free

/-- The first matching row of R328 for a HELLO, 0 for none. DEDUCED, log 26. -/
def Dev.helloFault (m : Mem) (path : Path) (formed : Bool) (key role : Nat) (d : Dev) : Nat :=
  if !formed then 1
  else match keyRights m key with
    | none => 2
    | some (roles, paths, top, _) =>
      if 6 ≤ role || !roles.testBit role then 3
      else if !paths.testBit path.num then 4
      else if top ≤ d.openUnder key then 5
      else if d.pruneFull then 6
      else if d.freeSid.isNone then 7
      else if 4 ≤ d.establishing.length ||
          (2 ≤ path.num && d.establishing.any fun k => (d.sess k).path = path) then 8
      else 0

/-- Where the module sends on a CAN path, RAP_TX_BASE (R319). -/
def rapBase (m : Mem) (p : Path) : Nat := if p.num < 2 then 0 else m.img.u32 (m.img.canRec (p.num - 2) + 12)

/-- REJECT: counted, and recorded for a known key (R328). DEDUCED, log 27. -/
def Dev.reject (m : Mem) (path : Path) (key code : Nat) (d : Dev) : Dev :=
  let d := (d.sendRap path (rapBase m path) 0 rapReject 0 1 0 (leBytes 1 code)).bump SESS_CNT.REJECTED
  if (keyRights m key).isSome then d.record recSessionRejected (leBytes 2 key ++ leBytes 1 code) else d

/-- A HELLO payload of R326. -/
def helloFormed (l : List Byte) : Bool := l.length = 84 && l[3]? = some 0x00
def helloKey (l : List Byte) : Nat := (l.getD 0 0).toNat + 256 * (l.getD 1 0).toNat
def helloRole (l : List Byte) : Nat := (l.getD 2 0).toNat

/-- A CHALLENGE payload: N_m, E_m, S_m and IDLE_S (R326). -/
def challengeOf (nonce eph : List Byte) (idle : Nat) : List Byte :=
  nonce ++ leBytes 64 (Config.ecPublic eph) ++ Config.sessionKey ++ leBytes 2 idle ++ [0x00, 0x00]

/-- An establishment begins: N_m and the ephemeral key pair are drawn, and CHALLENGE answers under the
assigned ID
(R326). DEDUCED, log 104. -/
def Dev.challenged (m : Mem) (k idle : Nat) (r : Role) (x : RapMsg) (d : Dev) : Dev :=
  let a := d.drawNat
  let b := a.2.drawNat
  let eph := leBytes 32 b.1
  let c := challengeOf (leBytes 16 a.1) eph idle
  let d := b.2.modSess k fun _ => { Sess.free with
    life := .establishing, key := helloKey x.body, role := r, path := x.path, idle := idle, heard := b.2.clk
    base := rapBase m x.path, hello := x.body, challenge := c, eph := eph }
  d.sendRap x.path (rapBase m x.path) 0 rapChallenge k 148 0 c

/-- A HELLO that has arrived: CHALLENGE or REJECT. -/
def Dev.hello (m : Mem) (msg : RapMsg) (d : Dev) : Dev :=
  if !d.rapOn m msg.path || !d.arrived rapHello 0 msg then d
  else
    let d := d.taken rapHello 0 msg
    let key := helloKey msg.body
    let code := d.helloFault m msg.path (helloFormed msg.body) key (helloRole msg.body)
    match d.freeSid, keyRights m key, Role.ofNum (helloRole msg.body) with
    | some k, some (_, _, _, idle), some r =>
      if code ≠ 0 then d.reject m msg.path key code else d.challenged m k idle r msg
    | _, _, _ => d.reject m msg.path key code

/-- HELLO (R326, R328). -/
def execHello (path : Path) (head : RapHead) (seq : BitVec 64) (body : List Byte) (s : State) :
    Host.Outcome State Fault Refusal :=
  s.run fun m d => d.hello m ⟨⟨head, seq, body⟩, path⟩

/-- The first matching row of R328 for a FINISH, 0 for none; the running image judges the key anew.
DEDUCED, log 26. -/
def Dev.finishFault (m : Mem) (sid : Nat) (formed confirmed : Bool) (d : Dev) : Nat :=
  let x := d.sess sid
  if !formed then 1
  else match keyRights m x.key with
    | none => 2
    | some (roles, paths, top, _) =>
      if !roles.testBit x.role.num then 3
      else if !paths.testBit x.path.num then 4
      else if top ≤ d.openUnder x.key then 5
      else if d.pruneFull || d.pathIdle x.path then 6
      else if !confirmed then 9 else 0

/-- The session that FINISH opens: its keys are kept, what established it is not (R323, R327). -/
def Sess.opening (clk : Nat) (x : Sess) : Sess :=
  { x with life := .opened, heard := clk, rxSeen := [0], tx := 1, hello := [], challenge := [], eph := [] }

/-- The plaintext of ACCEPT (R326). -/
def acceptOf (sid : Nat) (x : Sess) : List Byte :=
  x.th sid ++ leBytes 1 sid ++ leBytes 1 x.role.num ++ leBytes 2 x.idle

/-- A FINISH for the establishment `k`: ACCEPT or REJECT. DEDUCED, log 104. -/
def Dev.finish (m : Mem) (k : Nat) (msg : RapMsg) (d : Dev) : Dev :=
  let y := d.sess k
  if !d.alive || y.life ≠ .establishing || y.path ≠ msg.path || !d.arrived rapFinish k msg then d
  else
    let d := d.taken rapFinish k msg
    let x := y.keyed m k
    let code := d.finishFault m k (msg.body.length = 48 && msg.seq = 0) (msg.body = x.sealed false rapFinish 0 32 0 (x.th k))
    if code ≠ 0 then (d.modSess k fun _ => .free).reject m x.path x.key code
    else
      let d := d.modSess k fun _ => x.opening d.clk
      let d := d.record recSessionOpened (leBytes 1 k ++ leBytes 2 x.key ++ leBytes 1 x.role.num ++ leBytes 1 x.path.num)
      d.sendRap x.path x.base 0 rapAccept 0 36 0 (x.sealed true rapAccept 0 36 0 (acceptOf k x))

/-- FINISH (R326 to R328): TH, sealed under the host's key with SEQ 0, opens the session. -/
def execFinish (sid : Sid) (path : Path) (gram : RapGram) (s : State) : Host.Outcome State Fault Refusal :=
  s.run fun m d => d.finish m sid.val ⟨gram, path⟩

/-- ESTABLISH_TIMEOUT (R328). -/
def execEstablishTimeout (sid : Sid) (s : State) : Host.Outcome State Fault Refusal :=
  s.run fun m d =>
    let x := d.sess sid.val
    if !d.alive || x.life ≠ .establishing then d
    else (d.modSess sid.val fun _ => .free).reject m x.path x.key 10

/-! ### Messages of an open session (R323, R336) -/

/-- Whether the message is accepted: its tag verifies and its SEQ is new, above H or in the window of 64. DEDUCED, log 26. -/
def Dev.accepts (sid seq : Nat) (tagOk : Bool) (d : Dev) : Bool :=
  let x := d.sess sid
  d.isOpened sid && tagOk && (decide (x.rxTop < seq) || (decide (x.rxTop ≤ seq + 63) && !x.rxSeen.contains seq))

/-- An accepted message: its SEQ is taken and the idle timer restarts. -/
def Dev.accepted (sid seq : Nat) (d : Dev) : Dev :=
  d.modSess sid fun x =>
    let top := max x.rxTop seq
    { x with rxTop := top, heard := d.clk, rxSeen := (seq :: x.rxSeen).filter fun k => decide (top ≤ k + 63) }

/-- A message for a session: carried out when accepted, else discarded and counted; one that R321 or R324
discards,
or that reaches no running supervisor, does nothing. -/
def Dev.message (m : Mem) (typ : Nat) (x : RapMsg) (plain : List Byte) (go : Mem → Dev → Mem × Dev) (d : Dev) : Mem × Dev :=
  let k := x.session.toNat
  if !d.alive || k = 0 || 63 < k || !d.arrived typ k x || payloadLimit x.path < plain.length then (m, d)
  else
    let d := d.taken typ k x
    if d.accepts k x.seq.toNat ((d.sess k).opens typ k x plain) then go m (d.accepted k x.seq.toNat)
    else (m, d.bump SESS_CNT.AUTH_FAIL)

/-- RAP_CLOSE (R336). -/
def execRapClose (path : Path) (gram : RapGram) (plain : List Byte) (s : State) : Host.Outcome State Fault Refusal :=
  s.runMem fun m d => d.message m rapClose ⟨gram, path⟩ plain fun m d => (m, d.closeSession gram.session.toNat closeHost)

/-- KEEPALIVE (R336). -/
def execKeepalive (path : Path) (gram : RapGram) (plain : List Byte) (s : State) : Host.Outcome State Fault Refusal :=
  s.runMem fun m d =>
    d.message m rapKeepalive ⟨gram, path⟩ plain fun m d => (m, d.say gram.session.toNat rapKeepalive [])

/-- IDLE_TIMEOUT (R336). DESIGN CHOICE, log 5. -/
def execIdleTimeout (sid : Sid) (s : State) : Host.Outcome State Fault Refusal :=
  s.run fun _ d => if d.alive then d.closeSession sid.val closeIdle else d

/-! ### Pruning (R337) -/

/-- Whether a session holds a stewardship, the load context or the learning buffer. -/
def Dev.holds (sid : Nat) (d : Dev) : Bool :=
  Func.all.any (d.isSteward sid) || d.rd IMG_LOAD_STATUS.OWNER = sid || d.lrnOwner = sid

/-- The open sessions in the order in which pruning keeps them. -/
def Dev.sessRank (d : Dev) : List Nat :=
  [true, false].flatMap fun h => [5, 4, 3, 2, 1, 0].flatMap fun r =>
    d.openSessions.filter fun k => d.holds k = h && (d.sess k).role.num = r

/-- Entry to Prune 2: ETH1 and CAN1 go idle, their sessions close, and 8 of the others stay. -/
def Dev.pruneSessions (d : Dev) : Dev :=
  let upper := d.openSessions.filter fun k => (d.sess k).path = .eth1 || (d.sess k).path = .can1
  let d := d.each upper fun k d => d.closeSession k closePrune
  let d := (d.wr NET_STATUS.ETH1_IDLE 1).wr NET_STATUS.CAN1_IDLE 1
  d.each (d.sessRank.drop 8) fun k d => d.closeSession k closePrune

end Sys2Proof.Machine
end

