-- ==== Sys2Proof/Machine/Recorder.lean ====
section
/-! DEFINITION. The event recorder and the energy ledger in MRAM (R30, R341 to R360). -/

namespace Sys2Proof.Machine

def bedRecl : Nat := 11

/-! ### Entries (R341, R348, R353) -/

/-- Bytes 0 to 59 of a record. DEDUCED, log 13. -/
def Rec.body (x : Rec) : List Byte :=
  leBytes 6 x.seq ++ leBytes 2 (x.src * 2048 + x.code) ++ leBytes 1 x.rep ++ leBytes 1 x.dq ++ leBytes 6 x.domSec ++
    leBytes 4 x.domNs ++ leBytes 8 x.mono ++ leBytes 8 (x.phase + 65536 * x.cycle) ++
    (List.range 24).map fun k => x.data.getD k 0

/-- A record as its 64 bytes. -/
def Rec.bytes (x : Rec) : List Byte := x.body ++ leBytes 4 (crc32Ref x.body)

/-- Whether an entry's CRC holds. -/
def entryValid (l : List Byte) : Bool := l.length = 64 && leAt l 60 4 = crc32Ref (l.take 60)

/-- The record that a valid entry holds. -/
def Rec.ofBytes (l : List Byte) : Rec :=
  { seq := leAt l 0 6, src := leAt l 6 2 / 2048, code := leAt l 6 2 % 2048, rep := leAt l 8 1, dq := leAt l 9 1
    domSec := leAt l 10 6, domNs := leAt l 16 4, mono := leAt l 20 8, phase := leAt l 28 2, cycle := leAt l 30 6
    data := (l.drop 36).take 24 }

/-- The main position of a SEQ. -/
def mainPos (seq : Nat) : Nat := if seq < 1024 then seq else 1024 + (seq - 1024) % 3072

/-- Store an entry at a position; one whose bytes are all 0 is empty. -/
def putEntry (t : List (Nat × List Byte)) (pos : Nat) (l : List Byte) : List (Nat × List Byte) :=
  tset [] t pos (if l.all (· = 0) then [] else l)

/-- The entry at a position, empty where none is listed. -/
def entryAt (t : List (Nat × List Byte)) (pos : Nat) : List Byte := tget [] t pos

/-! ### Writing (R350 to R352) -/

/-- An entry into Understudy positions 0 to 7, in turn. -/
def Dev.keepLoss (l : List Byte) (d : Dev) : Dev :=
  d.modRcd fun r => { r with us := putEntry r.us (r.usA % 8) l, usA := (r.usA + 1) % 8 }

/-- An entry into the general Understudy positions, in turn; one overwritten before it was copied back is
counted. -/
def Dev.understudy (l : List Byte) (d : Dev) : Dev :=
  let pos := 8 + d.rcd.usB % 24
  let d := if d.rcd.toCopy.contains pos then d.bump REC_CNT.US_LOST else d
  (d.bump REC_STATUS.US_USED).modRcd fun r => { r with
    us := putEntry r.us pos l, usB := (r.usB + 1) % 24, toCopy := r.toCopy.filter (· ≠ pos) ++ [pos] }

/-- The main region fails at a position, where the entry `l` belongs. DEDUCED, log 78. -/
def Dev.mainFails (pos : Nat) (l : List Byte) (d : Dev) : Dev :=
  let d := (d.wr REC_STATUS.MAIN_FAILED 1).wr REC_STATUS.US_USED 0
  (d.modRcd fun r => { r with failPos := pos, failEntry := l }).record recRecMainFailed (leBytes 2 pos)

/-- 64 bytes of no stated value: what a write that failed its retry leaves. DESIGN CHOICE, log 79. -/
def Dev.freeEntry (d : Dev) : List Byte × Dev := (leBytes 64 d.drawNat.1, d.drawNat.2)

/-- One record goes to MRAM: the kinds of REC itself to the Understudy in addition, every record to the main
region, or while that is failed, the others to the Understudy. DEDUCED, log 78. -/
def Dev.writeRec (x : Rec) (result : WriteResult) (d : Dev) : Dev :=
  let d := d.modRcd fun r => { r with
    written := max r.written (x.seq + 1)
    base := if (r.urgent ++ r.staging).any fun y => y.mono = x.mono then some x else r.base }
  let d := if (x.src, x.code) = recThermalShutdown then d.setThermalLatch else d
  let l := x.bytes
  let own := x.src = 12
  let d := if own then d.keepLoss l else d
  let d := ((d.wr REC_LAST0.SEQ_LO x.seq).wr REC_LAST1.SEQ_HI (x.seq / 2 ^ 32)).wr REC_STATUS.KEPT_FULL
    (if x.seq = 1023 then 1 else d.rd REC_STATUS.KEPT_FULL)
  if d.on REC_STATUS.MAIN_FAILED then
    if own then d
    else if result = .failed then d.freeEntry.2.understudy d.freeEntry.1 else d.understudy l
  else if result = .failed then
    let f := d.freeEntry
    let d := (f.2.modRcd fun r => { r with main := putEntry r.main (mainPos x.seq) f.1 }).mainFails (mainPos x.seq) l
    if own then d else d.understudy l
  else d.modRcd fun r => { r with main := putEntry r.main (mainPos x.seq) l }

/-- Whether REC writes: it runs and no outage of its bed holds the records in staging. -/
def Dev.recWrites (d : Dev) : Bool := d.alive && d.runs .recorder && !d.outage bedRecl

/-- RECORD_WRITE (R350). The THERMAL_SHUTDOWN record goes ahead of the others, whatever REC's state (R221). DEDUCED, log 98. -/
def execRecordWrite (result : WriteResult) (s : State) : Host.Outcome State Fault Refusal :=
  s.run fun _ d =>
    match d.rcd.urgent, d.rcd.staging with
    | x :: l, _ => if d.alive then (d.modRcd fun r => { r with urgent := l }).writeRec x result else d
    | [], x :: l => if d.recWrites then (d.modRcd fun r => { r with staging := l }).writeRec x result else d
    | [], [] => d

/-- Every staged record is written, whatever REC's state (R30, R369). -/
def Dev.flushRecords (d : Dev) : Dev :=
  let l := d.rcd.urgent ++ d.rcd.staging
  l.foldl (fun d x => d.writeRec x .good) (d.modRcd fun r => { r with urgent := [], staging := [] })

/-- REC_STAGING_OVERFLOW (R30, R350). -/
def execRecStagingOverflow (s : State) : Host.Outcome State Fault Refusal :=
  s.run fun _ d =>
    if d.recWrites && decide (0 < d.rcd.lost) && decide (d.rcd.staging.length + d.rcd.urgent.length < 1024) then
      (d.record recRecStagingOverflow (leBytes 4 (min (2 ^ 32 - 1) d.rcd.lost))).modRcd fun r => { r with lost := 0 }
    else d

/-- MAIN_REWRITE (R352). -/
def execMainRewrite (pass : Bool) (s : State) : Host.Outcome State Fault Refusal :=
  s.run fun _ d =>
    if !d.recWrites || !d.on REC_STATUS.MAIN_FAILED || !pass then d
    else
      let copies := d.rcd.toCopy.map fun p => entryAt d.rcd.us p
      let d := d.modRcd fun r => { r with
        main := (copies.filter entryValid).foldl (fun t l => putEntry t (mainPos (leAt l 0 6)) l)
          (if r.failEntry.isEmpty then r.main else putEntry r.main r.failPos r.failEntry)
        toCopy := [], failEntry := [] }
      (d.wr REC_STATUS.MAIN_FAILED 0).record recRecMainRestored []

/-! ### The scan at a start (R345, R353, R358) -/

/-- A torn entry is recorded. DEDUCED, log 80. -/
def Dev.tornAt (region pos skipped : Nat) (d : Dev) : Dev :=
  (d.wr REC_STATUS.TORN_FOUND 1).record recTornRecord (leBytes 1 region ++ leBytes 2 pos ++ leBytes 6 skipped)

/-- The positions of a region that hold torn entries. -/
def tornIn (t : List (Nat × List Byte)) : List Nat := (t.filter fun x => !entryValid x.2).map (·.1)

/-- The later of two records by SEQ. -/
def laterRec (a : Option Rec) (x : Rec) : Option Rec :=
  match a with
  | some y => if y.seq < x.seq then some x else a
  | none => some x

/-- The later of two checkpoints by CP_NUM. -/
def laterCp (a : Option (List Byte)) (x : Nat × List Byte) : Option (List Byte) :=
  match a with
  | some l => if leAt l 0 4 < leAt x.2 0 4 then some x.2 else a
  | none => some x.2

/-- REC reads its regions: the next SEQ and MONO_BASE follow, torn entries are recorded, and so is a bank A that
cannot be read. `bankB` says that the Understudy can be read. DESIGN CHOICE, log 79. DEDUCED, log 80. DEDUCED, log 91. -/
def Dev.scanRecords (bankA bankB : Bool) (d : Dev) : Dev :=
  let main := if bankA then d.rcd.main else []
  let us := if bankB then d.rcd.us else []
  let recs := ((main ++ us).filter fun x => entryValid x.2).map fun x => Rec.ofBytes x.2
  let last := recs.foldl laterRec none
  let next := match last with
    | some x => x.seq + 1
    | none => 0
  let torn := tornIn main
  let skip := torn.contains (mainPos next)
  let mono := if recs.isEmpty then 0 else recs.foldl (fun a x => max a x.mono) 0 + 1
  let xrefs := (recs.filter Rec.xref).map (·.seq)
  let old := (d.lgr.ring.foldl laterCp none).map fun l => leAt l 22 6
  let since := xrefs.eraseDups.filter fun q => match old with
    | some o => decide (o < q)
    | none => true
  let d := d.modRcd fun r => { r with
    drafts := [], deferred := [], staging := [], urgent := [], lost := 0, next := next + skip.toNat, prev := last
    monoBase := mono, toCopy := [], failEntry := [], stageLost := 0, xseq := xrefs.foldl max 0
    xcnt := min 65535 since.length }
  let d := d.flag REC_STATUS.KEPT_FULL (decide (1023 < next))
  let d := d.each torn fun p d => d.tornAt 0 p (if p = mainPos next then next else 0)
  let d := d.each (tornIn us) fun p d => d.tornAt 1 p 0
  if bankA then d else d.mainFails 0 []

/-! ### Export (R354) -/

/-- The bytes of an entry in a window slot. -/
def slotBytes (l : List Byte) : List Byte := (List.range 64).map fun k => l.getD k 0

/-- The outcome and the entry of one SEQ. DEDUCED, log 80. -/
def RecSt.find (r : RecSt) (seq : Nat) : Nat × List Byte :=
  let e := entryAt r.main (mainPos seq)
  let has (l : List Byte) : Bool := entryValid l && leAt l 0 6 = seq
  if has e then (0, e)
  else
    match r.us.find? fun x => has x.2 with
    | some x => (1, x.2)
    | none => if !e.isEmpty && !entryValid e then (2, []) else (3, [])

/-- The outcome and the entry of one position, as stored. -/
def rawAt (t : List (Nat × List Byte)) (pos : Nat) : Nat × List Byte :=
  let e := entryAt t pos
  (if e.isEmpty then 3 else if entryValid e then 0 else 2, e)

/-- The window and the status of four slots. -/
def Sess.putSlots (l : List (Nat × List Byte)) (x : Sess) : Sess :=
  { x with recWin := l.flatMap (slotBytes ·.2), recStatus := l.foldr (fun y a => y.1 + 4 * a) 0 }

/-- READ_SEQ. -/
def Dev.cmdReadSeq (sid : Nat) (d : Dev) : Did :=
  let q := (d.sess sid).recSeq
  let l := (List.range 4).map fun j => d.rcd.find ((q + j) % 2 ^ 48)
  (d.modSess sid fun x => { x.putSlots l with recSeq := (q + 4) % 2 ^ 48 }, wrOk)

/-- READ_RAW. -/
def Dev.cmdReadRaw (sid : Nat) (understudy : Bool) (pos : Nat) (d : Dev) : Did :=
  if (if understudy then 28 else 4092) < pos then
    (d.modSess sid fun x => { x with recStatus := x.recStatus % 2 ^ 24 + 2 ^ 24 }, wrRefused 1 REC_EXP_CTRL.CMD.addr)
  else
    let l := (List.range 4).map fun j => rawAt (if understudy then d.rcd.us else d.rcd.main) (pos + j)
    (d.modSess sid (Sess.putSlots l), wrOk)

/-- READ_SEQ (R354, R359). -/
def execReadSeq (sid : Sid) (s : State) : Host.Outcome State Fault Refusal :=
  s.run fun _ d => d.host sid.val fun d =>
    d.asGranted sid.val .recorder REC_EXP_CTRL.CMD.addr (Dev.cmdReadSeq sid.val)

/-- READ_RAW (R354, R359). -/
def execReadRaw (sid : Sid) (understudy : Bool) (pos : BitVec 12) (s : State) : Host.Outcome State Fault Refusal :=
  s.run fun _ d => d.host sid.val fun d =>
    d.asGranted sid.val .recorder REC_EXP_CTRL.CMD.addr (Dev.cmdReadRaw sid.val understudy pos.toNat)

/-! ### The energy ledger (R355 to R358) -/

/-- An accumulator pair's reading in mWh; 8 is the bank, the sum over strings (R355). DESIGN CHOICE, log 81. -/
def energyOf (t : List (Nat × Rat)) (k : Nat) : Nat :=
  let one (s : Nat) : Nat := (tget 0 t s).floor.toNat
  (if k < 8 then one k else strings.foldl (fun a s => a + one s) 0) % 2 ^ 64

def Dev.energyChg (d : Dev) (k : Nat) : Nat := energyOf d.lgr.chg k
def Dev.energyDis (d : Dev) (k : Nat) : Nat := energyOf d.lgr.dis k

/-- The accumulators go to MRAM. -/
def Dev.storeLedger (d : Dev) : Dev :=
  d.modLgr fun g => { g with
    storedChg := strings.foldl (fun t s => tset 0 t s (d.energyChg s)) []
    storedDis := strings.foldl (fun t s => tset 0 t s (d.energyDis s)) [] }

/-- LEDGER_STORE (R355). -/
def execLedgerStore (s : State) : Host.Outcome State Fault Refusal :=
  s.run fun _ d => if d.alive && !d.outage bedRecl then d.storeLedger else d

/-- The body of a checkpoint is captured (R356 to R358); the record its XREF_SEQ names keeps that SEQ. -/
def Dev.captureCp (late : Bool) (d : Dev) : Dev :=
  let k := d.rd LGR_CFG.DOMAIN
  let unset : Bool := (d.dom k).state = 0
  let b : CpBody :=
    { num := d.lgr.next, sec := d.ledgerSec, dq := k + 4 * d.quality k
      flags := unset.toNat + 2 * d.lgr.gap.toNat + 4 * d.lgr.stepped.toNat + 8 * late.toNat
      chg := d.energyChg 8 / 1000, dis := d.energyDis 8 / 1000, xseq := d.rcd.xseq, xcnt := d.rcd.xcnt }
  (d.modLgr fun g => { g with
    mult := d.ledgerSec / 900, gap := false, stepped := false, bodies := g.bodies ++ [b]
    next := (g.next + 1) % 2 ^ 32 }).modRcd fun r => { r with xcnt := 0, written := max r.written (r.xseq + 1) }

/-- CHECKPOINT_DUE (R356), at the clk of a sweep boundary. -/
def execCheckpointDue (s : State) : Host.Outcome State Fault Refusal :=
  s.run fun _ d =>
    if !d.alive || d.phase.k ≠ 0 || d.clk ≠ d.phase.boundAt || d.outage bedRecl || decide (d.ledgerSec / 900 ≤ d.lgr.mult) then d
    else if d.works .lgr then d.captureCp false else d.ledgerMissed

/-- What the end of an outage of RECL brings (R58, R356). -/
def Dev.ledgerResumed (d : Dev) : Dev :=
  if d.ledgerSec / 900 ≤ d.lgr.mult then d else if d.works .lgr then d.captureCp true else d.ledgerMissed

/-- Bytes 0 to 31 of a checkpoint (R357). -/
def CpBody.bytes (b : CpBody) : List Byte :=
  leBytes 4 b.num ++ leBytes 6 b.sec ++ leBytes 1 b.dq ++ leBytes 1 b.flags ++ leBytes 5 b.chg ++ leBytes 5 b.dis ++
    leBytes 6 b.xseq ++ leBytes 2 b.xcnt ++ leBytes 2 0

/-- 64 bytes of a list, with zeros behind it. -/
def sixtyFour (l : List Byte) : List Byte := (List.range 64).map fun k => l.getD k 0

/-- What is signed: the digest of a body and the signature bytes of the checkpoint before it. -/
def cpDigest (body prevSig : List Byte) : List Byte := Config.sha256 (body ++ sixtyFour prevSig)

/-- CHECKPOINT_WRITTEN (R356 to R358). Only once every record up to XREF_SEQ is in MRAM; a STOPPED or idle LGR
signs none (R22, R28). DESIGN CHOICE, log 79. -/
def execCheckpointWritten (result : WriteResult) (s : State) : Host.Outcome State Fault Refusal :=
  s.run fun _ d =>
    match d.lgr.bodies with
    | [] => d
    | b :: l =>
      if !d.alive || !d.works .lgr || d.outage bedRecl || (d.rcd.urgent ++ d.rcd.staging).any fun x => decide (x.seq ≤ b.xseq) then d
      else
        let pos := b.num % 3840
        let d := d.modLgr fun g => { g with bodies := l, torn := g.torn.filter (· ≠ pos) }
        if result = .failed then
          ((d.modLgr fun g => { g with ring := tset [] g.ring pos [] }).wr LGR_STATUS.WRITE_FAIL 1).record
            recLgrWriteFailed (leBytes 4 b.num)
        else
          let sig := sixtyFour (Config.deviceSign (cpDigest b.bytes d.lgr.prevSig))
          (d.modLgr fun g => { g with ring := tset [] g.ring pos (b.bytes ++ sig), prevSig := sig }).wr LGR_CP.CP_NUM b.num

/-- READ_CP: a position whose entry is torn, or whose checkpoint has another number, gives none. -/
def Dev.cmdReadCp (sid : Nat) (d : Dev) : Did :=
  let n := (d.sess sid).lgrNum
  let l := entryAt d.lgr.ring (n % 3840)
  let st := if d.lgr.torn.contains (n % 3840) then 2 else if !l.isEmpty && leAt l 0 4 = n then 0 else 3
  (d.modSess sid fun x => { x with
    lgrNum := (n + 1) % 2 ^ 32, lgrStatus := st, lgrWin := if st = 0 then l else [] }, wrOk)

/-- READ_CP (R360). -/
def execReadCp (sid : Sid) (s : State) : Host.Outcome State Fault Refusal :=
  s.run fun _ d => d.host sid.val fun d =>
    d.asGranted sid.val .lgr LGR_EXP_CTRL.CMD.addr (Dev.cmdReadCp sid.val)

/-! ### The ledger at a start (R355, R357) -/

/-- Put a checkpoint behind every one of a lower CP_NUM. -/
def cpInto (x : Nat × List Byte) : List (Nat × List Byte) → List (Nat × List Byte)
  | [] => [x]
  | y :: l => if leAt y.2 0 4 ≤ leAt x.2 0 4 then y :: cpInto x l else x :: y :: l

/-- What the chain shows of the checkpoints read so far: the signature bytes and the number of the last valid
one,
and the torn positions. -/
abbrev Chain := Option (List Byte × Nat) × List Nat

/-- One more checkpoint in the chain. The first of all was signed over 64 zero bytes; the oldest one held has
otherwise
no predecessor left to hold it against. DEDUCED, log 80. -/
def chainStep (a : Chain) (x : Nat × List Byte) : Chain :=
  let sig := (x.2.drop 32).take 64
  let ok := x.2.length = 96 && leAt x.2 0 4 % 3840 = x.1 &&
    let signed (prev : List Byte) : Bool :=
      Config.ecdsaOk Config.devicePub (cpDigest (x.2.take 32) prev) (sig.take 32) (sig.drop 32)
    match a.1 with
    | none => leAt x.2 0 4 ≠ 0 || signed []
    | some (prev, _) => signed prev
  if ok then (some (sig, leAt x.2 0 4), a.2) else (a.1, a.2 ++ [x.1])

/-- The ledger resumes: accumulators as stored, the chain verified, a torn checkpoint skipped. DESIGN CHOICE, log 82. -/
def Dev.scanLedger (d : Dev) : Dev :=
  let c := (d.lgr.ring.foldl (fun l x => cpInto x l) []).foldl chainStep (none, [])
  let next := match c.1 with
    | some (_, n) => (n + 1) % 2 ^ 32
    | none => 0
  let skip := c.2.contains (next % 3840)
  let d := d.modLgr fun g => { g with
    chg := g.storedChg.map fun x => (x.1, (x.2 : Rat)), dis := g.storedDis.map fun x => (x.1, (x.2 : Rat))
    lastP := [], mult := 0, gap := true, stepped := false, bodies := [], torn := c.2, next := next + skip.toNat
    prevSig := match c.1 with
      | some (p, _) => p
      | none => [] }
  let d := d.wr LGR_CP.CP_NUM (match c.1 with
    | some (_, n) => n
    | none => 0)
  d.each c.2 fun p d => d.tornAt 2 p (if p = next % 3840 then next else 0)

end Sys2Proof.Machine
end

