-- ==== Sys2Proof/Machine/ImageCheck.lean ====
section
/-! DEFINITION. What the module accepts as an image (R36 to R43, R118, R158, R179, R208, R239, R268, R306, R320,
R325) and as a bed (R57, R59). -/

namespace Sys2Proof.Machine

/-- A refusal of VERIFY: the REASON code and the failing offset. -/
abbrev Flaw := Nat × Nat

def rsBadMagic : Nat := 0x01
def rsBadLength : Nat := 0x02
def rsWrongTarget : Nat := 0x03
def rsSigInvalid : Nat := 0x04
def rsSignerUnknown : Nat := 0x05
def rsSignerRights : Nat := 0x06
def rsSerialOld : Nat := 0x07
def rsDigest : Nat := 0x08
def rsMissing : Nat := 0x09
def rsInvalid : Nat := 0x0A
def rsClass : Nat := 0x0B
def rsCfg : Nat := 0x0C
def rsConnected : Nat := 0x0D
def rsRole : Nat := 0x0E
def rsBedIncompatible : Nat := 0x0F
def rsBedCondition : Nat := 0x10
def rsBusy : Nat := 0x11
def rsPrune : Nat := 0x12
def rsGuard : Nat := 0x14
def rsSigners : Nat := 0x15
def rsNotVerified : Nat := 0x16

/-- A flaw where a condition holds. -/
def flawIf (c : Bool) (reason off : Nat) : Option Flaw := if c then some (reason, off) else none

/-- The first flaw of a list of checks. -/
def firstFlaw (l : List (Option Flaw)) : Option Flaw := l.findSome? id

/-! ### The directory and the layout (R36, R37) -/

/-- The length with padding to the next multiple of 8. -/
def pad8 (n : Nat) : Nat := (n + 7) / 8 * 8

def Img.count (i : Img) : Nat := i.u16 24
def Img.len (i : Img) : Nat := i.u32 8
def Img.serial (i : Img) : Nat := i.u32 12
def Img.eType (i : Img) (k : Nat) : Nat := i.u16 (64 + 48 * k)
def Img.eOff (i : Img) (k : Nat) : Nat := i.u32 (64 + 48 * k + 4)
def Img.eLen (i : Img) (k : Nat) : Nat := i.u32 (64 + 48 * k + 8)

/-- Whether `n` bytes from `a` are 0. -/
def Img.zeros (i : Img) (a n : Nat) : Bool := (List.range n).all fun k => i.u8 (a + k) = 0

/-- The signature block (R38). -/
def Img.sigAt (i : Img) : Nat := i.len - 96

/-- One section against its directory entry: where it starts, its header and its padding. -/
def Img.sectionFits (i : Img) (start k : Nat) : Bool :=
  let o := i.eOff k
  o = start && i.u16 o = i.eType k && i.u16 (o + 2) = 0 && i.u32 (o + 4) = i.eLen k &&
    i.zeros (64 + 48 * k + 12) 4 && i.zeros (o + 8 + i.eLen k) (pad8 (i.eLen k) - i.eLen k)

/-- The sections from entry `k` on, the first at `start`, end where the signature block starts. -/
def Img.sectionsFit (i : Img) : Nat → Nat → Nat → Bool
  | 0, _, start => decide (start + 96 = i.len)
  | n + 1, k, start =>
    i.sectionFits start k && (n = 0 || decide (i.eType k < i.eType (k + 1))) &&
      decide (start + 8 + i.eLen k + 96 ≤ i.len) && i.sectionsFit n (k + 1) (start + 8 + pad8 (i.eLen k))

/-- Layout (R36, R37). -/
def Img.layoutOk (i : Img) : Bool :=
  decide (1 ≤ i.count) && decide (i.count ≤ 32) && i.u8 27 = 0 && i.u16 38 = 0 && i.zeros 40 24 &&
    decide (1 ≤ i.serial) && decide (i.serial ≤ 0xFFFFFFFE) &&
    i.sectionsFit i.count 0 (64 + 48 * i.count) && i.zeros (i.sigAt + 5) 3 && i.zeros (i.sigAt + 88) 8

/-- The first section whose digest differs. -/
def Img.badDigest (i : Img) : Option Nat :=
  ((List.range i.count).find? fun k =>
    Config.sha256 (i.slice (i.eOff k) (8 + i.eLen k)) ≠ i.slice (64 + 48 * k + 16) 32).map i.eOff

/-! ### The signature (R38, R39) -/

/-- A public key and its rights bits: 1 images, 2 beds. Without a SIGNERS section slots 1 to 4 hold no key. -/
def keyOf (signers : List Byte) (slot : Nat) : Option (List Byte × Nat) :=
  if slot = 0 then some (Config.rootKey, 3)
  else if slot ≤ 4 && !signers.isEmpty then (Config.readSigners signers)[slot - 1]?
  else none

/-- The signature block at `at_` over the first `n` bytes, under the keys of `signers` for the rights bit
`right`. DEDUCED, log 29. -/
def Img.signatureFlaw (i : Img) (at_ n : Nat) (signers : List Byte) (right : Nat) : Option Flaw :=
  match keyOf signers (i.u8 (at_ + 4)) with
  | none => some (rsSignerUnknown, at_ + 4)
  | some (key, rights) =>
    firstFlaw [
      flawIf (i.u32 at_ ≠ 0x4E474953) rsSigInvalid at_,
      flawIf ((Config.sha256 key).take 16 ≠ i.slice (at_ + 8) 16) rsSignerUnknown (at_ + 8),
      flawIf (!Config.ecdsaOk key (Config.sha256 (i.slice 0 n)) (i.slice (at_ + 24) 32) (i.slice (at_ + 56) 32))
        rsSigInvalid (at_ + 24),
      flawIf (!rights.testBit right) rsSignerRights (at_ + 4)]

/-! ### Sections (R40 to R42) -/

/-- The greatest value length of a section type. -/
def secMax (ty : Nat) : Option Nat :=
  if ty = 0x0001 then some 512
  else if ty = secSigners then some 328
  else if ty = secTopology then some 2320
  else if ty = secTemps then some 24576
  else if ty = secZones then some 2048
  else if ty = secChem then some 5704
  else if ty = secDerate then some 4096
  else if ty = secConserv then some 576
  else if ty = secChannels then some 528
  else if ty = secContactors then some 576
  else if ty = secSafety then some 2048
  else if ty = secTime then some 256
  else if ty = secNetwork then some 512
  else if ty = secSessions then some 12288
  else if ty = secDefaults then some 65536
  else none

/-- The required sections. -/
def secRequired : List Nat :=
  [0x0001, secTopology, secTemps, secZones, secChem, secDerate, secConserv, secChannels, secContactors, secSafety,
   secTime, secNetwork, secSessions, secDefaults]

/-- The value length of a section, 0 for one that is absent. -/
def Img.secLen (i : Img) (ty : Nat) : Nat :=
  match i.sec ty with
  | some (_, n) => n
  | none => 0

/-- Every number below `n` meets `p`. -/
def every (n : Nat) (p : Nat → Bool) : Bool := (List.range n).all p

/-- A signed 16-bit field. -/
def Img.s16 (i : Img) (a : Nat) : Int := signed 16 (i.u16 a)

/-- The finite single precision value at `a`, if it is one. -/
def Img.finite (i : Img) (a : Nat) : Bool := f32Finite (i.u32 a)

/-- The register addresses that DEFAULTS lists. -/
def Img.listed (i : Img) : List Nat := (List.range i.defaultCount).map fun k => i.u32 (i.at_ secDefaults + 8 * k)

/-- TOPOLOGY (R15, R41): a configured string's series order names its monitor ports, 1 to 32 of them, each
once, and
its front port is the one front port assigned to it. -/
def topoOk (d : Dev) : Bool :=
  strings.all (fun s =>
    let n := (d.cellsOf s).length
    let ports := (d.portsOf s).filter fun n => !isFront n
    let order := (d.strRec s).order
    !d.configured s || (decide (8 ≤ n) && decide (n ≤ 480) && decide (1 ≤ ports.length) && decide (ports.length ≤ 32) &&
      order.length = ports.length && ports.all (fun p => order.any fun k => lcOfMon k = p) &&
      (d.portsOf s).filter isFront = [(d.strRec s).front])) &&
  monPorts.all fun k =>
    let p := d.portRec (lcOfMon k)
    8 ≤ p.str || (decide (4 ≤ p.inputs) && decide (p.inputs ≤ 24) && decide (p.temps ≤ 16))

/-- One profile of CHEM (R118). -/
def Img.profileOk (i : Img) (p : Nat) : Bool :=
  let a := i.at_ secChem + 8 + 1424 * p
  let tv (k : Nat) : Int := i.s16 (a + 1160 + 4 * k + 2)
  every 63 (fun r => every 8 fun c => decide (i.u16 (a + 24 + 16 * r + 2 * c) ≤ i.u16 (a + 24 + 16 * (r + 1) + 2 * c))) &&
    decide (i.u16 (a + 2) < i.u16 (a + 4)) &&
    every 5 (fun k =>
      let x := i.u32 (a + 1048 + 4 * k)
      let lo := i.u32 (a + 1068 + 4 * k)
      f32Le lo x && f32Le x (i.u32 (a + 1088 + 4 * k)) && f32Pos lo) &&
    every 8 (fun k => f32Pos (i.u32 (a + 1108 + 4 * k))) &&
    (every 31 (fun k => decide (tv k < tv (k + 1))) || every 31 fun k => decide (tv (k + 1) < tv k)) &&
    f32Finite (i.u32 (a + 1156)) && decide (9 / 10 ≤ f32 (i.u32 (a + 1156))) && decide (f32 (i.u32 (a + 1156)) ≤ 1)

/-- CHEM. -/
def Img.chemOk (i : Img) : Bool :=
  let n := i.u8 (i.at_ secChem)
  decide (1 ≤ n) && decide (n ≤ 4) && i.secLen secChem = 8 + 1424 * n &&
    every n fun p => i.u8 (i.at_ secChem + 8 + 1424 * p) = p && i.profileOk p

/-- DERATE of one string (R158); a record of a string that is not configured is held to the rule too. DEDUCED, log 30. -/
def Img.derateOk (i : Img) (s : Nat) : Bool :=
  let a := i.at_ secDerate + 512 * s
  every 2 (fun q => every 3 fun h =>
    f32Le (i.u32 (a + 16 * q + 4 * (h + 1))) (i.u32 (a + 16 * q + 4 * h))) &&
    every 15 (fun k => decide (i.s16 (a + 40 + 6 * k) < i.s16 (a + 40 + 6 * (k + 1)))) &&
    every 16 (fun k => decide (i.u16 (a + 42 + 6 * k) ≤ 10000) && decide (i.u16 (a + 44 + 6 * k) ≤ 10000)) &&
    decide (i.u16 (a + 136) < i.u16 (a + 138)) && decide (i.u16 (a + 142) < i.u16 (a + 140))

/-- The contactors an image has. -/
def Img.cons (i : Img) : List Nat := (List.range 27).filter i.conExists

/-- CONTACTORS (R179). -/
def Img.contactorsOk (i : Img) (d : Dev) : Bool :=
  let chans := i.cons.map i.coilChan
  i.secLen secContactors = 512 && chans.eraseDups.length = chans.length &&
    chans.all (fun n => decide (n < 32) && i.chanRole n = 1) &&
    strings.all (fun s =>
      i.conConfigured s = d.configured s &&
        (!d.configured s ||
          (decide (i.t90Min s < i.t90Max s) && decide (i.cMin s < i.cMax s) && decide (i.t90Max s ≤ i.tPreMax s) &&
            [i.t90Min s, i.t90Max s, i.tPreMax s, i.overlap s, i.tClose s, i.tOpen s, i.cool s].all (0 < ·)))) &&
    (!i.bankPresent || [8, 10, 14, 16].all fun o => i.u16 (i.bankCon + o) ≠ 0) &&
    decide (10 ≤ i.u16 (i.bankCon + 18)) && decide (i.u16 (i.bankCon + 18) ≤ 500)

/-- Whether point `p` has an input that its port's record uses. -/
def pointUsed (d : Dev) (p : Nat) : Bool :=
  let r := d.portRec (lcOfMon (p / 16))
  decide (r.str < 8) && decide (p % 16 < r.temps)

/-- One point of TEMPS (R206, R208). -/
def Img.pointOk (i : Img) (d : Dev) (p : Nat) : Bool :=
  let a := i.at_ secTemps + 24 * p
  let zone := i.u8 a
  let nb := i.u8 (a + 5)
  let used := pointUsed d p
  (zone ≠ 0xFF) = used && (!used || (decide (zone < i.u8 (i.at_ secZones)) && decide (i.u8 (a + 1) < 3))) &&
    decide (i.u8 (a + 1) < 4) &&
    decide (i.u8 (a + 4) ≤ 24) && every (i.u8 (a + 4)) (fun k => d.cellUsed (i.u16 (a + 2) + k)) &&
    decide (nb ≤ 8) && every 8 (fun k =>
      let q := i.u16 (a + 6 + 2 * k)
      if k < nb then q ≠ p && decide (q < 1024) && pointUsed d q else q = 0xFFFF)

/-- One zone of ZONES. -/
def Img.zoneOk (i : Img) (z : Nat) : Bool :=
  let a := i.at_ secZones + 32 + 28 * z
  i.u8 a = z && decide (i.s16 (a + 8) ≤ i.s16 (a + 10)) && decide (i.s16 (a + 10) < i.s16 (a + 12)) &&
    decide (i.s16 (a + 12) ≤ i.s16 (a + 14)) && i.u16 (a + 2) ≠ 0 && i.u16 (a + 4) ≠ 0 &&
    decide (i.u16 (a + 2) < i.u16 (a + 6)) && decide (i.u16 (a + 16) ≤ 10000) && i.u16 (a + 18) ≠ 0 &&
    i.u16 (a + 22) ≠ 0

/-- TEMPS and ZONES (R206 to R208). -/
def Img.thermalOk (i : Img) (d : Dev) : Bool :=
  let n := i.u8 (i.at_ secZones)
  i.secLen secTemps = 24576 && decide (1 ≤ n) && decide (n ≤ 64) && i.secLen secZones = 32 + 28 * n &&
    decide (i.s16 (i.at_ secZones + 2) < i.s16 (i.at_ secZones + 4)) && every n i.zoneOk && every 1024 (i.pointOk d)

/-- CHANNELS (R239). -/
def Img.channelOk (i : Img) (n : Nat) : Bool :=
  let a := i.chan n
  let r := i.u8 a
  let fl := i.u8 (a + 2)
  let duty := i.u8 (a + 4)
  let zones := i.u64 (a + 8)
  (r ≠ 5) && decide (r ≤ 5) && decide (i.u8 (a + 1) ≤ 2) && decide (fl < 8) &&
    (r ≠ 1 || (i.u8 (a + 1) = 0 && fl % 4 = 0 && i.u8 (a + 3) = 0xFF)) &&
    (if r = 4 then zones ≠ 0 && decide (zones < 2 ^ i.u8 (i.at_ secZones)) else zones = 0) &&
    decide (duty ≤ 200) && (fl / 2 % 2 = 0 || duty ≠ 0) &&
    (r ≠ 0 || (i.u8 (a + 1) = 0 && fl = 0 && (i.u8 (a + 3) = 0xFF || i.u8 (a + 3) = 0) && duty = 0))

/-- DEDUCED, log 30. -/
def Img.channelsOk (i : Img) : Bool :=
  i.secLen secChannels = 528 && every 32 i.channelOk &&
    i.u8 (i.chan 32) = 5 && i.u8 (i.chan 32 + 1) = 0 && i.u8 (i.chan 32 + 2) = 0 && i.u8 (i.chan 32 + 3) = 0xFF &&
    decide (i.u8 (i.chan 32 + 4) ≤ 200) && i.chanZones 32 = 0

/-- The value of `x` on a shunt in steps of 2 µV is at least 1 (R267, R268). -/
def armed (x shunt : Rat) : Bool := decide (1 ≤ x * shunt * 500000)

/-- One input record of SAFETY (R266, R268), its reserved bytes and bits 0 (R37). -/
def Img.inputOk (i : Img) (d : Dev) (k : Nat) : Bool :=
  let a := i.inRec k
  let f := i.u8 a
  let named := i.u8 (a + 6)
  if f = 0 then i.zeros a 16
  else
    decide (f ≤ 4) && decide (i.u8 (a + 1) ≤ 1) && decide (1 ≤ i.u8 (a + 2)) && decide (i.u8 (a + 2) ≤ 16) &&
      decide (10 ≤ i.u16 (a + 4)) && decide (i.u16 (a + 4) ≤ 2000) && decide (i.u8 (a + 2) < i.u16 (a + 4)) &&
      (if 3 ≤ f then decide (i.u16 (a + 8) ≤ 5000) else i.u16 (a + 8) = 0) &&
      decide (i.u8 (a + 3) < 2) && i.zeros (a + 7) 1 && i.zeros (a + 10) 6 &&
      (f = 1 || ((named ≠ 0 || i.u8 (a + 3) % 2 = 1) && (bitsOf 8 named).all d.configured))

/-- One string record of SAFETY (R268). -/
def Img.strSafOk (i : Img) (d : Dev) (s : Nat) : Bool :=
  let a := i.strSaf s
  let sh := (d.strRec s).shunt
  if !d.configured s then i.zeros a 32
  else
    decide (i.cmpUv s ≤ i.slwLo s) && decide (i.slwLo s < i.slwHi s) && decide (i.slwHi s ≤ i.cmpOv s) &&
      decide (i.cmpOv s ≤ 50000) && decide (1 ≤ i.slwCount s) && decide (i.slwCount s ≤ 4) &&
      [12, 16, 20, 24, 28].all (fun o => i.finite (a + o) && f32 (i.u32 (a + o)) ≠ 0) &&
      decide (i.slcChg s ≤ i.ocChg s) && decide (i.slcDis s ≤ i.ocDis s) && decide (i.sdrCmp s < i.slcChg s) &&
      decide (i.sdrCmp s < i.slcDis s) && armed (i.ocChg s) sh && armed (i.ocDis s) sh && armed (i.sdrCmp s) sh

/-- One entry of the fault-loop map (R268). -/
def Img.loopOk (i : Img) (d : Dev) (n : Nat) : Bool :=
  let g := i.loopMap n
  if d.portUsed n then
    g.testBit (d.portRec n).str && decide (g < 512) && (bitsOf 8 g).all d.configured
  else g = 0

/-- SAFETY (R266, R268). -/
def Img.safetyOk (i : Img) (d : Dev) : Bool :=
  let a := i.saf
  i.secLen secSafety = 560 && i.u16 a = 1 && decide (10 ≤ i.degradeLimit) && decide (i.degradeLimit ≤ 50) &&
    decide (1 ≤ i.recovery) && decide (i.recovery ≤ 60) && decide (60 ≤ i.degradeTime) && decide (i.degradeTime ≤ 900) &&
    decide (30 ≤ i.proofDays) && decide (i.proofDays ≤ 730) && i.zeros (a + 8) 24 &&
    every 8 (i.inputOk d) && every 8 (i.strSafOk d) && every 72 (i.loopOk d)

/-- A signed byte within a range. -/
def Img.s8In (i : Img) (a : Nat) (lo hi : Int) : Bool := decide (lo ≤ signed 8 (i.u8 a)) && decide (signed 8 (i.u8 a) ≤ hi)

/-- TIME (R306). -/
def Img.timeOk (i : Img) : Bool :=
  let a := i.at_ secTime
  let jump (o : Nat) : Bool := decide (1000 ≤ i.u32 (a + o)) && decide (i.u32 (a + o) ≤ 1000000000)
  i.secLen secTime = 160 && i.u16 a = 1 && decide (i.u8 (a + 2) ≤ 3) && decide (i.u8 (a + 3) ≤ 1) && jump 4 && jump 8 &&
    i.zeros (a + 96) 64 && Nat.land (i.u32 (a + 12)) 0xCC = 0 &&
    every 4 (fun k => i.u32 (a + 16 + 4 * k) % 4 ≠ 3 && Nat.land (i.u32 (a + 16 + 4 * k)) 0xFFFF00EC = 0) &&
    every 2 fun p =>
      let b := i.ptpPort p
      decide (i.u8 b ≤ 3) && decide (i.u8 (b + 1) ≤ 2) && decide (i.u8 (b + 2) ≤ 4) && i.s8In (b + 3) (-4) 1 &&
        i.s8In (b + 4) (-3) 4 && decide (2 ≤ i.u8 (b + 5)) && decide (i.u8 (b + 5) ≤ 10) && i.s8In (b + 6) (-4) 5 &&
        i.zeros (b + 11) 21

/-- Whether two ranges share an identifier. -/
def clash (a n b k : Nat) : Bool := decide (a < b + k) && decide (b < a + n)

/-- NETWORK (R319, R320). -/
def Img.networkOk (i : Img) : Bool :=
  i.secLen secNetwork = 176 && i.u16 (i.at_ secNetwork) = 1 &&
    every 2 (fun p =>
      let b := i.ethRec p
      let rap := i.u16 (b + 14)
      decide (8 ≤ i.u8 (b + 12)) && decide (i.u8 (b + 12) ≤ 30) && decide (16 ≤ i.u8 (b + 36)) &&
        decide (i.u8 (b + 36) ≤ 126) && rap ≠ 319 && rap ≠ 320 && rap ≠ i.u16 (b + 38)) &&
    every 2 fun p =>
      let b := i.canRec p
      let fl := i.canFlags p
      let lim := i.u32 (b + 4)
      let rx := i.u32 (b + 8)
      let tx := i.u32 (b + 12)
      let top := if fl / 4 % 2 = 1 then 0x1FFFFFFF else 0x7FF
      decide (i.u8 b ≤ 3) && decide (i.u8 (b + 1) ≤ 4) && (fl / 2 % 2 = 0 || i.u8 (b + 1) ≠ 0) &&
        !clash lim 9 rx 64 && !clash lim 9 tx 64 && !clash rx 64 tx 64 && decide (lim + 8 ≤ top) &&
        decide (rx + 63 ≤ top) && decide (tx + 63 ≤ top)

/-- SESSIONS (R325). DEDUCED, log 30. -/
def Img.sessionsOk (i : Img) : Bool :=
  let n := i.keyCount
  let ids := (List.range n).map fun k => i.u16 (i.keyRec k + 64)
  let keys := (List.range n).map fun k => i.slice (i.keyRec k) 64
  i.secLen secSessions = 96 * n && decide (1 ≤ n) && ids.eraseDups.length = n && keys.eraseDups.length = n &&
    every n fun k =>
      let r := i.keyRec k
      decide (1 ≤ i.u16 (r + 64)) && decide (i.u16 (r + 64) ≤ 65534) && i.u8 (r + 66) ≠ 0 && decide (i.u8 (r + 66) < 64) &&
        i.u8 (r + 67) ≠ 0 && decide (i.u8 (r + 67) < 16) && decide (1 ≤ i.u8 (r + 68)) && decide (i.u8 (r + 68) ≤ 8) &&
        decide (10 ≤ i.u16 (r + 70)) && decide (i.u16 (r + 70) ≤ 3600)

/-- Every reserved byte and bit of the sections that are laid out by offset is 0 (R37): TEMPS and ZONES. -/
def Img.thermalClear (i : Img) : Bool :=
  let z := i.at_ secZones
  i.zeros (z + 1) 1 && i.zeros (z + 6) 26 && every 1024 (fun p => i.zeros (i.at_ secTemps + 24 * p + 22) 2) &&
    every (i.u8 z) fun k => decide (i.u8 (z + 32 + 28 * k + 1) < 2) && i.zeros (z + 32 + 28 * k + 24) 4

/-- CHEM. -/
def Img.chemClear (i : Img) : Bool :=
  let a := i.at_ secChem
  i.zeros (a + 1) 7 && every (i.u8 a) fun p => i.zeros (a + 8 + 1424 * p + 1) 1 && i.zeros (a + 8 + 1424 * p + 1290) 134

/-- CONTACTORS. -/
def Img.contactorsClear (i : Img) : Bool :=
  every 8 (fun s => decide (i.u8 (i.con s + 3) < 2) && i.zeros (i.con s + 52) 4) &&
    decide (i.u8 (i.bankCon + 3) < 2) && i.zeros (i.bankCon + 20) 44

/-- NETWORK. -/
def Img.networkClear (i : Img) : Bool :=
  i.zeros (i.at_ secNetwork + 2) 14 && every 2 fun p =>
    decide (i.ethFlags p < 8) && i.zeros (i.ethRec p + 37) 1 && i.zeros (i.ethRec p + 56) 8 &&
      decide (i.canFlags p < 8) && i.zeros (i.canRec p + 3) 1

/-- Presence and limits of the sections (R40 to R42), `d` with the image's structure. DEDUCED, log 29. -/
def Img.sectionFlaw (i : Img) (d : Dev) : Option Flaw :=
  let odd := (List.range i.count).find? fun k => match secMax (i.eType k) with
    | some n => decide (n < i.eLen k)
    | none => true
  let bad (ty : Nat) (ok : Bool) : Option Flaw := flawIf (!ok) rsInvalid (i.at_ ty)
  firstFlaw [
    odd.map fun k => (rsInvalid, i.eOff k),
    flawIf (secRequired.any fun ty => (i.sec ty).isNone) rsMissing 64,
    flawIf (neededRegs.any fun a => !i.listed.contains a) rsMissing (i.at_ secDefaults),
    bad secTopology (topoOk d), bad secTemps (i.thermalOk d && i.thermalClear), bad secChem (i.chemOk && i.chemClear),
    bad secDerate (i.secLen secDerate = 4096 && strings.all fun s =>
      i.derateOk s && i.zeros (i.at_ secDerate + 512 * s + 144) 368),
    bad secConserv (i.secLen secConserv = 576 && every 9 fun k => i.zeros (i.at_ secConserv + 64 * k + 40) 24),
    bad secChannels (i.channelsOk && every 33 fun n => i.zeros (i.chan n + 5) 3),
    bad secContactors (i.contactorsOk d && i.contactorsClear), bad secSafety (i.safetyOk d), bad secTime i.timeOk,
    bad secNetwork (i.networkOk && i.networkClear),
    bad secSessions (i.sessionsOk && every i.keyCount fun k =>
      i.zeros (i.keyRec k + 69) 1 && i.zeros (i.keyRec k + 74) 22),
    bad secDefaults (i.secLen secDefaults % 8 = 0 && i.listed.all fun a => defaultRegs.contains a)]

/-! ### The class (R43) -/

/-- Whether a structure is full class. -/
def topoFull (d : Dev) : Bool :=
  decide (16 < (monPorts.filter fun k => d.portUsed (lcOfMon k)).length) || decide (2 < (strings.filter d.configured).length)

/-! ### Checks 1 to 8 of VERIFY and the checks of a start (R46, R49) -/

/-- The device with the structure that an image's TOPOLOGY holds. -/
def Dev.withTopo (i : Img) (d : Dev) : Dev := { d with topo := Config.readTopo (i.value secTopology) }

/-- MAGIC, FORMAT, HDR_LEN and the length. DEDUCED, log 29. -/
def Img.headerFlaw (i : Img) (len : Nat) : Option Flaw :=
  firstFlaw [
    flawIf (i.u32 0 ≠ 0x534C5254) rsBadMagic 0, flawIf (i.u16 4 ≠ 3) rsBadMagic 4, flawIf (i.u16 6 ≠ 64) rsBadMagic 6,
    flawIf (i.len ≠ len || decide (i.len < 1024) || decide (261120 < i.len) || i.len % 8 ≠ 0) rsBadLength 8]

/-- The layout, the digests, the sections and the class. DEDUCED, log 29. -/
def Img.bodyFlaw (i : Img) (d : Dev) : Option Flaw :=
  let e := d.withTopo i
  firstFlaw [
    flawIf (!i.layoutOk) rsInvalid 64,
    i.badDigest.map fun o => (rsDigest, o),
    i.sectionFlaw e,
    flawIf (i.u8 26 ≠ (topoFull e).toNat) rsClass 26]

/-- Checks 1 to 8 of an image of `len` bytes against the running one. DEDUCED, log 29. -/
def Img.imageFlaw (i : Img) (len : Nat) (m : Mem) (d : Dev) : Option Flaw :=
  let root := i.u8 (i.sigAt + 4) = 0
  match i.headerFlaw len with
  | some f => some f
  | none =>
    firstFlaw [
      flawIf (i.u64 16 ≠ Config.deviceId && i.u64 16 ≠ 0xFFFFFFFFFFFFFFFF) rsWrongTarget 16,
      i.signatureFlaw i.sigAt (64 + 48 * i.count) (m.img.value secSigners) 0,
      flawIf (!root && i.value secSigners ≠ m.img.value secSigners) rsSigners (i.at_ secSigners),
      flawIf (decide (i.serial ≤ m.img.serial)) rsSerialOld 12,
      i.bodyFlaw d]

/-- Whether a committed copy passes at a start (R46): signature, digests, layout and sections. A signer's key is
that of the copy's own SIGNERS section, which R39 keeps equal to its predecessor's. -/
def Img.startOk (i : Img) (d : Dev) : Bool :=
  (i.headerFlaw i.len).isNone && (i.signatureFlaw i.sigAt (64 + 48 * i.count) (i.value secSigners) 0).isNone &&
    (i.bodyFlaw d).isNone

/-! ### The touch set (R51) -/

/-- Whether `n` bytes at the same place of a section differ. -/
def recDiffers (i j : Img) (ty off n : Nat) : Bool :=
  i.slice (i.at_ ty + off) n ≠ j.slice (j.at_ ty + off) n

/-- Whether a whole section differs. -/
def secDiffers (i j : Img) (ty : Nat) : Bool := i.value ty ≠ j.value ty

/-- The strings of a structure that own a contact cell of point `p`. -/
def Img.pointStrings (i : Img) (d : Dev) (p : Nat) : List Nat :=
  let a := i.at_ secTemps + 24 * p
  if i.u8 a = 0xFF then []
  else ((List.range (i.u8 (a + 4))).map fun k => d.cellStr (i.u16 (a + 2) + k)).filter (· < 8)

/-- The strings with a cell in zone `z`. -/
def Img.zoneStrings (i : Img) (d : Dev) (z : Nat) : List Nat :=
  ((List.range 1024).filter fun p => i.u8 (i.at_ secTemps + 24 * p) = z).flatMap (i.pointStrings d)

/-- The strings with a port that uses profile `p`. -/
def profileStrings (d : Dev) (p : Nat) : List Nat :=
  strings.filter fun s => (d.strRec s).order.any fun k => (d.portRec (lcOfMon k)).profile = p

/-- The strings that a changed record of image `i`, whose structure `d` has, reaches: one side of the comparison
with `j`. -/
def Img.reached (i j : Img) (d e : Dev) : List Nat :=
  (strings.filter fun s => d.strRec s ≠ e.strRec s) ++
  ((controllers.filter fun n => d.portRec n ≠ e.portRec n).map fun n => (d.portRec n).str) ++
  (((List.range 1024).filter fun p => recDiffers i j secTemps (24 * p) 24).flatMap (i.pointStrings d)) ++
  (((List.range 64).filter fun z => recDiffers i j secZones (32 + 28 * z) 28).flatMap (i.zoneStrings d)) ++
  (((List.range 4).filter fun p => recDiffers i j secChem (8 + 1424 * p) 1424).flatMap (profileStrings d)) ++
  (strings.filter fun s => recDiffers i j secDerate (512 * s) 512 || recDiffers i j secConserv (64 * s) 64 ||
    recDiffers i j secContactors (56 * s) 56)

/-- The contactors whose channel's record differs, named by image `k`. -/
def consReached (i j k : Img) : List Nat :=
  k.cons.filter fun c => recDiffers i j secChannels (16 * k.coilChan c) 16

/-- The touch set: the strings as a mask, with the bank as bit 8. `i` is the new image, `d` the device as it
is. -/
def touchSet (i : Img) (m : Mem) (d : Dev) : Nat :=
  let j := m.img
  let e := d.withTopo i
  let cons := consReached i j i ++ consReached i j j
  let strs := i.reached j e d ++ j.reached i d e ++ (cons.filter (· < 24)).map (· / 3)
  let bank := (strings.filter e.configured).length ≠ (strings.filter d.configured).length ||
    recDiffers i j secConserv 512 64 || recDiffers i j secContactors 448 64 || recDiffers i j secChannels 512 16 ||
    cons.any (24 ≤ ·) || secDiffers i j secSafety || secDiffers i j secTime
  maskOf 8 strs.contains + 256 * bank.toNat

/-! ### Beds (R57 to R59) -/

/-- The slot sizes in KB, by BED_ID. -/
def bedKb : List Nat := [0, 512, 192, 128, 256, 128, 128, 128, 64, 128, 256, 64, 64]

def bedSize (id : Nat) : Nat := 1024 * bedKb.getD id 0

/-- Where a bed's slot starts in a code copy. -/
def bedAt (id : Nat) : Nat := 1024 * (bedKb.take id).foldl (· + ·) 0

/-- A slot's bytes, as an image of its own. -/
def slotOf (code : List Host.Cell) (id : Nat) : Img :=
  (code.filter fun x => bedAt id ≤ x.1 && x.1 < bedAt id + bedSize id).map fun x => (x.1 - bedAt id, x.2)

/-- A code copy with a slot replaced; its other bytes stay. -/
def putSlot (code : List Host.Cell) (id : Nat) (b : Img) : List Host.Cell :=
  (code.filter fun x => x.1 < bedAt id) ++ (b.filter fun x => x.1 < bedSize id).map (fun x => (x.1 + bedAt id, x.2)) ++
    code.filter fun x => bedAt id + bedSize id ≤ x.1

/-- The slot of bed `id` that is active, 0 A, 1 B. -/
def Mem.activeOf (m : Mem) (id : Nat) : Nat := tget 0 m.active id

/-- The installed bed. DESIGN CHOICE, log 39. -/
def Mem.bed (m : Mem) (id : Nat) : Img := slotOf (if m.activeOf id = 0 then m.codeA else m.codeB) id

/-- Slot `k` of a bed, 0 A, 1 B. -/
def Mem.slotAt (m : Mem) (id k : Nat) : Img := slotOf (if k = 0 then m.codeA else m.codeB) id

/-- The other slot. -/
def Mem.spare (m : Mem) (id : Nat) : Img := slotOf (if m.activeOf id = 0 then m.codeB else m.codeA) id

def bedIface (b : Img) : Nat := b.u16 20
def bedVersion (b : Img) : Nat := b.u32 16

/-- What a bed needs of bed `n`. -/
def bedNeeds (b : Img) (n : Nat) : Nat := b.u8 (28 + n - 1)

/-- The header of a bed of `len` bytes for slot `id` (R57). DESIGN CHOICE, log 109. -/
def bedHeaderFlaw (b : Img) (id len : Nat) : Option Flaw :=
  let n := b.u32 8
  firstFlaw [
    flawIf (b.u32 0 ≠ 0x46444542) rsBadMagic 0, flawIf (b.u16 4 ≠ 1) rsBadMagic 4, flawIf (b.u8 6 ≠ id) rsBadMagic 6,
    flawIf (n ≠ len || decide (n < 160) || decide (bedSize id < n) || n % 8 ≠ 0) rsBadLength 8]

/-- Whether a bed's reserved bytes are 0 (R57). DESIGN CHOICE, log 109. -/
def bedClear (b : Img) : Bool :=
  let n := b.u32 8
  b.u8 7 = 0 && b.u16 26 = 0 && b.zeros 40 24 && b.zeros (n - 91) 3 && b.zeros (n - 8) 8

/-- The signature of a bed (R57, R38), under the signers of the running image. -/
def bedSigned (b : Img) (m : Mem) : Option Flaw :=
  b.signatureFlaw (b.u32 8 - 96) (b.u32 8 - 96) (m.img.value secSigners) 1

/-- The checks of a bed of `len` bytes for slot `id` (R49, R57, R59). DESIGN CHOICE, log 109. -/
def bedFlaw (b : Img) (id len : Nat) (m : Mem) : Option Flaw :=
  let others := ((List.range 13).drop 1).filter (· ≠ id)
  match bedHeaderFlaw b id len with
  | some f => some f
  | none =>
    firstFlaw [
      bedSigned b m,
      flawIf (decide (b.u32 12 ≤ (m.bed id).u32 12)) rsSerialOld 12,
      flawIf (!bedClear b) rsInvalid 7,
      flawIf (others.any fun k => decide (bedIface (m.bed k) < bedNeeds b k)) rsBedIncompatible 28,
      flawIf (others.any fun k => decide (bedIface b < bedNeeds (m.bed k) id)) rsBedIncompatible 20,
      flawIf (m.hasImage && (decide (m.img.u16 4 < b.u16 22) || decide (b.u16 24 < m.img.u16 4))) rsBedIncompatible 22]

end Sys2Proof.Machine
end

