-- ==== Sys2Proof/Machine/Supervisor.lean ====
section
/-! DEFINITION. The supervisor pair and its SRAM (R18, R19, R58, R256, R264, R278, R283, R371, R372): bed outages
and their end, supervisor resets, hold-through and reclaim, memory errors. -/

namespace Sys2Proof.Machine

def bedPwrm : Nat := 12

/-! ### The end of an outage (R58) -/

/-- A calibration that waits runs again, at Prune 0 or 1 and outside an outage of PWRM (R381, R390). DEDUCED, log 87. -/
def Dev.calAgain (d : Dev) : Dev :=
  if d.pwr.calWait && d.stage ≤ 1 && !d.outage bedPwrm then
    (d.wr PWR_STATUS.CAL_ACTIVE 1).modPwr fun p => { p with calWait := false }
  else d

/-- The functions of a bed resume. -/
def Dev.resumeBed (m : Mem) (id : Nat) (d : Dev) : Dev :=
  if !d.outage id then d
  else
    let d := d.modLoad fun x => { x with outage := x.outage.filter (· ≠ id) }
    if id = bedEstm then (if d.runs .est then d.unquiet m .est else d)
    else if id = bedThrm then d.withDemand m (Dev.thwResume m)
    else if id = bedSeqn then ((d.auxResume m).afterOpen m).startFirst m
    else if id = bedChnl then (if d.runs .chn then d.withDemand m (Dev.chnResume m) else d)
    else if id = bedNets then d.cuePast m fun c => c.action = 1
    else if id = bedRecl then d.ledgerResumed
    else if id = bedPwrm then d.calAgain
    else d

/-! ### Supervisor resets (R256, R371, R372) -/

/-- The START record that a start or a supervisor reset creates: its cause, the start count and the serial of
the
running image (R371). -/
def Dev.startRecord (m : Mem) (d : Dev) : Dev :=
  d.record recStart (leBytes 1 d.nv.cause ++ leBytes 3 (min 0xFFFFFF d.nv.starts) ++ leBytes 4 m.img.serial)

/-- What any supervisor reset ends: sessions without CLOSE, a proof test and a reset's self-test; its cause is
kept, and its record follows once the supervisor runs again. DEDUCED, log 64. -/
def Dev.supLost (m : Mem) (cause : Nat) (d : Dev) : Dev :=
  let d := (d.closeAll closeReset).abandonProof.modSaf fun x => { x with testing := false }
  (d.modNv fun n => { n with cause := cause }).startRecord m

/-- A reset that channels are held through; a further one does not restart the hold timer. DEDUCED, log 64. -/
def Dev.holdThrough (m : Mem) (cause : Nat) (d : Dev) : Dev :=
  if !d.awake || d.pwr.inTransport then d
  else
    let d := if d.pwr.sup = .running then
        ((d.freezeDemand m).modChn fun x => { x with holdFrom := d.clk }).modPwr fun p => { p with sup := .holdThrough }
      else d
    d.supLost m cause

/-- LOCKSTEP (R371). -/
def execLockstep (s : State) : Host.Outcome State Fault Refusal := s.run fun m d => d.holdThrough m 6

/-- WATCHDOG (R371). -/
def execWatchdog (s : State) : Host.Outcome State Fault Refusal := s.run fun m d => d.holdThrough m 7

/-- HOLD_THROUGH_EXPIRED (R256). Every channel takes its safe default, and the bank opens. -/
def execHoldThroughExpired (s : State) : Host.Outcome State Fault Refusal :=
  s.run fun m d =>
    if d.pwr.sup ≠ .holdThrough then d
    else
      let d := (d.modPwr fun p => { p with sup := .expired }).openBank m 0x13
      (d.each channels Dev.safeDefault).wr CHN_STATUS.HT_EXPIRED 1

/-- The record of a hold-through: its duration in ms, and whether it expired. -/
def Dev.recordHeld (was : Sup) (d : Dev) : Dev :=
  let ms := (d.clk - d.chn.holdFrom) / msClk 1
  match was with
  | .holdThrough => (d.wr CHN_STATUS.HT_RECLAIMED 1).record recChnHoldThrough (leBytes 2 ms ++ leBytes 1 0)
  | .expired => d.record recChnHoldThrough (leBytes 2 ms ++ leBytes 1 1)
  | _ => d

/-- The restarted supervisor reclaims: it reads the Curtain, sequences in progress abort or resume from their
aux
states, the outages end, and CHN resumes (R199, R256, R278, R283, R372, R390). DEDUCED, log 66. DEDUCED, log 88. -/
def Dev.reclaim (m : Mem) (d : Dev) : Dev :=
  let was := d.pwr.sup
  d.withDemand m fun d =>
    let d := (d.modPwr fun p => { p with sup := .running }).releaseRecords
    let d := d.recordHeld was
    let d := ((d.modSaf fun x => { x with first := true, xseq := none }).flag SAF_STATUS.HB_MISSING
      (decide (d.saf.heard + msClk 2 < d.clk))).sdrReclaim m
    let d := if d.saf.ret.degraded then d.enterSafe m false else d
    let d := (d.interruptAll m).auxResume m
    let d := d.each d.load.outage (Dev.resumeBed m)
    let d := if d.pwr.p4 then d.commit.flushRecords.storeLedger else d
    if was ≠ .holdThrough && d.runs .chn then d.chnResume m else d

/-- RECLAIM (R256). -/
def execReclaim (s : State) : Host.Outcome State Fault Refusal :=
  s.run fun m d =>
    if d.awake && (d.pwr.sup = .holdThrough || d.pwr.sup = .expired) then d.reclaim m else d

/-- BED_RESUMPTION (R58). KERN and SAFE resume with the restarted supervisor; an outage under way when the
supervisor is reset ends at reclaim (R390). -/
def execBedResumption (bed : Fin 13) (s : State) : Host.Outcome State Fault Refusal :=
  s.run fun m d =>
    let id := bed.val
    if !d.awake || !d.outage id then d
    else if d.pwr.sup = .bedReset then (if id = bedKern || id = bedSafe then d.reclaim m else d)
    else if d.pwr.sup = .running then d.withDemand m (Dev.resumeBed m id)
    else d

/-! ### SRAM (R18, R19, R401) -/

/-- The region code of R401. -/
def regionOf : EccSite → Nat
  | .cell _ => 1
  | .ring _ _ => 2
  | .temp _ => 3
  | .session _ => 4
  | .cue _ => 5
  | .frame _ _ => 6
  | .firmware => 7

/-- The cell restarts from its measured voltage at maximum variance, with the defaults of R141 and flagged
NEW, and
its string is STALE (R125, R149). DEDUCED, log 47. -/
def Dev.eccCell (m : Mem) (c : Nat) (d : Dev) : Dev :=
  let d := ((d.defaultCell m c).initCell m (d.avgV c) c).setStale (d.cellStr c)
  (d.wr (CELL_FLAGS.ECC_REINIT c) 1).wr (CELL_FLAGS.NEW c) 1

/-- A sweep without the samples of one strobe of some cells. -/
def Sweep.dropCells (l : List Nat) (k : Nat) (w : Sweep) : Sweep :=
  { w with cells := l.foldl (fun t c => tmod [] t c fun x => x.filter fun y => y.strobe ≠ k) w.cells }

/-- A sweep in which one strobe of a string reads STALE. -/
def Sweep.staleStr (s k : Nat) (w : Sweep) : Sweep :=
  { w with strs := tmod [] w.strs s fun l => l.map fun x =>
      if x.strobe = k then { x with iVal := .stale, vstrVal := .stale, vbusVal := .stale, vpreVal := .stale } else x }

/-- The samples of one strobe of one port are STALE, in the half being filled or, where that does not hold them
yet, in the completed one. DEDUCED, log 46. -/
def Dev.eccRing (n k : Nat) (d : Dev) : Dev :=
  let f : Sweep → Sweep := match monOfLc n with
    | some p => Sweep.dropCells (d.blockCells p) k
    | none => Sweep.staleStr (d.lcStr n) k
  if k < d.phase.k then
    let d := d.modAcq fun a => { a with fill := f a.fill }
    if k + 1 < d.phase.k then d
    else match monOfLc n with
      | some p => d.staleCells p
      | none =>
        let s := d.lcStr n
        ((d.wr (ACQ_I.VALID s) 3).wr (ACQ_VSTR.VALID s) 3 |>.wr (ACQ_VBUS.VALID s) 3).wr (ACQ_VPRE.VALID s) 3
  else d.modAcq fun a => { a with done := a.done.map f }

/-- A temperature record is lost: the point is treated as IMPLAUSIBLE until the sweep ends. -/
def Dev.eccTemp (m : Mem) (p : Nat) (d : Dev) : Dev :=
  if (d.point p).ecc.isSome then d
  else
    let st := d.rd (TEMP_VAL.STANDING p)
    ((d.modPoint p fun x => { x with ecc := some st }).wr (TEMP_VAL.STANDING p) 2).showPoint m p

/-- A cue entry is lost. -/
def Dev.eccCue (i : Nat) (d : Dev) : Dev :=
  if (d.cueAt i).bytes.isEmpty then d else (d.putCue i .empty).record recEccCueLost (leBytes 2 i)

/-- What an uncorrectable error brings by region. DEDUCED, log 46. -/
def Dev.eccReact (m : Mem) (x : EccSite) (d : Dev) : Dev :=
  match x with
  | .cell c => if d.cellUsed c.val then d.eccCell m c.val else d
  | .ring lc k => d.eccRing lc.val k.val
  | .temp p => if d.pointUsed m p.val then d.eccTemp m p.val else d
  | .session k => d.closeSession k.val closeEcc
  | .cue i => d.eccCue i.val
  | .frame p k => d.modSlot (64 * p.num + k.val) fun _ => .empty
  | .firmware => ((d.wr ARCH_ECC_UNCORR.COUNT 0).wr ARCH_ECC_UNCORR.LAST_REGION 0).holdThrough m 8

/-- ECC_ERROR (R18, R401). -/
def execEccError (single : Bool) (site : EccSite) (s : State) : Host.Outcome State Fault Refusal :=
  s.run fun m d =>
    if !d.awake || d.pwr.inTransport then d
    else if single then d.bump ARCH_ECC_CORR.COUNT
    else ((d.bump ARCH_ECC_UNCORR.COUNT).wr ARCH_ECC_UNCORR.LAST_REGION (regionOf site)).eccReact m site

/-- SCRUB_PASS (R19, R401). -/
def execScrubPass (s : State) : Host.Outcome State Fault Refusal :=
  s.run fun _ d => if d.awake && !d.pwr.inTransport then d.bumpMod ARCH_SCRUB.COUNT else d

end Sys2Proof.Machine
end

