-- ==== Sys2Proof/Machine/Image.lean ====
section
/-! DEFINITION. Loading, verifying and applying images and beds (R44 to R60). -/

namespace Sys2Proof.Machine

/-! ### Host commands that may write the MRAM copies -/

/-- The MRAM copies, the device and the result after such a write. -/
abbrev DidM := Mem × Did

/-- A command of the IMG page is carried out and answered. DESIGN CHOICE, log 10. -/
def memHost (sid : Nat) (go : Mem → Dev → DidM) (m : Mem) (d : Dev) : Mem × Dev :=
  if d.isOpened sid && d.alive then
    let r := go m d
    (r.1, Dev.answer sid r.2)
  else (m, d)

/-! ### Copies and commit records (R45, R46) -/

/-- The copy that a load writes: the one that does not run. -/
def Mem.target (m : Mem) : Nat := if m.run = 0 then 1 else 0

def Mem.copy (m : Mem) (k : Nat) : Img := if k = 0 then m.copyA else m.copyB
def Mem.putCopy (k : Nat) (i : Img) (m : Mem) : Mem := if k = 0 then { m with copyA := i } else { m with copyB := i }

/-- The canonical form of the MRAM copies: addresses rising, no listed byte 0, and a running copy A, B or
none. DESIGN CHOICE, log 1. -/
def Mem.wf (m : Mem) : Bool :=
  canon 0 m.copyA && canon 0 m.copyB && canon 0 m.codeA && canon 0 m.codeB && canon 0 m.active &&
    (m.run = 0 || m.run = 1 || m.run = 3)

/-- Where a copy's commit record stands in its slot. DESIGN CHOICE, log 33. -/
def commitAt : Nat := 261120

/-- "TCMT". -/
def commitMagic : List Byte := [0x54, 0x43, 0x4D, 0x54]

/-- The 60 bytes of a commit record that its CRC covers: the magic, the serial and the state, 1 COMMITTED. DESIGN CHOICE, log 33. -/
def commitBody (serial state : Nat) : List Byte :=
  commitMagic ++ leBytes 4 serial ++ leBytes 1 state ++ List.replicate 51 0

/-- A copy with its commit record written. DESIGN CHOICE, log 33. -/
def Img.commit (serial state : Nat) (i : Img) : Img :=
  i.store commitAt (commitBody serial state ++ leBytes 4 (crc32Ref (commitBody serial state)))

/-- Whether a copy is COMMITTED; a record whose CRC fails is not. DESIGN CHOICE, log 33. -/
def Img.committed (i : Img) : Bool :=
  i.slice commitAt 4 = commitMagic && i.u8 (commitAt + 8) = 1 && i.u32 (commitAt + 60) = crc32Ref (i.slice commitAt 60)

/-- The serial that a commit record names. -/
def Img.commitSerial (i : Img) : Nat := i.u32 (commitAt + 4)

/-- A bed's slot that is not active, replaced. -/
def Mem.putSpare (id : Nat) (b : Img) (m : Mem) : Mem :=
  if m.activeOf id = 0 then { m with codeB := putSlot m.codeB id b } else { m with codeA := putSlot m.codeA id b }

/-! ### The load context (R48, R60) -/

def loadCtrl : Nat := IMG_LOAD_CTRL.CMD.addr

/-- A refusal, which REASON keeps. -/
def Dev.imgRefuse (reason addr : Nat) (d : Dev) : Did := (d.wr IMG_LOAD_STATUS.REASON reason, wrRefused reason addr)

/-- Why a session may not command the load context, if it may not. DEDUCED, log 32. -/
def Dev.imgBarred (sid : Nat) (d : Dev) : Option Nat :=
  let owner := d.rd IMG_LOAD_STATUS.OWNER
  if owner ≠ 0 && owner ≠ sid then some rsBusy
  else if (d.sess sid).role ≠ .maintainer && (d.sess sid).role ≠ .safetySteward then some rsRole
  else none

/-- Carry out a load command of a session that may give it. DEDUCED, log 32. -/
def Dev.asLoader (sid : Nat) (m : Mem) (d : Dev) (go : DidM) : DidM :=
  match d.imgBarred sid with
  | some r => (m, d.imgRefuse r loadCtrl)
  | none => go

/-- The context opens for `kind`. -/
def Dev.loadOpens (sid : Nat) (kind : LoadKind) (d : Dev) : Dev :=
  ((d.modLoad fun x => { x with kind := kind, serial := 0 }).wr IMG_LOAD_STATUS.OWNER sid).wr IMG_LOAD_STATUS.STATE ldLoading

/-- Whether an OPEN finds the context free: IDLE, or the owner's FAILED one. DESIGN CHOICE, log 108. -/
def Dev.loadFree (d : Dev) : Bool := d.ldState = ldIdle || d.ldState = ldFailed

/-- OPEN_TRL. -/
def cmdOpenTrl (sid : Nat) (m : Mem) (d : Dev) : DidM :=
  d.asLoader sid m <|
    if !d.loadFree then (m, d.imgRefuse rsBusy loadCtrl)
    else (m.putCopy m.target ((m.copy m.target).commit 0 0), (d.loadOpens sid .image).wr IMG_TRL_INFO.MIRRORED 0, wrOk)

/-- OPEN_BED: the factory session of a module without an image may only load an image (R47).
DESIGN CHOICE, log 110. -/
def cmdOpenBed (sid : Nat) (m : Mem) (d : Dev) : DidM :=
  let id := d.rd IMG_BED_SEL.BED_ID
  d.asLoader sid m <|
    if !m.hasImage then (m, d.imgRefuse rsRole loadCtrl)
    else if !d.loadFree then (m, d.imgRefuse rsBusy loadCtrl)
    else if id = 0 || 12 < id then (m, d.imgRefuse rsBedIncompatible loadCtrl)
    else (m, d.loadOpens sid (.bed id), wrOk)

/-- One word of the load window. DESIGN CHOICE, log 112. -/
def cmdLoadWin (sid k v : Nat) (m : Mem) (d : Dev) : DidM :=
  let addr := (IMG_LOAD_WIN.BYTES k).addr
  let at_ := d.rd IMG_LOAD_OFFSET.OFFSET + 4 * k
  let room := match d.load.kind with
    | .image => commitAt
    | .bed id => bedSize id
  if (d.sess sid).role ≠ .maintainer && (d.sess sid).role ≠ .safetySteward then (m, d.imgRefuse rsRole addr)
  else if d.rd IMG_LOAD_STATUS.OWNER ≠ sid || d.ldState ≠ ldLoading || d.rd IMG_LOAD_LEN.LEN ≤ at_ || room < at_ + 4 then
    (m, d.imgRefuse rsBadLength addr)
  else
    let m := match d.load.kind with
      | .image => m.putCopy m.target ((m.copy m.target).store at_ (leBytes 4 v))
      | .bed id => m.putSpare id ((m.spare id).store at_ (leBytes 4 v))
    (m, d, wrOk)

/-- VERIFY. DEDUCED, log 32. -/
def cmdVerify (sid : Nat) (m : Mem) (d : Dev) : DidM :=
  d.asLoader sid m <|
    if d.ldState ≠ ldLoading && d.ldState ≠ ldVerified then (m, d.imgRefuse rsNotVerified loadCtrl)
    else (m, d.wr IMG_LOAD_STATUS.STATE ldVerifying, wrOk)

/-- ABORT. A mirror under way cannot be aborted. DEDUCED, log 32. -/
def cmdAbort (sid : Nat) (m : Mem) (d : Dev) : DidM :=
  d.asLoader sid m <|
    if d.ldState = ldMirroring then (m, d.imgRefuse rsBusy loadCtrl) else (m, d.loadEnds, wrOk)

/-- OPEN_TRL (R45, R48). -/
def execOpenTrl (sid : Sid) (s : State) : Host.Outcome State Fault Refusal := s.runMem (memHost sid.val (cmdOpenTrl sid.val))

/-- OPEN_BED (R48). -/
def execOpenBed (sid : Sid) (s : State) : Host.Outcome State Fault Refusal := s.runMem (memHost sid.val (cmdOpenBed sid.val))

/-- IMG_LOAD_WIN (R60). -/
def execImgLoadWin (sid : Sid) (k : Fin 128) (value : Word) (s : State) : Host.Outcome State Fault Refusal :=
  s.runMem (memHost sid.val (cmdLoadWin sid.val k.val value.toNat))

/-- VERIFY (R49). -/
def execVerify (sid : Sid) (s : State) : Host.Outcome State Fault Refusal := s.runMem (memHost sid.val (cmdVerify sid.val))

/-- ABORT (R48). -/
def execLoadAbort (sid : Sid) (s : State) : Host.Outcome State Fault Refusal := s.runMem (memHost sid.val (cmdAbort sid.val))

/-! ### The end of VERIFY (R49, R50, R59) -/

/-- Verification fails. -/
def Dev.verifyFails (reason detail off : Nat) (d : Dev) : Dev :=
  (((d.wr IMG_LOAD_STATUS.STATE ldFailed).wr IMG_LOAD_STATUS.REASON reason).wr IMG_LOAD_STATUS.DETAIL detail).wr
    IMG_FAIL_WHERE.WHERE off

/-- Check 9: the first function whose registers do not pass against an image. Without a running image the
registers
are taken as the image supplies them. DEDUCED, log 31. -/
def Dev.checkNine (i : Img) (m : Mem) (d : Dev) : Option (Nat × Nat) :=
  let d := if m.hasImage then d else d.each (timeRegs ++ defaultRegs) (Dev.reload i)
  let conf := anyConf (d.withTopo i).topo
  Func.all.findSome? fun f => d.validate i conf f

/-- VERIFY_COMPLETE (R49). -/
def execVerifyComplete (s : State) : Host.Outcome State Fault Refusal :=
  s.run fun m d =>
    if !d.alive || d.ldState ≠ ldVerifying then d
    else
      let len := d.rd IMG_LOAD_LEN.LEN
      match d.load.kind with
      | .image =>
        let i := m.copy m.target
        match i.imageFlaw len m d, d.checkNine i m with
        | some (r, off), _ => d.verifyFails r 0 off
        | none, some (detail, addr) => d.verifyFails rsCfg detail addr
        | none, none =>
          let t := touchSet i m d
          let d := (d.wr IMG_TOUCH.STRING (t % 256)).wr IMG_TOUCH.BANK (t / 256)
          (d.modLoad fun x => { x with serial := i.serial }).wr IMG_LOAD_STATUS.STATE ldVerified
      | .bed id =>
        match bedFlaw (m.spare id) id len m with
        | some (r, off) => d.verifyFails r 0 off
        | none =>
          let d := (d.wr IMG_TOUCH.STRING 0).wr IMG_TOUCH.BANK 0
          (d.modLoad fun x => { x with serial := (m.spare id).u32 12 }).wr IMG_LOAD_STATUS.STATE ldVerified

/-! ### APPLY (R44, R52, R58, R59) -/

/-- Whether a contactor of a string or the bank moves, or it is in pre-charge. -/
def Dev.inMotion (w : Nat) (d : Dev) : Bool :=
  (consOf w).any (fun c => d.con c = 1 || d.con c = 3) ||
    (if w < 8 then d.inSequence w || d.strState w = 8 else d.bankClosing || d.seq.bank = .bnegDelay || d.seq.bank = .allOff)

/-- Whether the module is in STANDBY or COMMISSION. -/
def Dev.atRest (m : Mem) (d : Dev) : Bool := d.mode m = .standby || d.mode m = .commission

/-- The first condition that refuses an image's APPLY, 0 for none. DESIGN CHOICE, log 107. -/
def Dev.imageBarred (sid : Nat) (m : Mem) (d : Dev) : Nat :=
  let bank := d.on IMG_TOUCH.BANK
  let hit := strings.filter fun s => bank || (d.rd IMG_TOUCH.STRING).testBit s
  let i := m.copy m.target
  let grave := i.u8 26 ≠ m.img.u8 26 || secDiffers i m.img secSafety
  if hit.any (fun s => !d.isOpen s) then rsConnected
  else if hit.any d.inMotion || (bank && d.inMotion 8) then rsConnected
  else if d.mode m = .safe || d.mode m = .thermalLatch || d.mode m = .degraded then rsBedCondition
  else if 2 ≤ d.stage then rsPrune
  else if m.hasImage && grave then
    if (d.sess sid).role ≠ .safetySteward then rsRole
    else if !d.allOpen then rsConnected
    else if !d.atRest m then rsBedCondition
    else 0
  else 0

/-- The first condition that refuses a bed's APPLY, 0 for none. DEDUCED, log 38. -/
def Dev.bedBarred (sid id : Nat) (m : Mem) (d : Dev) : Nat :=
  let ok :=
    if id = bedKern then d.atRest m
    else if id = bedSafe then d.mode m = .commission && (d.sess sid).role = .safetySteward
    else if id = bedPort || id = bedChnl then d.allOpen
    else true
  if d.mode m = .degraded || !ok then rsBedCondition else if 2 ≤ d.stage then rsPrune else 0

/-- An APPLY is accepted now. -/
def Dev.applied (d : Dev) : Dev := (d.modLoad fun x => { x with at_ := d.clk }).wr IMG_LOAD_STATUS.STATE ldPending

/-- APPLY. Check 9 is repeated for an image; an accepted APPLY of SEQN aborts the sequences in progress
(R199). DEDUCED, log 34. -/
def cmdApply (sid guard : Nat) (m : Mem) (d : Dev) : DidM :=
  d.asLoader sid m <|
    if d.ldState ≠ ldVerified then (m, d.imgRefuse rsNotVerified loadCtrl)
    else if guard ≠ d.load.serial % 65536 then (m, d.imgRefuse rsGuard loadCtrl)
    else
      match d.load.kind with
      | .image =>
        let r := d.imageBarred sid m
        if r ≠ 0 then (m, d.imgRefuse r loadCtrl)
        else
          match d.checkNine (m.copy m.target) m with
          | some (detail, addr) =>
            (m, ((d.wr IMG_LOAD_STATUS.REASON rsCfg).wr IMG_LOAD_STATUS.DETAIL detail).wr IMG_FAIL_WHERE.WHERE addr,
              wrInvalid detail addr)
          | none => (m, d.applied, wrOk)
      | .bed id =>
        let r := d.bedBarred sid id m
        if r ≠ 0 then (m, d.imgRefuse r loadCtrl)
        else (m, (if id = bedSeqn then d.interruptAll m else d).applied, wrOk)

/-- APPLY (R52). -/
def execApply (sid : Sid) (guard : BitVec 16) (s : State) : Host.Outcome State Fault Refusal :=
  s.runMem (memHost sid.val (cmdApply sid.val guard.toNat))

/-! ### The switch of an image (R54 to R56) -/

/-- A CAN port under an image: a disabled one becomes active, an enabled one may be switched off (R320). -/
def Dev.canUnder (i : Img) (p : Nat) (d : Dev) : Dev :=
  if (i.canFlags p).testBit 0 then
    if d.rd (NET_CAN.STATE p) = 3 then (d.wr (NET_CAN.STATE p) 0).wr (canOn p) 1 else d
  else (d.wr (NET_CAN.STATE p) 3).wr (canOn p) 0

/-- The contactors of a string or the bank under an image: ABSENT where none is fitted (R182). -/
def Dev.consUnder (i : Img) (w : Nat) (d : Dev) : Dev :=
  d.each (consOf w) fun c d =>
    if !i.conExists c then d.wr (conFld c) 7 else if d.con c = 7 then d.wr (conFld c) 0 else d

/-- A string or the bank as the structure has it: UNCONFIGURED, or OPEN where it was that. -/
def Dev.stringUnder (s : Nat) (d : Dev) : Dev :=
  if !d.configured s then d.wr (SEQ_STATE.STATE s) 0
  else if d.strState s = 0 then d.wr (SEQ_STATE.STATE s) 1 else d

def Dev.bankUnder (i : Img) (d : Dev) : Dev :=
  if !i.bankPresent then d.wr SEQ_BANK.STATE 0
  else if d.rd SEQ_BANK.STATE = 0 then d.wr SEQ_BANK.STATE 1 else d

/-- Whether a cassette is plugged in. -/
def Dev.plugged (d : Dev) (k : Nat) : Bool := (d.rd PORT_SWAP_STATUS.PRESENT).testBit k

/-- A port of which the structure changed: trained afresh, DOWN without its cassette, or UNUSED (R82). -/
def Dev.portUnder (n : Nat) (d : Dev) : Dev :=
  if !d.portUsed n then (d.quietPort n).wr (PORT_STATE.LINK n) 0
  else if d.plugged (n / 9) then d.retrain n
  else d.downPort n causeAbsent

/-- A block as the structure has it: UNUSED, or UNKNOWN where it was that (R147). -/
def Dev.blockUnder (k : Nat) (d : Dev) : Dev :=
  if !d.portUsed (lcOfMon k) then d.modBlock k fun _ => .blank
  else d.modBlock k fun b => if b.state = 0 then { b with state := 1 } else b

/-- The structure of image `i` in place of the old one, with the ports, cells and strings that it changes. DEDUCED, log 36. -/
def Dev.restructure (m : Mem) (d : Dev) : Dev :=
  let old := d.topo
  let was (n : Nat) : PortRec := tget PortRec.unused old.ports n
  let had (c : Nat) : Bool := d.cellUsed c
  let d := d.withTopo m.img
  let ports := controllers.filter fun n => d.portRec n ≠ was n
  let d := d.each ports Dev.portUnder
  let d := d.each ((List.range 1536).filter fun c => d.cellUsed c && !had c) fun c d => (d.modCell c fun _ => .blank).defaultCell m c
  let d := (d.each monPorts Dev.blockUnder).each strings Dev.stringUnder
  (d.each (List.range 9) (Dev.consUnder m.img)).bankUnder m.img

/-- The blocks in use whose port record differs from the one in `old` (R149). DEDUCED, log 36. -/
def Dev.blocksChanged (old : Topo) (d : Dev) : List Nat :=
  monPorts.filter fun k => d.monUsed k && d.portRec (lcOfMon k) ≠ tget PortRec.unused old.ports (lcOfMon k)

/-- Whether a contactor of image `i` is driven by channel `n`. -/
def Img.namesChan (i : Img) (n : Nat) : Bool := (List.range 27).any fun c => i.conExists c && decide (i.coilChan c = n)

/-- The channels that take their new safe default until the next sweep boundary. -/
def switchedChans (i j : Img) : List Nat :=
  outs.filter fun n => i.slice (i.chan n) 16 ≠ j.slice (j.chan n) 16 && !i.namesChan n && !j.namesChan n

/-- What a TIME section in force anew brings: the ports' and the domains' sources, and the phase clock's. -/
def Dev.timeUnder (m : Mem) (src : Nat) (d : Dev) : Dev :=
  let d := ((d.ptpStart m 0).ptpStart m 1).timeStart
  if d.rd ACQ_PH_CFG.PH_SRC = src then d
  else if d.rd ACQ_PH_CFG.PH_SRC = 2 then d.setPhase phFree else d.loseSource

/-- Whether a session closes at a switch from `j` to `i`: its key is gone or has other roles, or the address
of its
path has changed. DEDUCED, log 36. -/
def endsSession (i j : Img) (x : Sess) : Bool :=
  let gone := match i.key x.key, j.key x.key with
    | some a, some b => i.slice a 64 ≠ j.slice b 64 || i.u8 (a + 66) ≠ j.u8 (b + 66)
    | _, _ => true
  let eth (p : Nat) : Bool :=
    i.slice (i.ethRec p) 6 ≠ j.slice (j.ethRec p) 6 || i.u32 (i.ethRec p + 8) ≠ j.u32 (j.ethRec p + 8) ||
      i.u16 (i.ethRec p + 14) ≠ j.u16 (j.ethRec p + 14) || i.slice (i.ethRec p + 20) 16 ≠ j.slice (j.ethRec p + 20) 16
  let can (p : Nat) : Bool := i.u64 (i.canRec p + 8) ≠ j.u64 (j.canRec p + 8)
  gone || (match x.path with
    | .eth0 => eth 0
    | .eth1 => eth 1
    | .can0 => can 0
    | .can1 => can 1)

/-- The MRAM copies after the switch: the new copy committed and running, the other one to be mirrored. DEDUCED, log 35. -/
def Mem.switched (m : Mem) : Mem :=
  let t := m.target
  let i := m.copy t
  ((m.putCopy t (i.commit i.serial 1)).putCopy (1 - t) ((m.copy (1 - t)).commit 0 0)) |> fun m =>
    { m with run := t, redo := some 0 }

/-- The demand of `go d` under the image now running, with what it turns on against `d` under the old one. -/
def Dev.withImage (old m : Mem) (go : Dev → Dev) (d : Dev) : Dev :=
  let e := go d
  e.each outs fun n x =>
    if !d.demand old n && e.demand m n then x.turnOn m n
    else if d.demand old n && !e.demand m n then x.modChan n fun c => { c with inrush := false }
    else x

/-- Everything a switch from `old` to `m` brings the rest of the module. DEDUCED, log 36. -/
def Dev.switchedTo (old m : Mem) (d : Dev) : Dev :=
  let i := m.img
  let j := old.img
  let touch := d.rd IMG_TOUCH.STRING + 256 * d.rd IMG_TOUCH.BANK
  let src := d.rd ACQ_PH_CFG.PH_SRC
  let was := d.topo
  let d := d.lrnTopologyChanged.restructure m
  let d := if old.hasImage then d.each (d.blocksChanged was) Dev.declareNew else d
  let d := if d.on IMG_TOUCH.BANK then d.each (timeRegs ++ defaultRegs) (Dev.reload i) else d
  let d := if secDiffers i j secTime then d.timeUnder m src else d
  let d := if secDiffers i j secSafety then
      (d.modSaf fun x => { x with digest := i.digestOf secSafety }).each (controllers.filter d.isLive) (Dev.loadThresholds m)
    else d
  let d := (d.canUnder i 0).canUnder i 1
  let back := switchedChans i j
  let d := (d.each back Dev.safeDefault).modChn fun x => { x with back := back }
  let d := d.record recTrellisApplied (leBytes 4 j.serial ++ leBytes 4 i.serial ++ leBytes 2 touch)
  let d := (d.wr IMG_TRL_INFO.MIRRORED 0).wr IMG_LOAD_STATUS.STATE ldMirroring
  d.each (d.openSessions.filter fun k => endsSession i j (d.sess k)) fun k d => d.closeSession k closeTrellis

/-- Whether an accepted APPLY switches now: at a sweep boundary at least 40 clk after it (R52, R59). -/
def Dev.switchDue (d : Dev) : Bool := d.alive && d.ldState = ldPending && d.boundaryFor d.load.at_

/-- IMAGE_SWITCH (R54). -/
def execImageSwitch (s : State) : Host.Outcome State Fault Refusal :=
  s.runMem fun m d =>
    if d.switchDue && d.load.kind = .image then
      let n := m.switched
      (n, d.withImage m n (Dev.switchedTo m n))
    else (m, d)

/-- MIRROR_COMPLETE (R46, R56). The whole slot is copied into the other one. -/
def execMirrorComplete (s : State) : Host.Outcome State Fault Refusal :=
  s.runMem fun m d =>
    if !d.awake || d.pwr.inTransport then (m, d)
    else
      match m.redo with
      | none => (m, d)
      | some id =>
        let m := if id = 0 then m.putCopy m.target m.img else m.putSpare id (m.bed id)
        let d := if id = 0 then d.wr IMG_TRL_INFO.MIRRORED 1 else d
        let d := if d.ldState = ldMirroring then
            (d.wr IMG_LOAD_STATUS.STATE ldIdle).wr IMG_LOAD_STATUS.OWNER 0
          else d
        ({ m with redo := none }, d)

/-! ### The switch of a bed (R58, R264) -/

/-- The slot of bed `id` is switched. -/
def Mem.bedSwitched (id : Nat) (m : Mem) : Mem :=
  { m with active := tset 0 m.active id (1 - m.activeOf id), redo := some id }

/-- What the outage of bed `id` brings at its start. -/
def Dev.outageBegins (m : Mem) (id : Nat) (d : Dev) : Dev :=
  if id = bedKern || id = bedSafe then
    let d := (d.closeAll closeKern).modSaf fun x => { x with pause := true }
    let d := (d.modPwr fun p => { p with sup := .bedReset }).supLost m 9
    d.each channels Dev.safeDefault
  else if id = bedChnl then d.each channels Dev.safeDefault
  else if id = bedBaln then d.allOff m
  else if id = bedSeqn then d.interruptAll m
  else if id = bedPwrm && d.on PWR_STATUS.CAL_ACTIVE then
    (d.wr PWR_STATUS.CAL_ACTIVE 0).modPwr fun p => { p with calWait := true }
  else d

/-- BED_SWITCH (R58, R264). A KERN or SAFE bed switches only where the Curtain accepts the bed pause. DEDUCED, log 38. -/
def execBedSwitch (s : State) : Host.Outcome State Fault Refusal :=
  s.runMem fun m d =>
    match d.load.kind with
    | .image => (m, d)
    | .bed id =>
      if !d.switchDue then (m, d)
      else if (id = bedKern || id = bedSafe) && !(d.allOpen && d.atRest m) then (m, d.abandonApply)
      else
        let n := m.bedSwitched id
        let d := (d.wr IMG_LOAD_STATUS.STATE ldMirroring).record recBedApplied
          (leBytes 1 id ++ leBytes 4 (bedVersion (m.bed id)) ++ leBytes 4 (bedVersion (n.bed id)))
        let d := d.modLoad fun x => { x with outage := x.outage.filter (· ≠ id) ++ [id] }
        (n, d.outageBegins m id)

end Sys2Proof.Machine
end

