-- ==== Sys2Proof/Machine/Supply.lean ====
section
/-! DEFINITION. The supply (R361 to R370), commissioning (R375), TRANSPORT (R377 to R379), the MRAM refresh and
calibration (R380, R381), and how a running module loses its supply, its ground or its clock (R257, R370, R371). -/

namespace Sys2Proof.Machine

/-- Whether the supply is judged: the module has left reset and is not in TRANSPORT (R389). -/
def Dev.powered (d : Dev) : Bool :=
  (d.pwr.boot = .started || d.pwr.boot = .released || d.pwr.boot = .awake) && !d.pwr.inTransport

/-! ### Aux inputs (R257, R362) -/

def revFld (b : Bool) : Fld := if b then PWR_STATUS.AUX_B_REV else PWR_STATUS.AUX_A_REV

/-- Whether an input is recorded lost. -/
def PwrSt.lost (p : PwrSt) (b : Bool) : Bool := if b then p.lostB else p.lostA
def PwrSt.setLost (b v : Bool) (p : PwrSt) : PwrSt := if b then { p with lostB := v } else { p with lostA := v }

/-- An input's record: which input, 0 AUX_A, 1 AUX_B. -/
def Dev.auxRecord (k : Kind) (b : Bool) (d : Dev) : Dev := d.record k (leBytes 1 b.toNat)

/-- AUX_INPUT_LOST (R362): only while the other input is OK. DEDUCED, log 84. -/
def execAuxInputLost (b : Bool) (s : State) : Host.Outcome State Fault Refusal :=
  s.run fun _ d =>
    if !d.powered || d.pwr.lost b || d.pwr.lost (!b) then d
    else (d.modPwr (PwrSt.setLost b true)).auxRecord recAuxInputLost b

/-- AUX_INPUT_RESTORED (R362). -/
def execAuxInputRestored (b : Bool) (s : State) : Host.Outcome State Fault Refusal :=
  s.run fun _ d =>
    if d.powered && d.pwr.lost b then (d.modPwr (PwrSt.setLost b false)).auxRecord recAuxInputRestored b else d

/-- An input is found reversed: flag and one record (R362). -/
def Dev.reversed (b : Bool) (d : Dev) : Dev :=
  if d.on (revFld b) then d else (d.wr (revFld b) 1).auxRecord recAuxReversed b

/-- AUX_REVERSED (R362). -/
def execAuxReversed (b : Bool) (s : State) : Host.Outcome State Fault Refusal :=
  s.run fun _ d => if d.powered then d.reversed b else d

/-- AUX_REVERSE_CLEAR (R362). -/
def execAuxReverseClear (b : Bool) (s : State) : Host.Outcome State Fault Refusal :=
  s.run fun _ d => if d.powered then d.wr (revFld b) 0 else d

/-! ### Holdup (R363, R364) -/

/-- HOLDUP_START (R364). -/
def execHoldupStart (s : State) : Host.Outcome State Fault Refusal :=
  s.run fun m d =>
    if !d.powered || d.on PWR_STATUS.HOLDUP then d
    else
      let d := (d.wr PWR_STATUS.HOLDUP 1).modPwr fun p => { p with ready := none, slow := false }
      (d.record recHoldupStart []).pruneChannels m

/-- HOLDUP_END (R364, R388): the channels that holdup switched off return per R254. -/
def execHoldupEnd (s : State) : Host.Outcome State Fault Refusal :=
  s.run fun _ d =>
    if d.powered && d.on PWR_STATUS.HOLDUP then
      ((d.wr PWR_STATUS.HOLDUP 0).record recHoldupEnd []).startRecovery
    else d

/-- A charge of HOLD fails a test: HOLD_LOW with one record. -/
def Dev.holdLow (d : Dev) : Dev :=
  if d.on PWR_STATUS.HOLD_LOW then d else (d.wr PWR_STATUS.HOLD_LOW 1).record recHoldLow []

/-- Whether the holdup charger charges HOLD: it is off at Prune 4 and in holdup (R363). -/
def Dev.charging (d : Dev) : Bool := d.powered && decide (d.stage < 4) && !d.on PWR_STATUS.HOLDUP

/-- HOLD_CHARGED (R363). The capacitance in 0.01 mF is judged against HOLD_MIN. DEDUCED, log 84. -/
def execHoldCharged (c : BitVec 16) (s : State) : Host.Outcome State Fault Refusal :=
  s.run fun _ d =>
    if !d.charging then d
    else
      let slow := d.pwr.slow
      let d := (d.wr PWR_HOLD.C_HOLD c.toNat).modPwr fun p => { p with ready := some true, slow := false }
      if c.toNat < 10 * d.rd PWR_CFG.HOLD_MIN then d.holdLow
      else if slow then d else d.wr PWR_STATUS.HOLD_LOW 0

/-- HOLD_LOW (R363). 20 s of charging have not brought V_HOLD to 28.0 V. -/
def execHoldLow (s : State) : Host.Outcome State Fault Refusal :=
  s.run fun _ d =>
    if d.charging then (d.modPwr fun p => { p with ready := some false, slow := true }).holdLow else d

/-! ### Pruning (R366 to R369) -/

/-- Whether stage `k` has been entered and not left. -/
def PwrSt.staged (p : PwrSt) (k : Nat) : Bool :=
  if k = 1 then p.p1 else if k = 2 then p.p2 else if k = 3 then p.p3 else p.p4
def PwrSt.setStage (k : Nat) (b : Bool) (p : PwrSt) : PwrSt :=
  if k = 1 then { p with p1 := b } else if k = 2 then { p with p2 := b } else if k = 3 then { p with p3 := b }
  else { p with p4 := b }

/-- PWR_CNT's field for stage `k`. -/
def stageCount (k : Nat) : Fld :=
  if k = 1 then PWR_CNT.P1 else if k = 2 then PWR_CNT.P2 else if k = 3 then PWR_CNT.P3 else PWR_CNT.P4

/-- The record of an entry or exit: the stage and V_aux, whose value no command gives. DESIGN CHOICE, log 83. -/
def Dev.stageRecord (kind : Kind) (k : Nat) (d : Dev) : Dev :=
  let v := d.drawNat
  v.2.record kind (leBytes 1 k ++ leBytes 2 v.1)

/-- A calibration ends unfinished and runs again later (R390). -/
def Dev.calAbandon (d : Dev) : Dev :=
  if d.on PWR_STATUS.CAL_ACTIVE then
    (d.wr PWR_STATUS.CAL_ACTIVE 0).modPwr fun p => { p with calWait := true }
  else d

/-- The flush of R369. -/
def Dev.flush (d : Dev) : Dev := d.commit.flushRecords.storeLedger

/-- What entry to stage `k` sheds beyond what every rule reads from the stage in force (R367). -/
def Dev.shedAt (m : Mem) (k : Nat) (d : Dev) : Dev :=
  let d := d.pruneChannels m
  if k = 2 then
    let d := d.pruneSessions.abandonApply.calAbandon
    if d.alive then d.allOff m else d
  else if k = 3 then if d.alive then d.interruptAll m else d
  else if k = 4 then if d.alive then (d.closeAll closePrune).flush else d
  else d

/-- PRUNE_ENTER (R366, R367). DESIGN CHOICE, log 5. -/
def execPruneEnter (stage : Fin 4) (s : State) : Host.Outcome State Fault Refusal :=
  s.run fun m d =>
    let k := stage.val + 1
    if !d.powered || d.pwr.staged k then d
    else
      let d := (d.modPwr (PwrSt.setStage k true)).bump (stageCount k)
      (d.stageRecord recPruneEnter k).shedAt m k

/-- PRUNE_EXIT (R366, R388, R390). -/
def execPruneExit (stage : Fin 4) (s : State) : Host.Outcome State Fault Refusal :=
  s.run fun _ d =>
    let k := stage.val + 1
    if !d.powered || !d.pwr.staged k then d
    else
      let was := d.stage
      let d := (d.modPwr (PwrSt.setStage k false)).stageRecord recPruneExit k
      let d := if 3 ≤ was && d.stage ≤ 2 then d.startRecovery else d
      if d.stage ≤ 1 then ((d.wr NET_STATUS.ETH1_IDLE 0).wr NET_STATUS.CAN1_IDLE 0).calAgain else d

/-- RECOVERY_PHASE_END (R388). -/
def execRecoveryPhaseEnd (s : State) : Host.Outcome State Fault Refusal :=
  s.run fun _ d => d.modPwr fun p => { p with recovEnd := none }

/-! ### PWR_CTRL (R375, R377, R380, R381, R383) -/

def pwrCtrl : Nat := PWR_CTRL.CMD.addr

/-- A command refused: PWR_RESULT holds its reason and number. DEDUCED, log 22. -/
def Dev.pwrRefuse (reason cmd : Nat) (d : Dev) : Did :=
  ((d.wr PWR_RESULT.REASON reason).wr PWR_RESULT.CMD cmd, wrRefused reason pwrCtrl)

/-- Whether a session is in the Maintainer role of a key that may do more than load an image (R47).
DEDUCED, log 37. -/
def Dev.maintains (m : Mem) (sid : Nat) (d : Dev) : Bool := m.hasImage && (d.sess sid).role = .maintainer

/-- Why a change of the commission flag is refused, 0 for none. DEDUCED, log 37. -/
def Dev.commissionBarred (m : Mem) (sid : Nat) (leave : Bool) (d : Dev) : Nat :=
  let role := (d.sess sid).role
  let mode := d.mode m
  if (role ≠ .maintainer && role ≠ .safetySteward) || (!leave && !m.hasImage) then 1
  else if mode = .transport || mode = .thermalLatch || mode = .safe || !m.hasImage then 7
  else if !d.allOpen then 3
  else if leave && !(d.runs .saf && d.runs .recorder) then 5
  else 0

/-- ENTER_COMMISSION and LEAVE_COMMISSION: a change is recorded. -/
def Dev.cmdCommission (m : Mem) (sid : Nat) (leave : Bool) (d : Dev) : Did :=
  let r := d.commissionBarred m sid leave
  if r ≠ 0 then d.pwrRefuse r (if leave then 3 else 2)
  else if d.nv.commission = !leave then (d, wrOk)
  else ((d.modNv fun n => { n with commission := !leave }).record
    (if leave then recCommissionExit else recCommissionEnter) [], wrOk)

/-- ENTER_COMMISSION (R375). -/
def execEnterCommission (sid : Sid) (s : State) : Host.Outcome State Fault Refusal :=
  s.run fun m d => d.host sid.val (Dev.cmdCommission m sid.val false)

/-- LEAVE_COMMISSION (R375). -/
def execLeaveCommission (sid : Sid) (s : State) : Host.Outcome State Fault Refusal :=
  s.run fun m d => d.host sid.val (Dev.cmdCommission m sid.val true)

/-- CALIBRATE. In an outage of PWRM the calibration waits (R390). DEDUCED, log 87. -/
def Dev.cmdCalibrate (m : Mem) (sid : Nat) (d : Dev) : Did :=
  if !d.maintains m sid then d.pwrRefuse 1 4
  else if d.on PWR_STATUS.CAL_ACTIVE then d.pwrRefuse 8 4
  else if 2 ≤ d.stage then d.pwrRefuse 6 4
  else ((d.modPwr fun p => { p with calWait := true }).calAgain, wrOk)

/-- CALIBRATE (R381). -/
def execCalibrate (sid : Sid) (s : State) : Host.Outcome State Fault Refusal :=
  s.run fun m d => d.host sid.val (Dev.cmdCalibrate m sid.val)

/-- CALIBRATION_DUE (R381). -/
def execCalibrationDue (s : State) : Host.Outcome State Fault Refusal :=
  s.run fun _ d =>
    if d.alive && !d.pwr.inTransport && !d.on PWR_STATUS.CAL_ACTIVE then
      (d.modPwr fun p => { p with calWait := true }).calAgain
    else d

/-- CAL_DONE (R381). `failed` names the item whose coefficient lies too far from the factory's. -/
def execCalDone (failed : Option Byte) (s : State) : Host.Outcome State Fault Refusal :=
  s.run fun _ d =>
    if !d.alive || !d.on PWR_STATUS.CAL_ACTIVE then d
    else
      let d := d.wr PWR_STATUS.CAL_ACTIVE 0
      match failed with
      | some item => (d.wr PWR_STATUS.CAL_FAIL 1).record recCalFail [item]
      | none => (d.modNv fun n => { n with calSlot := 1 - n.calSlot, calS := -(d.clkS : Int) }).record recCalDone []

/-- REFRESH. -/
def Dev.cmdRefresh (m : Mem) (sid : Nat) (d : Dev) : Did :=
  if !d.maintains m sid then d.pwrRefuse 1 5
  else if d.on PWR_STATUS.REFRESH_ACTIVE then d.pwrRefuse 8 5
  else (d.wr PWR_STATUS.REFRESH_ACTIVE 1, wrOk)

/-- REFRESH (R380). -/
def execRefresh (sid : Sid) (s : State) : Host.Outcome State Fault Refusal :=
  s.run fun m d => d.host sid.val (Dev.cmdRefresh m sid.val)

/-- REFRESH_DUE (R380). -/
def execRefreshDue (s : State) : Host.Outcome State Fault Refusal :=
  s.run fun _ d =>
    if d.alive && !d.pwr.inTransport then
      (d.modNv fun n => { n with refreshDue := true }).wr PWR_STATUS.REFRESH_ACTIVE 1
    else d

/-- Whether the refresh pauses: at Prune 2 and deeper, and during a bed update or image load. -/
def Dev.refreshPaused (m : Mem) (d : Dev) : Bool :=
  2 ≤ d.stage || m.redo.isSome || (d.ldState ≠ ldIdle && d.ldState ≠ ldFailed)

/-- The units of both banks. -/
def mramUnits : Nat := 131072

/-- A unit of the recorder's main region may be among those that failed their readback: it is met as R351 says.
No command names the units. DESIGN CHOICE, log 83. -/
def Dev.refreshFails (failed : Nat) (d : Dev) : Dev :=
  if failed = 0 || d.on REC_STATUS.MAIN_FAILED then d
  else
    let b := d.drawBool
    if b.1 then
      let p := b.2.drawNat
      p.2.mainFails (p.1 % 4096) (entryAt p.2.rcd.main (p.1 % 4096))
    else b.2

/-- MRAM_REFRESH (R380). The last unit is rewritten. -/
def execMramRefresh (failed : Nat) (s : State) : Host.Outcome State Fault Refusal :=
  s.run fun m d =>
    if !d.alive || !d.on PWR_STATUS.REFRESH_ACTIVE || d.refreshPaused m then d
    else
      let bad := min mramUnits failed
      let d := (d.refreshFails bad).wr PWR_STATUS.REFRESH_ACTIVE 0
      (d.modNv fun n => { n with refreshDue := false, refreshS := -(d.clkS : Int) }).record recMramRefresh
        (leBytes 4 (mramUnits - bad) ++ leBytes 4 bad)

/-! ### TRANSPORT (R377, R378) -/

/-- Why TRANSPORT is refused, 0 for none. SERVICE_EN is a pin that no command reports: `enabled` says that it
has
been asserted for 100 ms. -/
def Dev.transportBarred (m : Mem) (sid : Nat) (enabled : Bool) (d : Dev) : Nat :=
  if !d.maintains m sid then 1
  else if !enabled then 2
  else if strings.any (fun s => decide (1 < d.strState s)) then 3
  else if d.rd IMG_LOAD_STATUS.OWNER ≠ 0 || d.ldState ≠ ldIdle || m.redo.isSome then 4
  else if 2 ≤ d.stage then 6
  else 0

/-- TRANSPORT: accepted, the module is in TRANSPORT (R377); what follows waits until it is answered. DESIGN CHOICE, log 83. -/
def Dev.cmdTransport (m : Mem) (sid : Nat) (d : Dev) : Did :=
  let p := d.drawBool
  let r := p.2.transportBarred m sid p.1
  if r ≠ 0 then p.2.pwrRefuse r 1 else (p.2.modPwr fun p => { p with inTransport := true, leaving := true }, wrOk)

/-- One coil drops with its channel or its supply; a contactor that was closed breaks what it carries, which
its wear counts
(R195, R376). A welded one stays as it is. DEDUCED, log 55. DEDUCED, log 86. -/
def Dev.coilDrops (m : Mem) (c : Nat) (d : Dev) : Dev :=
  let d := d.modSeq fun x => { x with coil := tset false x.coil c false, judge := tset false x.judge c false }
  if d.auxClosed c && d.con c ≠ 4 then
    (d.wearOn m c false).modSeq fun x => { x with aux := tset false x.aux c false }
  else d

/-- A port is powered down: its companion falls asleep (R84). -/
def Dev.portAsleep (n : Nat) (d : Dev) : Dev := (d.quietPort n).wr (PORT_STATE.LINK n) 1

/-- An accepted TRANSPORT, answered, takes effect: the flag and its record, TRANSPORT, the sessions, the
flush, the
ports, the channels and with them every coil. DEDUCED, log 86. -/
def Dev.transportEnters (m : Mem) (d : Dev) : Dev :=
  if !d.pwr.leaving then d
  else
    let d := (d.modNv fun n => { n with transport := true }).record recTransportEnter []
    let d := d.modPwr fun p => { p with leaving := false }
    let d := (d.calAbandon.closeAll closeTransport).flush
    (d.each (controllers.filter d.portUsed) Dev.portAsleep).each (List.range 27) (Dev.coilDrops m)

/-- TRANSPORT (R377). -/
def execTransport (sid : Sid) (s : State) : Host.Outcome State Fault Refusal :=
  s.run fun m d => (d.host sid.val (Dev.cmdTransport m sid.val)).transportEnters m

/-- TRANSPORT_SLEEP (R377, R378). -/
def execTransportSleep (s : State) : Host.Outcome State Fault Refusal :=
  s.run fun _ d =>
    if d.awake && d.pwr.inTransport then d.modPwr fun p => { p with boot := .asleep } else d

/-! ### The loss of supply, ground and clock (R257, R370, R371, R376) -/

/-- Every coil drops, and the module is down: off, or held until its clock returns. -/
def Dev.goesDown (m : Mem) (boot : Boot) (why : Nat) (d : Dev) : Dev :=
  (d.each (List.range 27) (Dev.coilDrops m)).modPwr fun p => { p with boot := boot, why := why, leaving := false }

/-- The write unit that a loss of supply cuts off is left torn: an entry of the recorder, or of the ledger by
its
length (R353, R357). DESIGN CHOICE, log 81. -/
def Dev.tear (l : List Byte) (d : Dev) : Dev :=
  if l.length = 96 then
    match d.lgr.bodies with
    | b :: _ => d.modLgr fun g => { g with ring := tset [] g.ring (b.num % 3840) l }
    | [] => d
  else
    match d.rcd.urgent ++ d.rcd.staging with
    | x :: _ =>
      if d.on REC_STATUS.MAIN_FAILED then d.modRcd fun r => { r with us := putEntry r.us (8 + r.usB % 24) l }
      else d.modRcd fun r => { r with main := putEntry r.main (mainPos x.seq) l }
    | [] => d

/-- BROWN_OUT (R370). `torn` is what a write unit in progress leaves. -/
def execBrownOut (torn : Option (List Byte)) (s : State) : Host.Outcome State Fault Refusal :=
  s.run fun m d =>
    match d.pwr.boot with
    | .off => d
    | .asleep => d.goesDown m .off 1
    | _ =>
      let d := match torn with
        | some l => if l.length = 64 || l.length = 96 then d.tear l else d
        | none => d
      d.goesDown m .off 2

/-- GROUND_LOSS (R257). The return of ground is a start. -/
def execGroundLoss (s : State) : Host.Outcome State Fault Refusal :=
  s.run fun m d => if d.pwr.boot = .off then d else d.goesDown m .off 3

/-- CLOCK_FAIL (R17, R371). The heartbeat is lost, and the supervisor is held in reset until relock. -/
def execClockFail (s : State) : Host.Outcome State Fault Refusal :=
  s.run fun m d =>
    if !d.powered then d
    else
      let d := d.modPwr fun p => { p with sup := .expired }
      (if d.curtain then d.heartbeatLost m else d).goesDown m .clockHold 4

end Sys2Proof.Machine
end

