-- ==== Sys2Proof/Machine/Startup.lean ====
section
/-! DEFINITION. A start (R46, R47, R373, R374, R378, R379): what the module finds, the release of the channels, and the
end of the start-up sequence. -/

namespace Sys2Proof.Machine

/-! ### The MRAM copies (R46, R47, R373 step 3) -/

/-- The serial of copy `k` where its bank can be read, its commit record is COMMITTED and its contents pass. -/
def Mem.qualifies (k : Nat) (readable : Bool) (m : Mem) (d : Dev) : Option Nat :=
  let i := m.copy k
  if readable && i.committed && i.startOk d then some i.serial else none

/-- The copy that runs: the higher serial, A before B; 3 for none. -/
def Mem.select (bankA bankB : Bool) (m : Mem) (d : Dev) : Nat :=
  match m.qualifies 0 bankA d, m.qualifies 1 bankB d with
  | some a, some b => if a < b then 1 else 0
  | some _, none => 0
  | none, some _ => 1
  | none, none => 3

/-- The serial of the copy committed last, as far as the banks can be read. DEDUCED, log 35. -/
def Mem.lastCommitted (bankA bankB : Bool) (m : Mem) : Nat :=
  let one (k : Nat) (r : Bool) : Nat := if r && (m.copy k).committed then (m.copy k).commitSerial else 0
  max (one 0 bankA) (one 1 bankB)

/-- Copies of one committed serial that differ. -/
def Mem.copiesDiffer (m : Mem) : Bool :=
  (m.copy 0).committed && (m.copy 1).committed && (m.copy 0).commitSerial = (m.copy 1).commitSerial &&
    m.copyA ≠ m.copyB

/-- Whether slot `k` of a bed passes the verification of a start (R1, R373 step 3): header, reserved bytes and
signature.
The factory's own slots, in which nothing is listed, pass. DESIGN CHOICE, log 39. -/
def Mem.bedPasses (id k : Nat) (m : Mem) : Bool :=
  let b := m.slotAt id k
  b.isEmpty || ((bedHeaderFlaw b id (b.u32 8)).isNone && (bedSigned b m).isNone && bedClear b)

/-- The slot of a bed that a start makes active (R20, R373 step 3): the active one where its bank can be read
and it
passes, else the other where that passes; with neither it stays as recorded. DESIGN CHOICE, log 39. -/
def Mem.bedStart (bankA bankB : Bool) (id : Nat) (m : Mem) : Nat :=
  let a := m.activeOf id
  let good (k : Nat) : Bool := (if k = 0 then bankA else bankB) && m.bedPasses id k
  if good a then a else if good (1 - a) then 1 - a else a

/-- The copies as a start leaves them: which image runs, which slots of the beds are active, what is mirrored. DESIGN CHOICE, log 39. -/
def Mem.start (bankA bankB : Bool) (m : Mem) (d : Dev) : Mem :=
  let run := m.select bankA bankB d
  let n := { m with run := run }
  { m with
    run := run
    active := ((List.range 13).drop 1).foldl (fun t k => tset 0 t k (n.bedStart bankA bankB k)) m.active
    redo := match m.redo with
      | some 0 => if run = 3 then none else some 0
      | some id => some id
      | none => if run = 0 && m.copiesDiffer then some 0 else none }

/-! ### What a start finds (R222, R251, R283, R353, R371 to R373) -/

/-- Whether the thermal latch's cell has cleared over a time without aux. -/
def ThwSt.gone (absentMs : Nat) (between : Bool) (x : ThwSt) : Bool :=
  x.latch && (2000 ≤ absentMs || (1800 ≤ absentMs && between))

/-- The thermal latch's cell at a start: cleared for sure after 2.0 s without aux, never before 1.8 s (R222). DESIGN CHOICE, log 83. -/
def ThwSt.found (absentMs : Nat) (between : Bool) (x : ThwSt) : ThwSt :=
  let gone := x.gone absentMs between
  { ThwSt.start with latch := x.latch && !gone, last := x.last, cleared := x.cleared || gone }

/-- The channels at a start: off but for the latches of the power die. -/
def ChnSt.found (x : ChnSt) : ChnSt :=
  { ChnSt.start with
    pins := x.pins
    chans := outs.foldl (fun t n =>
      let c := tget Chan.rest x.chans n
      tset Chan.rest t n { Chan.rest with short := c.short, excess := c.excess }) [] }

/-- The safety system at a start: the retention cells, and the inputs as their terminals stand. DESIGN CHOICE, log 68. -/
def SafSt.found (a b : Bool) (x : SafSt) : SafSt :=
  { SafSt.factory with ret := x.ret, term := x.term, pressed := a && b, counts := a && b }

/-- What MRAM keeps, with the time of the last run counted. -/
def Nv.started (cause clkS : Nat) (n : Nv) : Nv :=
  { n with
    cause := cause, starts := min 0xFFFFFF (n.starts + 1), lifeS := n.lifeS + clkS, refreshS := n.refreshS + clkS
    calS := n.calS + clkS, proofS := n.proofS + clkS }

/-- The device rebuilt (R372): working state as at the factory but for what MRAM, the retention cells, the
terminals and the contactors keep. DEDUCED, log 85. DEDUCED, log 90. -/
def Dev.rebuilt (cause : Nat) (u : Supply) (d : Dev) : Dev :=
  let f := d.drawBool
  { Dev.factory with
    free := f.2.free, out := d.out
    regs := (RegFile.put [] SAF_RESET.A (d.rd SAF_RESET.A)).put SAF_RESET.B (d.rd SAF_RESET.B)
    nv := d.nv.started cause d.clkS
    pwr := { PwrSt.off with
      boot := .started, ready := some (decide (28000 ≤ u.hold)), calWait := cause = 5 && d.pwr.calWait }
    rcd := d.rcd, lgr := d.lgr
    seq := { SeqSt.start with aux := d.seq.aux }
    thw := d.thw.found u.absentMs f.1
    chn := d.chn.found
    saf := d.saf.found (d.on SAF_RESET.A) (d.on SAF_RESET.B) }

/-- The registers an image supplies and the digest the Curtain loads. -/
def Dev.imageLoads (m : Mem) (d : Dev) : Dev :=
  if m.hasImage then
    ((d.withTopo m.img).each (timeRegs ++ defaultRegs) (Dev.reload m.img)).modSaf fun x =>
      { x with digest := m.img.digestOf secSafety }
  else d

/-- What the IMG page reports of the selection, and a fall back to an older image (R46). DEDUCED, log 35. -/
def Dev.showSelection (old m : Mem) (bankA bankB : Bool) (d : Dev) : Dev :=
  if !m.hasImage then d
  else
    let d := d.flag IMG_TRL_INFO.MIRRORED (m.copyA = m.copyB)
    let d := if m.redo.isSome then d.wr IMG_LOAD_STATUS.STATE ldMirroring else d
    let last := old.lastCommitted bankA bankB
    if m.img.serial < last then
      (d.wr IMG_TRL_INFO.FALLBACK 1).record recTrellisFallback (leBytes 4 m.img.serial ++ leBytes 4 last)
    else d

/-- The thermal latch as found: reported, or its clearing recorded (R222). -/
def Dev.showThermal (d : Dev) : Dev :=
  let x := d.thw.last
  if d.thw.latch then
    ((d.wr THW_LATCH.CAUSE x.1).wr THW_LATCH.INDEX x.2.1).wr THW_LATCH.VALUE x.2.2
  else if d.thw.cleared then
    ((d.modThw fun x => { x with cleared := false }).wr THW_STATUS.LATCH_CLEARED 1).record recThermalLatchCleared []
  else d

/-- An aux input at a start. DEDUCED, log 85. -/
def Dev.auxFound (b : Bool) (mv : Int) (d : Dev) : Dev := if mv < -1000 then d.reversed b else d

/-- The ledger in a bank A that cannot be read. DESIGN CHOICE, log 82. -/
def LgrSt.unread (g : LgrSt) : LgrSt := { g with ring := [], storedChg := [], storedDis := [] }

/-- Steps 1 to 6 of R373 with cause `cause`. What a supervisor held in reset by a failed clock did not record is
recorded now (R371). DEDUCED, log 85. -/
def startFrom (cause : Nat) (u : Supply) (bankA bankB : Bool) (m : Mem) (d : Dev) : Mem × Dev :=
  let n := m.start bankA bankB d
  let held := if cause = 4 then d.rcd.deferred else []
  let d := (d.rebuilt cause u).imageLoads n
  let d := if bankA then d else d.modLgr LgrSt.unread
  let d := (d.scanRecords bankA bankB).scanLedger
  let d := held.foldl (fun d x => d.record x.1 x.2) d
  let d := (d.startRecord n).showThermal
  let d := (d.showSelection m n bankA bankB).wr PORT_SWAP_STATUS.PRESENT u.present.toNat
  (n, (d.auxFound false u.auxA).auxFound true u.auxB)

/-- Whether the wake condition of R379 holds. -/
def supplyWakes (u : Supply) : Bool := u.chgPresent && decide (18000 ≤ max u.auxA u.auxB)

/-- The module is powered up: it sleeps on with the transport flag set (R378), or starts. -/
def powerUp (cause : Nat) (u : Supply) (bankA bankB : Bool) (m : Mem) (d : Dev) : Mem × Dev :=
  if d.nv.transport && !supplyWakes u then
    let f := d.drawBool
    (m, (f.2.modThw fun x => x.found u.absentMs f.1).modPwr fun p => { p with boot := .asleep, inTransport := true })
  else startFrom (if d.nv.transport then 5 else cause) u bankA bankB m d

/-- START_UP (R373, R378). DESIGN CHOICE, log 4. -/
def execStartUp (supply : Supply) (bankA bankB : Bool) (s : State) : Host.Outcome State Fault Refusal :=
  s.runMem fun m d =>
    if d.pwr.boot = .off then powerUp d.pwr.why supply bankA bankB m d else (m, d)

/-- TRANSPORT_EXIT (R379). -/
def execTransportExit (supply : Supply) (bankA bankB : Bool) (s : State) : Host.Outcome State Fault Refusal :=
  s.runMem fun m d =>
    if d.pwr.boot = .asleep && supplyWakes supply then startFrom 5 supply bankA bankB m d else (m, d)

/-- PLL_RELOCK (R371). -/
def execPllRelock (supply : Supply) (bankA bankB : Bool) (s : State) : Host.Outcome State Fault Refusal :=
  s.runMem fun m d =>
    if d.pwr.boot = .clockHold then powerUp 4 supply bankA bankB m d else (m, d)

/-- CHANNEL_RELEASE (R254, R373 step 7): every channel but the contactors' waits for its turn. DEDUCED, log 63. -/
def execChannelRelease (s : State) : Host.Outcome State Fault Refusal :=
  s.run fun m d =>
    if d.pwr.boot = .started then
      (d.modPwr fun p => { p with boot := .released }).each outs fun n d =>
        d.modChan n fun c => { c with wait := m.img.chanRole n ≠ 1 }
    else d

/-! ### The end of the start-up sequence (R92, R197, R291, R373 step 8, R374) -/

/-- A port trains, where its cassette is present. -/
def Dev.portBegins (n : Nat) (d : Dev) : Dev :=
  if !d.portUsed n then d else if d.plugged (n / 9) then d.startTrain n false else d.downPort n causeAbsent

/-- A contactor whose aux reads closed with its coil off is WELDED; one latched already is not found again. DEDUCED, log 85. -/
def Dev.auxFoundClosed (m : Mem) (c : Nat) (d : Dev) : Dev :=
  let w := ownerOf c
  if !m.img.conExists c || !d.auxClosed c then d
  else if tget 0 d.nv.maint w = 0 then d.weld m c 4
  else
    let d := d.wr (conFld c) 4
    if w < 8 then d.wr (SEQ_STATE.STATE w) 10 else d

/-- The structure stands: contactors, strings, blocks, cells, ports and paths (R82, R141, R147, R182, R183). DESIGN CHOICE, log 68. -/
def Dev.structureBegins (m : Mem) (d : Dev) : Dev :=
  let d := (d.each (List.range 9) (Dev.consUnder m.img)).each strings Dev.stringUnder
  let d := (d.bankUnder m.img).showLatches.showQueue
  let d := d.each (List.range 27) (Dev.auxFoundClosed m)
  let d := d.each monPorts Dev.blockUnder
  let d := d.each ((List.range 1536).filter d.cellUsed) fun c d => d.defaultCell m c
  let d := d.each controllers Dev.portBegins
  (d.canUnder m.img 0).canUnder m.img 1

/-- The phase clock starts at 0:0x0000 (R92, R97). -/
def Dev.phaseBegins (d : Dev) : Dev :=
  let f := d.nomFreq
  let st := if d.rd ACQ_PH_CFG.PH_SRC = 2 then phFree else phUnlocked
  let d := d.modPhase fun _ => { PhaseSt.start0 with rate := f, hold := f, n := d.evalN, nNext := d.evalN }
  let d := (d.wr ACQ_PH_STATUS.STATE st).flag ACQ_PH_STATUS.PHASE_HOLD (st = phUnlocked)
  let d := (d.wr ACQ_FREQ.RATE (roundTo (2 ^ 32 - 1) (f * 65536))).wr ACQ_STATUS.N_EFF d.phase.n
  d.modAcq fun a => { a with fill := { Sweep.blank with n := d.phase.n, tc := 1 / f, unlocked := true } }

/-- The order in which functions start (R374). -/
def startOrder : List Func :=
  [.pwr, .time, .recorder, .saf, .acq, .est, .lrn, .lim, .thw, .chn, .seq, .bal, .cue, .net, .lgr]

/-- A function whose START fails stays STOPPED; detail 0 is a dependency that does not run. DESIGN CHOICE, log 28. -/
def Dev.startFails (f : Func) (detail : Nat) (d : Dev) : Dev :=
  let d := d.record recStartCfgFail (leBytes 1 f.num ++ leBytes 1 detail)
  if f = .chn then d.chnStop else if f = .time then d.setPhase phHold else d

/-- One function starts, with no steward. -/
def Dev.startOne (m : Mem) (d : Dev) (f : Func) : Dev :=
  let r := d.startCheck m f
  match r.2 with
  | some (detail, _) => r.1.startFails f detail
  | none =>
    if !r.1.depsRun f then r.1.startFails f 0
    else
      let d := r.1.wr (SESS_FUNC.STATE f.num) 1
      if f = .net then (d.ptpStart m 0).ptpStart m 1 else d

/-- A retained SAFE or DEGRADED state: the module enters SAFE and opens the bank (R283, R374). -/
def Dev.safeRetained (m : Mem) (d : Dev) : Dev :=
  if d.saf.ret.safe || d.saf.ret.degraded then
    (d.modRet fun r => { r with safe := false, degraded := false }).enterSafe m (d.estopDemand m)
  else d

/-- The transport flag is cleared (R379). -/
def Dev.transportEnds (d : Dev) : Dev :=
  if d.nv.transport then (d.modNv fun n => { n with transport := false }).record recTransportExit [] else d

/-- START_UP_END (R373 step 8, R374). DEDUCED, log 66. DEDUCED, log 85. -/
def execStartUpEnd (s : State) : Host.Outcome State Fault Refusal :=
  s.run fun m d =>
    if d.pwr.boot ≠ .released then d
    else
      d.withDemand m fun d =>
        let d := ((d.modPwr fun p => { p with boot := .awake }).structureBegins m).phaseBegins.timeStart
        let d := startOrder.foldl (Dev.startOne m) d
        let d := ((d.wr SAF_RESET.ARMED 1).safeRetained m).transportEnds
        let d := d.flag SAF_STATUS.PROOF_DUE (m.hasImage && decide (86400 * (m.img.proofDays : Int) ≤ d.nv.proofS))
        (d.flag PWR_STATUS.REFRESH_ACTIVE d.nv.refreshDue).calAgain

end Sys2Proof.Machine
end

