-- ==== Sys2Proof/Machine/Views.lean ====
section
/-! DEFINITION. What the registers read whose value is held elsewhere in State, or is measured: one function a
page, giving the fields that do not read as the register file holds them. `x` is a free number: a field that reads
a measurement no command reports takes its value from it. -/

namespace Sys2Proof.Machine

/-- Fields with what they read. -/
abbrev View := List (Fld × Nat)

/-- RUN and DEPENDENCY_IDLE of a function (R28, R400). DEDUCED, log 14. -/
def Dev.runBit (f : Func) (d : Dev) : Nat := (d.runs f).toNat
def Dev.idleBit (f : Func) (d : Dev) : Nat := d.rd (SESS_FUNC.IDLE f.num)

/-- A counted age in days that saturates. DEDUCED, log 14. -/
def Dev.ageField (t : Int) (d : Dev) : Nat := min 65535 (Dev.days t d)

/-- Seconds from now to an instant in clk, rounded up. DEDUCED, log 14. -/
def Dev.secondsTo (t : Nat) (d : Dev) : Nat := (t - d.clk + 99999999) / 100000000

/-! ### Identity, global state, image -/

/-- The four bytes of a key at 4k, little-endian. -/
def keyWord (l : List Byte) (k : Nat) : Nat := leAt l (4 * k) 4

def viewId (a : Nat) : View :=
  if a = 0x2 then
    [(ID_HW.ASSEMBLY, Config.hwRev / 2 ^ 16), (ID_HW.CURTAIN, Config.hwRev / 2 ^ 8), (ID_HW.POWER, Config.hwRev)]
  else if a < 0x10 then [(ID_DEV.DEV (a - 4), Config.deviceId / 2 ^ (32 * (a - 4)))]
  else [(ID_SESSKEY.BYTES (a - 0x10), keyWord Config.sessionKey (a - 0x10))]

/-- STATE of GLB_STATE (R400). -/
def Mode.code : Mode → Nat
  | .commission => 0 | .standby => 1 | .service => 2 | .degraded => 3 | .safe => 4 | .thermalLatch => 5
  | .transport => 6

/-- GLB page (R388, R400). DEDUCED, log 14. -/
def Dev.viewGlb (m : Mem) (a : Nat) (d : Dev) : View :=
  if a = 0x100 then
    [(GLB_STATE.RECOV_LEFT, (d.pwr.recovEnd.map fun t => d.secondsTo t).getD 0),
     (GLB_STATE.IMAGE, m.hasImage.toNat), (GLB_STATE.CLASS, m.full.toNat),
     (GLB_STATE.RECOVERY, d.pwr.recovEnd.isSome.toNat),
     (GLB_STATE.TEST, (d.saf.proof.isSome || d.on PWR_STATUS.CAL_ACTIVE).toNat),
     (GLB_STATE.BED_UPDATE, (d.ldState = ldPending || m.redo.isSome : Bool).toNat),
     (GLB_STATE.STAGE, d.stage), (GLB_STATE.STATE, (d.mode m).code)]
  else
    [(GLB_FUNC.IDLE, maskOf 15 fun k => d.on (SESS_FUNC.IDLE k)),
     (GLB_FUNC.RUN, maskOf 15 fun k => d.fnState k = 1 || d.fnState k = 2)]

/-- The digest over header and directory of the running image, as a number: SHA-256 writes its most significant
byte first. DEDUCED, log 16. -/
def Mem.digest (m : Mem) : Nat :=
  if m.hasImage then
    (Config.sha256 (m.img.slice 0 (64 + 48 * min 32 (m.img.u16 24)))).foldl (fun v b => 256 * v + b.toNat) 0
  else 0

/-- IMG page (R60). DEDUCED, log 16. -/
def viewImg (m : Mem) (a : Nat) : View :=
  if a = 0x300 then [(IMG_TRL_SERIAL.SERIAL, if m.hasImage then m.img.serial else 0)]
  else if a = 0x301 then
    [(IMG_TRL_INFO.SECTIONS, if m.hasImage then m.img.u16 24 else 0),
     (IMG_TRL_INFO.FORMAT, if m.hasImage then m.img.u8 4 else 0), (IMG_TRL_INFO.CLASS, m.full.toNat),
     (IMG_TRL_INFO.RUN_COPY, m.run)]
  else if 0x302 ≤ a && a ≤ 0x309 then [(IMG_TRL_DIGEST.DIGEST (a - 0x302), m.digest / 2 ^ (32 * (a - 0x302)))]
  else if 0x311 ≤ a && a ≤ 0x31C then [(IMG_BED_VER.VERSION (a - 0x311), bedVersion (m.bed (a - 0x310)))]
  else []

/-! ### Ports, acquisition, estimation -/

/-- PORTA page (R90). While an armed cassette is REMOVED, whether PRES_Ck is asserted again and still settles
is the
pin's: PHASE then reads REMOVED or SETTLING, freely. DESIGN CHOICE, log 43. -/
def Dev.viewPort (a x : Nat) (d : Dev) : View :=
  if a = 0x402 then
    if d.rd PORT_SWAP_STATUS.PHASE = 2 then [(PORT_SWAP_STATUS.PHASE, 2 + x % 2)] else []
  else if a = 0x403 then [(PORT_UP0.MASK, maskOf 32 d.isUp)]
  else if a = 0x404 then [(PORT_UP1.MASK, maskOf 32 fun k => d.isUp (32 + k))]
  else if a = 0x405 then [(PORT_UP2.MASK, maskOf 8 fun k => d.isUp (64 + k))]
  else if 0x410 ≤ a && a ≤ 0x457 then [(PORT_STATE.STRING (a - 0x410), (d.portRec (a - 0x410)).str)]
  else []

/-- ACQ page (R24, R92, R114). -/
def Dev.viewAcq (a : Nat) (d : Dev) : View :=
  if a = 0x605 then [(ACQ_NOW0.CYCLE_LO, d.phase.cycle), (ACQ_NOW0.PHASE, d.phaseNow)]
  else if a = 0x606 then [(ACQ_NOW1.CYCLE_HI, d.phase.cycle / 2 ^ 16)]
  else if a = 0x609 then
    [(ACQ_STATUS.STOP_PENDING, (d.fnState 0 = 2 : Bool).toNat), (ACQ_STATUS.RUN, d.runBit .acq)]
  else []

/-- The cell window (R111, R112): the registers of an unused cell read 0, and VALID reads STALE while ACQ is
STOPPED. -/
def Dev.viewCell (a : Nat) (l : List Fld) (d : Dev) : View :=
  let c := (a - 0x4000) / 8
  if !d.cellUsed c then l.map (·, 0)
  else if a % 8 = 0 then (CELL_V.USED c, 1) :: (if d.runs .acq then [] else [(CELL_V.VALID c, 3)])
  else []

/-- The temperature window (R113): an unused point reads 0. DEDUCED, log 14. -/
def Dev.viewTemp (m : Mem) (a : Nat) (l : List Fld) (d : Dev) : View :=
  let p := (a - 0x7000) / 2
  if !d.pointUsed m p then l.map (·, 0)
  else if a % 2 = 0 then
    [(TEMP_RAW.USED p, 1), (TEMP_RAW.VALID p, d.tempValid p),
     (TEMP_RAW.AGE p, match (d.point p).rawAt with | some t => min 63 ((d.clk - t) / msClk 100) | none => 0)]
  else []

/-- EST page (R139). -/
def Dev.viewEst (a : Nat) (d : Dev) : View :=
  if a = 0x705 then [(EST_STATUS.IDLE, d.idleBit .est), (EST_STATUS.RUN, d.runBit .est)] else []

/-! ### Learning, limits, sequencing -/

/-- LRN page (R147, R150, R153); the window's page is the reading session's. -/
def Dev.viewLrn (sid a : Nat) (d : Dev) : View :=
  if a = 0x804 then [(LRN_WIN_BASE.PAGE, (d.sess sid).lrnPage)]
  else if 0x810 ≤ a && a ≤ 0x817 then
    (List.range 8).map fun j => (LRN_BLKSTATE.BLK (8 * (a - 0x810) + j), (d.block (8 * (a - 0x810) + j)).state)
  else if 0x818 ≤ a && a ≤ 0x81F then
    let s := a - 0x818
    [(LRN_STR.STALE s, (d.strLrn s).stale.toNat), (LRN_STR.LEARNED s, (d.strLrn s).learned.toNat),
     (LRN_STR.DONE s, ((d.cellsOf s).filter fun c => (d.cell c).relearned).length)]
  else []

/-- One word of the learning-record window (R153): the buffer in SNAPSHOT and STAGING, else 0. -/
def Dev.lrnWord (sid k : Nat) (d : Dev) : Nat :=
  let o := 8192 * (d.sess sid).lrnPage + 4 * k
  if (d.lrnState = 2 || d.lrnState = 3) && decide (o < recordLen) then Img.u32 d.lrn.buf o else 0

def Dev.viewLrnWin (sid a : Nat) (d : Dev) : View := [(LRN_WIN.BYTES (a - 0x7800), d.lrnWord sid (a - 0x7800))]

/-- LIM page (R174). -/
def Dev.viewLim (a : Nat) (d : Dev) : View := 
  if a = 0x905 then [(LIM_STATUS.RUN, d.runBit .lim), (LIM_STATUS.SUPPLY_ZERO, (decide (4 ≤ d.stage)).toNat)] else []

/-- SEQ page (R195, R201, R202): a shed order not yet in force reads as written. DEDUCED, log 14. -/
def Dev.viewSeq (a : Nat) (d : Dev) : View :=
  let w := tget Wear.zero d.nv.wear (d.rd SEQ_WEAR_SEL.IDX)
  if a = 0xA01 then
    match d.seq.shed with
    | some v => (List.range 8).map fun k => (SEQ_SHED.POS k, v / 16 ^ k)
    | none => []
  else if a = 0xA06 then [(SEQ_WEAR_OPS.OPS, w.ops)]
  else if a = 0xA07 then
    [(SEQ_WEAR_BRK.WELDS, w.welds), (SEQ_WEAR_BRK.OVER, w.excess), (SEQ_WEAR_BRK.LOAD_BREAKS, w.breaks)]
  else if a = 0xA08 then [(SEQ_WEAR_SUM.WEAR, w.sum)]
  else if a = 0xA09 then [(SEQ_WEAR_IMAX.I_MAX, w.imax)]
  else if 0xA13 ≤ a && a % 4 = 3 && a ≤ 0xA2F then
    let s := (a - 0xA13) / 4
    [(SEQ_TIMER.HOLD_LEFT s, min 255 (d.secondsTo (d.sq s).holdEnd))]
  else []

/-! ### Thermal watch, balancing, channels -/

/-- THW page (R223). -/
def Dev.viewThw (m : Mem) (a : Nat) (l : List Fld) (d : Dev) : View :=
  if a = 0xB01 then
    let z (p : ZoneSt → Bool) : Nat := (m.img.zones.any fun k => p (d.zone k)).toNat
    let t (p : Nat → Bool) : Nat := ((List.range 1024).any p).toNat
    [(THW_STATUS.LATCHED, d.thw.latch.toNat), (THW_STATUS.FAST, t fun p => d.on (TEMP_VAL.FAST p)),
     (THW_STATUS.BLIND, z (·.blind)), (THW_STATUS.IMPLAUSIBLE, t fun p => decide (2 ≤ d.rd (TEMP_VAL.STANDING p))),
     (THW_STATUS.THROTTLE, z fun x => decide (x.f < 1)), (THW_STATUS.WARN, z (·.warn)),
     (THW_STATUS.IDLE, d.idleBit .thw), (THW_STATUS.RUN, d.runBit .thw)]
  else
    let z := (a - 0xB40) / 3
    if a < 0xB40 then []
    else if m.img.zoneCount ≤ z || !m.hasImage then l.map (·, 0)
    else [(THW_ZSTAT.USED z, 1)]

/-- The mask of port `k` in the running slot: from the boundary on the one acknowledged for it; none of a port
whose
companion does not run (R226, R235). -/
def Dev.slotShown (k : Nat) (d : Dev) : Nat :=
  let p := d.port (lcOfMon k)
  if !d.isLive (lcOfMon k) then 0 else if d.phase.k ≤ 1 then p.maskNow else p.mask

/-- BAL page (R226, R230, R235). DESIGN CHOICE, log 60. -/
def Dev.viewBal (m : Mem) (a : Nat) (d : Dev) : View :=
  let cell (p : Nat → Nat → Bool) (n : Nat) : Nat := maskOf 32 fun j => p ((32 * n + j) / 24) ((32 * n + j) % 24)
  if a = 0xC05 then
    [(BAL_STATUS.TEST_ACTIVE, (d.bal.pass || monPorts.any fun k => (d.balPort k).test.isSome).toNat),
     (BAL_STATUS.FORCED, (monPorts.any fun k => (d.balPort k).forced.isSome).toNat),
     (BAL_STATUS.SUSPENDED, (d.balSuspended m).toNat), (BAL_STATUS.SLOT, d.phase.cycle % 2),
     (BAL_STATUS.IDLE, d.idleBit .bal), (BAL_STATUS.RUN, d.runBit .bal)]
  else if a = 0xC06 then [(BAL_TESTSTAT.AGE, d.ageField d.bal.ageS)]
  else if 0xC10 ≤ a && a ≤ 0xC3F then
    [(BAL_ON.MASK (a - 0xC10), cell (fun k j => (d.slotShown k).testBit j) (a - 0xC10))]
  else if 0xC40 ≤ a && a ≤ 0xC6F then
    [(BAL_FAILED.MASK (a - 0xC40), cell (fun k j => (tget 0 d.nv.balFailed k).testBit j) (a - 0xC40))]
  else []

/-- CHN page (R238, R244, R259). Output currents, whether the limit of a channel acts, and dissipation are
measured. DESIGN CHOICE, log 15. -/
def Dev.viewChn (m : Mem) (a x : Nat) (d : Dev) : View :=
  if a = 0xD04 then [(CHN_CMD.MASK, maskOf 32 fun n => (d.chan n).cmd)]
  else if a = 0xD05 then [(CHN_OUT.MASK, maskOf 32 fun n => d.conducts m n)]
  else if a = 0xD06 then [(CHN_FAULT.MASK, maskOf 32 fun n => (d.chan n).short || (d.chan n).excess)]
  else if a = 0xD07 then
    [(CHN_STATUS.TOTAL_SHED, (outs.any fun n => d.chanState m n false = 8).toNat),
     (CHN_STATUS.COMP_ACTIVE, d.compActive.toNat),
     (CHN_STATUS.OT_SHED, (outs.any fun n => d.chanState m n false = 6).toNat),
     (CHN_STATUS.PRUNE_SHED, (outs.any fun n => d.chanState m n false = 9).toNat), (CHN_STATUS.RUN, d.runBit .chn)]
  else if a = 0xD08 then [(CHN_TOTAL.DISS, x), (CHN_TOTAL.TOTAL, x / 2 ^ 16)]
  else if a = 0xD09 then
    [(CHN_VAUX.COMP, (vauxRead (x % 2 ^ 16)).1), (CHN_VAUX.VAUX, (vauxRead (x % 2 ^ 16)).2)]
  else if 0xD10 ≤ a && a ≤ 0xD2F then
    let n := a - 0xD10
    [(CHN_STATE.GATE n, (d.gatePermits m n).toNat), (CHN_STATE.SAFE_ON n, (m.img.chanSafeOn n).toNat),
     (CHN_STATE.PRUNE n, m.img.chanPrune n), (CHN_STATE.ROLE n, m.img.chanRole n),
     (CHN_STATE.STATE n, d.chanState m n (x / 65536 % 2 = 1)), (CHN_STATE.CURRENT n, x)]
  else []

/-! ### Safety -/

/-- SAF page (R276, R277, R288). -/
def Dev.viewSaf (m : Mem) (a : Nat) (d : Dev) : View :=
  if a = 0xE00 then
    [(SAF_STATUS.STATE, d.safState), (SAF_STATUS.CLASS, m.full.toNat), (SAF_STATUS.SAFE_RLY, (d.safeRly m).toNat),
     (SAF_STATUS.ESTOP,
       (d.estopDemand m).toNat),
     (SAF_STATUS.SDR, (strings.any fun s => d.sdrForbids m s false || d.sdrForbids m s true).toNat),
     (SAF_STATUS.RESET_STUCK, d.rd SAF_RESET.STUCK), (SAF_STATUS.RUN, d.runBit .saf)]
  else if a = 0xE01 then [(SAF_FAULT.FAULT, maskOf 8 fun k => tget false d.saf.ret.faults (k + 1))]
  else if a = 0xE02 then
    [(SAF_INPUT.RAW, maskOf 16 fun k => d.closedAt (k / 2) (k % 2 = 1)),
     (SAF_INPUT.DEMAND, maskOf 8 fun k => d.inDemand k || tget false d.saf.ret.demand k),
     (SAF_INPUT.DISCREP, maskOf 8 fun k => tget false d.saf.ret.discrep k)]
  else if a = 0xE03 then
    [(SAF_GATE.LATCH, maskOf 9 fun g => tget 0 d.saf.ret.latch g ≠ 0), (SAF_GATE.RLY_GATE, (d.rlyGate m).toNat),
     (SAF_GATE.SHUNT_GATE, d.shuntPermits.toNat), (SAF_GATE.OPEN, maskOf 9 d.gateHeld)]
  else if a = 0xE05 then
    let on := d.safState = 1
    [(SAF_DEGRADE.TIME_LEFT, if on then d.secondsTo d.saf.degEnd else 0),
     (SAF_DEGRADE.LIMIT, if on then m.img.degradeLimit else 0)]
  else if a = 0xE08 then [(SAF_PROOF.AGE, d.ageField d.nv.proofS)]
  else if a = 0xE09 then [(SAF_LOOPTRIP0.MASK, maskOf 32 fun k => tget false d.saf.ret.loops k)]
  else if a = 0xE0A then [(SAF_LOOPTRIP1.MASK, maskOf 32 fun k => tget false d.saf.ret.loops (32 + k))]
  else if a = 0xE0B then [(SAF_LOOPTRIP2.MASK, maskOf 8 fun k => tget false d.saf.ret.loops (64 + k))]
  else if 0xE10 ≤ a && a ≤ 0xE17 then
    [(SAF_SLW.SLW_LO (a - 0xE10), m.img.slwLo (a - 0xE10)), (SAF_SLW.SLW_HI (a - 0xE10), m.img.slwHi (a - 0xE10))]
  else if 0xE18 ≤ a && a ≤ 0xE1F then
    [(SAF_SLC.SLC_CHG (a - 0xE18), (m.img.slcChg (a - 0xE18)).floor.toNat),
     (SAF_SLC.SLC_DIS (a - 0xE18), (m.img.slcDis (a - 0xE18)).floor.toNat)]
  else []

/-! ### Time, cues, network, sessions -/

/-- TIME page (R290, R291, R295, R298, R315). -/
def Dev.viewTime (a : Nat) (d : Dev) : View :=
  if a = 0xF03 then
    [(TIME_STATUS.JUMP, ((List.range 4).any fun k => (d.quality k).testBit 4).toNat),
     (TIME_STATUS.HOLDOVER, ((List.range 4).any fun k => (d.dom k).state = stHoldover).toNat),
     (TIME_STATUS.RUN, d.runBit .time)]
  else if a = 0xF0D then [(TIME_LOCAL0.LOCAL_LO, 10 * d.clk)]
  else if a = 0xF0E then [(TIME_LOCAL1.LOCAL_HI, 10 * d.clk / 2 ^ 32)]
  else if 0xF10 ≤ a && a ≤ 0xF1F then
    let k := (a - 0xF10) / 4
    match (a - 0xF10) % 4 with
    | 0 => [(TIME_D_W0.QUALITY k, d.quality k), (TIME_D_W0.FRAC k, (d.dom k).count / 2 ^ 8)]
    | 1 => [(TIME_D_W1.NS k, d.domNs k % 1000000000)]
    | 2 => [(TIME_D_W2.SEC_LO k, d.domSec k)]
    | _ => [(TIME_D_W3.SEC_HI k, d.domSec k / 2 ^ 32)]
  else if 0xF28 ≤ a && a ≤ 0xF2B then
    let k := a - 0xF28
    [(TIME_DSTAT.LOST k, (d.trk k).lost.toNat), (TIME_DSTAT.ACTIVE k, (d.redundant k && d.isActive k).toNat),
     (TIME_DSTAT.QUALITY k, d.quality k)]
  else []

/-- CUE page (R312, R313, R317). -/
def Dev.viewCue (a : Nat) (d : Dev) : View :=
  let k := 64 * d.rd CUE_FQ_SEL.PORT + d.rd CUE_FQ_SEL.SLOT
  let x := d.slot k
  if a = 0x1002 then [(CUE_STATUS.RUN, d.runBit .cue)]
  else if a = 0x1006 then
    [(CUE_FQ_INFO.LEN, x.bytes.length), (CUE_FQ_INFO.LAUNCHES, x.launches), (CUE_FQ_INFO.LATE, x.late.toNat),
     (CUE_FQ_INFO.STATE, if x.bytes.isEmpty then 0 else if d.slotCommitted k then 2 else 1)]
  else if a = 0x1007 then [(CUE_FQ_TS0.NS, x.tsNs)]
  else if a = 0x1008 then [(CUE_FQ_TS1.SEC_LO, x.tsSec)]
  else if a = 0x1009 then [(CUE_FQ_TS2.DOMAIN, x.tsDom), (CUE_FQ_TS2.SEC_HI, x.tsSec / 2 ^ 32)]
  else if 0x1020 ≤ a && a ≤ 0x1037 then
    [(CUE_CAP.BYTES (a - 0x1020), keyWord (d.cue.cap.getD (d.rd CUE_CAP_SEL.INDEX) []) (a - 0x1020))]
  else []

/-- NET page (R339). -/
def Dev.viewNet (a : Nat) (d : Dev) : View := if a = 0x1200 then [(NET_STATUS.RUN, d.runBit .net)] else []

/-- STATE of SESS_INFO (R340). -/
def SessLife.code : SessLife → Nat
  | .free => 0 | .establishing => 1 | .opened => 2

/-- SESS page (R340). -/
def Dev.viewSess (sid a : Nat) (d : Dev) : View :=
  if a = 0x1301 then
    let w := (d.sess sid).result
    [(SESS_RESULT.REASON, w / 2 ^ 24), (SESS_RESULT.FUNC, w / 2 ^ 20), (SESS_RESULT.DETAIL, w / 2 ^ 8)]
  else if a = 0x1302 then
    let y := d.sess sid
    [(SESS_SELF.KEY_ID, y.key), (SESS_SELF.PATH, y.path.num), (SESS_SELF.ROLE, y.role.num), (SESS_SELF.SESSION, sid)]
  else if a = 0x1303 then
    [(SESS_COUNT.LIMIT, d.sessLimit), (SESS_COUNT.ESTABLISHING, d.establishing.length),
     (SESS_COUNT.OPEN, d.openSessions.length)]
  else if 0x1341 ≤ a && a ≤ 0x137F then
    let i := a - 0x1341
    let y := d.sess (i + 1)
    [(SESS_INFO.KEY_ID i, y.key), (SESS_INFO.PATH i, y.path.num), (SESS_INFO.ROLE i, y.role.num),
     (SESS_INFO.STATE i, y.life.code)]
  else []

/-! ### Recorder, ledger, supply -/

/-- REC page (R30, R354, R359); cursor, status and window are the reading session's. -/
def Dev.viewRec (sid a : Nat) (d : Dev) : View :=
  let y := d.sess sid
  if a = 0x1401 then
    [(REC_STATUS.STAGING, (!(d.rcd.staging.isEmpty && d.rcd.urgent.isEmpty)).toNat),
     (REC_STATUS.RUN, d.runBit .recorder)]
  else if a = 0x1404 then [(REC_CNT.STAGE_LOST, d.rcd.stageLost)]
  else if a = 0x1411 then [(REC_EXP_SEQ0.SEQ_LO, y.recSeq)]
  else if a = 0x1412 then [(REC_EXP_SEQ1.SEQ_HI, y.recSeq / 2 ^ 32)]
  else if a = 0x1413 then [(REC_EXP_STATUS.REASON, y.recStatus / 2 ^ 24), (REC_EXP_STATUS.SLOTS, y.recStatus)]
  else if 0x1440 ≤ a && a ≤ 0x147F then [(REC_EXP_WIN.BYTES (a - 0x1440), keyWord y.recWin (a - 0x1440))]
  else []

/-- LGR page (R355, R356, R360); number, status and window are the reading session's. -/
def Dev.viewLgr (sid a : Nat) (d : Dev) : View :=
  let y := d.sess sid
  if a = 0x1501 then
    [(LGR_STATUS.LOCAL, ((d.dom (d.rd LGR_CFG.DOMAIN)).state = stUnset : Bool).toNat),
     (LGR_STATUS.IDLE, d.idleBit .lgr), (LGR_STATUS.RUN, d.runBit .lgr)]
  else if 0x1510 ≤ a && a ≤ 0x1533 then
    let k := (a - 0x1510) / 4
    match (a - 0x1510) % 4 with
    | 0 => [(LGR_CHG_LO.LO k, d.energyChg k)]
    | 1 => [(LGR_CHG_HI.HI k, d.energyChg k / 2 ^ 32)]
    | 2 => [(LGR_DIS_LO.LO k, d.energyDis k)]
    | _ => [(LGR_DIS_HI.HI k, d.energyDis k / 2 ^ 32)]
  else if a = 0x1541 then [(LGR_EXP_NUM.CP_NUM, y.lgrNum)]
  else if a = 0x1542 then [(LGR_EXP_STATUS.STATE, y.lgrStatus)]
  else if 0x1550 ≤ a && a ≤ 0x1567 then [(LGR_EXP_WIN.BYTES (a - 0x1550), keyWord y.lgrWin (a - 0x1550))]
  else if 0x1570 ≤ a && a ≤ 0x157F then
    [(LGR_PUBKEY.BYTES (a - 0x1570), keyWord Config.devicePub (a - 0x1570))]
  else []

/-- PWR page (R362, R363, R371, R383). Voltages, the OK flags and the pins are measured. DESIGN CHOICE, log 15. -/
def Dev.viewPwr (a x : Nat) (d : Dev) : View :=
  if a = 0x1604 then
    [(PWR_STATUS.REFRESH_DUE, d.nv.refreshDue.toNat), (PWR_STATUS.COMMISSION, d.nv.commission.toNat),
     (PWR_STATUS.SERVICE_EN, x), (PWR_STATUS.CHG_PRESENT, x / 2),
     (PWR_STATUS.HOLD_READY, (d.pwr.ready.map Bool.toNat).getD (x / 4)), (PWR_STATUS.AUX_A_OK, x / 8),
     (PWR_STATUS.AUX_B_OK, x / 16), (PWR_STATUS.STAGE, d.stage), (PWR_STATUS.RUN, d.runBit .pwr)]
  else if a = 0x1605 then [(PWR_VAUX.AUX_A, x), (PWR_VAUX.AUX_B, x / 2 ^ 16)]
  else if a = 0x1606 then [(PWR_HOLD.V_HOLD, x)]
  else if a = 0x1607 then [(PWR_START.COUNT, min (2 ^ 24 - 1) d.nv.starts), (PWR_START.CAUSE, d.nv.cause)]
  else if a = 0x1608 then [(PWR_LIFE.HOURS, min (2 ^ 32 - 1) ((d.nv.lifeS + d.clkS) / 3600))]
  else if a = 0x1609 then [(PWR_MAINT.CAL_AGE, d.ageField d.nv.calS), (PWR_MAINT.REFRESH_AGE, d.ageField d.nv.refreshS)]
  else if a = 0x160B then [(PWR_VIN.V_IN, x)]
  else []

/-! ### Words -/

/-- What the fields of the register at `a` read that do not read as the register file holds them. DESIGN CHOICE, log 3. -/
def Dev.view (m : Mem) (sid a : Nat) (l : List Fld) (x : Nat) (d : Dev) : View :=
  match a / 256 with
  | 0 => if a = 2 || a = 4 || a = 5 || decide (0x10 ≤ a) then viewId a else []
  | 1 => d.viewGlb m a
  | 3 => viewImg m a
  | 4 => d.viewPort a x
  | 6 => d.viewAcq a
  | 7 => d.viewEst a
  | 8 => d.viewLrn sid a
  | 9 => d.viewLim a
  | 10 => d.viewSeq a
  | 11 => d.viewThw m a l
  | 12 => d.viewBal m a
  | 13 => d.viewChn m a x
  | 14 => d.viewSaf m a
  | 15 => d.viewTime a
  | 16 => d.viewCue a
  | 18 => d.viewNet a
  | 19 => d.viewSess sid a
  | 20 => d.viewRec sid a
  | 21 => d.viewLgr sid a
  | 22 => d.viewPwr a x
  | k =>
    if 0x40 ≤ k && k < 0x70 then d.viewCell a l
    else if 0x70 ≤ k && k < 0x78 then d.viewTemp m a l
    else if 0x78 ≤ k && k < 0x80 then d.viewLrnWin sid a
    else []

/-- Whether a read of the register takes a measurement that no command reports. DESIGN CHOICE, log 15. -/
def measured (a : Nat) : Bool :=
  a = 0x402 || a = 0xD08 || a = 0xD09 || (decide (0xD10 ≤ a) && decide (a ≤ 0xD2F)) || a = 0x1604 || a = 0x1605 || a = 0x1606 || a = 0x160B

/-- A word of fields: each cut to its width, in its place; a WO field and every reserved bit read 0 (R6, R8). -/
def wordOf (v : View) (d : Dev) : List Fld → Nat
  | [] => 0
  | f :: l =>
    let y := match v.find? (fun p => p.1 = f) with
      | some p => p.2
      | none => d.rd f
    (if f.acc = .wo then 0 else y % 2 ^ f.wid * 2 ^ f.lo) + wordOf v d l

/-- What the register at `a` reads now, with `x` for a measurement. -/
def Dev.word (m : Mem) (sid a x : Nat) (d : Dev) : Nat :=
  match regFields a with
  | some l => wordOf (d.view m sid a l x) d l
  | none => 0

end Sys2Proof.Machine
end

