-- ==== Sys2Proof/Machine/Flags.lean ====
section
/-! DEFINITION. What a plain write or a read does to the fields and flags of a register by its access code:
stored bits, flags that a written 1 clears, counters that a read clears (R6, R8). -/

namespace Sys2Proof.Machine

/-- The bits of a written word that belong to a field. -/
def Fld.of (f : Fld) (v : Nat) : Nat := v / 2 ^ f.lo % 2 ^ f.wid

/-- Whether any write of the register can be applied (R6). -/
def writable (l : List Fld) : Bool := l.any fun f => f.acc = .rw || f.acc = .rws || f.acc = .w1c || f.acc = .wo

/-- A word stored in a register: each field by its access code; reserved bits are ignored (R6, R8). -/
def Dev.store (l : List Fld) (v : Nat) (d : Dev) : Dev :=
  l.foldl (fun d f => match f.acc with
    | .rw | .rws | .wo => d.wr f (f.of v)
    | .w1c => d.wr f (maskOf f.wid fun k => (d.rd f).testBit k && !(f.of v).testBit k)
    | .ro | .rc => d) d

def Dev.plain (l : List Fld) (v : Nat) (d : Dev) : Did := (d.store l v, wrOk)

/-- The fields of an RC register return to 0 (R6). -/
def Dev.clearRead (a : Nat) (l : List Fld) (d : Dev) : Dev :=
  let d := (l.filter fun f => f.acc = .rc).foldl (fun d f => d.wr f 0) d
  if a = 0x1404 then d.modRcd fun r => { r with stageLost := 0 } else d

end Sys2Proof.Machine
end

