-- ==== Sys2Proof/Machine/Access.lean ====
section
/-! DEFINITION. Register access by address (R6 to R10, R329, R396 to R398, R417): what a read returns and does,
and what a write does, whether it is plain storage or the command of a command register. -/

namespace Sys2Proof.Machine

/-! ### Reading -/

/-- The place of address `a` among values of `n` words each that start `step` apart from `base`, `count` of
them:
the lowest address of its value. -/
def wideIn (base step n count a : Nat) : Option (Nat × Nat) :=
  if base ≤ a && a < base + step * count && (a - base) % step < n then some (a - (a - base) % step, n) else none

/-- The values wider than 32 bits (R10): the lowest address of the value that `a` belongs to, and its words. DEDUCED, log 17. -/
def wideOf (a : Nat) : Option (Nat × Nat) :=
  ((wideIn 0x4 2 2 1 a).or <| (wideIn 0x302 8 8 1 a).or <| (wideIn 0x605 2 2 1 a).or <| (wideIn 0x607 2 2 1 a).or <|
    (wideIn 0x706 2 2 1 a).or <| (wideIn 0xF0D 2 2 1 a).or <| (wideIn 0xF10 4 4 4 a)).or <|
  (wideIn 0x1007 3 3 1 a).or <| (wideIn 0x1402 2 2 1 a).or <| (wideIn 0x1411 2 2 1 a).or (wideIn 0x1510 2 2 18 a)

/-- The session keeps the upper words of a value as they read now. -/
def Dev.capture (m : Mem) (sid low n x : Nat) (d : Dev) : Dev :=
  d.modSess sid fun y => { y with
    snaps := ((List.range n).drop 1).foldl (fun l j => place l (low + j) (d.word m sid (low + j) x)) y.snaps }

/-- A read of one register: the value, and what the read changes. None where no page maps the address. -/
def Dev.readReg (m : Mem) (sid a : Nat) (d : Dev) : Option (Nat × Dev) :=
  match regFields a with
  | none => none
  | some l =>
    let p := if measured a then d.drawNat else (0, d)
    let v := p.2.word m sid a p.1
    match wideOf a with
    | some (low, n) =>
      if a = low then some (v, p.2.capture m sid low n p.1)
      else some ((look (p.2.sess sid).snaps a).getD v, p.2)
    | none => some (v, p.2.clearRead a l)

/-! ### Command registers: each by its own field table -/

/-- PORT_SWAP_CTRL (R87, R88, R90). -/
def Dev.writeSwap (v : Nat) (d : Dev) : Did :=
  match PORT_SWAP_CTRL.CMD.of v with
  | 1 => d.cmdArm (PORT_SWAP_CTRL.CASSETTE.of v)
  | 2 => d.cmdDisarm
  | _ => (d.wr PORT_SWAP_STATUS.REASON badCommandCode, wrRefused badCommandCode swapCtrl)

/-- ACQ and ZC registers (R95, R96, R114): N_CFG 3 is no rate, and another source qualifies from the
beginning. -/
def Dev.writeAcq (a : Nat) (l : List Fld) (v : Nat) (d : Dev) : Did :=
  if a = 0x600 && d.rd ACQ_PH_CFG.PH_SRC ≠ ACQ_PH_CFG.PH_SRC.of v then
    (d.forgetSource.modPhase fun p => { p with cross := none }).plain l v
  else if a = 0x601 then (if ACQ_RATE.N_CFG.of v = 3 then (d, wrInvalid 5 a) else d.plain l v)
  else if a = 0x60C then d.cmdZc (ACQ_ZC_SEC1.SEC_HI.of v)
  else d.plain l v

/-- LRN_CTRL, LRN_COMMIT and the window (R143 to R153). -/
def Dev.writeLrn (_ : Mem) (sid a : Nat) (l : List Fld) (v : Nat) (d : Dev) : Did :=
  let t := LRN_CTRL.TARGET.of v
  if a = lrnCtrl then
    match LRN_CTRL.CMD.of v with
    | 1 => d.cmdSnapshot sid
    | 2 => d.cmdLrnRelease sid
    | 3 => d.cmdOpenStage sid
    | 4 => d.cmdLrnAbort sid
    | 5 => d.cmdCaptest t
    | 6 => d.cmdCaptestCancel t
    | 7 => d.cmdDeclareNew t
    | _ => d.lrnRefuse badCommandCode a
  else if a = LRN_COMMIT.CRC.addr then d.cmdCommit sid v
  else if 0x7800 ≤ a then d.cmdLrnWin sid (a - 0x7800) v
  else d.plain l v

/-- LRN_WIN_BASE, which every session holds and may write (R153). -/
def Dev.writeLrnBase (sid v : Nat) (d : Dev) : Did :=
  let p := LRN_WIN_BASE.PAGE.of v
  if p = 7 then d.lrnRefuse 7 LRN_WIN_BASE.PAGE.addr
  else (d.modSess sid fun x => { x with lrnPage := p }, wrOk)

/-- SEQ_SHED, SEQ_CTRL and SEQ_WEAR_SEL (R201, R202). -/
def Dev.writeSeq (m : Mem) (sid a : Nat) (l : List Fld) (v : Nat) (d : Dev) : Did :=
  let mask := SEQ_CTRL.MASK.of v
  if a = 0xA01 then d.cmdShed v
  else if a = SEQ_CTRL.CMD.addr then
    match SEQ_CTRL.CMD.of v with
    | 1 => d.cmdClose m mask
    | 2 => d.cmdOpen m mask
    | 3 => d.cmdOpenBank m
    | 4 => d.cmdLockout m mask
    | 5 => d.cmdUnlock mask
    | 6 => d.asMaintainer sid (Dev.cmdClearLatch mask)
    | 7 => d.asMaintainer sid (Dev.cmdResetWear (SEQ_CTRL.WEAR_IDX.of v))
    | 8 => d.cmdCancelJoin mask
    | _ => (d.wr SEQ_RESULT.REASON badCommandCode, wrRefused badCommandCode a)
  else if a = SEQ_WEAR_SEL.IDX.addr && 26 < SEQ_WEAR_SEL.IDX.of v then
    (d.seqResult 14 0 0, wrRefused 14 a)
  else d.plain l v

/-- BAL_CTRL (R231, R234, R235). -/
def Dev.writeBal (m : Mem) (sid a : Nat) (l : List Fld) (v : Nat) (d : Dev) : Did :=
  let k := BAL_CTRL.PORT.of v
  if a = balCtrl then
    match BAL_CTRL.CMD.of v with
    | 1 => d.cmdForce m sid k
    | 2 => d.cmdUnforce k
    | 3 => d.cmdTest k (BAL_CTRL.INPUT.of v)
    | 4 => d.cmdTestAll
    | _ => d.balRefuse badCommandCode
  else d.plain l v

/-- CHN_SET, CHN_CLR and CHN_FCLR (R240, R251, R259). -/
def Dev.writeChn (m : Mem) (sid a : Nat) (l : List Fld) (v : Nat) (d : Dev) : Did :=
  if a = CHN_SET.MASK.addr then d.cmdChn m sid a v true
  else if a = CHN_CLR.MASK.addr then d.cmdChn m sid a v false
  else if a = CHN_FCLR.MASK.addr then d.cmdFclr m v
  else d.plain l v

/-- SAF_CTRL (R286, R288), which no stewardship permits: an unlisted command of a session in the role changes
nothing. DEDUCED, log 21. -/
def Dev.writeSaf (sid v : Nat) (d : Dev) : Did :=
  if SAF_CTRL.CMD.of v = 1 || (d.sess sid).role ≠ .safetySteward then d.cmdProof sid (SAF_CTRL.GROUPS.of v)
  else (d, wrRefused badCommandCode SAF_CTRL.CMD.addr)

/-- TIME_CTRL, the step registers, INCR and the sources (R292, R294, R315, R416). -/
def Dev.writeTime (m : Mem) (a : Nat) (l : List Fld) (v : Nat) (d : Dev) : Did :=
  let k := TIME_CTRL.DOMAIN.of v
  if a = TIME_CTRL.CMD.addr then
    match TIME_CTRL.CMD.of v with
    | 1 => d.cmdStep m k
    | 2 => d.cmdResync k
    | _ => d.timeRefuse 5 k a
  else if a = TIME_STEP_NS.NS.addr && 999999999 < v then (d.wr TIME_RESULT.REASON 5, wrRefused 5 a)
  else if 0xF20 ≤ a && a ≤ 0xF23 then d.cmdIncr (a - 0xF20) v
  else if 0xF04 ≤ a && a ≤ 0xF07 then
    let was := d.source (a - 0xF04)
    let d := d.store l v
    (if d.source (a - 0xF04) = was then d else d.sourceChanged (a - 0xF04), wrOk)
  else d.plain l v

/-- CUE_CTRL and CUE_FQ_CTRL (R308, R312, R313). DEDUCED, log 21. -/
def Dev.writeCue (m : Mem) (sid a : Nat) (l : List Fld) (v : Nat) (d : Dev) : Did :=
  let i := CUE_CTRL.INDEX.of v
  if a = CUE_CTRL.CMD.addr then
    match CUE_CTRL.CMD.of v with
    | 1 => d.cmdCueWrite m sid i
    | 2 => d.cmdCueRead i
    | 3 => d.cmdCueDelete sid i
    | 4 => d.cmdCapClear
    | _ => d.cueRefuse badCommandCode a
  else if a = CUE_FQ_CTRL.CMD.addr then
    match CUE_FQ_CTRL.CMD.of v with
    | 1 => d.cmdLoadSlot (CUE_FQ_CTRL.PORT.of v) (CUE_FQ_CTRL.SLOT.of v) (CUE_FQ_CTRL.LEN.of v)
    | 2 => d.cmdClearSlot (CUE_FQ_CTRL.PORT.of v) (CUE_FQ_CTRL.SLOT.of v)
    | _ => d.cueRefuse badCommandCode a
  else d.plain l v

/-- SESS_CTRL, which every open session may write (R334, R340). DEDUCED, log 21. -/
def Dev.writeSess (m : Mem) (sid v : Nat) (d : Dev) : Did :=
  let n := SESS_CTRL.FUNC.of v
  match Func.all[n]? with
  | none => d.sessRefuse sid n 10
  | some f =>
    match SESS_CTRL.CMD.of v with
    | 1 => d.cmdTake m sid f
    | 2 => d.cmdRelease sid f
    | 3 => d.cmdStop m sid f
    | 4 => d.cmdStart m sid f
    | _ => d.sessRefuse sid n 10

/-- The export registers of the recorder (R354, R359), the session's own. -/
def Dev.writeRecExp (sid a : Nat) (l : List Fld) (v : Nat) (d : Dev) : Did :=
  if a = REC_EXP_CTRL.CMD.addr then
    match REC_EXP_CTRL.CMD.of v with
    | 1 => d.cmdReadSeq sid
    | 2 => d.cmdReadRaw sid (REC_EXP_CTRL.REGION.of v = 1) (REC_EXP_CTRL.POS.of v)
    | _ => (d.modSess sid fun x => { x with recStatus := x.recStatus % 2 ^ 24 + badCommandCode * 2 ^ 24 },
        wrRefused badCommandCode a)
  else if a = REC_EXP_SEQ0.SEQ_LO.addr then
    (d.modSess sid fun x => { x with recSeq := x.recSeq / 2 ^ 32 * 2 ^ 32 + v }, wrOk)
  else if a = REC_EXP_SEQ1.SEQ_HI.addr then
    (d.modSess sid fun x => { x with recSeq := REC_EXP_SEQ1.SEQ_HI.of v * 2 ^ 32 + x.recSeq % 2 ^ 32 }, wrOk)
  else d.plain l v

/-- The export registers of the ledger (R360), the session's own. DEDUCED, log 21. -/
def Dev.writeLgr (sid a : Nat) (l : List Fld) (v : Nat) (d : Dev) : Did :=
  if a = LGR_EXP_CTRL.CMD.addr then
    if LGR_EXP_CTRL.CMD.of v = 1 then d.cmdReadCp sid else (d, wrRefused badCommandCode a)
  else if a = LGR_EXP_NUM.CP_NUM.addr then (d.modSess sid fun x => { x with lgrNum := v }, wrOk)
  else d.plain l v

/-- PWR_CTRL, which follows roles and no stewardship (R375, R377, R383). DEDUCED, log 21. -/
def Dev.writePwr (m : Mem) (sid v : Nat) (d : Dev) : Did :=
  match PWR_CTRL.CMD.of v with
  | 1 => d.cmdTransport m sid
  | 2 => d.cmdCommission m sid false
  | 3 => d.cmdCommission m sid true
  | 4 => d.cmdCalibrate m sid
  | 5 => d.cmdRefresh m sid
  | k => d.pwrRefuse badCommandCode k

/-- The IMG page (R48, R60). DESIGN CHOICE, log 111. -/
def writeImg (sid a : Nat) (l : List Fld) (v : Nat) (m : Mem) (d : Dev) : DidM :=
  if a = loadCtrl then
    match IMG_LOAD_CTRL.CMD.of v with
    | 1 => cmdOpenTrl sid m d
    | 2 => cmdOpenBed sid m d
    | 3 => cmdVerify sid m d
    | 4 => cmdApply sid (IMG_LOAD_CTRL.GUARD.of v) m d
    | 5 => cmdAbort sid m d
    | _ => d.asLoader sid m (m, d.imgRefuse badCommandCode a)
  else if 0x380 ≤ a then cmdLoadWin sid (a - 0x380) v m d
  else match d.imgBarred sid with
    | some r => (m, d.imgRefuse r a)
    | none => (m, d.plain l v)

/-! ### Writing -/

/-- A write that stewardship or a role permits, by page; a register with an RWS field only while its function is
STOPPED (R6). DEDUCED, log 20. -/
def Dev.writeOwned (m : Mem) (sid a : Nat) (f : Func) (l : List Fld) (v : Nat) (d : Dev) : Did :=
  if (l.any fun x => x.acc = .rws) && d.fnState f.num ≠ 0 then (d, wrRunning f a)
  else match a / 256 with
    | 4 => if a = swapCtrl then d.writeSwap v else d.plain l v
    | 6 => d.writeAcq a l v
    | 8 => d.writeLrn m sid a l v
    | 10 => d.writeSeq m sid a l v
    | 12 => d.writeBal m sid a l v
    | 13 => d.writeChn m sid a l v
    | 15 => d.writeTime m a l v
    | 16 => d.writeCue m sid a l v
    | 20 => d.writeRecExp sid a l v
    | 21 => d.writeLgr sid a l v
    | _ => if 0x7800 ≤ a then d.writeLrn m sid a l v else d.plain l v

/-- Whether a write of the register stores a value all sessions share: no command, no flag that a written 1
clears,
no cursor of a session's own (R354, R360). -/
def sharedValue (a : Nat) (l : List Fld) : Bool :=
  (l.all fun f => f.acc = .rw || f.acc = .rws || f.acc = .ro || (f.acc = .wo && a / 256 = 16 && a ≠ CUE_CTRL.CMD.addr &&
    a ≠ CUE_FQ_CTRL.CMD.addr)) && a ≠ 0x1411 && a ≠ 0x1412 && a ≠ LGR_EXP_NUM.CP_NUM.addr

/-- Whether a session of a higher ID has written the register in this clk (R11). -/
def Dev.overruled (sid a : Nat) (d : Dev) : Bool :=
  (tget (0, 0) d.net.wrote a).1 = d.clk && decide (sid < (tget (0, 0) d.net.wrote a).2)

/-- A permitted write of a shared value: writes of one clk end with that of the highest session ID (R11, R338). DESIGN CHOICE, log 94. -/
def Dev.inOrder (sid a : Nat) (l : List Fld) (go : Dev → Did) (d : Dev) : Did :=
  let r := go d
  if !sharedValue a l || r.2 ≠ wrOk then r
  else if d.overruled sid a then (d, wrOk)
  else ({ r.1 with net := { r.1.net with wrote := tset (0, 0) r.1.net.wrote a (d.clk, sid) } }, wrOk)

/-- A write of one register by a session (R6, R7, R329, R396, R397). The factory session of a module without an
image writes the IMG page alone (R47). DEDUCED, log 11. DEDUCED, log 20. -/
def writeReg (sid a v : Nat) (m : Mem) (d : Dev) : DidM :=
  match regFields a with
  | none => (m, d, wrBadAddress a)
  | some l =>
    if !writable l then (m, d, wrDenied a)
    else if a / 256 = 3 then writeImg sid a l v m d
    else if a = SESS_CTRL.CMD.addr then (m, d.writeSess m sid v)
    else if a = LRN_WIN_BASE.PAGE.addr && (d.sess sid).key ≠ 0 then (m, d.writeLrnBase sid v)
    else if a = SAF_CTRL.CMD.addr then (m, d.writeSaf sid v)
    else if a = pwrCtrl then (m, d.writePwr m sid v)
    else if a = SEQ_CTRL.CMD.addr && (SEQ_CTRL.CMD.of v = 6 || SEQ_CTRL.CMD.of v = 7) then (m, d.writeSeq m sid a l v)
    else match regOwner a with
      | some f => (m, d.inOrder sid a l fun d => d.asGranted sid f a fun d => d.writeOwned m sid a f l v)
      | none => (m, d, wrDenied a)

/-! ### Commands given by themselves -/

/-- A register write that the module then carries on from: an accepted TRANSPORT is entered once it is
answered (R377). -/
def hostWrite (sid a v : Nat) (m : Mem) (d : Dev) : Mem × Dev :=
  let r := memHost sid (writeReg sid a v) m d
  (r.1, r.2.transportEnters r.1)

/-- A register read, answered with the value; an unmapped address is answered BAD_ADDRESS. -/
def Dev.hostRead (m : Mem) (sid a : Nat) (d : Dev) : Dev :=
  if d.isOpened sid && d.alive then
    match d.readReg m sid a with
    | some (v, d) => (d.modSess sid fun y => { y with heard := d.clk }).emit (.value sid a (BitVec.ofNat 32 v))
    | none => Dev.answer sid (d, wrBadAddress a)
  else d

/-- REGISTER_WRITE (R7). DEDUCED, log 11. -/
def execRegisterWrite (sid : Sid) (addr : BitVec 16) (value : Word) (s : State) : Host.Outcome State Fault Refusal :=
  s.runMem (hostWrite sid.val addr.toNat value.toNat)

/-- RC_READ (R6). -/
def execRcRead (sid : Sid) (addr : BitVec 16) (s : State) : Host.Outcome State Fault Refusal :=
  s.run fun m d => d.hostRead m sid.val addr.toNat

/-- WIDE_VALUE_READ (R10). -/
def execWideValueRead (sid : Sid) (addr : BitVec 16) (s : State) : Host.Outcome State Fault Refusal :=
  s.run fun m d => d.hostRead m sid.val addr.toNat

/-- BAD_COMMAND (R417). The write that a command register refuses for its CMD value. DEDUCED, log 11. -/
def execBadCommand (sid : Sid) (addr : BitVec 16) (value : Word) (s : State) : Host.Outcome State Fault Refusal :=
  s.runMem (hostWrite sid.val addr.toNat value.toNat)

end Sys2Proof.Machine
end

