-- ==== Sys2Proof/Machine/Requests.lean ====
section
/-! DEFINITION. REQUEST and RESPONSE (R330, R331, R333). -/

namespace Sys2Proof.Machine

/-- The registers an operation covers. DEDUCED, log 23. -/
def opCount : ReqOp → Nat
  | .read _ n => n.toNat
  | .write _ l => l.length

/-- An operation as the REQUEST's payload has it (R330). -/
def ReqOp.bytes : ReqOp → List Byte
  | .read addr n => leBytes 1 1 ++ [n] ++ leBytes 2 addr.toNat
  | .write addr l => leBytes 1 2 ++ leBytes 1 l.length ++ leBytes 2 addr.toNat ++ l.flatMap fun v => leBytes 4 v.toNat

/-- What its result takes in the RESPONSE. -/
def opBytesOut : ReqOp → Nat
  | .read _ n => 6 + 4 * n.toNat
  | .write _ _ => 6

/-- The payload of a REQUEST (R330). -/
def requestBytes (id : BitVec 16) (stop : Bool) (ops : List ReqOp) : List Byte :=
  leBytes 2 id.toNat ++ leBytes 1 ops.length ++ leBytes 1 stop.toNat ++ ops.flatMap ReqOp.bytes

/-- A result as the RESPONSE's payload has it, the data of a READ after it (R330). -/
def OpRes.bytes (x : OpRes) : List Byte :=
  leBytes 1 x.status ++ leBytes 1 x.code ++ leBytes 2 x.addr ++ leBytes 1 x.done ++ [0x00] ++
    x.data.flatMap fun v => leBytes 4 v.toNat

/-- The payload of a RESPONSE (R330). -/
def responsePayload (id : Nat) (l : List OpRes) : List Byte :=
  leBytes 2 id ++ leBytes 1 l.length ++ [0x00] ++ l.flatMap OpRes.bytes

def responseBytes (ops : List ReqOp) : Nat := (ops.map opBytesOut).foldl (· + ·) 4

/-- Whether the operations make a request that a RESPONSE on the path can answer. -/
def requestFits (p : Path) (ops : List ReqOp) : Bool :=
  !ops.isEmpty && decide (ops.length ≤ 64) && (ops.all fun o => decide (1 ≤ opCount o) && decide (opCount o ≤ 255)) &&
    decide (responseBytes ops ≤ payloadLimit p)

/-- `n` registers read from `a` on, in one clk: the values, the first unmapped address if one was reached, and
the
device after it. -/
def Dev.readRun (m : Mem) (sid : Nat) : Nat → Nat → Dev → List Word × Option Nat × Dev
  | 0, _, d => ([], none, d)
  | n + 1, a, d =>
    match d.readReg m sid a with
    | none => ([], some a, d)
    | some (v, d) =>
      let r := Dev.readRun m sid n (a + 1) d
      (BitVec.ofNat 32 v :: r.1, r.2)

/-- Values written from `a` on up to the first refusal: how many were applied, and the last result. -/
def writeRun (sid : Nat) : List Word → Nat → Mem → Dev → Nat × Wr × Mem × Dev
  | [], _, m, d => (0, wrOk, m, d)
  | v :: l, a, m, d =>
    let r := writeReg sid a v.toNat m d
    if r.2.2.status ≠ 0 then (0, r.2.2, r.1, r.2.1)
    else
      let q := writeRun sid l (a + 1) r.1 r.2.1
      (q.1 + 1, q.2)

/-- One operation (R331, R332). DEDUCED, log 23. -/
def opRun (sid : Nat) (o : ReqOp) (m : Mem) (d : Dev) : OpRes × Mem × Dev :=
  match o with
  | .read addr n =>
    let r := d.readRun m sid n.toNat addr.toNat
    match r.2.1 with
    | none => (⟨0, 0, 0, r.1.length, r.1⟩, m, r.2.2)
    | some a => (⟨(wrBadAddress a).status, 0, a, r.1.length, r.1⟩, m, r.2.2)
  | .write addr l =>
    let r := writeRun sid l addr.toNat m d
    (⟨r.2.1.status, r.2.1.code, r.2.1.addr, r.1, []⟩, r.2.2)

/-- An operation that is answered without being carried out. -/
def opAnswered (w : Wr) : OpRes := ⟨w.status, 0, 0, 0, []⟩

/-- The operations in order; with `stop`, those after the first that is not OK are skipped. -/
def opsRun (sid : Nat) (stop : Bool) : List ReqOp → Mem → Dev → List OpRes × Mem × Dev
  | [], m, d => ([], m, d)
  | o :: l, m, d =>
    let r := opRun sid o m d
    if stop && r.1.status ≠ 0 then (r.1 :: l.map fun _ => opAnswered wrSkipped, r.2)
    else
      let q := opsRun sid stop l r.2.1 r.2.2
      (r.1 :: q.1, q.2)

/-- The RESPONSE goes out under the session's next SEQ and is kept among its last 8 (R333). -/
def Dev.respond (sid id : Nat) (l : List OpRes) (d : Dev) : Dev :=
  (d.modSess sid fun y => { y with
    kept := if y.kept.any (·.1 = id) then y.kept else ((id, l) :: y.kept).take 8 }).say sid rapResponse
    (responsePayload id l)

/-- An accepted REQUEST: answered again, refused for its length, or carried out. DEDUCED, log 23. -/
def requestRun (sid id : Nat) (stop : Bool) (ops : List ReqOp) (m : Mem) (d : Dev) : Mem × Dev :=
  match (d.sess sid).kept.find? (·.1 = id) with
  | some x => (m, d.respond sid id x.2)
  | none =>
    if !requestFits (d.sess sid).path ops then (m, d.respond sid id (ops.map fun _ => opAnswered wrBadLength))
    else
      let r := opsRun sid stop ops m d
      (r.2.1, (r.2.2.respond sid id r.1).transportEnters r.2.1)

/-- REQUEST (R330). One longer than a message may be is discarded (R321, R324). -/
def execRequest (path : Path) (head : RapHead) (seq : BitVec 64) (body : List Byte) (id : BitVec 16) (plan : ReqPlan)
    (s : State) : Host.Outcome State Fault Refusal :=
  s.runMem fun m d =>
    d.message m rapRequest ⟨⟨head, seq, body⟩, path⟩ (requestBytes id plan.stopOnError plan.ops) fun m d =>
      requestRun head.session.toNat id.toNat plan.stopOnError plan.ops m d

end Sys2Proof.Machine
end

