-- ==== Sys2Proof/Machine/Dispatch.lean ====
section
/-! DEFINITION. exec: what each command does, one arm per row of the opcode table. -/

namespace Sys2Proof.Machine

def exec (i : Instr) (s : State) : Host.Outcome State Fault Refusal :=
  match i with
  | .registerWrite sid addr value => Sys2Proof.Machine.execRegisterWrite sid addr value s
  | .rcRead sid addr => Sys2Proof.Machine.execRcRead sid addr s
  | .wideValueRead sid addr => Sys2Proof.Machine.execWideValueRead sid addr s
  | .badCommand sid addr value => Sys2Proof.Machine.execBadCommand sid addr value s
  | .eccError single site => Sys2Proof.Machine.execEccError single site s
  | .scrubPass => Sys2Proof.Machine.execScrubPass s
  | .clockCheck count => Sys2Proof.Machine.execClockCheck count s
  | .clockFail => Sys2Proof.Machine.execClockFail s
  | .functionStateChange f => Sys2Proof.Machine.execFunctionStateChange f s
  | .take sid f => Sys2Proof.Machine.execTake sid f s
  | .release sid f => Sys2Proof.Machine.execRelease sid f s
  | .stopFunc sid f => Sys2Proof.Machine.execStopFunc sid f s
  | .startFunc sid f => Sys2Proof.Machine.execStartFunc sid f s
  | .openTrl sid => Sys2Proof.Machine.execOpenTrl sid s
  | .openBed sid => Sys2Proof.Machine.execOpenBed sid s
  | .imgLoadWin sid k value => Sys2Proof.Machine.execImgLoadWin sid k value s
  | .verify sid => Sys2Proof.Machine.execVerify sid s
  | .verifyComplete => Sys2Proof.Machine.execVerifyComplete s
  | .apply sid guard => Sys2Proof.Machine.execApply sid guard s
  | .loadAbort sid => Sys2Proof.Machine.execLoadAbort sid s
  | .imageSwitch => Sys2Proof.Machine.execImageSwitch s
  | .mirrorComplete => Sys2Proof.Machine.execMirrorComplete s
  | .bedSwitch => Sys2Proof.Machine.execBedSwitch s
  | .bedResumption bed => Sys2Proof.Machine.execBedResumption bed s
  | .bedPauseExpired => Sys2Proof.Machine.execBedPauseExpired s
  | .strobe => Sys2Proof.Machine.execStrobe s
  | .cellsFrame port seq check codes status => Sys2Proof.Machine.execCellsFrame port seq check codes status s
  | .stringFrame front seq check shunt vstr vbus vpre status => Sys2Proof.Machine.execStringFrame front seq check shunt vstr vbus vpre status s
  | .tempsFrame port seq check codes id0 id1 status => Sys2Proof.Machine.execTempsFrame port seq check codes id0 id1 status s
  | .readResp lc seq check values status => Sys2Proof.Machine.execReadResp lc seq check values status s
  | .writeAck lc seq check status => Sys2Proof.Machine.execWriteAck lc seq check status s
  | .statusFrame lc seq check status => Sys2Proof.Machine.execStatusFrame lc seq check status s
  | .nack lc seq check reason status => Sys2Proof.Machine.execNack lc seq check reason status s
  | .echo lc rtt => Sys2Proof.Machine.execEcho lc rtt s
  | .delayProbe lc => Sys2Proof.Machine.execDelayProbe lc s
  | .frameDeadline lc => Sys2Proof.Machine.execFrameDeadline lc s
  | .commandRetry lc => Sys2Proof.Machine.execCommandRetry lc s
  | .pollTimeout lc => Sys2Proof.Machine.execPollTimeout lc s
  | .trainingTimeout lc => Sys2Proof.Machine.execTrainingTimeout lc s
  | .missingTimeout lc => Sys2Proof.Machine.execMissingTimeout lc s
  | .retrain lc => Sys2Proof.Machine.execRetrain lc s
  | .companionPoll => Sys2Proof.Machine.execCompanionPoll s
  | .arm sid k => Sys2Proof.Machine.execArm sid k s
  | .disarm sid => Sys2Proof.Machine.execDisarm sid s
  | .presStable k => Sys2Proof.Machine.execPresStable k s
  | .cassetteRemoved k => Sys2Proof.Machine.execCassetteRemoved k s
  | .loopLeavesWindow lc current => Sys2Proof.Machine.execLoopLeavesWindow lc current s
  | .loopDebounceExpiry lc => Sys2Proof.Machine.execLoopDebounceExpiry lc s
  | .loopMarginal lc current => Sys2Proof.Machine.execLoopMarginal lc current s
  | .sweepBoundary => Sys2Proof.Machine.execSweepBoundary s
  | .sweepAbandoned => Sys2Proof.Machine.execSweepAbandoned s
  | .sweepEnd => Sys2Proof.Machine.execSweepEnd s
  | .linkLoss str => Sys2Proof.Machine.execLinkLoss str s
  | .mainsCrossing at_ => Sys2Proof.Machine.execMainsCrossing at_ s
  | .zcTimestamp sid hi => Sys2Proof.Machine.execZcTimestamp sid hi s
  | .sourceLost => Sys2Proof.Machine.execSourceLost s
  | .estPublish => Sys2Proof.Machine.execEstPublish s
  | .dischargeStateChange who => Sys2Proof.Machine.execDischargeStateChange who s
  | .voltEmpty str => Sys2Proof.Machine.execVoltEmpty str s
  | .restQualified str => Sys2Proof.Machine.execRestQualified str s
  | .impedanceAged c slot => Sys2Proof.Machine.execImpedanceAged c slot s
  | .probeRequest str => Sys2Proof.Machine.execProbeRequest str s
  | .snapshot sid => Sys2Proof.Machine.execSnapshot sid s
  | .snapshotCopyDone => Sys2Proof.Machine.execSnapshotCopyDone s
  | .lrnRelease sid => Sys2Proof.Machine.execLrnRelease sid s
  | .openStage sid => Sys2Proof.Machine.execOpenStage sid s
  | .lrnWinWrite sid k value => Sys2Proof.Machine.execLrnWinWrite sid k value s
  | .lrnCommit sid value => Sys2Proof.Machine.execLrnCommit sid value s
  | .lrnAbort sid => Sys2Proof.Machine.execLrnAbort sid s
  | .restoreSwap => Sys2Proof.Machine.execRestoreSwap s
  | .captest sid target => Sys2Proof.Machine.execCaptest sid target s
  | .captestCancel sid target => Sys2Proof.Machine.execCaptestCancel sid target s
  | .captestSpanExpired str => Sys2Proof.Machine.execCaptestSpanExpired str s
  | .declareNew sid target => Sys2Proof.Machine.execDeclareNew sid target s
  | .blockReplaced port => Sys2Proof.Machine.execBlockReplaced port s
  | .newBlockHoldEnd str => Sys2Proof.Machine.execNewBlockHoldEnd str s
  | .limitPublication => Sys2Proof.Machine.execLimitPublication s
  | .hardRequest who => Sys2Proof.Machine.execHardRequest who s
  | .limEscalate who => Sys2Proof.Machine.execLimEscalate who s
  | .ladderStep => Sys2Proof.Machine.execLadderStep s
  | .supplyPrune => Sys2Proof.Machine.execSupplyPrune s
  | .closeStrings sid mask => Sys2Proof.Machine.execCloseStrings sid mask s
  | .openStrings sid mask => Sys2Proof.Machine.execOpenStrings sid mask s
  | .openBank sid => Sys2Proof.Machine.execOpenBank sid s
  | .lockout sid mask => Sys2Proof.Machine.execLockout sid mask s
  | .unlock sid mask => Sys2Proof.Machine.execUnlock sid mask s
  | .clearLatch sid mask => Sys2Proof.Machine.execClearLatch sid mask s
  | .resetWear sid index => Sys2Proof.Machine.execResetWear sid index s
  | .cancelJoin sid mask => Sys2Proof.Machine.execCancelJoin sid mask s
  | .seqShed sid value => Sys2Proof.Machine.execSeqShed sid value s
  | .auxChange con closed => Sys2Proof.Machine.execAuxChange con closed s
  | .contactorNoClose con => Sys2Proof.Machine.execContactorNoClose con s
  | .weldVerdict con current => Sys2Proof.Machine.execWeldVerdict con current s
  | .weldUnisolated who => Sys2Proof.Machine.execWeldUnisolated who s
  | .negWeldWatchEnd str => Sys2Proof.Machine.execNegWeldWatchEnd str s
  | .fitWaived str => Sys2Proof.Machine.execFitWaived str s
  | .t90Timeout str => Sys2Proof.Machine.execT90Timeout str s
  | .matchTimeout str => Sys2Proof.Machine.execMatchTimeout str s
  | .overlapEnd who => Sys2Proof.Machine.execOverlapEnd who s
  | .busSettled => Sys2Proof.Machine.execBusSettled s
  | .bankSettleTimeout => Sys2Proof.Machine.execBankSettleTimeout s
  | .coolEnd str => Sys2Proof.Machine.execCoolEnd str s
  | .joinTimeout str => Sys2Proof.Machine.execJoinTimeout str s
  | .orderWaitEnd str => Sys2Proof.Machine.execOrderWaitEnd str s
  | .breakWaitExpired str => Sys2Proof.Machine.execBreakWaitExpired str s
  | .currentLowQualified str => Sys2Proof.Machine.execCurrentLowQualified str s
  | .negCoilDelayEnd str => Sys2Proof.Machine.execNegCoilDelayEnd str s
  | .bnegDelayEnd => Sys2Proof.Machine.execBnegDelayEnd s
  | .recloseHoldEnd str => Sys2Proof.Machine.execRecloseHoldEnd str s
  | .tripPulseEnd => Sys2Proof.Machine.execTripPulseEnd s
  | .zoneEvaluation => Sys2Proof.Machine.execZoneEvaluation s
  | .internalPointReading temps => Sys2Proof.Machine.execInternalPointReading temps s
  | .pointStaleFailed p => Sys2Proof.Machine.execPointStaleFailed p s
  | .fastModeEnd p => Sys2Proof.Machine.execFastModeEnd p s
  | .rateHighEnd z => Sys2Proof.Machine.execRateHighEnd z s
  | .holdEnd z => Sys2Proof.Machine.execHoldEnd z s
  | .thermalLatchClear => Sys2Proof.Machine.execThermalLatchClear s
  | .force sid port => Sys2Proof.Machine.execForce sid port s
  | .unforce sid port => Sys2Proof.Machine.execUnforce sid port s
  | .forceExpiry port => Sys2Proof.Machine.execForceExpiry port s
  | .balTest sid port input => Sys2Proof.Machine.execBalTest sid port input s
  | .testAll sid => Sys2Proof.Machine.execTestAll sid s
  | .testPassDue => Sys2Proof.Machine.execTestPassDue s
  | .chnSet sid mask => Sys2Proof.Machine.execChnSet sid mask s
  | .chnClr sid mask => Sys2Proof.Machine.execChnClr sid mask s
  | .chnFclr sid mask => Sys2Proof.Machine.execChnFclr sid mask s
  | .inrushWindowEnd n => Sys2Proof.Machine.execInrushWindowEnd n s
  | .chnShort n => Sys2Proof.Machine.execChnShort n s
  | .chnOverload n => Sys2Proof.Machine.execChnOverload n s
  | .chnOpenLoad n => Sys2Proof.Machine.execChnOpenLoad n s
  | .otShedStep group temp limited low currents => Sys2Proof.Machine.execOtShedStep group temp limited low currents s
  | .groupOtComparator group temp => Sys2Proof.Machine.execGroupOtComparator group temp s
  | .groupCooled group => Sys2Proof.Machine.execGroupCooled group s
  | .totalShed mean => Sys2Proof.Machine.execTotalShed mean s
  | .totalShedReturn => Sys2Proof.Machine.execTotalShedReturn s
  | .restoreStagger => Sys2Proof.Machine.execRestoreStagger s
  | .pwminEdge pin high => Sys2Proof.Machine.execPwminEdge pin high s
  | .envSensorPoll tcase dew rh => Sys2Proof.Machine.execEnvSensorPoll tcase dew rh s
  | .envSensorTimeout => Sys2Proof.Machine.execEnvSensorTimeout s
  | .shuntContinuityCheck pass => Sys2Proof.Machine.execShuntContinuityCheck pass s
  | .lockstep => Sys2Proof.Machine.execLockstep s
  | .watchdog => Sys2Proof.Machine.execWatchdog s
  | .reclaim => Sys2Proof.Machine.execReclaim s
  | .holdThroughExpired => Sys2Proof.Machine.execHoldThroughExpired s
  | .loadDump => Sys2Proof.Machine.execLoadDump s
  | .groundLoss => Sys2Proof.Machine.execGroundLoss s
  | .safetyInputChange input chB closed => Sys2Proof.Machine.execSafetyInputChange input chB closed s
  | .inputChannelFiltered input chB => Sys2Proof.Machine.execInputChannelFiltered input chB s
  | .discrepancy input => Sys2Proof.Machine.execDiscrepancy input s
  | .sdrComparatorWrite input => Sys2Proof.Machine.execSdrComparatorWrite input s
  | .resetPairChange a b heldCurtain heldSup apart => Sys2Proof.Machine.execResetPairChange a b heldCurtain heldSup apart s
  | .levelReset => Sys2Proof.Machine.execLevelReset s
  | .resetStuck => Sys2Proof.Machine.execResetStuck s
  | .resetStuckClear => Sys2Proof.Machine.execResetStuckClear s
  | .resetSelftestDone pass => Sys2Proof.Machine.execResetSelftestDone pass s
  | .crossCompare seq crc view => Sys2Proof.Machine.execCrossCompare seq crc view s
  | .hbLost => Sys2Proof.Machine.execHbLost s
  | .curtainSelftest pass => Sys2Proof.Machine.execCurtainSelftest pass s
  | .supSelftest pass => Sys2Proof.Machine.execSupSelftest pass s
  | .gateReadback group => Sys2Proof.Machine.execGateReadback group s
  | .curtainTemp => Sys2Proof.Machine.execCurtainTemp s
  | .degradedSlcCap => Sys2Proof.Machine.execDegradedSlcCap s
  | .degradeTimeout => Sys2Proof.Machine.execDegradeTimeout s
  | .recoveryTimeEnd => Sys2Proof.Machine.execRecoveryTimeEnd s
  | .shuntStuck => Sys2Proof.Machine.execShuntStuck s
  | .shuntGateRearm => Sys2Proof.Machine.execShuntGateRearm s
  | .proofTest sid groups => Sys2Proof.Machine.execProofTest sid groups s
  | .proofTestDone pass loops => Sys2Proof.Machine.execProofTestDone pass loops s
  | .proofDue => Sys2Proof.Machine.execProofDue s
  | .sync eth dom twoStep id origin corr => Sys2Proof.Machine.execSync eth dom twoStep id origin corr s
  | .followUp eth dom id origin corr => Sys2Proof.Machine.execFollowUp eth dom id origin corr s
  | .announce eth dom => Sys2Proof.Machine.execAnnounce eth dom s
  | .delayReq eth dom id corr => Sys2Proof.Machine.execDelayReq eth dom id corr s
  | .delayResp eth dom id received corr => Sys2Proof.Machine.execDelayResp eth dom id received corr s
  | .pdelayReq eth dom id => Sys2Proof.Machine.execPdelayReq eth dom id s
  | .pdelayResp eth dom twoStep id turnaround => Sys2Proof.Machine.execPdelayResp eth dom twoStep id turnaround s
  | .ptpTransmit eth kind => Sys2Proof.Machine.execPtpTransmit eth kind s
  | .masterLost d => Sys2Proof.Machine.execMasterLost d s
  | .timeStep sid d => Sys2Proof.Machine.execTimeStep sid d s
  | .resync sid d => Sys2Proof.Machine.execResync sid d s
  | .timeIncr sid d value => Sys2Proof.Machine.execTimeIncr sid d value s
  | .cueWrite sid index => Sys2Proof.Machine.execCueWrite sid index s
  | .cueRead sid index => Sys2Proof.Machine.execCueRead sid index s
  | .cueDelete sid index => Sys2Proof.Machine.execCueDelete sid index s
  | .capClear sid => Sys2Proof.Machine.execCapClear sid s
  | .loadSlot sid port slot len => Sys2Proof.Machine.execLoadSlot sid port slot len s
  | .clearSlot sid port slot => Sys2Proof.Machine.execClearSlot sid port slot s
  | .cueCommit index => Sys2Proof.Machine.execCueCommit index s
  | .cueTrigger index => Sys2Proof.Machine.execCueTrigger index s
  | .cueWindowEnd index => Sys2Proof.Machine.execCueWindowEnd index s
  | .cueLate port slot => Sys2Proof.Machine.execCueLate port slot s
  | .arp eth addr => Sys2Proof.Machine.execArp eth addr s
  | .neighbourDiscovery eth addr => Sys2Proof.Machine.execNeighbourDiscovery eth addr s
  | .icmpEcho eth addr => Sys2Proof.Machine.execIcmpEcho eth addr s
  | .rxDrop eth => Sys2Proof.Machine.execRxDrop eth s
  | .canFragment upper session typ index count seq bytes => Sys2Proof.Machine.execCanFragment upper session typ index count seq bytes s
  | .fragmentTimeout upper session => Sys2Proof.Machine.execFragmentTimeout upper session s
  | .hello path head seq body => Sys2Proof.Machine.execHello path head seq body s
  | .finish sid path gram => Sys2Proof.Machine.execFinish sid path gram s
  | .establishTimeout sid => Sys2Proof.Machine.execEstablishTimeout sid s
  | .request path head seq body id plan => Sys2Proof.Machine.execRequest path head seq body id plan s
  | .rapClose path gram plain => Sys2Proof.Machine.execRapClose path gram plain s
  | .keepalive path gram plain => Sys2Proof.Machine.execKeepalive path gram plain s
  | .idleTimeout sid => Sys2Proof.Machine.execIdleTimeout sid s
  | .recordWrite result => Sys2Proof.Machine.execRecordWrite result s
  | .recStagingOverflow => Sys2Proof.Machine.execRecStagingOverflow s
  | .mainRewrite pass => Sys2Proof.Machine.execMainRewrite pass s
  | .readSeq sid => Sys2Proof.Machine.execReadSeq sid s
  | .readRaw sid understudy pos => Sys2Proof.Machine.execReadRaw sid understudy pos s
  | .ledgerStore => Sys2Proof.Machine.execLedgerStore s
  | .checkpointDue => Sys2Proof.Machine.execCheckpointDue s
  | .checkpointWritten result => Sys2Proof.Machine.execCheckpointWritten result s
  | .readCp sid => Sys2Proof.Machine.execReadCp sid s
  | .pruneEnter stage => Sys2Proof.Machine.execPruneEnter stage s
  | .pruneExit stage => Sys2Proof.Machine.execPruneExit stage s
  | .auxInputLost b => Sys2Proof.Machine.execAuxInputLost b s
  | .auxInputRestored b => Sys2Proof.Machine.execAuxInputRestored b s
  | .auxReversed b => Sys2Proof.Machine.execAuxReversed b s
  | .auxReverseClear b => Sys2Proof.Machine.execAuxReverseClear b s
  | .holdupStart => Sys2Proof.Machine.execHoldupStart s
  | .holdupEnd => Sys2Proof.Machine.execHoldupEnd s
  | .holdCharged c => Sys2Proof.Machine.execHoldCharged c s
  | .holdLow => Sys2Proof.Machine.execHoldLow s
  | .brownOut torn => Sys2Proof.Machine.execBrownOut torn s
  | .startUp supply bankA bankB => Sys2Proof.Machine.execStartUp supply bankA bankB s
  | .channelRelease => Sys2Proof.Machine.execChannelRelease s
  | .startUpEnd => Sys2Proof.Machine.execStartUpEnd s
  | .transport sid => Sys2Proof.Machine.execTransport sid s
  | .transportSleep => Sys2Proof.Machine.execTransportSleep s
  | .transportExit supply bankA bankB => Sys2Proof.Machine.execTransportExit supply bankA bankB s
  | .enterCommission sid => Sys2Proof.Machine.execEnterCommission sid s
  | .leaveCommission sid => Sys2Proof.Machine.execLeaveCommission sid s
  | .calibrate sid => Sys2Proof.Machine.execCalibrate sid s
  | .calibrationDue => Sys2Proof.Machine.execCalibrationDue s
  | .calDone failed => Sys2Proof.Machine.execCalDone failed s
  | .refresh sid => Sys2Proof.Machine.execRefresh sid s
  | .refreshDue => Sys2Proof.Machine.execRefreshDue s
  | .mramRefresh failed => Sys2Proof.Machine.execMramRefresh failed s
  | .recoveryPhaseEnd => Sys2Proof.Machine.execRecoveryPhaseEnd s
  | .loopReturnsToWindow lc current => Sys2Proof.Machine.execLoopReturnsToWindow lc current s
  | .armedCassetteRemoved k => Sys2Proof.Machine.execArmedCassetteRemoved k s
  | .pllRelock supply bankA bankB => Sys2Proof.Machine.execPllRelock supply bankA bankB s
  | .trainingPoll lc => Sys2Proof.Machine.execTrainingPoll lc s
  | .compensationPeriod n vaux => Sys2Proof.Machine.execCompensationPeriod n vaux s
  | .ethLinkChange eth up => Sys2Proof.Machine.execEthLinkChange eth up s
  | .canError upper tec rxc => Sys2Proof.Machine.execCanError upper tec rxc s
  | .busOffRecovery upper => Sys2Proof.Machine.execBusOffRecovery upper s
  | .rxErr eth => Sys2Proof.Machine.execRxErr eth s
  | .pdelayRespFollowUp eth dom id turnaround => Sys2Proof.Machine.execPdelayRespFollowUp eth dom id turnaround s
  | .managementMessage eth => Sys2Proof.Machine.execManagementMessage eth s

end Sys2Proof.Machine
end

