-- ==== Sys2Proof/Machine/Step.lean ====
section
/-! DEFINITION. One step: the command at the front of the queue, or, on an empty queue, one clk. -/

namespace Sys2Proof.Machine

/-- Take the command at the front of the queue and carry it out with the rest of the queue waiting. On an
empty queue time passes: one clk (R4, R291). DESIGN CHOICE, log 2. DESIGN CHOICE, log 92. -/
def step (s : State) : Host.Outcome State Fault Refusal :=
  match s.pending with
  | [] => .next { s with dev := s.dev.elapse 1 }
  | c :: rest => exec c { s with pending := rest }

/-- The state with the command a word spells in front of its queue. DESIGN CHOICE, log 4. -/
def State.withFetchWord (s : State) (nbits w : Nat) : State :=
  match decodeTableWord nbits w with
  | some c => { s with pending := c :: s.pending }
  | none => s

end Sys2Proof.Machine
end

