-- ==== Sys2Proof/Safety.lean ====
section
/-! DEFINITION. The terms the claims use: which commands are heard, what an answer is, and what a step
leaves as it was. -/

namespace Sys2Proof.Machine

/-- The parts of State beside the register fields: the MRAM copies, the clock and each structure of `Dev`.
The model's own count of free values is no part. -/
inductive Part where
  | mem | clk | out | topo | nv | pwr | load | net | rcd | lgr | time | cue | ports | phase | acq | est | lrn | lim
  | seq | thw | bal | chn | saf
  deriving DecidableEq, Repr

/-- That a part is the same in two states. -/
def Part.same (s t : State) : Part → Prop
  | .mem => t.mem = s.mem
  | .clk => t.dev.clk = s.dev.clk
  | .out => t.dev.out = s.dev.out
  | .topo => t.dev.topo = s.dev.topo
  | .nv => t.dev.nv = s.dev.nv
  | .pwr => t.dev.pwr = s.dev.pwr
  | .load => t.dev.load = s.dev.load
  | .net => t.dev.net = s.dev.net
  | .rcd => t.dev.rcd = s.dev.rcd
  | .lgr => t.dev.lgr = s.dev.lgr
  | .time => t.dev.time = s.dev.time
  | .cue => t.dev.cue = s.dev.cue
  | .ports => t.dev.ports = s.dev.ports
  | .phase => t.dev.phase = s.dev.phase
  | .acq => t.dev.acq = s.dev.acq
  | .est => t.dev.est = s.dev.est
  | .lrn => t.dev.lrn = s.dev.lrn
  | .lim => t.dev.lim = s.dev.lim
  | .seq => t.dev.seq = s.dev.seq
  | .thw => t.dev.thw = s.dev.thw
  | .bal => t.dev.bal = s.dev.bal
  | .chn => t.dev.chn = s.dev.chn
  | .saf => t.dev.saf = s.dev.saf

/-- Nothing changes but the register fields of `fs` and the parts of `ps`; the queue stays. -/
def Frame (fs : List Fld) (ps : List Part) (s t : State) : Prop :=
  t.pending = s.pending ∧ (∀ g : Fld, (∀ f ∈ fs, g.key ≠ f.key) → t.dev.rd g = s.dev.rd g) ∧
    ∀ p : Part, p ∉ ps → p.same s t

/-- Nothing changes but register fields of the pages of `pages` and the parts of `ps`; the queue stays. -/
def PageFrame (pages : List Nat) (ps : List Part) (s t : State) : Prop :=
  t.pending = s.pending ∧ (∀ g : Fld, g.lo < 32 → g.addr / 256 ∉ pages → t.dev.rd g = s.dev.rd g) ∧
    ∀ p : Part, p ∉ ps → p.same s t

/-- The session's commands are heard: it is open, and the module is awake with its supervisor running. -/
abbrev Heard (sid : Nat) (s : State) : Prop := s.dev.isOpened sid = true ∧ s.dev.alive = true

/-- A message of TYPE `typ` reaches the module for session `msg.session`: the supervisor runs, and the message
has the
form of R321 or R324. -/
abbrev Reaches (typ : Nat) (msg : RapMsg) (plain : List Byte) (s : State) : Prop :=
  s.dev.alive = true ∧ 1 ≤ msg.session.toNat ∧ msg.session.toNat ≤ 63 ∧
    s.dev.arrived typ msg.session.toNat msg = true ∧ plain.length ≤ payloadLimit msg.path

/-- The message comes on the session's path, sealed under the keys of its host, and its SEQ is new (R321,
R323). -/
abbrev Authentic (typ : Nat) (msg : RapMsg) (plain : List Byte) (s : State) : Prop :=
  (s.dev.sess msg.session.toNat).path = msg.path ∧
    msg.body = (s.dev.sess msg.session.toNat).sealed false typ msg.session.toNat plain.length msg.seq.toNat plain ∧
    s.dev.accepts msg.session.toNat msg.seq.toNat true = true

/-- Between steps every record has its SEQ: none is left over from the step before. -/
abbrev Settled (s : State) : Prop := s.dev.rcd.drafts = []

/-- The session gets the answer `w` and nothing else is sent; its idle timer restarts, `g` says what else of it
changes, and no other session does (R332, R336). -/
def Answered (sid : Nat) (w : Wr) (g : Sess → Sess) (s t : State) : Prop :=
  t.dev.out = .answer sid w.status w.code w.addr :: s.dev.out ∧
    t.dev.sess sid = { g (s.dev.sess sid) with heard := s.dev.clk } ∧ ∀ k, k ≠ sid → t.dev.sess k = s.dev.sess k

/-- The records of the step, in order, are those of `l`, created as the step began (R344, R345). -/
def Recorded (l : List (Kind × List Byte)) (s t : State) : Prop :=
  t.dev.rcd = (l.foldl (fun d x => d.record x.1 x.2) s.dev).commit.rcd

/-! ### Whole-machine terms -/

/-- The commands that may change the MRAM copies: register writes and the IMG page's commands, and what
carries them
on, switches, mirrors, and the starts that select a copy. -/
def writesMram : Instr → Bool
  | .registerWrite .. | .badCommand .. | .request .. | .openTrl .. | .openBed .. | .imgLoadWin .. | .verify ..
  | .loadAbort .. | .apply .. | .imageSwitch | .mirrorComplete | .bedSwitch | .startUp .. | .transportExit ..
  | .pllRelock .. => true
  | _ => false

/-- What holds between steps: every record has its SEQ, and the MRAM copies are in canonical form. -/
abbrev Inv (s : State) : Prop := Settled s ∧ s.mem.wf = true

/-- No two records that wait for MRAM bear the same SEQ, each queue is in SEQ order, and the next SEQ is above
them
all (R344, R350). -/
abbrev SeqOrdered (s : State) : Prop :=
  (s.dev.rcd.staging.Pairwise fun a b => a.seq < b.seq) ∧ (s.dev.rcd.urgent.Pairwise fun a b => a.seq < b.seq) ∧
    (∀ a ∈ s.dev.rcd.urgent, ∀ b ∈ s.dev.rcd.staging, a.seq ≠ b.seq) ∧
    ∀ x ∈ s.dev.rcd.urgent ++ s.dev.rcd.staging, x.seq < s.dev.rcd.next

/-- Bit `b` of a register belongs to none of its fields. -/
abbrev Reserved (l : List Fld) (b : Nat) : Prop := ∀ f ∈ l, b < f.lo ∨ f.lo + f.wid ≤ b

/-- The words of wide values that a session keeps (R10) have their reserved bits 0. -/
def KeptWords (sid : Nat) (s : State) : Prop :=
  ∀ a l b w, regFields a = some l → Reserved l b → look (s.dev.sess sid).snaps a = some w → w.testBit b = false

end Sys2Proof.Machine
end

