-- ==== Sys2Proof/WellFormed.lean ====
section
/-! DEFINITION. What makes a command well formed beyond its types: a session that sends one has an ID from 1 up
(R321), a list is as long as the frame, the message or the scan that carries it says, and a bed has an ID from 1 up
(R57). -/

namespace Sys2Proof

/-- A CELLS frame carries 24 codes and a TEMPS frame 16 (R72), a scan of the internal points 12 temperatures (R204), a
shed 32 channel currents (R248), a CAN fragment 1 to 56 bytes of a message of at most seven (R324), a REQUEST 1 to 64
operations (R330), an ARP request an IPv4 address and a neighbour solicitation an IPv6 one (R318), a torn write unit
is a record or a checkpoint (R353, R357), and a refresh fails at most the units there are (R380). -/
def Instr.wf : Instr → Bool
  | .registerWrite sid _ _ => 1 ≤ sid.val
  | .rcRead sid _ => 1 ≤ sid.val
  | .wideValueRead sid _ => 1 ≤ sid.val
  | .badCommand sid _ _ => 1 ≤ sid.val
  | .eccError _ _ => true
  | .scrubPass => true
  | .clockCheck _ => true
  | .clockFail => true
  | .functionStateChange _ => true
  | .take sid _ => 1 ≤ sid.val
  | .release sid _ => 1 ≤ sid.val
  | .stopFunc sid _ => 1 ≤ sid.val
  | .startFunc sid _ => 1 ≤ sid.val
  | .openTrl sid => 1 ≤ sid.val
  | .openBed sid => 1 ≤ sid.val
  | .imgLoadWin sid _ _ => 1 ≤ sid.val
  | .verify sid => 1 ≤ sid.val
  | .verifyComplete => true
  | .apply sid _ => 1 ≤ sid.val
  | .loadAbort sid => 1 ≤ sid.val
  | .imageSwitch => true
  | .mirrorComplete => true
  | .bedSwitch => true
  | .bedResumption bed => 1 ≤ bed.val
  | .bedPauseExpired => true
  | .strobe => true
  | .cellsFrame _ _ _ codes _ => codes.length = 24
  | .stringFrame _ _ _ _ _ _ _ _ => true
  | .tempsFrame _ _ _ codes _ _ _ => codes.length = 16
  | .readResp _ _ _ _ _ => true
  | .writeAck _ _ _ _ => true
  | .statusFrame _ _ _ _ => true
  | .nack _ _ _ _ _ => true
  | .echo _ _ => true
  | .delayProbe _ => true
  | .frameDeadline _ => true
  | .commandRetry _ => true
  | .pollTimeout _ => true
  | .trainingTimeout _ => true
  | .missingTimeout _ => true
  | .retrain _ => true
  | .companionPoll => true
  | .arm sid _ => 1 ≤ sid.val
  | .disarm sid => 1 ≤ sid.val
  | .presStable _ => true
  | .cassetteRemoved _ => true
  | .loopLeavesWindow _ _ => true
  | .loopDebounceExpiry _ => true
  | .loopMarginal _ _ => true
  | .sweepBoundary => true
  | .sweepAbandoned => true
  | .sweepEnd => true
  | .linkLoss _ => true
  | .mainsCrossing _ => true
  | .zcTimestamp sid _ => 1 ≤ sid.val
  | .sourceLost => true
  | .estPublish => true
  | .dischargeStateChange _ => true
  | .voltEmpty _ => true
  | .restQualified _ => true
  | .impedanceAged _ _ => true
  | .probeRequest _ => true
  | .snapshot sid => 1 ≤ sid.val
  | .snapshotCopyDone => true
  | .lrnRelease sid => 1 ≤ sid.val
  | .openStage sid => 1 ≤ sid.val
  | .lrnWinWrite sid _ _ => 1 ≤ sid.val
  | .lrnCommit sid _ => 1 ≤ sid.val
  | .lrnAbort sid => 1 ≤ sid.val
  | .restoreSwap => true
  | .captest sid _ => 1 ≤ sid.val
  | .captestCancel sid _ => 1 ≤ sid.val
  | .captestSpanExpired _ => true
  | .declareNew sid _ => 1 ≤ sid.val
  | .blockReplaced _ => true
  | .newBlockHoldEnd _ => true
  | .limitPublication => true
  | .hardRequest _ => true
  | .limEscalate _ => true
  | .ladderStep => true
  | .supplyPrune => true
  | .closeStrings sid _ => 1 ≤ sid.val
  | .openStrings sid _ => 1 ≤ sid.val
  | .openBank sid => 1 ≤ sid.val
  | .lockout sid _ => 1 ≤ sid.val
  | .unlock sid _ => 1 ≤ sid.val
  | .clearLatch sid _ => 1 ≤ sid.val
  | .resetWear sid _ => 1 ≤ sid.val
  | .cancelJoin sid _ => 1 ≤ sid.val
  | .seqShed sid _ => 1 ≤ sid.val
  | .auxChange _ _ => true
  | .contactorNoClose _ => true
  | .weldVerdict _ _ => true
  | .weldUnisolated _ => true
  | .negWeldWatchEnd _ => true
  | .fitWaived _ => true
  | .t90Timeout _ => true
  | .matchTimeout _ => true
  | .overlapEnd _ => true
  | .busSettled => true
  | .bankSettleTimeout => true
  | .coolEnd _ => true
  | .joinTimeout _ => true
  | .orderWaitEnd _ => true
  | .breakWaitExpired _ => true
  | .currentLowQualified _ => true
  | .negCoilDelayEnd _ => true
  | .bnegDelayEnd => true
  | .recloseHoldEnd _ => true
  | .tripPulseEnd => true
  | .zoneEvaluation => true
  | .internalPointReading temps => temps.length = 12
  | .pointStaleFailed _ => true
  | .fastModeEnd _ => true
  | .rateHighEnd _ => true
  | .holdEnd _ => true
  | .thermalLatchClear => true
  | .force sid _ => 1 ≤ sid.val
  | .unforce sid _ => 1 ≤ sid.val
  | .forceExpiry _ => true
  | .balTest sid _ _ => 1 ≤ sid.val
  | .testAll sid => 1 ≤ sid.val
  | .testPassDue => true
  | .chnSet sid _ => 1 ≤ sid.val
  | .chnClr sid _ => 1 ≤ sid.val
  | .chnFclr sid _ => 1 ≤ sid.val
  | .inrushWindowEnd _ => true
  | .chnShort _ => true
  | .chnOverload _ => true
  | .chnOpenLoad _ => true
  | .otShedStep _ _ _ _ currents => currents.length = 32
  | .groupOtComparator _ _ => true
  | .groupCooled _ => true
  | .totalShed _ => true
  | .totalShedReturn => true
  | .restoreStagger => true
  | .pwminEdge _ _ => true
  | .envSensorPoll _ _ _ => true
  | .envSensorTimeout => true
  | .shuntContinuityCheck _ => true
  | .lockstep => true
  | .watchdog => true
  | .reclaim => true
  | .holdThroughExpired => true
  | .loadDump => true
  | .groundLoss => true
  | .safetyInputChange _ _ _ => true
  | .inputChannelFiltered _ _ => true
  | .discrepancy _ => true
  | .sdrComparatorWrite _ => true
  | .resetPairChange _ _ _ _ _ => true
  | .levelReset => true
  | .resetStuck => true
  | .resetStuckClear => true
  | .resetSelftestDone _ => true
  | .crossCompare _ _ _ => true
  | .hbLost => true
  | .curtainSelftest _ => true
  | .supSelftest _ => true
  | .gateReadback _ => true
  | .curtainTemp => true
  | .degradedSlcCap => true
  | .degradeTimeout => true
  | .recoveryTimeEnd => true
  | .shuntStuck => true
  | .shuntGateRearm => true
  | .proofTest sid _ => 1 ≤ sid.val
  | .proofTestDone _ _ => true
  | .proofDue => true
  | .sync _ _ _ _ _ _ => true
  | .followUp _ _ _ _ _ => true
  | .announce _ _ => true
  | .delayReq _ _ _ _ => true
  | .delayResp _ _ _ _ _ => true
  | .pdelayReq _ _ _ => true
  | .pdelayResp _ _ _ _ _ => true
  | .ptpTransmit _ _ => true
  | .masterLost _ => true
  | .timeStep sid _ => 1 ≤ sid.val
  | .resync sid _ => 1 ≤ sid.val
  | .timeIncr sid _ _ => 1 ≤ sid.val
  | .cueWrite sid _ => 1 ≤ sid.val
  | .cueRead sid _ => 1 ≤ sid.val
  | .cueDelete sid _ => 1 ≤ sid.val
  | .capClear sid => 1 ≤ sid.val
  | .loadSlot sid _ _ _ => 1 ≤ sid.val
  | .clearSlot sid _ _ => 1 ≤ sid.val
  | .cueCommit _ => true
  | .cueTrigger _ => true
  | .cueWindowEnd _ => true
  | .cueLate _ _ => true
  | .arp _ addr => addr.length = 4
  | .neighbourDiscovery _ addr => addr.length = 16
  | .icmpEcho _ addr => addr.length = 4 || addr.length = 16
  | .rxDrop _ => true
  | .canFragment _ _ _ index count _ bytes => 1 ≤ bytes.length && decide (bytes.length ≤ 56) && decide (index.val ≤ 6) && decide (1 ≤ count.val)
  | .fragmentTimeout _ _ => true
  | .hello _ _ _ _ => true
  | .finish sid _ _ => 1 ≤ sid.val
  | .establishTimeout sid => 1 ≤ sid.val
  | .request _ _ _ _ _ plan => 1 ≤ plan.ops.length && decide (plan.ops.length ≤ 64)
  | .rapClose _ _ _ => true
  | .keepalive _ _ _ => true
  | .idleTimeout sid => 1 ≤ sid.val
  | .recordWrite _ => true
  | .recStagingOverflow => true
  | .mainRewrite _ => true
  | .readSeq sid => 1 ≤ sid.val
  | .readRaw sid _ _ => 1 ≤ sid.val
  | .ledgerStore => true
  | .checkpointDue => true
  | .checkpointWritten _ => true
  | .readCp sid => 1 ≤ sid.val
  | .pruneEnter _ => true
  | .pruneExit _ => true
  | .auxInputLost _ => true
  | .auxInputRestored _ => true
  | .auxReversed _ => true
  | .auxReverseClear _ => true
  | .holdupStart => true
  | .holdupEnd => true
  | .holdCharged _ => true
  | .holdLow => true
  | .brownOut torn => torn.all fun l => l.length = 64 || l.length = 96
  | .startUp _ _ _ => true
  | .channelRelease => true
  | .startUpEnd => true
  | .transport sid => 1 ≤ sid.val
  | .transportSleep => true
  | .transportExit _ _ _ => true
  | .enterCommission sid => 1 ≤ sid.val
  | .leaveCommission sid => 1 ≤ sid.val
  | .calibrate sid => 1 ≤ sid.val
  | .calibrationDue => true
  | .calDone _ => true
  | .refresh sid => 1 ≤ sid.val
  | .refreshDue => true
  | .mramRefresh failed => failed ≤ 131072
  | .recoveryPhaseEnd => true
  | .loopReturnsToWindow _ _ => true
  | .armedCassetteRemoved _ => true
  | .pllRelock _ _ _ => true
  | .trainingPoll _ => true
  | .compensationPeriod _ _ => true
  | .ethLinkChange _ _ => true
  | .canError _ _ _ => true
  | .busOffRecovery _ => true
  | .rxErr _ => true
  | .pdelayRespFollowUp _ _ _ _ => true
  | .managementMessage _ => true

end Sys2Proof
end

