-- ==== Sys2Proof/Certificates/Slice0/Obligations.lean ====
section
/-! DEFINITION. The statements for the provers. Each docstring gives what the statement says, the rules of spec/ it
rests on, and the entries of the assumption log (notes/assumptions) whose choices or readings it takes in: those are the
model's, not the spec's. -/

set_option linter.unusedVariables false

open Sys2Proof Sys2Proof.Machine

/-- TAKE gives a session the stewardship of a function, RELEASE ends it. TAKE by a heard session of a function that has no
steward, that its role may take (R329) and its key grants (R325), makes the session steward; RELEASE by the steward
leaves the function without one. Each is answered OK, SESS_RESULT reads NONE with the function, and nothing else
changes. Derived from R329, R334. The model's choices and readings it takes in: log entry 94. -/
def Obligations.StewardshipIsTakenAndReleased : Prop :=
  (∀ (sid : Sid) (f : Func) (s : State),
    Heard sid.val s →
    Settled s →
    s.dev.steward f = 0 →
    roleTakes (s.dev.sess sid.val).role f = true →
    keyTakes s.mem (s.dev.sess sid.val).key f = true →
    (takers f sid.val s.pending).any (s.dev.mayTake s.mem f) = false →
    ∃ t, exec (.take sid f) s = .next t ∧
      t.dev.steward f = sid.val ∧
      Answered sid.val wrOk (fun x => { x with result := f.num * 2 ^ 20 }) s t ∧
      Frame [SESS_FUNC.STEWARD f.num] [.net, .out] s t) ∧
  (∀ (sid : Sid) (f : Func) (s : State),
    Heard sid.val s →
    Settled s →
    s.dev.steward f = 0 →
    roleTakes (s.dev.sess sid.val).role f = true →
    keyTakes s.mem (s.dev.sess sid.val).key f = true →
    (takers f sid.val s.pending).any (s.dev.mayTake s.mem f) = true →
    ∃ t, exec (.take sid f) s = .next t ∧
      Answered sid.val (wrRefused sessHeld SESS_CTRL.CMD.addr) (fun x => { x with result := sessHeld * 2 ^ 24 + f.num * 2 ^ 20 }) s t ∧
      Frame [] [.net, .out] s t) ∧
  (∀ (sid : Sid) (f : Func) (s : State),
    Heard sid.val s →
    Settled s →
    s.dev.isSteward sid.val f = true →
    ∃ t, exec (.release sid f) s = .next t ∧
      t.dev.steward f = 0 ∧
      Answered sid.val wrOk (fun x => { x with result := f.num * 2 ^ 20 }) s t ∧
      Frame [SESS_FUNC.STEWARD f.num] [.net, .out] s t)

/-- STOP and START make a function pending; the state change completes them. STOP by the steward of a function in RUN that
may stop (R22, R23), with every string open if it is ACQ (R24), sets STOP_PENDING. START by the steward of a STOPPED
function other than SAF whose registers validate (R26) and whose dependencies run (R27) sets START_PENDING.
FUNCTION_STATE_CHANGE at strobe 0 makes STOP_PENDING STOPPED, and START_PENDING RUN, and clears the IDLE flag. Derived
from R22, R23, R25, R26, R27. The model's choices and readings it takes in: log entries 25, 90. -/
def Obligations.StopAndStartAreAcceptedThenTakeEffect : Prop :=
  (∀ (sid : Sid) (f : Func) (s : State),
    Heard sid.val s →
    Settled s →
    s.dev.isSteward sid.val f = true →
    s.dev.fnState f.num = 1 →
    (f = .saf ∨ f = .recorder → s.dev.mode s.mem = .commission) →
    (stopNeedsOpen f = true → s.dev.allOpen = true) →
    (f = .acq → s.dev.allOpen = true ∧ s.dev.bankClosing = false) →
    ∃ t, exec (.stopFunc sid f) s = .next t ∧
      t.dev.fnState f.num = 2 ∧
      Answered sid.val wrOk (fun x => { x with result := f.num * 2 ^ 20 }) s t ∧
      Frame [SESS_FUNC.STATE f.num] [.net, .out] s t) ∧
  (∀ (sid : Sid) (f : Func) (s : State),
    Heard sid.val s →
    Settled s →
    s.dev.isSteward sid.val f = true →
    s.dev.fnState f.num = 0 →
    f ≠ .saf →
    s.dev.validateNow s.mem f = none →
    s.dev.depsRun f = true →
    ∃ t, exec (.startFunc sid f) s = .next t ∧
      t.dev.fnState f.num = 3 ∧
      Answered sid.val wrOk (fun x => { x with result := f.num * 2 ^ 20 }) s t ∧
      Frame [SESS_FUNC.STATE f.num] [.net, .out] s t)

/-- HELLO is answered with CHALLENGE and a confirmed FINISH opens the session. A HELLO that has arrived and that no row of
R328 refuses takes the lowest free session ID for an establishment, which holds both payloads and a fresh ephemeral
key, and is answered with CHALLENGE. A FINISH of an establishment with SEQ 0, whose body is TH sealed under the host's
derived key (R326, R327) and that no row of R328 refuses, opens the session, keeps the keys and drops the ephemeral
key, is answered with ACCEPT, starts the sequence numbers (R323) and creates a SESSION_OPENED record. An establishment
of a known key without FINISH for 2 s is rejected with TIMEOUT, counted and recorded, and its ID is free again. The
nonce and the ephemeral key are free values (log 6). Derived from R326, R327, R328. The model's choices and readings
it takes in: log entries 12, 13, 26, 27, 104. -/
def Obligations.HelloAndFinishOpenASession : Prop :=
  (∀ (msg : RapMsg) (roles paths top idle k : Nat) (r : Role) (s : State),
    Settled s →
    s.dev.rapOn s.mem msg.path = true →
    s.dev.arrived rapHello 0 msg = true →
    helloFormed msg.body = true →
    keyRights s.mem (helloKey msg.body) = some (roles, paths, top, idle) →
    Role.ofNum (helloRole msg.body) = some r →
    roles.testBit (helloRole msg.body) = true →
    paths.testBit msg.path.num = true →
    s.dev.openUnder (helloKey msg.body) < top →
    s.dev.pruneFull = false →
    s.dev.freeSid = some k →
    s.dev.establishing.length < 4 →
    (2 ≤ msg.path.num → (s.dev.establishing.any fun j => (s.dev.sess j).path = msg.path) = false) →
    ∃ t, exec (.hello msg.path msg.toRapHead msg.seq msg.body) s = .next t ∧
      t.dev.sess k = { Sess.free with
        life := .establishing, key := helloKey msg.body, role := r, path := msg.path, idle := idle, heard := s.dev.clk
        base := rapBase s.mem msg.path, hello := msg.body, challenge := challengeOf (leBytes 16 (Config.freeNat s.dev.free))
          (leBytes 32 (Config.freeNat (s.dev.free + 1))) idle
        eph := (leBytes 32 (Config.freeNat (s.dev.free + 1))) } ∧
      (∀ j, j ≠ k → t.dev.sess j = s.dev.sess j) ∧
      t.dev.out = (s.dev.sendRap msg.path (rapBase s.mem msg.path) 0 rapChallenge k 148 0
      (challengeOf (leBytes 16 (Config.freeNat s.dev.free)) (leBytes 32 (Config.freeNat (s.dev.free + 1))) idle)).out ∧
      Frame [] [.net, .out] s t) ∧
  (∀ (sid : Sid) (msg : RapMsg) (roles paths top idle : Nat) (s : State),
    Settled s →
    s.dev.alive = true →
    (s.dev.sess sid.val).life = .establishing →
    (s.dev.sess sid.val).path = msg.path →
    s.dev.arrived rapFinish sid.val msg = true →
    msg.seq = 0 →
    msg.body = Sess.sealed ((s.dev.sess sid.val).keyed s.mem sid.val) false rapFinish 0 32 0
        ((s.dev.sess sid.val).th sid.val) →
    keyRights s.mem (s.dev.sess sid.val).key = some (roles, paths, top, idle) →
    roles.testBit (s.dev.sess sid.val).role.num = true →
    paths.testBit (s.dev.sess sid.val).path.num = true →
    s.dev.openUnder (s.dev.sess sid.val).key < top →
    s.dev.pruneFull = false →
    s.dev.pathIdle (s.dev.sess sid.val).path = false →
    ∃ t, exec (.finish sid msg.path msg.toRapGram) s = .next t ∧
      t.dev.sess sid.val = Sess.opening s.dev.clk ((s.dev.sess sid.val).keyed s.mem sid.val) ∧
      (∀ j, j ≠ sid.val → t.dev.sess j = s.dev.sess j) ∧
      t.dev.out = (s.dev.sendRap msg.path (s.dev.sess sid.val).base 0 rapAccept 0 36 0
      (Sess.sealed ((s.dev.sess sid.val).keyed s.mem sid.val) true rapAccept 0 36 0
        (acceptOf sid.val (s.dev.sess sid.val)))).out ∧
      Recorded [(recSessionOpened, leBytes 1 sid.val ++ leBytes 2 (s.dev.sess sid.val).key ++
        leBytes 1 (s.dev.sess sid.val).role.num ++ leBytes 1 (s.dev.sess sid.val).path.num)] s t ∧
      Frame [] [.net, .out, .rcd] s t) ∧
  (∀ (sid : Sid) (s : State),
    s.dev.alive = true →
    (s.dev.sess sid.val).life = .establishing →
    (keyRights s.mem (s.dev.sess sid.val).key).isSome = true →
    ∃ t, exec (.establishTimeout sid) s = .next t ∧
      t.dev.sess sid.val = .free ∧
      (∀ j, j ≠ sid.val → t.dev.sess j = s.dev.sess j) ∧
      t.dev.out = (s.dev.sendRap (s.dev.sess sid.val).path (rapBase s.mem (s.dev.sess sid.val).path) 0 rapReject 0 1 0 (leBytes 1 10)).out ∧
      t.dev.rd SESS_CNT.REJECTED = min (s.dev.rd SESS_CNT.REJECTED + 1) 65535 ∧
      Recorded [(recSessionRejected, leBytes 2 (s.dev.sess sid.val).key ++ leBytes 1 10)] s t ∧
      Frame [SESS_CNT.REJECTED] [.net, .out, .rcd] s t)

/-- KEEPALIVE of an open session, and messages that are not accepted. An authentic KEEPALIVE, sealed under the keys of its
session with a new SEQ, is accepted (R323): its SEQ is taken, the idle timer restarts and it is answered with
KEEPALIVE under the next SEQ. A KEEPALIVE or CLOSE that reaches the module but whose SEQ is not new, whose payload
does not open or whose session is not open is discarded and counted in AUTH_FAIL. Derived from R323, R336. The model's
choices and readings it takes in: log entries 26, 104. -/
def Obligations.AcceptedMessagesOfASession : Prop :=
  (∀ (msg : RapMsg) (plain : List Byte) (s : State),
    Settled s →
    Reaches rapKeepalive msg plain s →
    Authentic rapKeepalive msg plain s →
    ∃ t, exec (.keepalive msg.path msg.toRapGram plain) s = .next t ∧
      t.dev.sess msg.session.toNat = { (s.dev.accepted msg.session.toNat msg.seq.toNat).sess msg.session.toNat with tx := (s.dev.sess msg.session.toNat).tx + 1 } ∧
      (t.dev.sess msg.session.toNat).heard = s.dev.clk ∧
      (t.dev.sess msg.session.toNat).rxTop = max (s.dev.sess msg.session.toNat).rxTop msg.seq.toNat ∧
      msg.seq.toNat ∈ (t.dev.sess msg.session.toNat).rxSeen ∧
      (∀ j, j ≠ msg.session.toNat → t.dev.sess j = s.dev.sess j) ∧
      t.dev.out = (s.dev.sendSealed (s.dev.sess msg.session.toNat) msg.session.toNat rapKeepalive (s.dev.sess msg.session.toNat).tx []).out ∧
      Frame [] [.net, .out] s t) ∧
  (∀ (msg : RapMsg) (plain : List Byte) (s : State), Settled s →
    (Reaches rapKeepalive msg plain s →
      s.dev.accepts msg.session.toNat msg.seq.toNat
        ((s.dev.sess msg.session.toNat).opens rapKeepalive msg.session.toNat msg plain) = false →
      ∃ t, exec (.keepalive msg.path msg.toRapGram plain) s = .next t ∧
        t.dev.rd SESS_CNT.AUTH_FAIL = min (s.dev.rd SESS_CNT.AUTH_FAIL + 1) 65535 ∧
        (∀ k, t.dev.sess k = s.dev.sess k) ∧ Frame [SESS_CNT.AUTH_FAIL] [.net] s t) ∧
    (Reaches rapClose msg plain s →
      s.dev.accepts msg.session.toNat msg.seq.toNat
        ((s.dev.sess msg.session.toNat).opens rapClose msg.session.toNat msg plain) = false →
      ∃ t, exec (.rapClose msg.path msg.toRapGram plain) s = .next t ∧
        t.dev.rd SESS_CNT.AUTH_FAIL = min (s.dev.rd SESS_CNT.AUTH_FAIL + 1) 65535 ∧
        (∀ k, t.dev.sess k = s.dev.sess k) ∧ Frame [SESS_CNT.AUTH_FAIL] [.net] s t))

/-- A session that closes holds no stewardship, load context or learning buffer. An authentic CLOSE of the host (R336) and
the idle timeout close an open session: its ID is free, it is steward of no function, it owns neither the load context
nor the learning buffer, and no other session changes. Derived from R335, R336. The model's choices and readings it
takes in: log entry 27. -/
def Obligations.ClosedSessionHoldsNothing : Prop :=
  (∀ (msg : RapMsg) (plain : List Byte) (s : State),
    Reaches rapClose msg plain s →
    Authentic rapClose msg plain s →
    ∃ t, exec (.rapClose msg.path msg.toRapGram plain) s = .next t ∧
      t.dev.sess msg.session.toNat = .free ∧
      (∀ j, j ≠ msg.session.toNat → t.dev.sess j = s.dev.sess j) ∧
      (∀ f, t.dev.isSteward msg.session.toNat f = false) ∧
      t.dev.rd IMG_LOAD_STATUS.OWNER ≠ msg.session.toNat ∧
      t.dev.lrnOwner ≠ msg.session.toNat ∧
      Frame ((List.range 15).map SESS_FUNC.STEWARD ++ [IMG_LOAD_STATUS.OWNER, IMG_LOAD_STATUS.STATE, LRN_STATUS.STATE,
        LRN_STATUS.OWNER, LRN_STATUS.REASON, LRN_STATUS.RESTORE_INCOMPLETE]) [.net, .out, .lrn, .rcd] s t) ∧
  (∀ (sid : Sid) (s : State),
    sid.val ≠ 0 →
    s.dev.alive = true →
    s.dev.isOpened sid.val = true →
    ∃ t, exec (.idleTimeout sid) s = .next t ∧
      t.dev.sess sid.val = .free ∧
      (∀ j, j ≠ sid.val → t.dev.sess j = s.dev.sess j) ∧
      (∀ f, t.dev.isSteward sid.val f = false) ∧
      t.dev.rd IMG_LOAD_STATUS.OWNER ≠ sid.val ∧
      t.dev.lrnOwner ≠ sid.val ∧
      Frame ((List.range 15).map SESS_FUNC.STEWARD ++ [IMG_LOAD_STATUS.OWNER, IMG_LOAD_STATUS.STATE, LRN_STATUS.STATE,
        LRN_STATUS.OWNER, LRN_STATUS.REASON, LRN_STATUS.RESTORE_INCOMPLETE]) [.net, .out, .lrn, .rcd] s t)

/-- What a write of an unmapped or unwritable address, or of a register of another steward, does. A write of an address
that no page of R396 maps is answered BAD_ADDRESS; a write of a register whose fields are all read-only or clear-on-
read, or of a reserved address of a mapped page, is answered ACCESS_DENIED; a write of a register that a function owns
by a session that is neither its steward nor granted the register by role (R329) is answered NOT_STEWARD with the
function number, and one of an RWS register of a function that is not STOPPED is answered FUNC_RUNNING. In every case
no register and no other state changes. Derived from R6, R7, R332, R396, R397. The model's choices and readings it
takes in: log entries 11, 18, 19, 20. -/
def Obligations.WritesAnAddressRefuses : Prop :=
  (∀ (sid : Sid) (addr : BitVec 16) (value : Word) (s : State),
    Heard sid.val s →
    Settled s →
    s.dev.pwr.leaving = false →
    regFields addr.toNat = none →
    ∃ t, exec (.registerWrite sid addr value) s = .next t ∧
      Answered sid.val (wrBadAddress addr.toNat) id s t ∧
      Frame [] [.net, .out] s t) ∧
  (∀ (sid : Sid) (addr : BitVec 16) (value : Word) (l : List Fld) (s : State),
    Heard sid.val s →
    Settled s →
    s.dev.pwr.leaving = false →
    regFields addr.toNat = some l →
    (∀ f ∈ l, f.acc = .ro ∨ f.acc = .rc) →
    ∃ t, exec (.registerWrite sid addr value) s = .next t ∧
      Answered sid.val (wrDenied addr.toNat) id s t ∧
      Frame [] [.net, .out] s t) ∧
  (∀ (sid : Sid) (addr : BitVec 16) (value : Word) (l : List Fld) (f : Func) (s : State),
    Heard sid.val s →
    Settled s →
    s.dev.pwr.leaving = false →
    regFields addr.toNat = some l →
    writable l = true →
    regOwner addr.toNat = some f →
    addr.toNat ∉ [LRN_WIN_BASE.PAGE.addr, SAF_CTRL.CMD.addr, PWR_CTRL.CMD.addr] →
    s.dev.isSteward sid.val f = false →
    roleGranted (s.dev.sess sid.val).role addr.toNat = false →
    (s.dev.sess sid.val).key ≠ 0 →
    (addr.toNat = SEQ_CTRL.CMD.addr → SEQ_CTRL.CMD.of value.toNat ≠ 6 ∧ SEQ_CTRL.CMD.of value.toNat ≠ 7) →
    ∃ t, exec (.registerWrite sid addr value) s = .next t ∧
      Answered sid.val (wrNotSteward f addr.toNat) id s t ∧
      Frame [] [.net, .out] s t) ∧
  (∀ (sid : Sid) (addr : BitVec 16) (value : Word) (l : List Fld) (f : Func) (s : State),
    Heard sid.val s →
    Settled s →
    s.dev.pwr.leaving = false →
    regFields addr.toNat = some l →
    regOwner addr.toNat = some f →
    (∃ x ∈ l, x.acc = .rws) →
    s.dev.fnState f.num ≠ 0 →
    s.dev.isSteward sid.val f = true →
    ∃ t, exec (.registerWrite sid addr value) s = .next t ∧
      Answered sid.val (wrRunning f addr.toNat) id s t ∧
      Frame [] [.net, .out] s t)

/-- A plain register write stores the written bits in the register alone. A write, by the steward of its function, of a
register on the EST, THW, SAF or NET pages, all of which are plain storage, stores in each RW or RWS field the bits of
the word at its place, clears each W1C flag whose bit is written 1, and changes no other register and nothing else
(R6, R8), where no session of a higher ID has written the register in the same clk. Where one has, a write of a
register without W1C, RC and command fields is answered OK and the register keeps the value of the higher session
(R11, R338; log 94). Derived from R6, R8. The model's choices and readings it takes in: log entries 11, 18, 20, 94. -/
def Obligations.PlainWritesStore : Prop :=
  (∀ (sid : Sid) (addr : BitVec 16) (value : Word) (l : List Fld) (f : Func) (s : State),
    Heard sid.val s →
    Settled s →
    s.dev.pwr.leaving = false →
    regFields addr.toNat = some l →
    regOwner addr.toNat = some f →
    addr.toNat / 256 ∈ [5, 7, 9, 11] →
    writable l = true →
    (l.any (fun x => x.acc = .rws) = true → s.dev.fnState f.num = 0) →
    s.dev.isSteward sid.val f = true →
    s.dev.overruled sid.val addr.toNat = false →
    ∃ t, exec (.registerWrite sid addr value) s = .next t ∧
      (∀ x ∈ l, x.acc = .rw ∨ x.acc = .rws → t.dev.rd x = x.of value.toNat) ∧
      (∀ x ∈ l, x.acc = .w1c → ∀ k < x.wid, (t.dev.rd x).testBit k = ((s.dev.rd x).testBit k && !(x.of value.toNat).testBit k)) ∧
      Answered sid.val wrOk id s t ∧
      Frame (l.filter fun x => x.acc = .rw || x.acc = .rws || x.acc = .w1c) [.net, .out] s t) ∧
  (∀ (sid : Sid) (addr : BitVec 16) (value : Word) (l : List Fld) (f : Func) (s : State),
    Heard sid.val s →
    Settled s →
    s.dev.pwr.leaving = false →
    regFields addr.toNat = some l →
    regOwner addr.toNat = some f →
    addr.toNat / 256 ∈ [5, 7, 9, 11] →
    writable l = true →
    (l.any (fun x => x.acc = .rws) = true → s.dev.fnState f.num = 0) →
    s.dev.isSteward sid.val f = true →
    sharedValue addr.toNat l = true →
    s.dev.overruled sid.val addr.toNat = true →
    ∃ t, exec (.registerWrite sid addr value) s = .next t ∧
      Answered sid.val wrOk id s t ∧
      Frame [] [.net, .out] s t)

/-- A read of an RC register clears it; a read of the lowest word of a wide value takes its snapshot. A read of an RC
register answers its value and leaves every RC field of it 0. A read of the lowest address of a value wider than 32
bits answers that word and keeps the upper words as they read now in the session; a later read of an upper word
answers the word kept (R10). A read of an unmapped address is answered BAD_ADDRESS. Derived from R6, R10, R332. The
model's choices and readings it takes in: log entries 3, 14, 17. -/
def Obligations.ReadsOfClearingAndWideRegisters : Prop :=
  (∀ (sid : Sid) (addr : BitVec 16) (l : List Fld) (s : State),
    Heard sid.val s →
    Settled s →
    regFields addr.toNat = some l →
    wideOf addr.toNat = none →
    measured addr.toNat = false →
    addr.toNat ≠ 0x1404 →
    ∃ t, exec (.rcRead sid addr) s = .next t ∧
      t.dev.out = .value sid.val addr.toNat (BitVec.ofNat 32 (s.dev.word s.mem sid.val addr.toNat 0)) :: s.dev.out ∧
      (∀ x ∈ l, x.acc = .rc → t.dev.rd x = 0) ∧
      Frame (l.filter fun x => x.acc = .rc) [.net, .out] s t) ∧
  (∀ (sid : Sid) (s : State),
    Heard sid.val s →
    Settled s →
    ∃ t, exec (.rcRead sid 0x1404) s = .next t ∧
      t.dev.out = .value sid.val 0x1404 (BitVec.ofNat 32 (s.dev.word s.mem sid.val 0x1404 0)) :: s.dev.out ∧
      t.dev.rcd = { s.dev.rcd with stageLost := 0 } ∧
      Frame (REC_CNT.fields.filter fun x => x.acc = .rc) [.net, .out, .rcd] s t) ∧
  (∀ (sid : Sid) (addr : BitVec 16) (n : Nat) (l : List Fld) (s : State),
    Heard sid.val s →
    Settled s →
    regFields addr.toNat = some l →
    wideOf addr.toNat = some (addr.toNat, n) →
    measured addr.toNat = false →
    ∃ t, exec (.wideValueRead sid addr) s = .next t ∧
      t.dev.out = .value sid.val addr.toNat (BitVec.ofNat 32 (s.dev.word s.mem sid.val addr.toNat 0)) :: s.dev.out ∧
      (∀ j, 1 ≤ j → j < n → look (t.dev.sess sid.val).snaps (addr.toNat + j) = some (s.dev.word s.mem sid.val (addr.toNat + j) 0)) ∧
      Frame [] [.net, .out] s t) ∧
  (∀ (sid : Sid) (addr : BitVec 16) (low n v : Nat) (l : List Fld) (s : State),
    Heard sid.val s →
    Settled s →
    regFields addr.toNat = some l →
    wideOf addr.toNat = some (low, n) →
    addr.toNat ≠ low →
    measured addr.toNat = false →
    look (s.dev.sess sid.val).snaps addr.toNat = some v →
    ∃ t, exec (.wideValueRead sid addr) s = .next t ∧
      t.dev.out = .value sid.val addr.toNat (BitVec.ofNat 32 v) :: s.dev.out ∧
      Frame [] [.net, .out] s t)

/-- An unlisted CMD value of a command register is refused with BAD_COMMAND. A write to PORT_SWAP_CTRL, LRN_CTRL,
SEQ_CTRL, BAL_CTRL, CUE_CTRL or CUE_FQ_CTRL by the steward of its function with a CMD value that its field table does
not list is answered REFUSED with BAD_COMMAND 0xFF; the REASON field that holds its last refusal reads 0xFF, and
nothing else changes. Derived from R417. The model's choices and readings it takes in: log entries 11, 20, 21. -/
def Obligations.UnlistedCommandsAreRefused : Prop :=
  ∀ (sid : Sid) (addr : BitVec 16) (value : Word) (f : Func) (cmd reason : Fld) (top : Nat) (s : State),
    Heard sid.val s →
    Settled s →
    s.dev.pwr.leaving = false →
    s.dev.isSteward sid.val f = true →
    (f, cmd, reason, top) ∈ [(.acq, PORT_SWAP_CTRL.CMD, PORT_SWAP_STATUS.REASON, 2), (.lrn, LRN_CTRL.CMD, LRN_STATUS.REASON, 7),
        (.seq, SEQ_CTRL.CMD, SEQ_RESULT.REASON, 8), (.bal, BAL_CTRL.CMD, BAL_STATUS.REASON, 4),
        (.cue, CUE_CTRL.CMD, CUE_RESULT.REASON, 4), (.cue, CUE_FQ_CTRL.CMD, CUE_RESULT.REASON, 2)] →
    addr.toNat = cmd.addr →
    cmd.of value.toNat = 0 ∨ top < cmd.of value.toNat →
    ∃ t, exec (.badCommand sid addr value) s = .next t ∧
      t.dev.rd reason = 0xFF ∧
      Answered sid.val (wrRefused 0xFF addr.toNat) id s t ∧
      Frame [reason] [.net, .out] s t

/-- A REQUEST is carried out once and its RESPONSE kept. An accepted REQUEST with a new REQ_ID that fits its path is
carried out operation by operation and answered with one result for each; its RESPONSE is kept. One whose REQ_ID is
among the last eight is answered with the kept RESPONSE under a new SEQ and nothing is carried out. One that does not
fit is answered BAD_LENGTH for every operation and nothing is applied. Derived from R330, R333. The model's choices
and readings it takes in: log entry 23. -/
def Obligations.RequestsAreAnsweredOnce : Prop :=
  (∀ (msg : RapMsg) (id : BitVec 16) (stop : Bool) (ops : List ReqOp) (s : State),
    Reaches rapRequest msg (requestBytes id stop ops) s → Authentic rapRequest msg (requestBytes id stop ops) s →
    (s.dev.sess msg.session.toNat).kept.find? (·.1 = id.toNat) = none →
    requestFits (s.dev.sess msg.session.toNat).path ops = true →
    let k := msg.session.toNat
    let r := opsRun k stop ops s.mem ((s.dev.taken rapRequest k msg).accepted k msg.seq.toNat)
    ∃ t, exec (.request msg.path msg.toRapHead msg.seq msg.body id ⟨stop, ops⟩) s = .next t ∧ t.mem = r.2.1 ∧ r.1.length = ops.length ∧
      ∃ x ∈ t.dev.out, (r.2.2.sendSealed (r.2.2.sess k) k rapResponse (r.2.2.sess k).tx (responsePayload id.toNat r.1)).out =
        x :: r.2.2.out) ∧
  (∀ (msg : RapMsg) (id : BitVec 16) (stop : Bool) (ops : List ReqOp) (res : List OpRes) (s : State),
    Settled s →
    Reaches rapRequest msg (requestBytes id stop ops) s →
    Authentic rapRequest msg (requestBytes id stop ops) s →
    (s.dev.sess msg.session.toNat).kept.find? (·.1 = id.toNat) = some (id.toNat, res) →
    ∃ t, exec (.request msg.path msg.toRapHead msg.seq msg.body id ⟨stop, ops⟩) s = .next t ∧
      t.dev.out = (s.dev.sendSealed (s.dev.sess msg.session.toNat) msg.session.toNat rapResponse (s.dev.sess msg.session.toNat).tx
      (responsePayload id.toNat res)).out ∧
      (t.dev.sess msg.session.toNat).tx = (s.dev.sess msg.session.toNat).tx + 1 ∧
      (t.dev.sess msg.session.toNat).kept = (s.dev.sess msg.session.toNat).kept ∧
      Frame [] [.net, .out] s t)

/-- Each answer of a companion takes a port one step through training. While a port trains: a STATUS answering the POLL of
step 1 leads to the identity READ of step 2; a READ_RESP with the right ID_KIND leads to step 3; the READ_RESP with
the right THRESH_CRC ends step 4; a WRITE_ACK notes the written companion registers and a NACK ends the frame in
flight. Every uplink frame stores its status word (R74). Derived from R72, R77, R83. The model's choices and readings
it takes in: log entries 40, 105, 113. -/
def Obligations.TrainingStepsFollowTheAnswers : Prop :=
  (∀ (lc : Lc) (seq len : Byte) (crc : Word) (status : Word) (s : State),
    Settled s →
    s.dev.linkWorks s.mem = true →
    uplinkGood 0xD 0 seq.toNat len.toNat [] status.toNat crc.toNat = true →
    s.dev.link lc.val = 2 →
    (s.dev.port lc.val).awaitsSeq ftPoll seq.toNat = true →
    (s.dev.port lc.val).queue = [] →
    (s.dev.port lc.val).step = .poll →
    ∃ t, exec (.statusFrame lc seq ⟨len, crc⟩ status) s = .next t ∧
      (t.dev.port lc.val).step = .kind ∧
      (t.dev.port lc.val).awaits = some ⟨ftRead, (s.dev.port lc.val).cmds % 256, [(0, 3)], false⟩ ∧
      t.dev.rd (PORT_STAT.STATUS lc.val) = status.toNat ∧
      (∀ n, n ≠ lc.val → t.dev.port n = s.dev.port n) ∧
      Frame [PORT_STAT.STATUS lc.val, PORT_STATE.IDENT_CHANGED lc.val, PORT_STATE.WOKE lc.val] [.ports, .out] s t) ∧
  (∀ (lc : Lc) (seq len : Byte) (crc : Word) (values : List (BitVec 16)) (status : Word) (s : State),
    Settled s →
    s.dev.linkWorks s.mem = true →
    uplinkGood 0xB (4 * (halves (values.map (·.toNat))).length) seq.toNat len.toNat (halves (values.map (·.toNat))) status.toNat crc.toNat = true →
    s.dev.link lc.val = 2 →
    (s.dev.port lc.val).awaitsSeq ftRead seq.toNat = true →
    s.dev.flight lc.val = [(0, 3)] →
    (s.dev.port lc.val).queue = [] →
    (s.dev.port lc.val).step = .kind →
    (values.getD 0 0).toNat = kindOf lc.val →
    values.length = 3 →
    ∃ t, exec (.readResp lc seq ⟨len, crc⟩ values status) s = .next t ∧
      (t.dev.port lc.val).step = .probes ∧
      (t.dev.port lc.val).awaits = none ∧
      (t.dev.port lc.val).lat = (values.getD 2 0).toNat ∧
      t.dev.rd (PORT_STAT.STATUS lc.val) = status.toNat ∧
      (∀ n, n ≠ lc.val → t.dev.port n = s.dev.port n) ∧
      Frame [PORT_STAT.STATUS lc.val, PORT_STATE.IDENT_CHANGED lc.val, PORT_STATE.WOKE lc.val] [.ports] s t) ∧
  (∀ (lc : Lc) (seq len : Byte) (crc : Word) (values : List (BitVec 16)) (status : Word) (s : State),
    Settled s →
    s.dev.linkWorks s.mem = true →
    uplinkGood 0xB (4 * (halves (values.map (·.toNat))).length) seq.toNat len.toNat (halves (values.map (·.toNat))) status.toNat crc.toNat = true →
    s.dev.link lc.val = 2 →
    (s.dev.port lc.val).awaitsSeq ftRead seq.toNat = true →
    s.dev.flight lc.val = [(8, 1)] →
    (s.dev.port lc.val).queue = [] →
    (s.dev.port lc.val).step = .thresholds →
    (values.getD 0 0).toNat = s.dev.threshSum s.mem lc.val →
    ∃ t, exec (.readResp lc seq ⟨len, crc⟩ values status) s = .next t ∧
      (t.dev.port lc.val).step = (if isFront lc.val then .boundary else .temps) ∧
      (t.dev.port lc.val).awaits = none ∧
      t.dev.rd (PORT_STAT.STATUS lc.val) = status.toNat ∧
      (∀ n, n ≠ lc.val → t.dev.port n = s.dev.port n) ∧
      Frame [PORT_STAT.STATUS lc.val, PORT_STATE.IDENT_CHANGED lc.val, PORT_STATE.WOKE lc.val] [.ports] s t) ∧
  (∀ (lc : Lc) (seq len : Byte) (crc : Word) (status : Word) (s : State),
    Settled s →
    s.dev.linkWorks s.mem = true →
    uplinkGood 0xC 0 seq.toNat len.toNat [] status.toNat crc.toNat = true →
    (s.dev.port lc.val).awaitsSeq ftWrite seq.toNat = true →
    ∃ t, exec (.writeAck lc seq ⟨len, crc⟩ status) s = .next t ∧
      (t.dev.port lc.val).comp = ((s.dev.port lc.val).wrote (s.dev.flight lc.val)).comp ∧
      t.dev.rd (PORT_STAT.STATUS lc.val) = status.toNat ∧
      (∀ n, n ≠ lc.val → t.dev.port n = s.dev.port n) ∧
      Frame (PORT_STATE.CAUSE lc.val :: [PORT_STAT.STATUS lc.val, PORT_STATE.IDENT_CHANGED lc.val, PORT_STATE.WOKE lc.val]) [.ports, .out] s t) ∧
  (∀ (lc : Lc) (seq len : Byte) (crc : Word) (reason : Byte) (status : Word) (f : Down) (s : State),
    Settled s →
    s.dev.linkWorks s.mem = true →
    uplinkGood 0xF 4 seq.toNat len.toNat [reason.toNat * 2 ^ 24] status.toNat crc.toNat = true →
    s.dev.link lc.val = 2 →
    (s.dev.port lc.val).awaits = some f →
    f.ftype ≠ ftProbe →
    f.seq = seq.toNat →
    (s.dev.port lc.val).queue = [] →
    (s.dev.port lc.val).step = .poll ∨ (s.dev.port lc.val).step = .kind ∨ (s.dev.port lc.val).step = .thresholds →
    1 ≤ reason.toNat →
    reason.toNat ≤ 4 →
    ∃ t, exec (.nack lc seq ⟨len, crc⟩ reason status) s = .next t ∧
      (t.dev.port lc.val).awaits = none ∧
      t.dev.rd (PORT_STAT.STATUS lc.val) = status.toNat ∧
      (∀ n, n ≠ lc.val → t.dev.port n = s.dev.port n) ∧
      Frame [PORT_STAT.STATUS lc.val, PORT_STATE.IDENT_CHANGED lc.val, PORT_STATE.WOKE lc.val] [.ports] s t)

/-- Probes are sent and their echoes give the delay. A port in UP with no frame in flight is probed with a DELAY_PROBE
frame (R66). In training an accepted echo adds its delay, 5 ns a count of RTT less the 1,000 ns turnaround (R65), to
the probes taken so far; in UP an echo within 100 ns of the held delay clears the run of discards and gives the median
of the last five delays as the next held delay, and one beyond 100 ns is discarded and counted in PROBE_ERR. Derived
from R65, R66. The model's choices and readings it takes in: log entry 40. -/
def Obligations.DelaysAreMeasuredByProbes : Prop :=
  (∀ (lc : Lc) (s : State),
    Settled s →
    s.dev.linkWorks s.mem = true →
    s.dev.isUp lc.val = true →
    (s.dev.port lc.val).awaits = none →
    ∃ t, exec (.delayProbe lc) s = .next t ∧
      t.dev.out = .down lc.val (Down.words ⟨ftProbe, (s.dev.port lc.val).cmds % 256, [], false⟩) :: s.dev.out ∧
      t.dev.port lc.val = { s.dev.port lc.val with cmds := (s.dev.port lc.val).cmds + 1, awaits := some ⟨ftProbe, (s.dev.port lc.val).cmds % 256, [], false⟩ } ∧
      (∀ n, n ≠ lc.val → t.dev.port n = s.dev.port n) ∧
      Frame [] [.ports, .out] s t) ∧
  (∀ (lc : Lc) (rtt : Nat) (f : Down) (s : State),
    Settled s →
    s.dev.linkWorks s.mem = true →
    (s.dev.port lc.val).awaits = some f →
    f.ftype = ftProbe →
    (s.dev.port lc.val).queue = [] →
    (s.dev.port lc.val).step = .probes →
    (s.dev.port lc.val).probes.length < 7 →
    ∃ t, exec (.echo lc rtt) s = .next t ∧
      t.dev.port lc.val = { s.dev.port lc.val with awaits := none, probes := (s.dev.port lc.val).probes ++ [5 * (rtt : Int) - 1000] } ∧
      (∀ n, n ≠ lc.val → t.dev.port n = s.dev.port n) ∧
      Frame [] [.ports] s t) ∧
  (∀ (lc : Lc) (rtt : Nat) (f : Down) (s : State),
    Settled s →
    s.dev.linkWorks s.mem = true →
    (s.dev.port lc.val).awaits = some f →
    f.ftype = ftProbe →
    (s.dev.port lc.val).queue = [] →
    (s.dev.port lc.val).step = .idle →
    s.dev.isLive lc.val = true →
    (s.dev.rd (PORT_DELAY.DELAY lc.val) : Int) - 100 ≤ delayOf rtt →
    delayOf rtt ≤ (s.dev.rd (PORT_DELAY.DELAY lc.val) : Int) + 100 →
    rtt < 1024 →
    ∃ t, exec (.echo lc rtt) s = .next t ∧
      (t.dev.port lc.val).discards = 0 ∧
      (t.dev.port lc.val).newDelay = some (medianInt (t.dev.port lc.val).probes) ∧
      (t.dev.port lc.val).probes.length ≤ 5 ∧
      (t.dev.port lc.val).probes.getLast? = some (delayOf rtt) ∧
      t.dev.rd (PORT_DELAY.RTT lc.val) = rtt ∧
      (∀ n, n ≠ lc.val → t.dev.port n = s.dev.port n) ∧
      Frame [PORT_DELAY.RTT lc.val] [.ports] s t) ∧
  (∀ (lc : Lc) (rtt : Nat) (f : Down) (s : State),
    Settled s →
    s.dev.linkWorks s.mem = true →
    (s.dev.port lc.val).awaits = some f →
    f.ftype = ftProbe →
    (s.dev.port lc.val).queue = [] →
    (s.dev.port lc.val).step = .idle →
    s.dev.isLive lc.val = true →
    (s.dev.rd (PORT_DELAY.DELAY lc.val) : Int) + 100 < delayOf rtt →
    (s.dev.port lc.val).discards < 4 →
    ∃ t, exec (.echo lc rtt) s = .next t ∧
      t.dev.rd (PORT_ERR.PROBE_ERR lc.val) = min (s.dev.rd (PORT_ERR.PROBE_ERR lc.val) + 1) 255 ∧
      (t.dev.port lc.val).discards = (s.dev.port lc.val).discards + 1 ∧
      (∀ n, n ≠ lc.val → t.dev.port n = s.dev.port n) ∧
      Frame [PORT_ERR.PROBE_ERR lc.val] [.ports] s t)

/-- A sample frame due gives the samples of its strobe. A CELLS or STRING frame whose CRC is right, of a port in UP or
MISSING and with the strobe count that is due (R69, R71), is taken: the port is in UP, its status is stored, and for a
CELLS frame CODE and STROBE of every cell of the block read the values sent (R107, R115). A TEMPS frame that was asked
for stores the codes of the used points and the identity readings (R105, R147). A frame that does not come before its
deadline is counted in FRAME_MISS, takes the port from UP to MISSING, and leaves the cells of a monitor port STALE
(R69, R82). Derived from R69, R71, R82, R105, R107. The model's choices and readings it takes in: log entries 41, 52,
105. -/
def Obligations.SampleFramesFillTheirRegisters : Prop :=
  (∀ (port : Mon) (seq len : Byte) (crc : Word) (codes : List (BitVec 16)) (status : Word) (s : State),
    s.dev.linkWorks s.mem = true →
    uplinkGood 0x8 48 seq.toNat len.toNat (halves (codes.map (·.toNat))) status.toNat crc.toNat = true →
    s.dev.portUsed (lcOfMon port.val) = true →
    s.dev.smpDue (lcOfMon port.val) seq.toNat = true →
    codes.length = 24 →
    ∃ t, exec (.cellsFrame port seq ⟨len, crc⟩ codes status) s = .next t ∧
      (t.dev.port (lcOfMon port.val)).got = true ∧
      t.dev.link (lcOfMon port.val) = 3 ∧
      t.dev.rd (PORT_STAT.STATUS (lcOfMon port.val)) = status.toNat ∧
      (∀ i < (s.dev.portRec (lcOfMon port.val)).inputs, i < 24 →
        t.dev.rd (CELL_V.CODE (24 * port.val + i)) = (codes.getD i 0).toNat ∧
          t.dev.rd (CELL_V.STROBE (24 * port.val + i)) = s.dev.smpStrobe % 64) ∧
      PageFrame ([0x04, 0x05, 0x06, 0x0A, 0x0E] ++ (List.range 48).map (64 + ·)) [.out, .nv, .rcd, .ports, .acq, .est, .seq, .chn, .saf] s t) ∧
  (∀ (front : Str) (seq len : Byte) (crc : Word) (shunt vstr vbus vpre status : Word) (s : State),
    s.dev.linkWorks s.mem = true →
    uplinkGood 0x9 16 seq.toNat len.toNat ([shunt, vstr, vbus, vpre].map (·.toNat)) status.toNat crc.toNat = true →
    s.dev.portUsed (lcOfFront front.val) = true →
    s.dev.smpDue (lcOfFront front.val) seq.toNat = true →
    ∃ t, exec (.stringFrame front seq ⟨len, crc⟩ shunt vstr vbus vpre status) s = .next t ∧
      (t.dev.port (lcOfFront front.val)).got = true ∧
      t.dev.link (lcOfFront front.val) = 3 ∧
      t.dev.rd (PORT_STAT.STATUS (lcOfFront front.val)) = status.toNat ∧
      (∀ w : Word, w = vstr → t.dev.rd (ACQ_VSTR.VALUE (s.dev.lcStr (lcOfFront front.val))) = unsigned 30 (4 * w.toInt)) ∧
      PageFrame [0x04, 0x05, 0x06, 0x0A, 0x0E] [.out, .nv, .rcd, .ports, .acq, .est, .seq, .chn, .saf] s t) ∧
  (∀ (port : Mon) (seq len : Byte) (crc : Word) (codes : List (BitVec 16)) (id0 id1 : BitVec 16) (status : Word) (s : State),
    s.dev.linkWorks s.mem = true →
    uplinkGood 0xA 36 seq.toNat len.toNat (halves ((codes ++ [id0, id1]).map (·.toNat))) status.toNat crc.toNat = true →
    (s.dev.port (lcOfMon port.val)).tempReq = true →
    s.dev.isLive (lcOfMon port.val) = true →
    (s.dev.port (lcOfMon port.val)).strobes % 256 = seq.toNat →
    codes.length = 16 →
    ∃ t, exec (.tempsFrame port seq ⟨len, crc⟩ codes id0 id1 status) s = .next t ∧
      (t.dev.port (lcOfMon port.val)).tempReq = false ∧
      t.dev.rd (PORT_STAT.STATUS (lcOfMon port.val)) = status.toNat ∧
      t.dev.rd (PORT_IDENT.IDENT0 (lcOfMon port.val)) = id0.toNat ∧
      t.dev.rd (PORT_IDENT.IDENT1 (lcOfMon port.val)) = id1.toNat ∧
      (∀ i < 16, s.dev.pointUsed s.mem (16 * port.val + i) = true → t.dev.rd (TEMP_RAW.CODE (16 * port.val + i)) = (codes.getD i 0).toNat) ∧
      PageFrame ([0x04, 0x05, 0x08, 0x0B] ++ (List.range 8).map (112 + ·)) [.out, .rcd, .ports, .lrn, .thw] s t) ∧
  (∀ (port : Mon) (s : State),
    Settled s →
    s.dev.linkWorks s.mem = true →
    s.dev.isLive (lcOfMon port.val) = true →
    (s.dev.port (lcOfMon port.val)).got = false →
    0 < s.dev.phase.k →
    ∃ t, exec (.frameDeadline (Fin.ofNat 72 (lcOfMon port.val))) s = .next t ∧
      t.dev.rd (PORT_ERR.FRAME_MISS (lcOfMon port.val)) = min (s.dev.rd (PORT_ERR.FRAME_MISS (lcOfMon port.val)) + 1) 65535 ∧
      t.dev.link (lcOfMon port.val) = 4 ∧
      (∀ c ∈ s.dev.blockCells port.val, t.dev.rd (CELL_V.VALID c) = 3) ∧
      Frame ([PORT_ERR.FRAME_MISS (lcOfMon port.val), PORT_STATE.LINK (lcOfMon port.val)] ++
        (s.dev.blockCells port.val).map CELL_V.VALID) [.ports] s t) ∧
  (∀ (front : Str) (s : State),
    Settled s →
    s.dev.linkWorks s.mem = true →
    s.dev.isLive (lcOfFront front.val) = true →
    (s.dev.port (lcOfFront front.val)).got = false →
    0 < s.dev.phase.k →
    s.dev.lcStr (lcOfFront front.val) < 8 →
    ∃ t, exec (.frameDeadline (Fin.ofNat 72 (lcOfFront front.val))) s = .next t ∧
      t.dev.rd (PORT_ERR.FRAME_MISS (lcOfFront front.val)) = min (s.dev.rd (PORT_ERR.FRAME_MISS (lcOfFront front.val)) + 1) 65535 ∧
      t.dev.link (lcOfFront front.val) = 4 ∧
      t.dev.rd (ACQ_I.VALID (s.dev.lcStr (lcOfFront front.val))) = 3 ∧
      Frame [PORT_ERR.FRAME_MISS (lcOfFront front.val), PORT_STATE.LINK (lcOfFront front.val), ACQ_I.VALID (s.dev.lcStr (lcOfFront front.val)),
        ACQ_VSTR.VALID (s.dev.lcStr (lcOfFront front.val)), ACQ_VBUS.VALID (s.dev.lcStr (lcOfFront front.val)),
        ACQ_VPRE.VALID (s.dev.lcStr (lcOfFront front.val))] [.ports, .acq] s t)

/-- Retries, timeouts and retraining of a port. A downlink frame without an answer is repeated once with RETRY set;
without an answer to that it is counted in CMD_FAIL (R70). A training attempt that times out counts as failed and the
port starts the next one; after the third it is DOWN (R82). MISSING for 1 s leads to training, and a DOWN port is
retrained with one attempt. POLL is sent each millisecond in step 1 and a probe in step 3 (R83); with ACQ STOPPED
every live companion is polled (R22). Derived from R22, R70, R82, R83. The model's choices and readings it takes in:
log entries 5, 41, 113. -/
def Obligations.RetriesAndTrainingAttempts : Prop :=
  (∀ (lc : Lc) (f : Down) (s : State),
    Settled s →
    s.dev.linkWorks s.mem = true →
    (s.dev.port lc.val).awaits = some f →
    (s.dev.port lc.val).step ≠ .poll →
    f.retry = false →
    f.ftype ≠ ftWrite →
    ∃ t, exec (.commandRetry lc) s = .next t ∧
      t.dev.out = .down lc.val ({ f with retry := true } : Down).words :: s.dev.out ∧
      t.dev.port lc.val = { s.dev.port lc.val with awaits := some { f with retry := true } } ∧
      (∀ n, n ≠ lc.val → t.dev.port n = s.dev.port n) ∧
      Frame [] [.ports, .out] s t) ∧
  (∀ (lc : Lc) (f : Down) (s : State),
    Settled s →
    s.dev.linkWorks s.mem = true →
    s.dev.isLive lc.val = true →
    (s.dev.port lc.val).awaits = some f →
    (s.dev.port lc.val).step = .idle →
    f.retry = true →
    (s.dev.port lc.val).queue = [] →
    ∃ t, exec (.commandRetry lc) s = .next t ∧
      t.dev.rd (PORT_ERR.CMD_FAIL lc.val) = min (s.dev.rd (PORT_ERR.CMD_FAIL lc.val) + 1) 255 ∧
      (t.dev.port lc.val).awaits = none ∧
      (∀ n, n ≠ lc.val → t.dev.port n = s.dev.port n) ∧
      Frame [PORT_ERR.CMD_FAIL lc.val] [.ports] s t) ∧
  (∀ (lc : Lc) (s : State),
    Settled s →
    s.dev.linkWorks s.mem = true →
    s.dev.link lc.val = 2 →
    (s.dev.port lc.val).step = .poll →
    s.dev.portUsed lc.val = true →
    (s.dev.port lc.val).single = false →
    (s.dev.port lc.val).fails < 2 →
    ∃ t, exec (.pollTimeout lc) s = .next t ∧
      (t.dev.port lc.val).fails = (s.dev.port lc.val).fails + 1 ∧
      (t.dev.port lc.val).step = .poll ∧
      t.dev.link lc.val = 2 ∧
      t.dev.rd (PORT_STATE.CAUSE lc.val) = 1 ∧
      (∀ n, n ≠ lc.val → t.dev.port n = s.dev.port n) ∧
      Frame [PORT_STATE.CAUSE lc.val] [.ports] s t) ∧
  (∀ (lc : Lc) (s : State),
    s.dev.linkWorks s.mem = true →
    s.dev.link lc.val = 2 →
    (s.dev.port lc.val).step = .poll →
    2 ≤ (s.dev.port lc.val).fails →
    ∃ t, exec (.pollTimeout lc) s = .next t ∧
      t.dev.link lc.val = 1 ∧
      t.dev.rd (PORT_STATE.CAUSE lc.val) = 1 ∧
      (t.dev.port lc.val).step = .idle ∧
      (t.dev.port lc.val).fails = 0 ∧
      (∀ n, n ≠ lc.val → t.dev.port n = s.dev.port n) ∧
      Frame [PORT_STATE.CAUSE lc.val, PORT_STATE.LINK lc.val] [.ports, .lrn, .rcd] s t) ∧
  (∀ (lc : Lc) (s : State),
    Settled s →
    s.dev.linkWorks s.mem = true →
    s.dev.link lc.val = 2 →
    s.dev.strobing lc.val = false →
    s.dev.portUsed lc.val = true →
    (s.dev.port lc.val).single = false →
    (s.dev.port lc.val).fails < 2 →
    ∃ t, exec (.trainingTimeout lc) s = .next t ∧
      (t.dev.port lc.val).fails = (s.dev.port lc.val).fails + 1 ∧
      (t.dev.port lc.val).step = .poll ∧
      t.dev.link lc.val = 2 ∧
      t.dev.rd (PORT_STATE.CAUSE lc.val) = 1 ∧
      (∀ n, n ≠ lc.val → t.dev.port n = s.dev.port n) ∧
      Frame [PORT_STATE.CAUSE lc.val] [.ports] s t) ∧
  (∀ (lc : Lc) (s : State),
    s.dev.linkWorks s.mem = true →
    s.dev.link lc.val = 2 →
    s.dev.strobing lc.val = false →
    2 ≤ (s.dev.port lc.val).fails →
    ∃ t, exec (.trainingTimeout lc) s = .next t ∧
      t.dev.link lc.val = 1 ∧
      t.dev.rd (PORT_STATE.CAUSE lc.val) = 1 ∧
      (t.dev.port lc.val).step = .idle ∧
      (t.dev.port lc.val).fails = 0 ∧
      (∀ n, n ≠ lc.val → t.dev.port n = s.dev.port n) ∧
      Frame [PORT_STATE.CAUSE lc.val, PORT_STATE.LINK lc.val] [.ports, .lrn, .rcd] s t) ∧
  (∀ (lc : Lc) (s : State),
    Settled s →
    s.dev.linkWorks s.mem = true →
    s.dev.link lc.val = 4 →
    s.dev.portUsed lc.val = true →
    ∃ t, exec (.missingTimeout lc) s = .next t ∧
      t.dev.link lc.val = 2 ∧
      t.dev.rd (PORT_STATE.CAUSE lc.val) = 7 ∧
      (t.dev.port lc.val).step = .poll ∧
      (t.dev.port lc.val).fails = 0 ∧
      (t.dev.port lc.val).single = false ∧
      (∀ n, n ≠ lc.val → t.dev.port n = s.dev.port n) ∧
      Frame [PORT_STATE.CAUSE lc.val, PORT_STATE.LINK lc.val] [.ports] s t) ∧
  (∀ (lc : Lc) (s : State),
    Settled s →
    s.dev.linkWorks s.mem = true →
    s.dev.link lc.val = 1 →
    s.dev.portUsed lc.val = true →
    ∃ t, exec (.retrain lc) s = .next t ∧
      t.dev.link lc.val = 2 ∧
      (t.dev.port lc.val).step = .poll ∧
      (t.dev.port lc.val).single = true ∧
      (∀ n, n ≠ lc.val → t.dev.port n = s.dev.port n) ∧
      Frame [PORT_STATE.LINK lc.val] [.ports] s t) ∧
  (∀ (lc : Lc) (s : State),
    Settled s →
    s.dev.linkWorks s.mem = true →
    s.dev.link lc.val = 2 →
    (s.dev.port lc.val).step = .poll →
    ∃ t, exec (.trainingPoll lc) s = .next t ∧
      t.dev.out = .down lc.val (Down.words ⟨ftPoll, (s.dev.port lc.val).cmds % 256, [], false⟩) :: s.dev.out ∧
      (t.dev.port lc.val).awaits = some ⟨ftPoll, (s.dev.port lc.val).cmds % 256, [], false⟩ ∧
      (∀ n, n ≠ lc.val → t.dev.port n = s.dev.port n) ∧
      Frame [] [.ports, .out] s t) ∧
  (∀ (lc : Lc) (s : State),
    Settled s →
    s.dev.linkWorks s.mem = true →
    s.dev.link lc.val = 2 →
    (s.dev.port lc.val).step = .probes →
    (s.dev.port lc.val).awaits = none →
    ∃ t, exec (.trainingPoll lc) s = .next t ∧
      t.dev.out = .down lc.val (Down.words ⟨ftProbe, (s.dev.port lc.val).cmds % 256, [], false⟩) :: s.dev.out ∧
      (t.dev.port lc.val).awaits = some ⟨ftProbe, (s.dev.port lc.val).cmds % 256, [], false⟩ ∧
      (∀ n, n ≠ lc.val → t.dev.port n = s.dev.port n) ∧
      Frame [] [.ports, .out] s t) ∧
  (∀ (s : State),
    Settled s →
    s.dev.linkWorks s.mem = true →
    s.dev.fnState 0 = 0 →
    ∃ t, exec (.companionPoll) s = .next t ∧
      (∀ n < 72, s.dev.isLive n = true → (s.dev.port n).awaits = none →
        (t.dev.port n).awaits = some ⟨ftPoll, (s.dev.port n).cmds % 256, [], false⟩ ∧
          Msg.down n (Down.words ⟨ftPoll, (s.dev.port n).cmds % 256, [], false⟩) ∈ t.dev.out) ∧
      (∀ n < 72, s.dev.isLive n = false → s.dev.strobing n = false → t.dev.port n = s.dev.port n) ∧
      Frame [] [.ports, .out] s t)

/-- The swap of a cassette: ARM, removal, return, DISARM. ARM by the ACQ steward of a cassette whose strings are neither
connected nor closing, with no other armed, arms it: CASSETTE and PHASE are set and its ports go to SWAP with cause
SWAP. While it is armed its removal moves PHASE to REMOVED, and its stable return marks it present, moves PHASE on and
trains its ports. DISARM ends the swap. Removal of a cassette that is not armed takes its ports DOWN with cause
CASSETTE_ABSENT. Derived from R87, R88, R89. The model's choices and readings it takes in: log entries 43, 115, 116. -/
def Obligations.CassetteSwapFollowsItsPhases : Prop :=
  (∀ (sid : Sid) (k : Fin 8) (s : State),
    Heard sid.val s →
    Settled s →
    s.dev.isSteward sid.val .acq = true →
    ((s.dev.cassetteStrings k.val).any fun x => s.dev.connected x || s.dev.closing x) = false →
    s.dev.on PORT_SWAP_STATUS.ARMED = false →
    (s.dev.rd PORT_SWAP_STATUS.PRESENT).testBit k.val = true →
    ∃ t, exec (.arm sid k) s = .next t ∧
      t.dev.rd PORT_SWAP_STATUS.ARMED = 1 ∧
      t.dev.rd PORT_SWAP_STATUS.CASSETTE = k.val ∧
      t.dev.rd PORT_SWAP_STATUS.PHASE = 1 ∧
      (∀ n ∈ s.dev.cassettePorts k.val, t.dev.link n = 5 ∧ t.dev.rd (PORT_STATE.CAUSE n) = 6) ∧
      (∀ n, n ∉ s.dev.cassettePorts k.val → t.dev.port n = s.dev.port n) ∧
      Answered sid.val wrOk id s t ∧
      Frame ([PORT_SWAP_STATUS.ARMED, PORT_SWAP_STATUS.CASSETTE, PORT_SWAP_STATUS.PHASE] ++
        (s.dev.cassettePorts k.val).flatMap fun n => [PORT_STATE.LINK n, PORT_STATE.CAUSE n]) [.net, .out, .ports] s t) ∧
  (∀ (sid : Sid) (s : State),
    Heard sid.val s →
    Settled s →
    s.dev.isSteward sid.val .acq = true →
    s.dev.on PORT_SWAP_STATUS.ARMED = true →
    (s.dev.rd PORT_SWAP_STATUS.PRESENT).testBit (s.dev.rd PORT_SWAP_STATUS.CASSETTE) = true →
    ∃ t, exec (.disarm sid) s = .next t ∧
      t.dev.rd PORT_SWAP_STATUS.ARMED = 0 ∧
      t.dev.rd PORT_SWAP_STATUS.CASSETTE = 0 ∧
      t.dev.rd PORT_SWAP_STATUS.PHASE = 0 ∧
      (∀ n ∈ s.dev.cassettePorts (s.dev.rd PORT_SWAP_STATUS.CASSETTE), s.dev.link n = 5 → t.dev.link n = 2 ∧ (t.dev.port n).step = .poll) ∧
      Answered sid.val wrOk id s t ∧
      Frame ([PORT_SWAP_STATUS.ARMED, PORT_SWAP_STATUS.CASSETTE, PORT_SWAP_STATUS.PHASE] ++
        (s.dev.cassettePorts (s.dev.rd PORT_SWAP_STATUS.CASSETTE)).map PORT_STATE.LINK) [.net, .out, .ports] s t) ∧
  (∀ (k : Fin 8) (s : State),
    Settled s →
    s.dev.alive = true →
    s.dev.on PORT_SWAP_STATUS.ARMED = true →
    s.dev.rd PORT_SWAP_STATUS.CASSETTE = k.val →
    ∃ t, exec (.armedCassetteRemoved k) s = .next t ∧
      t.dev.rd PORT_SWAP_STATUS.PHASE = 2 ∧
      (∀ n ∈ s.dev.cassettePorts k.val, t.dev.link n = 5) ∧
      (t.dev.rd PORT_SWAP_STATUS.PRESENT).testBit k.val = false ∧
      (∀ j : Nat, j < 8 → j ≠ k.val → (t.dev.rd PORT_SWAP_STATUS.PRESENT).testBit j = (s.dev.rd PORT_SWAP_STATUS.PRESENT).testBit j) ∧
      Frame ([PORT_SWAP_STATUS.PRESENT, PORT_SWAP_STATUS.PHASE] ++
        (s.dev.cassettePorts k.val).flatMap fun n => [PORT_STATE.LINK n, PORT_STATE.CAUSE n]) [.ports] s t) ∧
  (∀ (k : Fin 8) (s : State),
    Settled s →
    s.dev.alive = true →
    (s.dev.rd PORT_SWAP_STATUS.PRESENT).testBit k.val = false →
    ∃ t, exec (.presStable k) s = .next t ∧
      (t.dev.rd PORT_SWAP_STATUS.PRESENT).testBit k.val = true ∧
      (s.dev.on PORT_SWAP_STATUS.ARMED = true → s.dev.rd PORT_SWAP_STATUS.CASSETTE = k.val → t.dev.rd PORT_SWAP_STATUS.PHASE = 4) ∧
      (∀ n ∈ s.dev.cassettePorts k.val, t.dev.link n = 2 ∧ (t.dev.port n).step = .poll ∧ (t.dev.port n).single = false) ∧
      Frame ([PORT_SWAP_STATUS.PRESENT, PORT_SWAP_STATUS.PHASE] ++ (s.dev.cassettePorts k.val).map PORT_STATE.LINK) [.ports] s t) ∧
  (∀ (k : Fin 8) (s : State),
    s.dev.alive = true →
    s.dev.on PORT_SWAP_STATUS.ARMED = false →
    ∃ t, exec (.cassetteRemoved k) s = .next t ∧
      (t.dev.rd PORT_SWAP_STATUS.PRESENT).testBit k.val = false ∧
      (∀ n ∈ s.dev.cassettePorts k.val, t.dev.link n = 1 ∧ t.dev.rd (PORT_STATE.CAUSE n) = 5) ∧
      (∀ x ∈ s.dev.cassetteStrings k.val, s.dev.connected x = true → t.dev.isOpen x = true ∨ t.dev.strState x = 8) ∧
      PageFrame [0x04, 0x0A] [.ports, .seq, .nv, .rcd, .chn] s t)

/-- A fault loop that leaves its window, returns, or lingers at its margin. A loop current outside 4.0 to 16.0 mA of a
port a string uses sets LOOP_FAULT and starts the debounce; inside the window LOOP_FAULT clears and a running debounce
ends (R80). A loop whose debounce expires on a cassette that is not armed is latched (R283). 100 ms in a marginal band
sets LOOP_MARGINAL and creates a LOOP_MARGINAL record. Derived from R79, R80, R283. The model's choices and readings
it takes in: log entries 5, 12, 13, 57, 89, 117. -/
def Obligations.FaultLoopsAreWatched : Prop :=
  (∀ (lc : Lc) (current : BitVec 16) (s : State),
    Settled s →
    s.dev.alive = true →
    s.dev.loopJudged lc.val = true →
    current.toNat < 400 ∨ 1600 < current.toNat →
    ∃ t, exec (.loopLeavesWindow lc current) s = .next t ∧
      t.dev.rd (PORT_STATE.LOOP_FAULT lc.val) = 1 ∧
      t.dev.rd (PORT_LOOP.LOOP_CURR lc.val) = current.toNat ∧
      tget false t.dev.saf.loopDeb lc.val = true ∧
      Frame [PORT_STATE.LOOP_FAULT lc.val, PORT_LOOP.LOOP_CURR lc.val] [.saf] s t) ∧
  (∀ (lc : Lc) (current : BitVec 16) (s : State),
    Settled s →
    s.dev.alive = true →
    s.dev.loopJudged lc.val = true →
    400 ≤ current.toNat →
    current.toNat ≤ 1600 →
    ∃ t, exec (.loopReturnsToWindow lc current) s = .next t ∧
      t.dev.rd (PORT_STATE.LOOP_FAULT lc.val) = 0 ∧
      t.dev.rd (PORT_LOOP.LOOP_CURR lc.val) = current.toNat ∧
      tget false t.dev.saf.loopDeb lc.val = false ∧
      Frame [PORT_STATE.LOOP_FAULT lc.val, PORT_LOOP.LOOP_CURR lc.val] [.saf] s t) ∧
  (∀ (lc : Lc) (s : State),
    s.dev.loopJudged lc.val = true →
    tget false s.dev.saf.loopDeb lc.val = true →
    s.dev.on PORT_SWAP_STATUS.ARMED = false →
    ∃ t, exec (.loopDebounceExpiry lc) s = .next t ∧
      tget false t.dev.saf.ret.loops lc.val = true ∧
      tget false t.dev.saf.loopDeb lc.val = false ∧
      (∀ g < 9, (s.mem.img.loopMap lc.val).testBit g = true → tget 0 t.dev.saf.ret.latch g ≠ 0) ∧
      PageFrame [0x0A, 0x0E] [.seq, .chn, .nv, .saf, .rcd] s t) ∧
  (∀ (lc : Lc) (s : State),
    Settled s →
    s.dev.loopJudged lc.val = true →
    tget false s.dev.saf.loopDeb lc.val = true →
    s.dev.on PORT_SWAP_STATUS.ARMED = true →
    lc.val / 9 = s.dev.rd PORT_SWAP_STATUS.CASSETTE →
    ∃ t, exec (.loopDebounceExpiry lc) s = .next t ∧
      t.dev.saf = { s.dev.saf with loopDeb := tset false s.dev.saf.loopDeb lc.val false } ∧
      Frame [] [.saf] s t) ∧
  (∀ (lc : Lc) (current : BitVec 16) (s : State),
    s.dev.alive = true →
    s.dev.portUsed lc.val = true →
    (400 ≤ current.toNat ∧ current.toNat ≤ 800) ∨ (1200 ≤ current.toNat ∧ current.toNat ≤ 1600) →
    ∃ t, exec (.loopMarginal lc current) s = .next t ∧
      t.dev.rd (PORT_STATE.LOOP_MARGINAL lc.val) = 1 ∧
      t.dev.rd (PORT_LOOP.LOOP_CURR lc.val) = current.toNat ∧
      Recorded [(recLoopMarginal, BitVec.ofNat 8 lc.val :: leBytes 2 current.toNat)] s t ∧
      Frame [PORT_STATE.LOOP_MARGINAL lc.val, PORT_LOOP.LOOP_CURR lc.val] [.rcd] s t)

/-- Safety inputs: a terminal change, a filtered channel, a discrepancy and the SDR write, in the cases named.
SAFETY_INPUT_CHANGE stores the contact state of one terminal and changes nothing else (R273). INPUT_CHANNEL_FILTERED,
with the Curtain working, sets the filtered state of the channel to what its terminal shows. Where that is demand and
no channel of the input was in demand: an ESTOP input latches its demand and SAFE holds; a SAFE_DISCONNECT input
latches its demand and the gate groups of its strings, or all nine groups for scope BANK; an SDR input notes the
instant. Where it is health and the input was not in demand only the working state of the safety system changes; on an
input that is not configured nothing changes. DISCREPANCY latches the discrepancy of a configured input whose channels
have differed for at least 0.97 of DISCREP less 1 ms (R274, R17). SDR_COMPARATOR_WRITE for an SDR input in demand
marks SDR_CMP as standing for every string of the input in its direction (R272). Derived from R17, R269, R272, R273,
R274. The model's choices and readings it takes in: log entries 5, 89, 101. -/
def Obligations.SafetyInputsAreFilteredAndJudged : Prop :=
  (∀ (input : Fin 8) (chB closed : Bool) (s : State),
    Settled s →
    ∃ t, exec (.safetyInputChange input chB closed) s = .next t ∧
      t.dev.closedAt input.val chB = closed ∧
      t.dev.saf = { s.dev.saf with term := tset false s.dev.saf.term (2 * input.val + chB.toNat) closed } ∧
      Frame [] [.saf] s t) ∧
  (∀ (input : Fin 8) (chB : Bool) (s : State),
    s.dev.curtain = true →
    s.mem.img.inFunc input.val = 1 →
    s.dev.inDemand input.val = false →
    s.dev.chanShows s.mem input.val chB = .demand →
    ∃ t, exec (.inputChannelFiltered input chB) s = .next t ∧
      t.dev.filtered input.val chB = .demand ∧
      tget false t.dev.saf.ret.demand input.val = true ∧
      t.dev.saf.ret.safe = true ∧
      PageFrame [0x03, 0x0A, 0x0E] [.saf, .seq, .chn, .nv, .rcd] s t) ∧
  (∀ (input : Fin 8) (chB : Bool) (s : State),
    s.dev.curtain = true →
    s.mem.img.inFunc input.val = 2 →
    s.dev.inDemand input.val = false →
    s.dev.chanShows s.mem input.val chB = .demand →
    ∃ t, exec (.inputChannelFiltered input chB) s = .next t ∧
      t.dev.filtered input.val chB = .demand ∧
      tget false t.dev.saf.ret.demand input.val = true ∧
      (∀ g < 8, (s.mem.img.inStrings input.val).testBit g = true → tget 0 t.dev.saf.ret.latch g ≠ 0) ∧
      (s.mem.img.inBank input.val = true → ∀ g < 9, tget 0 t.dev.saf.ret.latch g ≠ 0) ∧
      PageFrame [0x03, 0x0A, 0x0E] [.saf, .seq, .chn, .nv, .rcd] s t) ∧
  (∀ (input : Fin 8) (chB : Bool) (s : State),
    Settled s →
    s.dev.curtain = true →
    s.mem.img.inFunc input.val = 3 ∨ s.mem.img.inFunc input.val = 4 →
    s.dev.inDemand input.val = false →
    s.dev.chanShows s.mem input.val chB = .demand →
    ∃ t, exec (.inputChannelFiltered input chB) s = .next t ∧
      t.dev.filtered input.val chB = .demand ∧
      tget 0 t.dev.saf.demandAt input.val = s.dev.clk ∧
      Frame [SAF_PROOF.RESULT] [.saf] s t) ∧
  (∀ (input : Fin 8) (chB : Bool) (s : State),
    Settled s →
    s.dev.curtain = true →
    s.mem.img.inFunc input.val ≠ 0 →
    s.dev.inDemand input.val = false →
    s.dev.chanShows s.mem input.val chB = .healthy →
    ∃ t, exec (.inputChannelFiltered input chB) s = .next t ∧
      t.dev.filtered input.val chB = .healthy ∧
      Frame [] [.saf] s t) ∧
  (∀ (input : Fin 8) (chB : Bool) (s : State),
    Settled s →
    s.mem.img.inFunc input.val = 0 →
    ∃ t, exec (.inputChannelFiltered input chB) s = .next t ∧
      t = s) ∧
  (∀ (input : Fin 8) (s : State),
    Settled s →
    s.dev.curtain = true →
    s.mem.img.inFunc input.val ≠ 0 →
    tget 0 s.dev.saf.differAt input.val ≠ 0 →
    msClk 1 * (97 * s.mem.img.inDiscrep input.val - 100) ≤ 100 * s.dev.differs input.val →
    ∃ t, exec (.discrepancy input) s = .next t ∧
      tget false t.dev.saf.ret.discrep input.val = true ∧
      Frame [] [.saf] s t) ∧
  (∀ (input : Fin 8) (s : State),
    Settled s →
    s.dev.alive = true →
    s.dev.inDemand input.val = true →
    s.mem.img.inFunc input.val = 3 ∨ s.mem.img.inFunc input.val = 4 →
    ∃ t, exec (.sdrComparatorWrite input) s = .next t ∧
      (∀ x ∈ s.mem.img.inStrs input.val, tget false t.dev.saf.sdr (2 * x + (s.mem.img.sdrDis input.val).toNat) = true) ∧
      Frame [] [.saf, .ports, .out] s t)

/-- A fault of R276 is latched and met by SAFE or DEGRADED. A failed self-test of the Curtain or the supervisor, a gate
readback, the Curtain temperature, a lost heartbeat, an expired bed pause and a clock check out of 3,200 ± 10% each
latch their fault code. In the full class, for the codes 7 and 8, and in DEGRADED the module enters SAFE; otherwise,
outside SAFE, it enters DEGRADED. A self-test that passes ends the condition of its fault and changes nothing else; a
clock check within the band changes nothing. Derived from R17, R263, R264, R276. The model's choices and readings it
takes in: log entries 5, 58, 66. -/
def Obligations.DetectedFaultsLatchAndReact : Prop :=
  (∀ (c : Instr) (code : Nat) (group : Fin 9) (count : Nat) (s : State),
    s.dev.alive = true → s.dev.pwr.inTransport = false → s.dev.saf.pause = false → s.dev.saf.hbLost = false →
    count < 2880 ∨ 3520 < count → tget false s.dev.saf.ret.faults code = false →
    (c, code) ∈ [(.curtainSelftest false, 4), (.supSelftest false, 5), (.gateReadback group, 6), (.hbLost, 7),
      (.clockCheck count, 7), (.curtainTemp, 8)] →
    ∃ t, exec c s = .next t ∧ tget false t.dev.saf.ret.faults code = true ∧ tget false t.dev.saf.cond code = true ∧
        (s.mem.full = true ∨ code = 7 ∨ code = 8 ∨ s.dev.saf.ret.degraded = true → t.dev.saf.ret.safe = true) ∧
        (s.mem.full = false → code ≠ 7 → code ≠ 8 → s.dev.saf.ret.safe = false → s.dev.saf.ret.degraded = false →
          t.dev.saf.ret.degraded = true ∧ t.dev.saf.degEnd = s.dev.clk + secClk (s.mem.img.degradeTime)) ∧
        PageFrame [0x03, 0x0A, 0x0E] [.saf, .seq, .chn, .nv, .rcd] s t) ∧
  (∀ (s : State),
    s.dev.curtain = true →
    s.dev.saf.pause = true →
    s.dev.saf.hbLost = false →
    tget false s.dev.saf.ret.faults 7 = false →
    ∃ t, exec (.bedPauseExpired) s = .next t ∧
      t.dev.saf.hbLost = true ∧
      t.dev.saf.pause = false ∧
      tget false t.dev.saf.ret.faults 7 = true ∧
      t.dev.saf.ret.safe = true ∧
      PageFrame [0x03, 0x0A, 0x0E] [.saf, .seq, .chn, .nv, .rcd] s t) ∧
  (∀ (c : Instr) (code : Nat) (s : State), Settled s → s.dev.alive = true → s.dev.pwr.inTransport = false →
    (c, code) ∈ [(.curtainSelftest true, 4), (.supSelftest true, 5)] →
    ∃ t, exec c s = .next t ∧ t.dev.saf = { s.dev.saf with cond := tset false s.dev.saf.cond code false } ∧
      Frame [] [.saf] s t) ∧
  (∀ (count : Nat) (s : State),
    Settled s →
    2880 ≤ count →
    count ≤ 3520 →
    ∃ t, exec (.clockCheck count) s = .next t ∧
      t = s)

/-- CROSS_COMPARE: a good message without a difference, a bad message, and a third mismatch in a row. With the module
awake, its supervisor running and outside TRANSPORT. A message with the right CRC-16 and the awaited sequence number
(any, where none is awaited), whose views agree in all 72 loops, all 16 channels and the reset pair, makes the next
number the awaited one, ends the run of bad messages and every run of mismatches, ends a lost heartbeat and a bed
pause and the conditions of faults 1, 2, 3 and 7, is answered, and leaves the retained state. A message with a wrong
CRC or another number is counted in MSG_MISS; where fewer than two bad ones preceded it and it is not the first after
a supervisor reset, the run grows by one and the retained state stays; the third in a row, or a first one, latches
fault 3 (R262, R283). In a good message an item whose views differ for the third time in a row latches fault 1 (a
loop) or 2 (an input or the reset pair) (R262, R276). Derived from R262, R263, R276, R283. The model's choices and
readings it takes in: log entries 66, 102. -/
def Obligations.CrossCompareRunsEachMillisecond : Prop :=
  (∀ (seq crc : BitVec 16) (loops : List (Lc × BitVec 16)) (inputs : BitVec 18) (s : State),
    Settled s →
    s.dev.alive = true →
    s.dev.pwr.inTransport = false →
    crc16 ((s.dev.readLoops loops).crossOf s.mem seq.toNat inputs.toNat).bytes = crc.toNat →
    s.dev.saf.xseq = none ∨ s.dev.saf.xseq = some seq.toNat →
    ∀ k < 90, (s.dev.readLoops loops).itemDiffers s.mem inputs.toNat k = false →
    ∃ t, exec (.crossCompare seq crc ⟨loops, inputs⟩) s = .next t ∧
      t.dev.saf.xseq = some ((seq.toNat + 1) % 65536) ∧
      t.dev.saf.badRun = 0 ∧
      (∀ k < 90, tget 0 t.dev.saf.runs k = 0) ∧
      t.dev.saf.hbLost = false ∧ t.dev.saf.pause = false ∧ t.dev.saf.heard = s.dev.clk ∧
      (∀ k ∈ [1, 2, 3, 7], tget false t.dev.saf.cond k = false) ∧
      t.dev.saf.answer.isSome = true ∧
      t.dev.saf.ret = s.dev.saf.ret ∧
      Frame (SAF_XCMP.MISMATCH :: (loops.map fun e => PORT_LOOP.LOOP_CURR e.1.val)) [.saf] s t) ∧
  (∀ (seq crc : BitVec 16) (loops : List (Lc × BitVec 16)) (inputs : BitVec 18) (s : State),
    Settled s →
    s.dev.alive = true →
    s.dev.pwr.inTransport = false →
    crc16 ((s.dev.readLoops loops).crossOf s.mem seq.toNat inputs.toNat).bytes ≠ crc.toNat ∨
        (s.dev.saf.xseq ≠ none ∧ s.dev.saf.xseq ≠ some seq.toNat) →
    s.dev.saf.badRun < 2 →
    s.dev.saf.first = false →
    ∃ t, exec (.crossCompare seq crc ⟨loops, inputs⟩) s = .next t ∧
      t.dev.rd SAF_XCMP.MSG_MISS = min (s.dev.rd SAF_XCMP.MSG_MISS + 1) 65535 ∧
      t.dev.saf.badRun = s.dev.saf.badRun + 1 ∧
      t.dev.saf.ret = s.dev.saf.ret ∧
      Frame (SAF_XCMP.MSG_MISS :: (loops.map fun e => PORT_LOOP.LOOP_CURR e.1.val)) [.saf] s t) ∧
  (∀ (seq crc : BitVec 16) (loops : List (Lc × BitVec 16)) (inputs : BitVec 18) (s : State),
    s.dev.alive = true →
    s.dev.pwr.inTransport = false →
    crc16 ((s.dev.readLoops loops).crossOf s.mem seq.toNat inputs.toNat).bytes ≠ crc.toNat ∨
        (s.dev.saf.xseq ≠ none ∧ s.dev.saf.xseq ≠ some seq.toNat) →
    s.dev.saf.badRun = 2 ∨ s.dev.saf.first = true →
    ∃ t, exec (.crossCompare seq crc ⟨loops, inputs⟩) s = .next t ∧
      tget false t.dev.saf.ret.faults 3 = true ∧
      tget false t.dev.saf.cond 3 = true ∧
      PageFrame [0x03, 0x04, 0x0A, 0x0E] [.saf, .seq, .chn, .nv, .rcd] s t) ∧
  (∀ (k : Nat) (seq crc : BitVec 16) (loops : List (Lc × BitVec 16)) (inputs : BitVec 18) (s : State),
    s.dev.alive = true →
    s.dev.pwr.inTransport = false →
    crc16 ((s.dev.readLoops loops).crossOf s.mem seq.toNat inputs.toNat).bytes = crc.toNat →
    s.dev.saf.xseq = none ∨ s.dev.saf.xseq = some seq.toNat →
    k < 90 →
    (s.dev.readLoops loops).itemDiffers s.mem inputs.toNat k = true →
    tget 0 s.dev.saf.runs k = 2 →
    ∃ t, exec (.crossCompare seq crc ⟨loops, inputs⟩) s = .next t ∧
      tget false t.dev.saf.ret.faults (if k < 72 then 1 else 2) = true ∧
      PageFrame [0x03, 0x04, 0x0A, 0x0E] [.saf, .seq, .chn, .nv, .rcd] s t)

/-- The reset pair, the level reset, RESET_STUCK and the end of a reset's self-test, in the cases named. RESET_PAIR_CHANGE
shows the two contacts in SAF_RESET.A and B. Both pressed within 200 ms of each other is a press that counts; pressed
further apart it counts for nothing and REASON reads 5; one contact alone changes nothing else. The release of a press
that lasted less than 50 ms or more than 3,000 ms on either channel, or whose contacts opened further apart, only ends
it. Where the module resets by edge, the release of a counting press of 50 ms to 3,000 ms is a valid reset; where it
resets by level, LEVEL_RESET with a counting press and ARMED set is one, and clears ARMED (R282). A valid reset is
counted; where R281 gives a reason against it, whatever the free value is that says whether the condition of faults 6
and 8 has gone, that reason is shown and the retained state stays; where it gives none, the self-test starts. At its
end a reason that holds then is shown; else a failed self-test gives reason 4; else the latches, loops, demands and
faults are empty, SAFE and DEGRADED end, and a recovery phase of 60 s starts if SAFE stood and no thermal latch does.
RESET_STUCK sets its flag, clears ARMED and is recorded; with both contacts open RESET_STUCK_CLEAR clears it and sets
ARMED. That valid resets are counted also when refused is the model's reading (DEDUCED, notes/assumptions). Derived
from R281, R282. The model's choices and readings it takes in: log entries 5, 12, 13, 65. -/
def Obligations.ResetPairIsJudged : Prop :=
  (∀ (heldC heldS : Nat) (s : State),
    Settled s →
    s.dev.alive = true →
    ∃ t, exec (.resetPairChange true true heldC heldS true) s = .next t ∧
      t.dev.on SAF_RESET.A = true ∧ t.dev.on SAF_RESET.B = true ∧
      t.dev.rd SAF_RESET.REASON = 5 ∧
      t.dev.saf = { s.dev.saf with pressed := true, counts := false } ∧
      Frame [SAF_RESET.A, SAF_RESET.B, SAF_RESET.REASON] [.saf] s t) ∧
  (∀ (a : Bool) (heldC heldS : Nat) (apart : Bool) (s : State),
    Settled s →
    ∃ t, exec (.resetPairChange a (!a) heldC heldS apart) s = .next t ∧
      t.dev.on SAF_RESET.A = a ∧ t.dev.on SAF_RESET.B = !a ∧
      Frame [SAF_RESET.A, SAF_RESET.B] [] s t) ∧
  (∀ (heldC heldS : Nat) (s : State),
    Settled s →
    s.dev.saf.pressed = true →
    s.dev.alive = true →
    ∃ t, exec (.resetPairChange false false heldC heldS true) s = .next t ∧
      t.dev.rd SAF_RESET.REASON = 5 ∧
      t.dev.saf = { s.dev.saf with pressed := false, counts := false } ∧
      Frame [SAF_RESET.A, SAF_RESET.B, SAF_RESET.REASON] [.saf] s t) ∧
  (∀ (heldC heldS : Nat) (s : State),
    Settled s →
    ∃ t, exec (.resetPairChange true true heldC heldS false) s = .next t ∧
      t.dev.on SAF_RESET.A = true ∧ t.dev.on SAF_RESET.B = true ∧
      t.dev.saf = { s.dev.saf with pressed := true, counts := true } ∧
      Frame [SAF_RESET.A, SAF_RESET.B] [.saf] s t) ∧
  (∀ (heldC heldS : Nat) (s : State),
    Settled s →
    s.dev.alive = true →
    edgeReset s.mem = true →
    s.dev.saf.pressed = true ∧ s.dev.saf.counts = true →
    50 ≤ heldC ∧ heldC ≤ 3000 →
    50 ≤ heldS ∧ heldS ≤ 3000 →
    s.dev.resetReason s.mem true = 0 →
    s.dev.resetReason s.mem false = 0 →
    ∃ t, exec (.resetPairChange false false heldC heldS false) s = .next t ∧
      t.dev.rd SAF_RESET.COUNT = (s.dev.rd SAF_RESET.COUNT + 1) % 256 ∧
      t.dev.saf = { s.dev.saf with pressed := false, counts := false, testing := true } ∧
      Frame [SAF_RESET.A, SAF_RESET.B, SAF_RESET.COUNT] [.saf] s t) ∧
  (∀ (heldC heldS r : Nat) (s : State),
    Settled s →
    s.dev.alive = true →
    edgeReset s.mem = true →
    s.dev.saf.pressed = true ∧ s.dev.saf.counts = true →
    50 ≤ heldC ∧ heldC ≤ 3000 →
    50 ≤ heldS ∧ heldS ≤ 3000 →
    r ≠ 0 →
    s.dev.resetReason s.mem true = r →
    s.dev.resetReason s.mem false = r →
    ∃ t, exec (.resetPairChange false false heldC heldS false) s = .next t ∧
      t.dev.rd SAF_RESET.REASON = r ∧
      t.dev.saf.ret = s.dev.saf.ret ∧
      t.dev.saf.testing = s.dev.saf.testing ∧
      Frame [SAF_RESET.A, SAF_RESET.B, SAF_RESET.COUNT, SAF_RESET.REASON] [.saf] s t) ∧
  (∀ (heldC heldS : Nat) (s : State),
    Settled s →
    s.dev.saf.pressed = true →
    heldC < 50 ∨ 3000 < heldC ∨ heldS < 50 ∨ 3000 < heldS →
    ∃ t, exec (.resetPairChange false false heldC heldS false) s = .next t ∧
      t.dev.saf = { s.dev.saf with pressed := false, counts := false } ∧
      Frame [SAF_RESET.A, SAF_RESET.B] [.saf] s t) ∧
  (∀ (s : State),
    Settled s →
    s.dev.alive = true →
    edgeReset s.mem = false →
    s.dev.saf.pressed = true ∧ s.dev.saf.counts = true →
    s.dev.on SAF_RESET.ARMED = true →
    s.dev.resetReason s.mem true = 0 →
    s.dev.resetReason s.mem false = 0 →
    ∃ t, exec (.levelReset) s = .next t ∧
      t.dev.rd SAF_RESET.ARMED = 0 ∧
      t.dev.rd SAF_RESET.COUNT = (s.dev.rd SAF_RESET.COUNT + 1) % 256 ∧
      t.dev.saf = { s.dev.saf with testing := true } ∧
      Frame [SAF_RESET.ARMED, SAF_RESET.COUNT] [.saf] s t) ∧
  (∀ (s : State),
    Settled s →
    s.dev.alive = true →
    s.dev.saf.pressed = true →
    s.dev.on SAF_RESET.STUCK = false →
    ∃ t, exec (.resetStuck) s = .next t ∧
      t.dev.rd SAF_RESET.STUCK = 1 ∧ t.dev.rd SAF_RESET.ARMED = 0 ∧
      Recorded [(recResetStuck, [])] s t ∧
      Frame [SAF_RESET.STUCK, SAF_RESET.ARMED] [.rcd] s t) ∧
  (∀ (s : State),
    Settled s →
    s.dev.alive = true →
    s.dev.on SAF_RESET.A = false ∧ s.dev.on SAF_RESET.B = false →
    ∃ t, exec (.resetStuckClear) s = .next t ∧
      t.dev.rd SAF_RESET.STUCK = 0 ∧ t.dev.rd SAF_RESET.ARMED = 1 ∧
      Frame [SAF_RESET.STUCK, SAF_RESET.ARMED] [] s t) ∧
  (∀ (s : State),
    s.dev.saf.testing = true →
    s.dev.alive = true →
    s.dev.resetReason s.mem true = 0 →
    s.dev.resetReason s.mem false = 0 →
    ∃ t, exec (.resetSelftestDone true) s = .next t ∧
      t.dev.saf.ret.safe = false ∧ t.dev.saf.ret.degraded = false ∧
      t.dev.saf.ret.latch = [] ∧ t.dev.saf.ret.loops = [] ∧ t.dev.saf.ret.demand = [] ∧ t.dev.saf.ret.faults = [] ∧
      t.dev.saf.testing = false ∧ t.dev.saf.cond = [] ∧ t.dev.saf.slcCap = false ∧
      t.dev.rd SAF_STATUS.FIRST_FAULT = 0 ∧ t.dev.rd SAF_STATUS.SECOND_FAULT = 0 ∧
      (s.dev.saf.ret.safe = true → s.dev.thw.latch = false → t.dev.pwr.recovEnd = some (s.dev.clk + secClk 60)) ∧
      PageFrame [0x0A, 0x0E] [.saf, .pwr, .ports, .out, .rcd] s t) ∧
  (∀ (pass : Bool) (r : Nat) (s : State),
    Settled s →
    s.dev.saf.testing = true →
    r ≠ 0 →
    s.dev.resetReason s.mem true = r →
    s.dev.resetReason s.mem false = r →
    ∃ t, exec (.resetSelftestDone pass) s = .next t ∧
      t.dev.rd SAF_RESET.REASON = r ∧
      t.dev.saf = { s.dev.saf with testing := false } ∧
      Frame [SAF_RESET.REASON] [.saf] s t) ∧
  (∀ (s : State),
    Settled s →
    s.dev.saf.testing = true →
    s.dev.resetReason s.mem true = 0 →
    s.dev.resetReason s.mem false = 0 →
    ∃ t, exec (.resetSelftestDone false) s = .next t ∧
      t.dev.rd SAF_RESET.REASON = 4 ∧
      t.dev.saf = { s.dev.saf with testing := false } ∧
      Frame [SAF_RESET.REASON] [.saf] s t)

/-- The cap and timeout of DEGRADED, the recovery time, SHUNT_TRIP's gate and the proof test, in the cases named. With the
supervisor running in DEGRADED: DEGRADED_SLC_CAP puts the degraded SLC cap in force (R277), and DEGRADE_TIMEOUT enters
SAFE where every string is open, and otherwise leaves the timer expired or SAFE entered (R278). RECOVERY_TIME_END
outside DEGRADED with every string open ends the recovery time (R276). SHUNT_STUCK opens the SHUNT_TRIP gate with a
record; SHUNT_GATE_REARM closes it again unless SHUNT_TRIP fires (R284). PROOF_TEST of a Safety Steward whose groups
are all open is accepted and runs; of another role it is refused with ROLE_REQUIRED, and with a string of the groups
not open, or the bank group while a string is not open, with code 4. The end of a proof test shows 2 for a pass and 3
for a failure; a pass is recorded and, once every configured group has passed, clears PROOF_DUE; a failure latches
fault 4 (loop comparators) or 6. PROOF_DUE, not yet shown, sets its flag with one record (R286). Derived from R276,
R277, R278, R284, R286. The model's choices and readings it takes in: log entries 5, 12, 13, 58, 67, 89, 103. -/
def Obligations.DegradedAndProofTests : Prop :=
  (∀ (s : State),
    Settled s →
    s.dev.alive = true →
    s.dev.saf.ret.degraded = true →
    s.dev.saf.slcCap = false →
    ∃ t, exec (.degradedSlcCap) s = .next t ∧
      t.dev.saf = { s.dev.saf with slcCap := true } ∧
      Frame [] [.saf, .ports, .out] s t) ∧
  (∀ (s : State),
    s.dev.alive = true →
    s.dev.saf.ret.degraded = true →
    s.dev.saf.ret.safe = false →
    s.dev.saf.degOut = false →
    ∃ t, exec (.degradeTimeout) s = .next t ∧
      (s.dev.allOpen = true → t.dev.saf.ret.safe = true ∧ t.dev.saf.ret.degraded = false) ∧
      (t.dev.saf.degOut = true ∨ t.dev.saf.ret.safe = true) ∧
      PageFrame [0x03, 0x0A, 0x0E] [.saf, .seq, .chn, .nv, .rcd] s t) ∧
  (∀ (s : State),
    Settled s →
    s.dev.saf.recovering = true →
    s.dev.saf.ret.degraded = false →
    s.dev.allOpen = true →
    ∃ t, exec (.recoveryTimeEnd) s = .next t ∧
      t.dev.saf = { s.dev.saf with recovering := false } ∧
      Frame [] [.saf] s t) ∧
  (∀ (s : State),
    Settled s →
    s.dev.curtain = true →
    s.dev.saf.shuntOpen = false →
    ∃ t, exec (.shuntStuck) s = .next t ∧
      t.dev.shuntPermits = false ∧
      t.dev.saf = { s.dev.saf with shuntOpen := true } ∧
      Recorded [(recShuntStuck, [])] s t ∧
      Frame [] [.saf, .rcd] s t) ∧
  (∀ (s : State),
    Settled s →
    s.dev.seq.firing = false →
    ∃ t, exec (.shuntGateRearm) s = .next t ∧
      t.dev.saf = { s.dev.saf with shuntOpen := false } ∧
      Frame [] [.saf] s t) ∧
  (∀ (sid : Sid) (groups : BitVec 9) (s : State),
    Settled s →
    Heard sid s →
    (s.dev.sess sid.val).role = .safetySteward →
    ∀ x < 8, groups.getLsbD x = true → s.dev.isOpen x = true →
    groups.getLsbD 8 = true → s.dev.allOpen = true →
    ∃ t, exec (.proofTest sid groups) s = .next t ∧
      Answered sid wrOk id s t ∧
      t.dev.rd SAF_PROOF.RESULT = 1 ∧ t.dev.rd SAF_PROOF.GROUPS = groups.toNat ∧
      t.dev.saf = { s.dev.saf with proof := some groups.toNat } ∧
      Frame [SAF_PROOF.RESULT, SAF_PROOF.GROUPS] [.saf, .out, .net] s t) ∧
  (∀ (sid : Sid) (groups : BitVec 9) (s : State),
    Settled s →
    Heard sid s →
    (s.dev.sess sid.val).role ≠ .safetySteward →
    ∃ t, exec (.proofTest sid groups) s = .next t ∧
      Answered sid (wrRefused 5 SAF_CTRL.CMD.addr) id s t ∧
      t.dev.rd SAF_PROOF.RESULT = 5 ∧
      Frame [SAF_PROOF.RESULT] [.out, .net] s t) ∧
  (∀ (sid : Sid) (groups : BitVec 9) (s : State),
    Settled s →
    Heard sid s →
    (s.dev.sess sid.val).role = .safetySteward →
    (∃ x < 8, groups.getLsbD x = true ∧ s.dev.isOpen x = false) ∨ (groups.getLsbD 8 = true ∧ s.dev.allOpen = false) →
    ∃ t, exec (.proofTest sid groups) s = .next t ∧
      Answered sid (wrRefused 4 SAF_CTRL.CMD.addr) id s t ∧
      t.dev.rd SAF_PROOF.RESULT = 4 ∧
      Frame [SAF_PROOF.RESULT] [.out, .net] s t) ∧
  (∀ (loops : Bool) (g : Nat) (s : State),
    Settled s →
    s.dev.saf.proof = some g →
    ∃ t, exec (.proofTestDone true loops) s = .next t ∧
      t.dev.rd SAF_PROOF.RESULT = 2 ∧
      t.dev.saf = { s.dev.saf with proof := none } ∧
      (Nat.land (Nat.lor s.dev.nv.proofMask g) (s.dev.groupsConfigured s.mem) = s.dev.groupsConfigured s.mem →
        t.dev.rd SAF_STATUS.PROOF_DUE = 0) ∧
      Recorded [(recSafProof, leBytes 2 g ++ [2])] s t ∧
      Frame [SAF_PROOF.RESULT, SAF_STATUS.PROOF_DUE] [.saf, .nv, .rcd] s t) ∧
  (∀ (loops : Bool) (g : Nat) (s : State),
    s.dev.saf.proof = some g →
    tget false s.dev.saf.ret.faults (if loops then 4 else 6) = false →
    ∃ t, exec (.proofTestDone false loops) s = .next t ∧
      t.dev.rd SAF_PROOF.RESULT = 3 ∧
      t.dev.saf.proof = none ∧
      tget false t.dev.saf.ret.faults (if loops then 4 else 6) = true ∧
      PageFrame [0x03, 0x0A, 0x0E] [.saf, .seq, .chn, .nv, .rcd] s t) ∧
  (∀ (s : State),
    Settled s →
    s.dev.alive = true →
    s.mem.hasImage = true →
    s.dev.on SAF_STATUS.PROOF_DUE = false →
    ∃ t, exec (.proofDue) s = .next t ∧
      t.dev.rd SAF_STATUS.PROOF_DUE = 1 ∧
      Recorded [(recProofDue, [])] s t ∧
      Frame [SAF_STATUS.PROOF_DUE] [.nv, .rcd] s t)

/-- Lockstep, watchdog, hold-through, reclaim; loss of ground, clock and supply. A lockstep or watchdog reset of the
running supervisor closes every session, abandons proof test and reset self-test, and holds the channels through with
their demand frozen (R256, R371). At the end of the hold time every channel takes its safe default (R256). The
restarted supervisor reclaims: it runs, and hold-through is reported. A failed clock loses the heartbeat and holds the
module in reset (R17, R371); the loss of ground or of the supply drops every coil and the module is off with the cause
of its next start (R257, R370). Derived from R17, R256, R257, R370, R371, R372. The model's choices and readings it
takes in: log entries 5, 64, 66, 88. -/
def Obligations.SupervisorResetsAreHeldThroughAndReclaimed : Prop :=
  (∀ (c : Instr) (cause : Nat) (s : State),
    s.dev.awake = true → s.dev.pwr.inTransport = false → s.dev.pwr.sup = .running →
    (c, cause) ∈ [(.lockstep, 6), (.watchdog, 7)] →
    ∃ t, exec c s = .next t ∧
        t.dev.pwr.sup = .holdThrough ∧ t.dev.chn.holdFrom = s.dev.clk ∧
        (∀ n < 33, (t.dev.chan n).frozen = s.dev.demand s.mem n) ∧
        (∀ k < 64, (t.dev.sess k).life = .free) ∧
        t.dev.saf.proof = none ∧ t.dev.saf.testing = false ∧ t.dev.nv.cause = cause ∧
        PageFrame [0x03, 0x08, 0x0E, 0x13] [.pwr, .chn, .saf, .nv, .net, .load, .lrn, .rcd, .out] s t) ∧
  (∀ (s : State),
    s.dev.pwr.sup = .holdThrough →
    ∃ t, exec (.holdThroughExpired) s = .next t ∧
      t.dev.pwr.sup = .expired ∧
      (∀ n < 32, (t.dev.chan n).held = true ∧ (t.dev.chan n).inrush = false) ∧
      t.dev.rd CHN_STATUS.HT_EXPIRED = 1 ∧
      PageFrame [0x0A, 0x0D] [.pwr, .seq, .chn, .nv, .rcd] s t) ∧
  (∀ (s : State),
    s.dev.awake = true →
    s.dev.pwr.sup = .holdThrough →
    s.dev.saf.ret.degraded = false →
    ∃ t, exec (.reclaim) s = .next t ∧
      t.dev.pwr.sup = .running ∧
      t.dev.rd CHN_STATUS.HT_RECLAIMED = 1 ∧
      t.dev.saf.first = true ∧
      t.dev.load.outage = [] ∧
      t.dev.clk = s.dev.clk ∧ t.mem = s.mem ∧ t.pending = s.pending) ∧
  (∀ (s : State),
    Settled s →
    s.dev.pwr.boot ≠ .off →
    ∃ t, exec (.groundLoss) s = .next t ∧
      t.dev.pwr = { s.dev.pwr with boot := .off, why := 3, leaving := false } ∧
      (∀ c < 27, t.dev.coil c = false) ∧
      (∀ c < 27, s.dev.con c ≠ 4 → t.dev.auxClosed c = false) ∧
      PageFrame [] [.pwr, .seq, .nv] s t) ∧
  (∀ (s : State),
    Settled s →
    s.dev.pwr.boot ≠ .off →
    s.dev.pwr.boot ≠ .asleep →
    ∃ t, exec (.brownOut none) s = .next t ∧
      t.dev.pwr = { s.dev.pwr with boot := .off, why := 2, leaving := false } ∧
      (∀ c < 27, t.dev.coil c = false) ∧
      (∀ c < 27, s.dev.con c ≠ 4 → t.dev.auxClosed c = false) ∧
      PageFrame [] [.pwr, .seq, .nv] s t) ∧
  (∀ (torn : Option (List Byte)) (s : State),
    Settled s →
    s.dev.pwr.boot = .asleep →
    ∃ t, exec (.brownOut torn) s = .next t ∧
      t.dev.pwr = { s.dev.pwr with boot := .off, why := 1, leaving := false } ∧
      (∀ c < 27, t.dev.coil c = false) ∧
      PageFrame [] [.pwr, .seq, .nv] s t) ∧
  (∀ (s : State),
    s.dev.powered = true →
    s.dev.curtain = true →
    s.dev.saf.hbLost = false →
    tget false s.dev.saf.ret.faults 7 = false →
    ∃ t, exec (.clockFail) s = .next t ∧
      t.dev.pwr.boot = .clockHold ∧ t.dev.pwr.why = 4 ∧
      t.dev.saf.hbLost = true ∧ t.dev.saf.ret.safe = true ∧
      (∀ c < 27, t.dev.coil c = false) ∧
      PageFrame [0x03, 0x0A, 0x0E] [.pwr, .saf, .seq, .chn, .nv, .rcd] s t)

/-- ECC errors by site, scrub passes, a load dump, and a pending STOP or START, in the cases named. Awake and outside
TRANSPORT: a corrected error is counted and changes nothing else. An uncorrectable one outside firmware memory is
counted with its region, and then: an open session is free, and no other session changes; a cue entry is empty, and no
other entry changes; a frame slot is empty; a used cell is flagged ECC_REINIT and NEW; a used temperature point reads
IMPLAUSIBLE; an error in the sample ring changes only sample registers and the ring (R18, R401). One in firmware
memory, with the supervisor running, resets it: the cause of the reset is 8, the sessions are free, and the channels
are held through (R18, R371). A scrub pass is counted (R19). With the supervisor running, a function with a pending
STOP is STOPPED, at once or, if it is one of R25's five, at a boundary for it, ACQ only where every string is open; a
function with a pending START is RUN, idle where a function it depends on is not RUN; no other function's state
changes. A pending ACQ STOP with a string not open, and a function with nothing pending, change nothing (R24, R25,
R28). A load dump sets its flag with one record (R257). Derived from R18, R19, R24, R25, R28, R257, R371, R401. The
model's choices and readings it takes in: log entries 12, 13, 46, 47, 59, 90. -/
def Obligations.MemoryErrorsAndFunctionChanges : Prop :=
  (∀ (site : EccSite) (s : State),
    Settled s →
    s.dev.awake = true →
    s.dev.pwr.inTransport = false →
    ∃ t, exec (.eccError true site) s = .next t ∧
      t.dev.rd ARCH_ECC_CORR.COUNT = min (s.dev.rd ARCH_ECC_CORR.COUNT + 1) 4294967295 ∧
      Frame [ARCH_ECC_CORR.COUNT] [] s t) ∧
  (∀ (i : CueIx) (s : State),
    Settled s →
    s.dev.awake = true →
    s.dev.pwr.inTransport = false →
    (s.dev.cueAt i.val).bytes ≠ [] →
    ∃ t, exec (.eccError false (.cue i)) s = .next t ∧
      t.dev.rd ARCH_ECC_UNCORR.COUNT = min (s.dev.rd ARCH_ECC_UNCORR.COUNT + 1) 65535 ∧
      t.dev.rd ARCH_ECC_UNCORR.LAST_REGION = 5 ∧
      t.dev.cueAt i.val = .empty ∧
      (∀ j, j ≠ i.val → t.dev.cueAt j = s.dev.cueAt j) ∧
      Frame [ARCH_ECC_UNCORR.COUNT, ARCH_ECC_UNCORR.LAST_REGION, CUE_STATUS.ENTRIES] [.cue, .rcd] s t) ∧
  (∀ (k : Sid) (s : State),
    s.dev.awake = true →
    s.dev.pwr.inTransport = false →
    s.dev.isOpened k.val = true →
    ∃ t, exec (.eccError false (.session k)) s = .next t ∧
      t.dev.rd ARCH_ECC_UNCORR.COUNT = min (s.dev.rd ARCH_ECC_UNCORR.COUNT + 1) 65535 ∧
      t.dev.rd ARCH_ECC_UNCORR.LAST_REGION = 4 ∧
      t.dev.sess k.val = .free ∧
      (∀ j, j ≠ k.val → t.dev.sess j = s.dev.sess j) ∧
      PageFrame [0x02, 0x03, 0x08, 0x13] [.net, .load, .lrn, .rcd] s t) ∧
  (∀ (p : Path) (k : Fin 64) (s : State),
    Settled s →
    s.dev.awake = true →
    s.dev.pwr.inTransport = false →
    ∃ t, exec (.eccError false (.frame p k)) s = .next t ∧
      t.dev.rd ARCH_ECC_UNCORR.COUNT = min (s.dev.rd ARCH_ECC_UNCORR.COUNT + 1) 65535 ∧
      t.dev.rd ARCH_ECC_UNCORR.LAST_REGION = 6 ∧
      t.dev.slot (64 * p.num + k.val) = .empty ∧
      Frame [ARCH_ECC_UNCORR.COUNT, ARCH_ECC_UNCORR.LAST_REGION] [.cue] s t) ∧
  (∀ (c : Cell) (s : State),
    Settled s →
    s.dev.awake = true →
    s.dev.pwr.inTransport = false →
    s.dev.cellUsed c.val = true →
    ∃ t, exec (.eccError false (.cell c)) s = .next t ∧
      t.dev.rd ARCH_ECC_UNCORR.COUNT = min (s.dev.rd ARCH_ECC_UNCORR.COUNT + 1) 65535 ∧
      t.dev.rd ARCH_ECC_UNCORR.LAST_REGION = 1 ∧
      t.dev.rd (CELL_FLAGS.ECC_REINIT c.val) = 1 ∧ t.dev.rd (CELL_FLAGS.NEW c.val) = 1 ∧
      PageFrame (0x02 :: (List.range 48).map (64 + ·)) [.est, .lrn] s t) ∧
  (∀ (lc : Lc) (k : Fin 64) (s : State),
    Settled s →
    s.dev.awake = true →
    s.dev.pwr.inTransport = false →
    ∃ t, exec (.eccError false (.ring lc k)) s = .next t ∧
      t.dev.rd ARCH_ECC_UNCORR.COUNT = min (s.dev.rd ARCH_ECC_UNCORR.COUNT + 1) 65535 ∧
      t.dev.rd ARCH_ECC_UNCORR.LAST_REGION = 2 ∧
      PageFrame (0x02 :: 0x06 :: (List.range 48).map (64 + ·)) [.acq] s t) ∧
  (∀ (p : Point) (s : State),
    Settled s →
    s.dev.awake = true →
    s.dev.pwr.inTransport = false →
    s.dev.pointUsed s.mem p.val = true →
    (s.dev.point p.val).ecc = none →
    ∃ t, exec (.eccError false (.temp p)) s = .next t ∧
      t.dev.rd ARCH_ECC_UNCORR.COUNT = min (s.dev.rd ARCH_ECC_UNCORR.COUNT + 1) 65535 ∧
      t.dev.rd ARCH_ECC_UNCORR.LAST_REGION = 3 ∧
      t.dev.rd (TEMP_VAL.STANDING p.val) = 2 ∧
      PageFrame (0x02 :: (List.range 8).map (112 + ·)) [.thw] s t) ∧
  (∀ (s : State),
    s.dev.awake = true →
    s.dev.pwr.inTransport = false →
    s.dev.pwr.sup = .running →
    ∃ t, exec (.eccError false .firmware) s = .next t ∧
      t.dev.pwr.sup = .holdThrough ∧
      t.dev.nv.cause = 8 ∧
      (∀ k < 64, (t.dev.sess k).life = .free) ∧
      (∀ n < 33, (t.dev.chan n).frozen = s.dev.demand s.mem n) ∧
      PageFrame [0x02, 0x03, 0x08, 0x0E, 0x13] [.pwr, .chn, .saf, .nv, .net, .load, .lrn, .rcd, .out] s t) ∧
  (∀ (s : State),
    Settled s →
    s.dev.awake = true →
    s.dev.pwr.inTransport = false →
    ∃ t, exec (.scrubPass) s = .next t ∧
      t.dev.rd ARCH_SCRUB.COUNT = (s.dev.rd ARCH_SCRUB.COUNT + 1) % 4294967296 ∧
      Frame [ARCH_SCRUB.COUNT] [] s t) ∧
  (∀ (f : Func) (s : State),
    s.dev.alive = true →
    s.dev.fnState f.num = 2 →
    atBoundary f = true → s.dev.boundaryFor (tget 0 s.dev.net.cmdAt f.num) = true →
    f = .acq → s.dev.allOpen = true →
    ∃ t, exec (.functionStateChange f) s = .next t ∧
      t.dev.fnState f.num = 0 ∧ t.dev.rd (SESS_FUNC.IDLE f.num) = 0 ∧
      (∀ g : Func, g ≠ f → t.dev.fnState g.num = s.dev.fnState g.num) ∧
      (∀ g : Func, f ∈ dependsOn g → s.dev.runs g = true → t.dev.rd (SESS_FUNC.IDLE g.num) = 1) ∧
      t.mem = s.mem ∧ t.pending = s.pending) ∧
  (∀ (f : Func) (s : State),
    s.dev.alive = true →
    s.dev.fnState f.num = 3 →
    atBoundary f = true → s.dev.boundaryFor (tget 0 s.dev.net.cmdAt f.num) = true →
    ∃ t, exec (.functionStateChange f) s = .next t ∧
      t.dev.fnState f.num = 1 ∧ t.dev.rd (SESS_FUNC.IDLE f.num) = (!s.dev.depsRun f).toNat ∧
      (∀ g : Func, g ≠ f → t.dev.fnState g.num = s.dev.fnState g.num) ∧
      t.mem = s.mem ∧ t.pending = s.pending) ∧
  (∀ (s : State),
    Settled s →
    s.dev.fnState Func.acq.num = 2 →
    s.dev.allOpen = false →
    ∃ t, exec (.functionStateChange .acq) s = .next t ∧
      t = s) ∧
  (∀ (f : Func) (s : State),
    Settled s →
    s.dev.fnState f.num ≠ 2 →
    s.dev.fnState f.num ≠ 3 →
    ∃ t, exec (.functionStateChange f) s = .next t ∧
      t = s) ∧
  (∀ (s : State),
    Settled s →
    ∃ t, exec (.loadDump) s = .next t ∧
      t.dev.rd CHN_STATUS.LOAD_DUMP = 1 ∧
      Recorded [(recChnLoadDump, [])] s t ∧
      Frame [CHN_STATUS.LOAD_DUMP] [.rcd] s t)

/-- OPEN_TRL, OPEN_BED, the load window, VERIFY, its end and ABORT. OPEN_TRL makes the copy that does not run UNCOMMITTED
and opens the load context for it, OPEN_BED for the bed that IMG_BED_SEL names; the context then belongs to the
session (R45, R48). A write of the load window stores its four bytes at IMG_LOAD_OFFSET in the copy or bed slot being
loaded and nowhere else (R48, R60). VERIFY begins the checks, and their end is VERIFIED, or FAILED with the first
reason, detail and place (R49, R50). ABORT frees the context (R48). That check 9 without a running image takes the
registers as the image supplies them is the model's reading (notes/assumptions). Derived from R45, R48, R49, R60. The
model's choices and readings it takes in: log entries 29, 31, 32, 33, 108, 109, 110, 112. -/
def Obligations.LoadContextOpensFillsAndVerifies : Prop :=
  (∀ (sid : Sid) (s : State),
    Settled s →
    Heard sid s →
    (s.dev.sess sid.val).role = .maintainer ∨ (s.dev.sess sid.val).role = .safetySteward →
    s.dev.rd IMG_LOAD_STATUS.OWNER = 0 ∨ s.dev.rd IMG_LOAD_STATUS.OWNER = sid.val →
    s.dev.ldState = ldIdle ∨ s.dev.ldState = ldFailed →
    ∃ t, exec (.openTrl sid) s = .next t ∧
      Answered sid wrOk id s t ∧
      t.dev.rd IMG_LOAD_STATUS.OWNER = sid.val ∧ t.dev.ldState = ldLoading ∧ t.dev.rd IMG_TRL_INFO.MIRRORED = 0 ∧
      t.dev.load = { s.dev.load with kind := .image, serial := 0 } ∧
      (t.mem.copy s.mem.target).committed = false ∧
      (∀ x, x < commitAt ∨ commitAt + 64 ≤ x → (t.mem.copy s.mem.target).u8 x = (s.mem.copy s.mem.target).u8 x) ∧
      t.mem.copy (1 - s.mem.target) = s.mem.copy (1 - s.mem.target) ∧ t.mem.run = s.mem.run ∧
      Frame [IMG_LOAD_STATUS.OWNER, IMG_LOAD_STATUS.STATE, IMG_TRL_INFO.MIRRORED] [.mem, .load, .out, .net] s t) ∧
  (∀ (sid : Sid) (s : State),
    Settled s →
    Heard sid s →
    (s.dev.sess sid.val).role = .maintainer ∨ (s.dev.sess sid.val).role = .safetySteward →
    s.dev.rd IMG_LOAD_STATUS.OWNER = 0 ∨ s.dev.rd IMG_LOAD_STATUS.OWNER = sid.val →
    s.dev.ldState = ldIdle ∨ s.dev.ldState = ldFailed →
    s.mem.hasImage = true →
    1 ≤ s.dev.rd IMG_BED_SEL.BED_ID ∧ s.dev.rd IMG_BED_SEL.BED_ID ≤ 12 →
    ∃ t, exec (.openBed sid) s = .next t ∧
      Answered sid wrOk id s t ∧
      t.dev.rd IMG_LOAD_STATUS.OWNER = sid.val ∧ t.dev.ldState = ldLoading ∧
      t.dev.load = { s.dev.load with kind := .bed (s.dev.rd IMG_BED_SEL.BED_ID), serial := 0 } ∧
      Frame [IMG_LOAD_STATUS.OWNER, IMG_LOAD_STATUS.STATE] [.load, .out, .net] s t) ∧
  (∀ (sid : Sid) (k : Fin 128) (value : Word) (s : State),
    Settled s →
    Heard sid s →
    (s.dev.sess sid.val).role = .maintainer ∨ (s.dev.sess sid.val).role = .safetySteward →
    s.dev.rd IMG_LOAD_STATUS.OWNER = sid.val →
    s.dev.ldState = ldLoading →
    s.dev.rd IMG_LOAD_OFFSET.OFFSET + 4 * k.val < s.dev.rd IMG_LOAD_LEN.LEN →
    s.dev.load.kind = .image →
    s.dev.rd IMG_LOAD_OFFSET.OFFSET + 4 * k.val + 4 ≤ commitAt →
    ∃ t, exec (.imgLoadWin sid k value) s = .next t ∧
      Answered sid wrOk id s t ∧
      (∀ x, (t.mem.copy s.mem.target).u8 x =
        if s.dev.rd IMG_LOAD_OFFSET.OFFSET + 4 * k.val ≤ x ∧ x < s.dev.rd IMG_LOAD_OFFSET.OFFSET + 4 * k.val + 4 then
          value.toNat / 256 ^ (x - (s.dev.rd IMG_LOAD_OFFSET.OFFSET + 4 * k.val)) % 256
        else (s.mem.copy s.mem.target).u8 x) ∧
      t.mem.copy (1 - s.mem.target) = s.mem.copy (1 - s.mem.target) ∧ t.mem.run = s.mem.run ∧
      Frame [] [.mem, .out, .net] s t) ∧
  (∀ (sid : Sid) (k : Fin 128) (value : Word) (b : Nat) (s : State),
    Settled s →
    Heard sid s →
    (s.dev.sess sid.val).role = .maintainer ∨ (s.dev.sess sid.val).role = .safetySteward →
    s.dev.rd IMG_LOAD_STATUS.OWNER = sid.val →
    s.dev.ldState = ldLoading →
    s.dev.rd IMG_LOAD_OFFSET.OFFSET + 4 * k.val < s.dev.rd IMG_LOAD_LEN.LEN →
    s.dev.load.kind = .bed b →
    s.dev.rd IMG_LOAD_OFFSET.OFFSET + 4 * k.val + 4 ≤ bedSize b →
    ∃ t, exec (.imgLoadWin sid k value) s = .next t ∧
      Answered sid wrOk id s t ∧
      (∀ x, (t.mem.spare b).u8 x =
        if s.dev.rd IMG_LOAD_OFFSET.OFFSET + 4 * k.val ≤ x ∧ x < s.dev.rd IMG_LOAD_OFFSET.OFFSET + 4 * k.val + 4 then
          value.toNat / 256 ^ (x - (s.dev.rd IMG_LOAD_OFFSET.OFFSET + 4 * k.val)) % 256
        else (s.mem.spare b).u8 x) ∧
      (∀ j, j ≠ b → t.mem.spare j = s.mem.spare j) ∧
      (∀ j, t.mem.bed j = s.mem.bed j) ∧
      t.mem.copyA = s.mem.copyA ∧ t.mem.copyB = s.mem.copyB ∧ t.mem.run = s.mem.run ∧
      Frame [] [.mem, .out, .net] s t) ∧
  (∀ (sid : Sid) (s : State),
    Settled s →
    Heard sid s →
    (s.dev.sess sid.val).role = .maintainer ∨ (s.dev.sess sid.val).role = .safetySteward →
    s.dev.rd IMG_LOAD_STATUS.OWNER = sid.val →
    s.dev.ldState = ldLoading ∨ s.dev.ldState = ldVerified →
    ∃ t, exec (.verify sid) s = .next t ∧
      Answered sid wrOk id s t ∧
      t.dev.ldState = ldVerifying ∧
      Frame [IMG_LOAD_STATUS.STATE] [.out, .net] s t) ∧
  (∀ (s : State),
    Settled s →
    s.dev.alive = true →
    s.dev.ldState = ldVerifying →
    s.dev.load.kind = .image →
    ∃ t, exec (.verifyComplete) s = .next t ∧
      (∀ r off, (s.mem.copy s.mem.target).imageFlaw (s.dev.rd IMG_LOAD_LEN.LEN) s.mem s.dev = some (r, off) → r < 2 ^ IMG_LOAD_STATUS.REASON.wid →
        t.dev.ldState = ldFailed ∧ t.dev.rd IMG_LOAD_STATUS.REASON = r) ∧
      ((s.mem.copy s.mem.target).imageFlaw (s.dev.rd IMG_LOAD_LEN.LEN) s.mem s.dev = none →
        s.dev.checkNine (s.mem.copy s.mem.target) s.mem ≠ none →
        t.dev.ldState = ldFailed ∧ t.dev.rd IMG_LOAD_STATUS.REASON = rsCfg) ∧
      ((s.mem.copy s.mem.target).imageFlaw (s.dev.rd IMG_LOAD_LEN.LEN) s.mem s.dev = none →
        s.dev.checkNine (s.mem.copy s.mem.target) s.mem = none →
        t.dev.ldState = ldVerified ∧ t.dev.load.serial = (s.mem.copy s.mem.target).serial) ∧
      Frame [IMG_LOAD_STATUS.STATE, IMG_LOAD_STATUS.REASON, IMG_LOAD_STATUS.DETAIL, IMG_FAIL_WHERE.WHERE, IMG_TOUCH.STRING,
        IMG_TOUCH.BANK] [.load] s t) ∧
  (∀ (id : Nat) (s : State),
    Settled s →
    s.dev.alive = true →
    s.dev.ldState = ldVerifying →
    s.dev.load.kind = .bed id →
    ∃ t, exec (.verifyComplete) s = .next t ∧
      (∀ r off, bedFlaw (s.mem.spare id) id (s.dev.rd IMG_LOAD_LEN.LEN) s.mem = some (r, off) → r < 2 ^ IMG_LOAD_STATUS.REASON.wid →
        t.dev.ldState = ldFailed ∧ t.dev.rd IMG_LOAD_STATUS.REASON = r) ∧
      (bedFlaw (s.mem.spare id) id (s.dev.rd IMG_LOAD_LEN.LEN) s.mem = none →
        t.dev.ldState = ldVerified ∧ t.dev.load.serial = (s.mem.spare id).u32 12 ∧ t.dev.rd IMG_TOUCH.STRING = 0 ∧ t.dev.rd IMG_TOUCH.BANK = 0) ∧
      Frame [IMG_LOAD_STATUS.STATE, IMG_LOAD_STATUS.REASON, IMG_LOAD_STATUS.DETAIL, IMG_FAIL_WHERE.WHERE, IMG_TOUCH.STRING,
        IMG_TOUCH.BANK] [.load] s t) ∧
  (∀ (sid : Sid) (s : State),
    Settled s →
    Heard sid s →
    (s.dev.sess sid.val).role = .maintainer ∨ (s.dev.sess sid.val).role = .safetySteward →
    s.dev.rd IMG_LOAD_STATUS.OWNER = sid.val →
    s.dev.ldState ≠ ldMirroring →
    ∃ t, exec (.loadAbort sid) s = .next t ∧
      Answered sid wrOk id s t ∧
      t.dev.ldState = ldIdle ∧ t.dev.rd IMG_LOAD_STATUS.OWNER = 0 ∧
      Frame [IMG_LOAD_STATUS.STATE, IMG_LOAD_STATUS.OWNER] [.out, .net] s t)

/-- APPLY, the switch of an image or a bed, its outage and the mirror. APPLY of a VERIFIED image or bed whose GUARD and
conditions hold is pending until the sweep boundary; check 9 is repeated for an image (R52, R59). The switch of an
image commits the new copy, makes it run, takes its structure and digest, leaves the other copy UNCOMMITTED, and
starts the mirror (R45, R54, R56). The mirror's end copies the running image into the other copy (R46, R56). The
switch of a bed activates its other slot and begins the outage (R58); for KERN and SAFE the Curtain must accept the
pause, and the supervisor is reset with every channel at its safe default (R58, R264). At its resumption the outage
ends (R58). Derived from R46, R52, R54, R56, R58, R264. The model's choices and readings it takes in: log entries 12,
13, 34, 35, 36, 38, 39, 107. -/
def Obligations.ApplySwitchesAndMirrors : Prop :=
  (∀ (sid : Sid) (guard : BitVec 16) (s : State),
    Settled s →
    Heard sid s →
    (s.dev.sess sid.val).role = .maintainer ∨ (s.dev.sess sid.val).role = .safetySteward →
    s.dev.rd IMG_LOAD_STATUS.OWNER = sid.val →
    s.dev.ldState = ldVerified →
    guard.toNat = s.dev.load.serial % 65536 →
    s.dev.load.kind = .image →
    s.dev.imageBarred sid.val s.mem = 0 →
    ∃ t, exec (.apply sid guard) s = .next t ∧
      (s.dev.checkNine (s.mem.copy s.mem.target) s.mem = none → t.dev.ldState = ldPending ∧ Answered sid wrOk id s t) ∧
      (∀ detail addr, s.dev.checkNine (s.mem.copy s.mem.target) s.mem = some (detail, addr) →
        t.dev.ldState = ldVerified ∧ t.dev.rd IMG_LOAD_STATUS.REASON = rsCfg ∧ Answered sid (wrInvalid detail addr) id s t) ∧
      Frame [IMG_LOAD_STATUS.STATE, IMG_LOAD_STATUS.REASON, IMG_LOAD_STATUS.DETAIL, IMG_FAIL_WHERE.WHERE] [.load, .out, .net] s t) ∧
  (∀ (sid : Sid) (guard : BitVec 16) (b : Nat) (s : State),
    Settled s →
    Heard sid s →
    (s.dev.sess sid.val).role = .maintainer ∨ (s.dev.sess sid.val).role = .safetySteward →
    s.dev.rd IMG_LOAD_STATUS.OWNER = sid.val →
    s.dev.ldState = ldVerified →
    guard.toNat = s.dev.load.serial % 65536 →
    s.dev.load.kind = .bed b →
    b ≠ bedSeqn →
    s.dev.bedBarred sid.val b s.mem = 0 →
    ∃ t, exec (.apply sid guard) s = .next t ∧
      Answered sid wrOk id s t ∧
      t.dev.ldState = ldPending ∧
      t.dev.load = { s.dev.load with at_ := s.dev.clk } ∧
      Frame [IMG_LOAD_STATUS.STATE] [.load, .out, .net] s t) ∧
  (∀ (s : State),
    s.dev.switchDue = true →
    s.dev.load.kind = .image →
    ∃ t, exec (.imageSwitch) s = .next t ∧
      t.mem = s.mem.switched ∧
      t.dev.ldState = ldMirroring ∧ t.dev.rd IMG_TRL_INFO.MIRRORED = 0 ∧
      t.dev.topo = (s.dev.withTopo t.mem.img).topo ∧
      (secDiffers t.mem.img s.mem.img secSafety = true → t.dev.saf.digest = t.mem.img.digestOf secSafety) ∧
      t.pending = s.pending ∧
      (∀ p ∈ [Part.clk, .nv, .pwr, .lgr, .cue, .acq, .lim, .seq, .thw, .bal], p.same s t)) ∧
  (∀ (s : State),
    Settled s →
    s.dev.awake = true →
    s.dev.pwr.inTransport = false →
    s.mem.redo = some 0 →
    ∃ t, exec (.mirrorComplete) s = .next t ∧
      t.mem = { s.mem.putCopy s.mem.target s.mem.img with redo := none } ∧
      t.dev.rd IMG_TRL_INFO.MIRRORED = 1 ∧
      (s.dev.ldState = ldMirroring → t.dev.ldState = ldIdle ∧ t.dev.rd IMG_LOAD_STATUS.OWNER = 0) ∧
      Frame [IMG_TRL_INFO.MIRRORED, IMG_LOAD_STATUS.STATE, IMG_LOAD_STATUS.OWNER] [.mem] s t) ∧
  (∀ (id : Nat) (s : State),
    Settled s →
    s.dev.awake = true →
    s.dev.pwr.inTransport = false →
    id ≠ 0 →
    s.mem.redo = some id →
    ∃ t, exec (.mirrorComplete) s = .next t ∧
      t.mem = { s.mem.putSpare id (s.mem.bed id) with redo := none } ∧
      (s.dev.ldState = ldMirroring → t.dev.ldState = ldIdle ∧ t.dev.rd IMG_LOAD_STATUS.OWNER = 0) ∧
      Frame [IMG_LOAD_STATUS.STATE, IMG_LOAD_STATUS.OWNER] [.mem] s t) ∧
  (∀ (id : Nat) (s : State),
    Settled s →
    s.dev.switchDue = true →
    s.dev.load.kind = .bed id →
    id ∈ [3, 4, 5, 7, 10, 11] →
    ∃ t, exec (.bedSwitch) s = .next t ∧
      t.mem = { s.mem with active := tset 0 s.mem.active id (1 - s.mem.activeOf id), redo := some id } ∧
      t.dev.ldState = ldMirroring ∧
      t.dev.outage id = true ∧ ∀ j, j ≠ id → t.dev.outage j = s.dev.outage j ∧
      Recorded [(recBedApplied, leBytes 1 id ++ leBytes 4 (bedVersion (s.mem.bed id)) ++ leBytes 4 (bedVersion (t.mem.bed id)))] s t ∧
      Frame [IMG_LOAD_STATUS.STATE] [.mem, .load, .rcd] s t) ∧
  (∀ (id : Nat) (s : State),
    s.dev.switchDue = true →
    s.dev.load.kind = .bed id →
    id = 1 ∨ id = 2 →
    s.dev.allOpen = true ∧ s.dev.atRest s.mem = true →
    ∃ t, exec (.bedSwitch) s = .next t ∧
      t.mem = { s.mem with active := tset 0 s.mem.active id (1 - s.mem.activeOf id), redo := some id } ∧
      t.dev.saf.pause = true ∧ t.dev.pwr.sup = .bedReset ∧
      (∀ n < 32, (t.dev.chan n).held = true) ∧
      (∀ k < 64, (t.dev.sess k).life = .free) ∧
      t.dev.clk = s.dev.clk) ∧
  (∀ (id : Nat) (s : State),
    Settled s →
    s.dev.switchDue = true →
    s.dev.load.kind = .bed id →
    id = 1 ∨ id = 2 →
    s.dev.allOpen = false →
    ∃ t, exec (.bedSwitch) s = .next t ∧
      t.dev.ldState = ldVerified ∧ t.dev.rd IMG_LOAD_STATUS.REASON = 0x13 ∧
      Frame [IMG_LOAD_STATUS.STATE, IMG_LOAD_STATUS.REASON] [] s t) ∧
  (∀ (bed : Fin 13) (s : State),
    s.dev.alive = true →
    s.dev.outage bed.val = true →
    ∃ t, exec (.bedResumption bed) s = .next t ∧
      t.dev.load.outage = s.dev.load.outage.filter (· ≠ bed.val) ∧
      t.mem = s.mem ∧ t.pending = s.pending ∧ t.dev.clk = s.dev.clk)

/-- STROBE, SWEEP_BOUNDARY, SWEEP_END and a sweep that is abandoned. A strobe goes on to its own instant, start + k/N of a
cycle, and counts (R64, R101). A boundary goes on to phase 0x0000 of the next cycle: the cycle count is one higher,
the N evaluated at the last boundary is in force, the coming cycle's rate lies within 45 Hz to 65 Hz, and an empty
ring half is filled (R34, R98, R102). At a sweep end ACQ_SWEEP shows the sweep's cycle and N, each string's mean is
that of its OK currents, and the sweep is handed to EST (R31, R34, R112, R114). A completed sweep that is two cycles
old is dropped and counted (R34). Derived from R31, R34, R64, R98, R101, R102, R114. The model's choices and readings
it takes in: log entries 2, 41, 44, 96. -/
def Obligations.PhaseClockStepsThroughTheSweep : Prop :=
  (∀ (s : State),
    s.dev.linkWorks s.mem = true →
    s.dev.runs .acq = true →
    s.dev.phase.k < s.dev.phase.n →
    ∃ t, exec (.strobe) s = .next t ∧
      t.dev.phase.k = s.dev.phase.k + 1 ∧ t.dev.phase.cycle = s.dev.phase.cycle ∧ t.dev.phase.n = s.dev.phase.n ∧
      t.dev.clk = max s.dev.clk (nearest (s.dev.phase.start + s.dev.cycleClk * (s.dev.phase.k : Nat) / (s.dev.phase.n : Nat))).toNat ∧
      t.dev.acq.waits = true ∧ t.dev.acq.fill.cycle = s.dev.acq.fill.cycle ∧
      (∀ n < 72, s.dev.isLive n = true → (t.dev.port n).strobes = (s.dev.port n).strobes + 1 ∧ (t.dev.port n).got = false) ∧
      t.mem = s.mem ∧ t.pending = s.pending) ∧
  (∀ (s : State),
    s.dev.alive = true →
    ∃ t, exec (.sweepBoundary) s = .next t ∧
      t.dev.phase.cycle = (s.dev.phase.cycle + 1) % 2 ^ 48 ∧ t.dev.phase.k = 0 ∧
      t.dev.phase.start = s.dev.phase.start + s.dev.cycleClk ∧ t.dev.clk = max s.dev.clk (nearest t.dev.phase.start).toNat ∧
      t.dev.phase.n = s.dev.phase.nNext ∧ t.dev.rd ACQ_STATUS.N_EFF = s.dev.phase.nNext % 2 ^ ACQ_STATUS.N_EFF.wid ∧
      45 ≤ t.dev.phase.rate ∧ t.dev.phase.rate ≤ 65 ∧
      t.dev.acq.fill.cycle = t.dev.phase.cycle ∧ t.dev.acq.fill.n = t.dev.phase.n ∧ t.dev.acq.fill.cells = [] ∧ t.dev.acq.fill.strs = [] ∧
      t.mem = s.mem ∧ t.pending = s.pending) ∧
  (∀ (s : State),
    s.dev.linkWorks s.mem = true →
    s.dev.runs .acq = true →
    s.dev.phase.n ≤ s.dev.phase.k →
    s.dev.acq.fill.cycle = s.dev.phase.cycle →
    s.dev.lim.swept ≠ some s.dev.phase.cycle →
    ∃ t, exec (.sweepEnd) s = .next t ∧
      t.dev.lim.swept = some s.dev.phase.cycle ∧
      t.dev.rd ACQ_SWEEP0.CYCLE_LO = s.dev.acq.fill.cycle % 2 ^ 32 ∧
      t.dev.rd ACQ_SWEEP1.CYCLE_HI = s.dev.acq.fill.cycle / 2 ^ 32 % 2 ^ 16 ∧ t.dev.rd ACQ_SWEEP1.N = s.dev.acq.fill.n % 256 ∧
      (∀ x < 8, s.dev.configured x = true → tget none t.dev.acq.mean x = if (s.dev.acq.fill.curOk x).isEmpty then none else some (meanOf ((s.dev.acq.fill.curOk x).map (·.2)))) ∧
      (s.dev.acq.done = none → ∃ w, t.dev.acq.done = some w ∧ w.cycle = s.dev.acq.fill.cycle ∧ w.cells = s.dev.acq.fill.cells ∧ w.strs = s.dev.acq.fill.strs) ∧
      PageFrame ([0x02, 0x03, 0x04, 0x06, 0x09, 0x0A, 0x0D, 0x0E, 0x10, 0x11] ++ (List.range 48).map (64 + ·) ++ (List.range 8).map (112 + ·))
        [.out, .nv, .rcd, .lgr, .cue, .ports, .acq, .est, .lrn, .lim, .seq, .thw, .bal, .chn, .saf] s t) ∧
  (∀ (w : Sweep) (s : State),
    Settled s →
    s.dev.alive = true →
    s.dev.works .est = true →
    s.dev.acq.done = some w →
    w.cycle + 2 ≤ s.dev.phase.cycle →
    ∃ t, exec (.sweepAbandoned) s = .next t ∧
      t.dev.rd ARCH_SWEEP_SKIP.COUNT = min (s.dev.rd ARCH_SWEEP_SKIP.COUNT + 1) (2 ^ ARCH_SWEEP_SKIP.COUNT.wid - 1) ∧
      t.dev.acq = { s.dev.acq with done := s.dev.acq.late, late := none } ∧
      Frame [ARCH_SWEEP_SKIP.COUNT] [.acq] s t)

/-- A mains crossing, a submitted timestamp, the loss of the source and the loss of links, in the cases named. With PH_SRC
MAINS: outside LOCKED a crossing that follows the last one by 1/65 s to 1/45 s is accepted and its interval heads the
eight kept; in LOCKED one further than 1/8 cycle from the clock's phase is counted as a glitch and not accepted, and a
nearer one is accepted as a timestamp is: with none accepted before it is the last accepted, otherwise it gives an
interval, the time between the two over the whole cycles it spans, the later of the two is the last accepted, and one
that spans no cycle leaves the phase clock's accepted crossings alone (R94, R95). A timestamp of the steward of TIME
with TIME in RUN that is at most 1 s old, at most 1 ms ahead, in LOCKED within 1/8 cycle, and not before the domain's
last step is accepted so, and counted; each of the five conditions that fails first refuses it with its reason, 1 to
5; with TIME not in RUN one that passes them changes nothing (R95, R100). In ACQUIRING or LOCKED the loss of the
source takes the clock to HOLD with a record, and nothing accepted counts any more (R96, R97). While limits act,
LINK_LOSS of a string in CONNECTED whose misses have reached LINK_MISS_LIMIT makes it DRAINING, with the record, and
with CAUSE LINK_LOSS where no latch stands (R85, R196). That a crossing spanning no cycle changes nothing, and what a
timestamp does with TIME STOPPED, are the model's readings (notes/assumptions). Derived from R85, R94, R95, R96, R97,
R100, R196. The model's choices and readings it takes in: log entries 12, 13, 44, 45. -/
def Obligations.CrossingsFeedThePhaseClock : Prop :=
  (∀ (at_ : Nat) (a : Rat) (s : State),
    Settled s →
    s.dev.awake = true →
    s.dev.pwr.inTransport = false →
    s.dev.rd ACQ_PH_CFG.PH_SRC = 0 →
    s.dev.phState ≠ phLocked →
    s.dev.phase.cross = some a →
    mainsIval ((at_ : Rat) - a) = true →
    ∃ t, exec (.mainsCrossing at_) s = .next t ∧
      t.dev.phase.cross = some (at_ : Rat) ∧ t.dev.phase.accepted = some (at_ : Rat) ∧
      t.dev.phase.ivals = (((at_ : Rat) - a) :: s.dev.phase.ivals).take 8 ∧
      Frame [ACQ_PH_STATUS.SRC_VALID, ACQ_PH_STATUS.STATE, ACQ_PH_STATUS.PHASE_HOLD] [.phase, .acq] s t) ∧
  (∀ (at_ : Nat) (s : State),
    Settled s →
    s.dev.awake = true →
    s.dev.pwr.inTransport = false →
    s.dev.rd ACQ_PH_CFG.PH_SRC = 0 →
    s.dev.phState = phLocked →
    1 / 8 < mag (s.dev.crossError (at_ : Rat)) →
    ∃ t, exec (.mainsCrossing at_) s = .next t ∧
      t.dev.rd ACQ_PH_STATUS.GLITCH = (s.dev.rd ACQ_PH_STATUS.GLITCH + 1) % 256 ∧
      t.dev.phase = { s.dev.phase with cross := some (at_ : Rat) } ∧
      Frame [ACQ_PH_STATUS.GLITCH] [.phase] s t) ∧
  (∀ (at_ : Nat) (s : State),
    Settled s →
    s.dev.awake = true →
    s.dev.pwr.inTransport = false →
    s.dev.rd ACQ_PH_CFG.PH_SRC = 0 →
    s.dev.phState = phLocked →
    mag (s.dev.crossError (at_ : Rat)) ≤ 1 / 8 →
    ∃ t, exec (.mainsCrossing at_) s = .next t ∧
      t.dev.phase.cross = some (at_ : Rat) ∧
      (s.dev.phase.accepted = none → t.dev.phase.accepted = some (at_ : Rat)) ∧
      (∀ a ∈ s.dev.phase.accepted, s.dev.spanned ((at_ : Rat) - a) ≠ 0 → t.dev.phase.accepted = some (max a (at_ : Rat)) ∧
        t.dev.phase.ivals = (mag ((at_ : Rat) - a) / (s.dev.spanned ((at_ : Rat) - a) : Nat) :: s.dev.phase.ivals).take 8) ∧
      (∀ a ∈ s.dev.phase.accepted, s.dev.spanned ((at_ : Rat) - a) = 0 → t.dev.phase.accepted = s.dev.phase.accepted ∧
        t.dev.phase.ivals = s.dev.phase.ivals) ∧
      Frame [] [.phase] s t) ∧
  (∀ (sid : Sid) (hi : BitVec 16) (age : Int) (at_ : Rat) (s : State),
    Settled s →
    Heard sid s →
    s.dev.isSteward sid .time = true →
    s.dev.rd ACQ_PH_CFG.PH_SRC = 1 →
    age = ((s.dev.domNs (s.dev.rd ACQ_PH_CFG.ZC_DOMAIN) : Nat) : Int) -
        (((hi.toNat * 2 ^ 32 + s.dev.rd ACQ_ZC_SEC0.SEC_LO) * 1000000000 + s.dev.rd ACQ_ZC_NS.NS : Nat) : Int) →
    age ≤ 1000000000 →
    -1000000 ≤ age →
    at_ = (s.dev.clk : Rat) - (age : Rat) * 16777216 / (s.dev.rd (TIME_INCR.INCR (s.dev.domIx (s.dev.rd ACQ_PH_CFG.ZC_DOMAIN))) : Nat) →
    s.dev.phState = phLocked → mag (s.dev.crossError at_) ≤ 1 / 8 →
    ∀ x ∈ (s.dev.dom (s.dev.rd ACQ_PH_CFG.ZC_DOMAIN)).lastStep, (x : Rat) ≤ at_ →
    s.dev.runs .time = true →
    ∃ t, exec (.zcTimestamp sid hi) s = .next t ∧
      Answered sid wrOk id s t ∧
      t.dev.rd ACQ_ZC_STATUS.ACCEPTED = (s.dev.rd ACQ_ZC_STATUS.ACCEPTED + 1) % 65536 ∧
      (s.dev.phase.accepted = none → t.dev.phase.accepted = some at_) ∧
      (∀ a ∈ s.dev.phase.accepted, s.dev.spanned (at_ - a) ≠ 0 → t.dev.phase.accepted = some (max a at_) ∧
        t.dev.phase.ivals = (mag (at_ - a) / (s.dev.spanned (at_ - a) : Nat) :: s.dev.phase.ivals).take 8) ∧
      (∀ a ∈ s.dev.phase.accepted, s.dev.spanned (at_ - a) = 0 → t.dev.phase.accepted = s.dev.phase.accepted ∧
        t.dev.phase.ivals = s.dev.phase.ivals) ∧
      Frame [ACQ_PH_STATUS.SRC_VALID, ACQ_PH_STATUS.STATE, ACQ_PH_STATUS.PHASE_HOLD, ACQ_ZC_STATUS.ACCEPTED] [.phase, .acq, .out, .net] s t) ∧
  (∀ (sid : Sid) (hi : BitVec 16) (age : Int) (at_ : Rat) (s : State),
    Settled s →
    Heard sid s →
    s.dev.isSteward sid .time = true →
    s.dev.rd ACQ_PH_CFG.PH_SRC = 1 →
    age = ((s.dev.domNs (s.dev.rd ACQ_PH_CFG.ZC_DOMAIN) : Nat) : Int) -
        (((hi.toNat * 2 ^ 32 + s.dev.rd ACQ_ZC_SEC0.SEC_LO) * 1000000000 + s.dev.rd ACQ_ZC_NS.NS : Nat) : Int) →
    age ≤ 1000000000 →
    -1000000 ≤ age →
    at_ = (s.dev.clk : Rat) - (age : Rat) * 16777216 / (s.dev.rd (TIME_INCR.INCR (s.dev.domIx (s.dev.rd ACQ_PH_CFG.ZC_DOMAIN))) : Nat) →
    s.dev.phState = phLocked → mag (s.dev.crossError at_) ≤ 1 / 8 →
    ∀ x ∈ (s.dev.dom (s.dev.rd ACQ_PH_CFG.ZC_DOMAIN)).lastStep, (x : Rat) ≤ at_ →
    s.dev.runs .time = false →
    ∃ t, exec (.zcTimestamp sid hi) s = .next t ∧
      Answered sid wrOk id s t ∧
      Frame [] [.out, .net] s t) ∧
  (∀ (sid : Sid) (hi : BitVec 16) (age : Int) (at_ : Rat) (s : State),
    Settled s →
    Heard sid s →
    s.dev.isSteward sid .time = true →
    s.dev.rd ACQ_PH_CFG.PH_SRC ≠ 1 →
    ∃ t, exec (.zcTimestamp sid hi) s = .next t ∧
      Answered sid (wrRefused 1 ACQ_ZC_SEC1.SEC_HI.addr) id s t ∧
      t.dev.rd ACQ_ZC_STATUS.REASON = 1 ∧
      Frame [ACQ_ZC_STATUS.REASON] [.out, .net] s t) ∧
  (∀ (sid : Sid) (hi : BitVec 16) (age : Int) (at_ : Rat) (s : State),
    Settled s →
    Heard sid s →
    s.dev.isSteward sid .time = true →
    s.dev.rd ACQ_PH_CFG.PH_SRC = 1 →
    age = ((s.dev.domNs (s.dev.rd ACQ_PH_CFG.ZC_DOMAIN) : Nat) : Int) -
        (((hi.toNat * 2 ^ 32 + s.dev.rd ACQ_ZC_SEC0.SEC_LO) * 1000000000 + s.dev.rd ACQ_ZC_NS.NS : Nat) : Int) →
    1000000000 < age →
    ∃ t, exec (.zcTimestamp sid hi) s = .next t ∧
      Answered sid (wrRefused 2 ACQ_ZC_SEC1.SEC_HI.addr) id s t ∧
      t.dev.rd ACQ_ZC_STATUS.REASON = 2 ∧
      Frame [ACQ_ZC_STATUS.REASON] [.out, .net] s t) ∧
  (∀ (sid : Sid) (hi : BitVec 16) (age : Int) (at_ : Rat) (s : State),
    Settled s →
    Heard sid s →
    s.dev.isSteward sid .time = true →
    s.dev.rd ACQ_PH_CFG.PH_SRC = 1 →
    age = ((s.dev.domNs (s.dev.rd ACQ_PH_CFG.ZC_DOMAIN) : Nat) : Int) -
        (((hi.toNat * 2 ^ 32 + s.dev.rd ACQ_ZC_SEC0.SEC_LO) * 1000000000 + s.dev.rd ACQ_ZC_NS.NS : Nat) : Int) →
    age < -1000000 →
    ∃ t, exec (.zcTimestamp sid hi) s = .next t ∧
      Answered sid (wrRefused 3 ACQ_ZC_SEC1.SEC_HI.addr) id s t ∧
      t.dev.rd ACQ_ZC_STATUS.REASON = 3 ∧
      Frame [ACQ_ZC_STATUS.REASON] [.out, .net] s t) ∧
  (∀ (sid : Sid) (hi : BitVec 16) (age : Int) (at_ : Rat) (s : State),
    Settled s →
    Heard sid s →
    s.dev.isSteward sid .time = true →
    s.dev.rd ACQ_PH_CFG.PH_SRC = 1 →
    age = ((s.dev.domNs (s.dev.rd ACQ_PH_CFG.ZC_DOMAIN) : Nat) : Int) -
        (((hi.toNat * 2 ^ 32 + s.dev.rd ACQ_ZC_SEC0.SEC_LO) * 1000000000 + s.dev.rd ACQ_ZC_NS.NS : Nat) : Int) →
    age ≤ 1000000000 →
    -1000000 ≤ age →
    at_ = (s.dev.clk : Rat) - (age : Rat) * 16777216 / (s.dev.rd (TIME_INCR.INCR (s.dev.domIx (s.dev.rd ACQ_PH_CFG.ZC_DOMAIN))) : Nat) →
    s.dev.phState = phLocked →
    1 / 8 < mag (s.dev.crossError at_) →
    ∃ t, exec (.zcTimestamp sid hi) s = .next t ∧
      Answered sid (wrRefused 4 ACQ_ZC_SEC1.SEC_HI.addr) id s t ∧
      t.dev.rd ACQ_ZC_STATUS.REASON = 4 ∧
      Frame [ACQ_ZC_STATUS.REASON] [.out, .net] s t) ∧
  (∀ (sid : Sid) (hi : BitVec 16) (age : Int) (at_ : Rat) (s : State),
    Settled s →
    Heard sid s →
    s.dev.isSteward sid .time = true →
    s.dev.rd ACQ_PH_CFG.PH_SRC = 1 →
    age = ((s.dev.domNs (s.dev.rd ACQ_PH_CFG.ZC_DOMAIN) : Nat) : Int) -
        (((hi.toNat * 2 ^ 32 + s.dev.rd ACQ_ZC_SEC0.SEC_LO) * 1000000000 + s.dev.rd ACQ_ZC_NS.NS : Nat) : Int) →
    age ≤ 1000000000 →
    -1000000 ≤ age →
    at_ = (s.dev.clk : Rat) - (age : Rat) * 16777216 / (s.dev.rd (TIME_INCR.INCR (s.dev.domIx (s.dev.rd ACQ_PH_CFG.ZC_DOMAIN))) : Nat) →
    s.dev.phState = phLocked → mag (s.dev.crossError at_) ≤ 1 / 8 →
    ∃ x ∈ (s.dev.dom (s.dev.rd ACQ_PH_CFG.ZC_DOMAIN)).lastStep, at_ < (x : Rat) →
    ∃ t, exec (.zcTimestamp sid hi) s = .next t ∧
      Answered sid (wrRefused 5 ACQ_ZC_SEC1.SEC_HI.addr) id s t ∧
      t.dev.rd ACQ_ZC_STATUS.REASON = 5 ∧
      Frame [ACQ_ZC_STATUS.REASON] [.out, .net] s t) ∧
  (∀ (s : State),
    Settled s →
    s.dev.awake = true →
    s.dev.phState = phAcquiring ∨ s.dev.phState = phLocked →
    ∃ t, exec (.sourceLost) s = .next t ∧
      t.dev.phState = phHold ∧ t.dev.rd ACQ_PH_STATUS.PHASE_HOLD = 1 ∧ t.dev.rd ACQ_PH_STATUS.SRC_VALID = 0 ∧
      t.dev.phase.accepted = none ∧ t.dev.phase.ivals = [] ∧ t.dev.phase.qual = 0 ∧
      Recorded [(recPhaseHold, [])] s t ∧
      Frame [ACQ_PH_STATUS.SRC_VALID, ACQ_PH_STATUS.STATE, ACQ_PH_STATUS.PHASE_HOLD] [.phase, .acq, .rcd] s t) ∧
  (∀ (str : Str) (s : State),
    s.dev.limActs s.mem = true →
    s.dev.strState str.val = 6 →
    s.dev.rd PORT_CFG.LINK_MISS_LIMIT ≤ s.dev.missMax str.val →
    ∃ t, exec (.linkLoss str) s = .next t ∧
      t.dev.strState str.val = 7 ∧ (t.dev.sq str.val).opn = .drain ∧
      ((s.dev.latchOf str.val).1 = 0 → t.dev.rd (SEQ_STATE.CAUSE str.val) = 3) ∧
      Recorded [(recStringOpened, [BitVec.ofNat 8 str.val, 3])] s t ∧
      PageFrame [0x0A] [.seq, .rcd] s t)

/-- EST_PUBLISH, and what EST finds of a sweep on the way to it, in the cases named. EST in RUN, not idle and outside its
bed's outage, with a running image. EST_PUBLISH of a sweep that is processed: EST_SWEEP names its cycle, the ring half
is free, a snapshot that waits is copied with the CRC-32 of the record (R142, R143), and the SoC that each configured
string reports lies between 0 and 1; it is at 0.01 or above where the string is not voltage-empty and has not become
so in this sweep, and where DISCHARGING is shown it is not above the larger of the last report and 0.01 (R116, R135,
R137). A sweep that is left out changes nothing but the ring (R122). DISCHARGE_STATE_CHANGE, where the sweep in hand
gives the string or the bank another discharging state than it has, gives it that state (R134). VOLT_EMPTY, where EST
has not worked on the sweep in hand and the string becomes voltage-empty in it, marks the string empty and held, and a
string in CONNECTED drains (R136). REST_QUALIFIED, where EST has not worked on the sweep in hand and the string's rest
is due in it, notes the rest, ends the two disagreements, and takes va and vb of every cell with samples enough to 0
(R138). IMPEDANCE_AGED marks one slot of a used cell as AGED and leaves every other cell (R129). PROBE_REQUEST for a
connected string whose Z at H0 is AGED in every cell, with probes enabled and no Prune, raises the request with a
record (R131). That the four events in the middle carry EST as far as their own step is the model's reading
(notes/assumptions). Derived from R116, R122, R142, R143, R129, R131, R134, R135, R136, R137, R138. The model's
choices and readings it takes in: log entries 9, 12, 13, 48, 49, 97. -/
def Obligations.EstimatorPublishesBoundedReports : Prop :=
  (∀ (w : Sweep) (s : State),
    s.dev.estActs s.mem = true →
    s.dev.acq.done = some w →
    s.dev.processed w = true →
    ∃ t, exec (.estPublish) s = .next t ∧
      t.dev.est.last = w.cycle ∧ t.dev.est.any = true ∧ t.dev.est.resume = false ∧
      t.dev.rd EST_SWEEP0.CYCLE_LO = w.cycle % 2 ^ 32 ∧ t.dev.rd EST_SWEEP1.CYCLE_HI = w.cycle / 2 ^ 32 % 2 ^ EST_SWEEP1.CYCLE_HI.wid ∧
      t.dev.acq = { s.dev.acq with done := s.dev.acq.late, late := none } ∧
      (s.dev.lrnState = 1 → s.dev.lrn.copied = false → t.dev.lrn.copied = true ∧
        Img.u32 t.dev.lrn.buf 51840 = crc32Ref (Img.slice t.dev.lrn.buf 0 51840)) ∧
      (∀ x < 8, s.dev.configured x = true → ∃ r, (t.dev.se x).soc = some r ∧ 0 ≤ r ∧ r ≤ 1 ∧
        ((t.dev.se x).empty = false → (t.dev.se x).first = false → 1 / 100 ≤ r) ∧
        (t.dev.on (EST_SFLAGS.DISCHARGING x) = true → ∀ r0 ∈ (s.dev.se x).soc, r ≤ max r0 (1 / 100))) ∧
      PageFrame ([0x07, 0x08, 0x0A] ++ (List.range 48).map (64 + ·))
        [.acq, .est, .lrn, .lim, .seq, .chn, .nv, .rcd] s t) ∧
  (∀ (w : Sweep) (s : State),
    Settled s →
    s.dev.estActs s.mem = true →
    s.dev.acq.done = some w →
    s.dev.processed w = false →
    ∃ t, exec (.estPublish) s = .next t ∧
      t.dev.acq = { s.dev.acq with done := s.dev.acq.late, late := none } ∧
      Frame [] [.acq] s t) ∧
  (∀ (who : Who) (w : Sweep) (s : State),
    s.dev.estActs s.mem = true →
    s.dev.acq.done = some w →
    s.dev.processed w = true →
    who.val = 8 ∨ s.dev.configured who.val = true →
    s.dev.disAt w who.val ≠ (s.dev.se who.val).dis →
    ∃ t, exec (.dischargeStateChange who) s = .next t ∧
      (t.dev.se who.val).dis = s.dev.disAt w who.val ∧
      t.dev.est.worked = some w.cycle ∧
      PageFrame ([0x07, 0x08, 0x0A] ++ (List.range 48).map (64 + ·))
        [.est, .lrn, .seq, .chn, .nv, .rcd] s t) ∧
  (∀ (str : Str) (w : Sweep) (s : State),
    s.dev.estActs s.mem = true →
    s.dev.acq.done = some w →
    s.dev.processed w = true →
    s.dev.est.worked ≠ some w.cycle →
    s.dev.configured str.val = true →
    s.dev.emptyDue s.mem w str.val = true →
    ∃ t, exec (.voltEmpty str) s = .next t ∧
      (t.dev.se str.val).empty = true ∧ (t.dev.se str.val).first = true ∧ (t.dev.se str.val).hold = true ∧
      (s.dev.strState str.val = 6 → t.dev.strState str.val = 7) ∧
      t.dev.est.worked = some w.cycle ∧
      PageFrame ([0x07, 0x08, 0x0A] ++ (List.range 48).map (64 + ·))
        [.est, .lrn, .seq, .chn, .nv, .rcd] s t) ∧
  (∀ (str : Str) (w : Sweep) (s : State),
    s.dev.estActs s.mem = true →
    s.dev.acq.done = some w →
    s.dev.processed w = true →
    s.dev.est.worked ≠ some w.cycle →
    s.dev.configured str.val = true →
    s.dev.restDue w str.val = true →
    ∃ t, exec (.restQualified str) s = .next t ∧
      (t.dev.se str.val).rested = some (w.end_ str.val).restFrom ∧
      (t.dev.se str.val).countVolt = false ∧ (t.dev.se str.val).voltCount = false ∧
      (∀ c ∈ s.dev.restCells w str.val, (t.dev.cell c).va = 0 ∧ (t.dev.cell c).vb = 0) ∧
      t.dev.est.worked = some w.cycle ∧
      PageFrame ([0x07, 0x08, 0x0A] ++ (List.range 48).map (64 + ·))
        [.est, .lrn, .seq, .chn, .nv, .rcd] s t) ∧
  (∀ (c : Cell) (slot : Fin 3) (s : State),
    Settled s →
    s.dev.alive = true →
    s.mem.hasImage = true →
    s.dev.cellUsed c.val = true →
    ((s.dev.cell c.val).z slot.val).aged = false →
    ∃ t, exec (.impedanceAged c slot) s = .next t ∧
      ((t.dev.cell c.val).z slot.val).aged = true ∧
      (∀ j, j ≠ c.val → t.dev.cell j = s.dev.cell j) ∧
      Frame [] [.est] s t) ∧
  (∀ (str : Str) (s : State),
    Settled s →
    s.dev.estActs s.mem = true →
    s.dev.on EST_PROBE.PROBE_EN = true →
    s.dev.connected str.val = true →
    s.dev.stage = 0 →
    (s.dev.se str.val).probe = false →
    ∀ c ∈ s.dev.cellsOf str.val, (s.dev.cell c).z0.aged = true →
    ∃ t, exec (.probeRequest str) s = .next t ∧
      (t.dev.se str.val).probe = true ∧
      Recorded [(recProbeRequest, [BitVec.ofNat 8 str.val])] s t ∧
      Frame [] [.est, .rcd] s t)

/-- LIMIT_PUBLICATION, HARD_REQUEST, LIM_ESCALATE, LADDER_STEP and SUPPLY_PRUNE, in the cases named. With LIM in RUN and a
running image LIMIT_PUBLICATION goes on to its cue, takes the next sequence number and sends a message on every path
that publishes; where no processed sweep stands behind it every limit is 0; where one does and this is no first
overrun, a configured string that is not in CONNECTED has limits 0, and one whose limits are not held at 0 has
discharge currents that exceed the last ones by no more than RAMP_UP times its cap and, where no SDR input forbids
discharge, not its safety limit (R159, R160, R165). While limits act: HARD_REQUEST for the bank, or for a connected
string the bank's ladder does not hold, in stage NONE or REQUEST with CONFIRM non-compliant sweeps takes it to
HARD_REQUEST with a record; LIM_ESCALATE at the end of the grace time takes it to DISCONNECT with a record, and a
string in CONNECTED without a latch then drains with the HOLD latch and cause LIM_NONCOMPLIANCE; for the bank that is
the first string of the shed order, and LADDER_STEP opens the next one so STEP later (R169, R170). SUPPLY_PRUNE in
Prune 4 with a running image, with a string connected, none closing and no bank close in progress: every connected
string drains with cause SUPPLY_PRUNE, waiting for I_BREAK only, and every string that is not open is recorded (R173).
Derived from R159, R160, R165, R169, R170, R173. The model's choices and readings it takes in: log entries 2, 12, 13,
53, 54, 100. -/
def Obligations.LimitsArePublishedAndEscalated : Prop :=
  (∀ (s : State),
    s.dev.alive = true →
    s.dev.runs .lim = true →
    s.mem.hasImage = true →
    ∃ t, exec (.limitPublication) s = .next t ∧
      t.dev.lim.seq = (s.dev.lim.seq + 1) % 2 ^ 32 ∧ t.dev.rd LIM_SEQ.SEQ = t.dev.lim.seq ∧
      t.dev.clk = max s.dev.clk (nearest (s.dev.phase.start + s.dev.cycleClk * (s.dev.rd LIM_PUB.PHASE : Nat) / 65536)).toNat ∧
      (s.dev.noSweep = true → ∀ w ∈ s.dev.limWho, (t.dev.one w).pub = .zero) ∧
      (s.dev.noSweep = false → ¬ (s.dev.overrun = true ∧ s.dev.lim.overruns = 0) → ∀ w ∈ s.dev.confStrs, s.dev.strState w ≠ 6 → (t.dev.one w).pub = .zero) ∧
      (s.dev.noSweep = false → ¬ (s.dev.overrun = true ∧ s.dev.lim.overruns = 0) → ∀ w ∈ s.dev.confStrs, s.dev.shut w = false → ∀ h < 4,
        (t.dev.one w).pub.dis.getD h 0 ≤ (s.dev.one w).pub.dis.getD h 0 + s.dev.rampUp * s.mem.img.iCap w true h ∧
        (s.dev.sdrForbids s.mem w true = false → (t.dev.one w).pub.dis.getD h 0 ≤ s.dev.slcAmps s.mem w true)) ∧
      (∀ p ∈ s.dev.limPaths s.mem, ∃ dest l, .limit p dest l ∈ t.dev.out) ∧
      PageFrame [0x09, 0x0F] [.lim, .clk, .out, .cue, .time] s t) ∧
  (∀ (who : Who) (s : State),
    Settled s →
    s.dev.limActs s.mem = true →
    s.dev.ladderMoves who.val = true →
    (s.dev.one who.val).stage ≤ 1 →
    s.dev.rd LIM_ESC.CONFIRM ≤ (s.dev.one who.val).excess →
    0 < (s.dev.one who.val).excess →
    ∃ t, exec (.hardRequest who) s = .next t ∧
      t.dev.one who.val = { s.dev.one who.val with stage := 2, stageAt := s.dev.clk, within := 0 } ∧
      Recorded [(recLimHardRequest, [whoByte who.val])] s t ∧
      (∀ w, w ≠ who.val → t.dev.one w = s.dev.one w) ∧
      Frame [] [.lim, .rcd] s t) ∧
  (∀ (k : Str) (s : State),
    Settled s →
    s.dev.limActs s.mem = true →
    s.dev.ladderMoves k.val = true →
    s.dev.strState k.val = 6 →
    (s.dev.latchOf k.val).1 = 0 →
    (s.dev.one k.val).stage = 2 →
    (s.dev.one k.val).stageAt + s.dev.graceClk ≤ s.dev.clk →
    ∃ t, exec (.limEscalate ⟨k.val, by omega⟩) s = .next t ∧
      (t.dev.one k.val).stage = 3 ∧
      t.dev.strState k.val = 7 ∧ (t.dev.sq k.val).opn = .drain ∧ (t.dev.sq k.val).hold = true ∧
      t.dev.rd (SEQ_STATE.LATCH k.val) = 1 ∧ t.dev.rd (SEQ_STATE.CAUSE k.val) = 4 ∧
      Recorded [(recLimEscalate, [whoByte k.val]), (recStringOpened, [BitVec.ofNat 8 k.val, 4])] s t ∧
      PageFrame [0x0A] [.lim, .seq, .rcd] s t) ∧
  (∀ (k : Str) (s : State),
    Settled s →
    s.dev.limActs s.mem = true →
    (s.dev.one 8).stage = 2 →
    (s.dev.one 8).stageAt + s.dev.graceClk ≤ s.dev.clk →
    s.dev.firstShed = some k.val →
    s.dev.strState k.val = 6 →
    (s.dev.latchOf k.val).1 = 0 →
    ∃ t, exec (.limEscalate 8) s = .next t ∧
      (t.dev.one 8).stage = 3 ∧ (t.dev.one 8).stageAt = s.dev.clk ∧
      t.dev.lim.shed = s.dev.lim.shed.filter (· ≠ k.val) ++ [k.val] ∧ (t.dev.one k.val).stage = 0 ∧
      t.dev.strState k.val = 7 ∧ (t.dev.sq k.val).opn = .drain ∧ (t.dev.sq k.val).hold = true ∧
      t.dev.rd (SEQ_STATE.LATCH k.val) = 1 ∧ t.dev.rd (SEQ_STATE.CAUSE k.val) = 4 ∧
      Recorded [(recLimEscalate, [0x80]), (recStringOpened, [BitVec.ofNat 8 k.val, 4])] s t ∧
      PageFrame [0x0A] [.lim, .seq, .rcd] s t) ∧
  (∀ (k : Str) (s : State),
    Settled s →
    s.dev.limActs s.mem = true →
    (s.dev.one 8).stage = 3 →
    0 < (s.dev.one 8).excess →
    (s.dev.one 8).stageAt + msClk (100 * s.dev.rd LIM_ESC.STEP) ≤ s.dev.clk →
    s.dev.firstShed = some k.val →
    s.dev.strState k.val = 6 →
    (s.dev.latchOf k.val).1 = 0 →
    ∃ t, exec (.ladderStep) s = .next t ∧
      t.dev.lim.shed = s.dev.lim.shed.filter (· ≠ k.val) ++ [k.val] ∧ (t.dev.one 8).stageAt = s.dev.clk ∧
      t.dev.strState k.val = 7 ∧ (t.dev.sq k.val).opn = .drain ∧ (t.dev.sq k.val).hold = true ∧
      t.dev.rd (SEQ_STATE.LATCH k.val) = 1 ∧ t.dev.rd (SEQ_STATE.CAUSE k.val) = 4 ∧
      Recorded [(recStringOpened, [BitVec.ofNat 8 k.val, 4])] s t ∧
      PageFrame [0x0A] [.lim, .seq, .rcd] s t) ∧
  (∀ (s : State),
    Settled s →
    s.dev.alive = true →
    s.dev.pwr.p4 = true →
    s.mem.hasImage = true →
    s.dev.bankClosing = false →
    ∀ k < 8, s.dev.closing k = false →
    ∃ k < 8, s.dev.connected k = true →
    ∃ t, exec (.supplyPrune) s = .next t ∧
      (∀ k < 8, s.dev.connected k = true → t.dev.strState k = 7 ∧ (t.dev.sq k).opn = .breakWait ∧ (t.dev.sq k).cause = 5) ∧
      Recorded ((strings.filter fun k => !s.dev.isOpen k).map fun k => (recStringOpened, [BitVec.ofNat 8 k, 5])) s t ∧
      PageFrame [0x0A] [.seq, .rcd] s t)

/-- SNAPSHOT, its copy, RELEASE, OPEN_STAGE, the window, LRN_COMMIT, its check, ABORT and the swap, in the cases named.
For the steward of LRN: SNAPSHOT of an empty buffer makes the session its owner and waits for the copy; once the
buffer is filled SNAPSHOT_COPY_DONE shows it (R143). The owner's RELEASE of a snapshot empties the buffer. OPEN_STAGE
of an empty buffer, or of the owner's failed one, empties and stages it; a window write of the owner in STAGING stores
its four bytes through the session's page and no other byte; a commit word of the owner in STAGING is kept and starts
the check (R144, R153). At the next strobe, with ACQ in RUN, a bad header, a buffer whose CRC does not agree or a
commit word that does not match fails it with reason 3, 4 or 5 in this order, and its contents are gone; else the swap
is pending with the accepted and the pending blocks (R144, R145). The owner's ABORT while a restore is under way
empties the buffer and sets RESTORE_INCOMPLETE (R146). RESTORE_SWAP at a boundary for it, outside the ESTM outage,
counts the judged blocks, takes the capacity of every cell of an accepted block and declares a rejected block NEW, and
clears RESTORE_INCOMPLETE (R144, R145, R146). When the check runs, and with which reason first, is the model's reading
(notes/assumptions). Derived from R142, R143, R144, R145, R146, R153. The model's choices and readings it takes in:
log entry 51. -/
def Obligations.LearnedDataIsExportedAndRestored : Prop :=
  (∀ (sid : Sid) (s : State),
    Settled s →
    Heard sid s →
    s.dev.isSteward sid .lrn = true →
    s.dev.lrnState = 0 →
    ∃ t, exec (.snapshot sid) s = .next t ∧
      Answered sid wrOk id s t ∧
      t.dev.lrnState = 1 ∧ t.dev.lrnOwner = sid.val ∧
      Frame [LRN_STATUS.STATE, LRN_STATUS.OWNER] [.out, .net] s t) ∧
  (∀ (s : State),
    Settled s →
    s.dev.alive = true →
    s.dev.lrnState = 1 →
    s.dev.lrn.copied = true →
    ∃ t, exec (.snapshotCopyDone) s = .next t ∧
      t.dev.lrnState = 2 ∧
      Frame [LRN_STATUS.STATE] [] s t) ∧
  (∀ (sid : Sid) (s : State),
    Settled s →
    Heard sid s →
    s.dev.isSteward sid .lrn = true →
    s.dev.rd LRN_STATUS.OWNER = sid.val →
    s.dev.lrnState = 1 ∨ s.dev.lrnState = 2 →
    ∃ t, exec (.lrnRelease sid) s = .next t ∧
      Answered sid wrOk id s t ∧
      t.dev.lrnState = 0 ∧ t.dev.lrnOwner = 0 ∧ t.dev.lrn.buf = [] ∧
      Frame [LRN_STATUS.STATE, LRN_STATUS.OWNER] [.lrn, .out, .net] s t) ∧
  (∀ (sid : Sid) (s : State),
    Settled s →
    Heard sid s →
    s.dev.isSteward sid .lrn = true →
    s.dev.lrnState = 0 ∨ (s.dev.lrnState = 6 ∧ s.dev.rd LRN_STATUS.OWNER = sid.val) →
    ∃ t, exec (.openStage sid) s = .next t ∧
      Answered sid wrOk id s t ∧
      t.dev.lrnState = 3 ∧ t.dev.lrnOwner = sid.val ∧ t.dev.lrn.buf = [] ∧
      Frame [LRN_STATUS.STATE, LRN_STATUS.OWNER] [.lrn, .out, .net] s t) ∧
  (∀ (sid : Sid) (k : Fin 2048) (value : Word) (s : State),
    Settled s →
    Heard sid s →
    s.dev.isSteward sid .lrn = true →
    s.dev.rd LRN_STATUS.OWNER = sid.val →
    s.dev.lrnState = 3 →
    8192 * (s.dev.sess sid).lrnPage + 4 * k.val < recordLen →
    ∃ t, exec (.lrnWinWrite sid k value) s = .next t ∧
      Answered sid wrOk id s t ∧
      (∀ x, Img.u8 t.dev.lrn.buf x =
        if 8192 * (s.dev.sess sid).lrnPage + 4 * k.val ≤ x ∧ x < 8192 * (s.dev.sess sid).lrnPage + 4 * k.val + 4 then value.toNat / 256 ^ (x - (8192 * (s.dev.sess sid).lrnPage + 4 * k.val)) % 256
        else Img.u8 s.dev.lrn.buf x) ∧
      t.dev.lrn.blocks = s.dev.lrn.blocks ∧ t.dev.lrn.strs = s.dev.lrn.strs ∧
      Frame [] [.lrn, .out, .net] s t) ∧
  (∀ (sid : Sid) (value : Word) (s : State),
    Settled s →
    Heard sid s →
    s.dev.isSteward sid .lrn = true →
    s.dev.rd LRN_STATUS.OWNER = sid.val →
    s.dev.lrnState = 3 →
    ∃ t, exec (.lrnCommit sid value) s = .next t ∧
      Answered sid wrOk id s t ∧
      t.dev.lrnState = 4 ∧
      t.dev.lrn = { s.dev.lrn with word := value.toNat } ∧
      Frame [LRN_STATUS.STATE] [.lrn, .out, .net] s t) ∧
  (∀ (s : State),
    s.dev.linkWorks s.mem = true →
    s.dev.runs .acq = true →
    s.dev.phase.k < s.dev.phase.n →
    s.dev.lrnState = 4 →
    headerOk s.dev.lrn.buf = false ∨ Img.u32 s.dev.lrn.buf 51840 ≠ crc32Ref (Img.slice s.dev.lrn.buf 0 51840) ∨ s.dev.lrn.word ≠ crc32Ref (Img.slice s.dev.lrn.buf 0 51840) →
    ∃ t, exec (.strobe) s = .next t ∧
      t.dev.lrnState = 6 ∧ t.dev.rd LRN_STATUS.RESTORE_INCOMPLETE = 1 ∧ t.dev.lrn.buf = [] ∧
      t.dev.rd LRN_STATUS.REASON = (if headerOk s.dev.lrn.buf = false then 3
        else if Img.u32 s.dev.lrn.buf 51840 ≠ crc32Ref (Img.slice s.dev.lrn.buf 0 51840) then 4 else 5) ∧
      t.mem = s.mem ∧ t.pending = s.pending) ∧
  (∀ (s : State),
    s.dev.linkWorks s.mem = true →
    s.dev.runs .acq = true →
    s.dev.phase.k < s.dev.phase.n →
    s.dev.lrnState = 4 →
    headerOk s.dev.lrn.buf = true →
    Img.u32 s.dev.lrn.buf 51840 = crc32Ref (Img.slice s.dev.lrn.buf 0 51840) →
    s.dev.lrn.word = crc32Ref (Img.slice s.dev.lrn.buf 0 51840) →
    ∃ t, exec (.strobe) s = .next t ∧
      t.dev.lrnState = 5 ∧
      t.dev.lrn.accepted = s.dev.usedBlocks.filter fun k => s.dev.judgeBlock s.mem s.dev.lrn.buf k = 2 ∧
      t.dev.lrn.pending = s.dev.usedBlocks.filter fun k => s.dev.judgeBlock s.mem s.dev.lrn.buf k = 1 ∧
      t.dev.lrn.buf = s.dev.lrn.buf ∧ t.dev.lrn.checkedAt = s.dev.clk) ∧
  (∀ (sid : Sid) (s : State),
    Settled s →
    Heard sid s →
    s.dev.isSteward sid .lrn = true →
    s.dev.rd LRN_STATUS.OWNER = sid.val →
    3 ≤ s.dev.lrnState →
    ∃ t, exec (.lrnAbort sid) s = .next t ∧
      Answered sid wrOk id s t ∧
      t.dev.lrnState = 0 ∧ t.dev.lrnOwner = 0 ∧ t.dev.rd LRN_STATUS.RESTORE_INCOMPLETE = 1 ∧ t.dev.lrn.buf = [] ∧
      Frame [LRN_STATUS.STATE, LRN_STATUS.OWNER, LRN_STATUS.RESTORE_INCOMPLETE] [.lrn, .out, .net] s t) ∧
  (∀ (s : State),
    s.dev.alive = true →
    s.dev.lrnState = 5 →
    s.dev.outage bedEstm = false →
    s.dev.boundaryFor s.dev.lrn.checkedAt = true →
    ∃ t, exec (.restoreSwap) s = .next t ∧
      t.dev.lrnState = 0 ∧ t.dev.lrn.buf = [] ∧ t.dev.rd LRN_STATUS.RESTORED = 1 ∧ t.dev.rd LRN_STATUS.RESTORE_INCOMPLETE = 0 ∧
      t.dev.rd LRN_RESULT.ACCEPTED = s.dev.lrn.accepted.length % 256 ∧
        t.dev.rd LRN_RESULT.PENDING = s.dev.lrn.pending.length % 256 ∧
      (∀ k < 64, s.dev.monUsed k = true → k ∈ s.dev.lrn.accepted → ∀ c ∈ s.dev.blockCells k,
        (t.dev.cell c).q = f32 (Img.u32 s.dev.lrn.buf (cellAt c))) ∧
      (∀ k < 64, s.dev.monUsed k = true → k ∉ s.dev.lrn.accepted → k ∉ s.dev.lrn.pending → (t.dev.block k).declared = true) ∧
      PageFrame (0x08 :: (List.range 48).map (64 + ·)) [.est, .lrn, .rcd] s t)

/-- CAPTEST, its cancel and its span, DECLARE_NEW, BLOCK_REPLACED and the end of a new block's hold, in the cases named.
For the steward of LRN: CAPTEST of a configured string with no test active, with LRN in RUN, is ARMED; a cancel makes
an active test FAILED with a record and leaves another phase; DECLARE_NEW of a used block declares it NEW and leaves
the other blocks (R148, R152). The end of SPAN_MAX in phase 3 or 4 makes the test FAILED with a record (R152).
BLOCK_REPLACED of a declared block with ACQ and EST in RUN: every cell of the block takes its rated capacity, no
anchor and the flag NEW; the block's readings are its reference and it holds; its string is STALE (R141, R148).
NEW_BLOCK_HOLD_END, with EST in RUN and not idle, ends the hold of a block whose string has rested for NEW_REST since
the declaration, and each of its cells takes its SoC from its average voltage with va and vb 0 (R148). Derived from
R141, R148, R150, R152. The model's choices and readings it takes in: log entries 5, 12, 13, 49, 51. -/
def Obligations.CapacityTestsAndReplacedBlocks : Prop :=
  (∀ (sid : Sid) (target : BitVec 7) (s : State),
    Settled s →
    Heard sid s →
    s.dev.isSteward sid .lrn = true →
    target.toNat < 8 →
    s.dev.configured target.toNat = true →
    s.dev.fnState Func.lrn.num = 1 →
    s.dev.capActive target.toNat = false →
    ∃ t, exec (.captest sid target) s = .next t ∧
      Answered sid wrOk id s t ∧
      t.dev.rd (LRN_CAPTEST.PHASE target.toNat) = 1 ∧
      Frame [LRN_CAPTEST.PHASE target.toNat] [.out, .net] s t) ∧
  (∀ (sid : Sid) (target : BitVec 7) (s : State),
    Settled s →
    Heard sid s →
    s.dev.isSteward sid .lrn = true →
    target.toNat < 8 →
    s.dev.configured target.toNat = true →
    ∃ t, exec (.captestCancel sid target) s = .next t ∧
      Answered sid wrOk id s t ∧
      (s.dev.capActive target.toNat = true → t.dev.rd (LRN_CAPTEST.PHASE target.toNat) = 6 ∧ Recorded [(recCaptestFailed, [BitVec.ofNat 8 target.toNat])] s t) ∧
      (s.dev.capActive target.toNat = false → t.dev.rd (LRN_CAPTEST.PHASE target.toNat) = s.dev.rd (LRN_CAPTEST.PHASE target.toNat)) ∧
      Frame [LRN_CAPTEST.PHASE target.toNat] [.rcd, .out, .net] s t) ∧
  (∀ (str : Str) (s : State),
    Settled s →
    s.dev.alive = true →
    s.dev.rd (LRN_CAPTEST.PHASE str.val) = 3 ∨ s.dev.rd (LRN_CAPTEST.PHASE str.val) = 4 →
    ∃ t, exec (.captestSpanExpired str) s = .next t ∧
      t.dev.rd (LRN_CAPTEST.PHASE str.val) = 6 ∧
      Recorded [(recCaptestFailed, [BitVec.ofNat 8 str.val])] s t ∧
      Frame [LRN_CAPTEST.PHASE str.val] [.rcd] s t) ∧
  (∀ (sid : Sid) (target : BitVec 7) (s : State),
    Settled s →
    Heard sid s →
    s.dev.isSteward sid .lrn = true →
    target.toNat < 64 →
    s.dev.monUsed target.toNat = true →
    ∃ t, exec (.declareNew sid target) s = .next t ∧
      Answered sid wrOk id s t ∧
      (t.dev.block target.toNat).state = 4 ∧ (t.dev.block target.toNat).declared = true ∧
      (∀ k, k ≠ target.toNat → t.dev.block k = s.dev.block k) ∧
      Frame [LRN_CAPTEST.PHASE (s.dev.monStr target.toNat)] [.lrn, .rcd, .out, .net] s t) ∧
  (∀ (port : Mon) (s : State),
    Settled s →
    s.dev.alive = true →
    s.dev.runs .acq = true →
    s.dev.runs .est = true →
    s.dev.monUsed port.val = true →
    (s.dev.block port.val).declared = true →
    ∃ t, exec (.blockReplaced port) s = .next t ∧
      (∀ c ∈ s.dev.blockCells port.val, (t.dev.cell c).q = s.dev.qRated s.mem c ∧ (t.dev.cell c).anchor = none ∧
        t.dev.rd (CELL_FLAGS.NEW c) = 1) ∧
      (t.dev.block port.val).hold = true ∧ (t.dev.block port.val).declared = false ∧ (t.dev.block port.val).known = true ∧
      (t.dev.block port.val).ref0 = s.dev.ident0 port.val ∧ (t.dev.block port.val).ref1 = s.dev.ident1 port.val ∧
      (s.dev.monStr port.val < 8 → (t.dev.strLrn (s.dev.monStr port.val)).stale = true) ∧
      PageFrame ((List.range 48).map (64 + ·)) [.est, .lrn, .nv, .bal, .rcd] s t) ∧
  (∀ (str : Str) (k : Mon) (s : State),
    Settled s →
    s.dev.alive = true →
    s.dev.works .est = true →
    k.val ∈ s.dev.blocksOf str.val →
    s.dev.holdDue k.val = true →
    ∃ t, exec (.newBlockHoldEnd str) s = .next t ∧
      (t.dev.block k.val).hold = false ∧
      (∀ c ∈ s.dev.blockCells k.val, (t.dev.cell c).soc = Config.fp32 (s.dev.socFrom s.mem (s.dev.avgV c) c) ∧
        (t.dev.cell c).va = 0 ∧ (t.dev.cell c).vb = 0) ∧
      Frame [] [.est, .lrn] s t)

/-- CLOSE of one string, OPEN, OPEN_BANK, LOCKOUT, UNLOCK, CLEAR_LATCH, RESET_WEAR, CANCEL_JOIN and SEQ_SHED, in the cases
named. For the steward of SEQ. CLOSE of one string that R184 gives no reason against queues it where a string is
connected; with none connected or in sequence, an empty queue, the bank closed or not fitted, its contactors OPEN and
its bus not above its match it begins PRECHECK, and its PRE coil alone goes on; one that R184 gives a reason against
is refused with it (R184, R185, R187). OPEN and LOCKOUT, with no bank close in progress and no expired degrade timer:
every named string in CONNECTED drains with cause HOST_OPEN, every named one in QUEUED leaves the queue, and LOCKOUT
marks the named strings (R191, R196, R200). OPEN_BANK, with no string in sequence and the bank idle and without a
latch: every string in CONNECTED drains and the queue empties (R192). UNLOCK unmarks the named strings (R200).
CLEAR_LATCH with a mask, from a steward that is a Maintainer, where every contactor of the named strings is OPEN,
clears their MAINT latches and takes a latched one to OPEN; from another session CLEAR_LATCH and RESET_WEAR are
refused with ROLE_REQUIRED (R197, R202). RESET_WEAR of an entry up to 26 zeroes it with a record of what it held, and
of another is refused (R195). CANCEL_JOIN takes the named queued strings out of the queue and leaves the state of
every other (R185). A shed order that is a permutation waits for the next sweep end, and another is refused (R201,
R203). Derived from R184, R185, R187, R191, R192, R195, R196, R197, R200, R201, R202, R203. The model's choices and
readings it takes in: log entries 12, 13, 56. -/
def Obligations.SequencerCommandsActAsWritten : Prop :=
  (∀ (sid : Sid) (mask : Byte) (k : Str) (s : State),
    Settled s →
    Heard sid s →
    s.dev.isSteward sid .seq = true →
    mask.toNat = 2 ^ k.val →
    s.dev.judgeClose s.mem k.val = (0, 0) →
    strings.any s.dev.connected = true →
    ∃ t, exec (.closeStrings sid mask) s = .next t ∧
      Answered sid wrOk id s t ∧
      t.dev.strState k.val = 2 ∧ t.dev.seq.queue = s.dev.seq.queue ++ [k.val] ∧
      PageFrame [0x0A] [.seq, .out, .net] s t) ∧
  (∀ (sid : Sid) (mask : Byte) (k : Str) (s : State),
    Settled s →
    Heard sid s →
    s.dev.isSteward sid .seq = true →
    mask.toNat = 2 ^ k.val →
    s.dev.judgeClose s.mem k.val = (0, 0) →
    strings.any s.dev.connected = false →
    strings.any s.dev.inSequence = false →
    s.dev.seq.queue = [] →
    s.dev.seq.bank = .idle →
    s.mem.img.bankPresent = false ∨ s.dev.rd SEQ_BANK.STATE = 3 →
    s.dev.outage bedSeqn = false →
    ∀ c ∈ consOf k.val, s.dev.con c = 0 →
    s.dev.vbus k.val ≤ s.dev.vstr k.val * (1 + s.mem.img.match_ k.val) →
    ∃ t, exec (.closeStrings sid mask) s = .next t ∧
      Answered sid wrOk id s t ∧
      t.dev.strState k.val = 3 ∧ (t.dev.sq k.val).close = .preOn ∧ t.dev.coil (3 * k.val + 2) = true ∧
      t.dev.seq.queue = [] ∧
      (∀ c < 27, c ≠ 3 * k.val + 2 → t.dev.coil c = s.dev.coil c) ∧
      PageFrame [0x0A] [.seq, .chn, .out, .net] s t) ∧
  (∀ (sid : Sid) (mask : Byte) (k : Str) (s : State),
    Settled s →
    Heard sid s →
    s.dev.isSteward sid .seq = true →
    mask.toNat = 2 ^ k.val →
    (s.dev.judgeClose s.mem k.val).1 ≠ 0 →
    ∃ t, exec (.closeStrings sid mask) s = .next t ∧
      Answered sid (wrRefused (s.dev.judgeClose s.mem k.val).1 SEQ_CTRL.CMD.addr) id s t ∧
      t.dev.rd SEQ_RESULT.REASON = (s.dev.judgeClose s.mem k.val).1 ∧ t.dev.rd SEQ_RESULT.STRING = k.val ∧
      Frame [SEQ_RESULT.REASON, SEQ_RESULT.STRING, SEQ_RESULT.DETAIL] [.out, .net] s t) ∧
  (∀ (sid : Sid) (mask : Byte) (s : State),
    Settled s →
    Heard sid s →
    s.dev.isSteward sid .seq = true →
    s.dev.bankClosing = false →
    s.dev.saf.degOut = false →
    ∃ t, exec (.openStrings sid mask) s = .next t ∧
      Answered sid wrOk id s t ∧
      (∀ k < 8, mask.toNat.testBit k = true → s.dev.strState k = 6 →
        t.dev.strState k = 7 ∧ (t.dev.sq k).opn = .drain ∧ t.dev.rd (SEQ_STATE.CAUSE k) = 1) ∧
      (∀ k < 8, mask.toNat.testBit k = true → s.dev.strState k = 2 → t.dev.strState k = 1) ∧
      PageFrame [0x0A] [.seq, .chn, .nv, .rcd, .out, .net] s t) ∧
  (∀ (sid : Sid) (s : State),
    Settled s →
    Heard sid s →
    s.dev.isSteward sid .seq = true →
    strings.any s.dev.inSequence = false →
    s.dev.bankClosing = false →
    s.dev.seq.bank = .idle →
    s.dev.rd SEQ_BANK.LATCH = 0 →
    (s.dev.latchOf 8).1 = 0 →
    ∃ t, exec (.openBank sid) s = .next t ∧
      Answered sid wrOk id s t ∧
      t.dev.rd SEQ_BANK.CAUSE = 1 ∧
      (∀ k < 8, s.dev.strState k = 6 → t.dev.strState k = 7 ∧ (t.dev.sq k).opn = .drain) ∧
      (∀ k < 8, s.dev.strState k = 2 → t.dev.strState k = 1) ∧
      Recorded [(recBankOpened, [1])] s t ∧
      PageFrame [0x0A] [.seq, .chn, .rcd, .out, .net] s t) ∧
  (∀ (sid : Sid) (mask : Byte) (s : State),
    Settled s →
    Heard sid s →
    s.dev.isSteward sid .seq = true →
    s.dev.bankClosing = false →
    s.dev.saf.degOut = false →
    ∃ t, exec (.lockout sid mask) s = .next t ∧
      Answered sid wrOk id s t ∧
      (∀ k < 8, mask.toNat.testBit k = true → s.dev.strState k = 6 →
        t.dev.strState k = 7 ∧ (t.dev.sq k).opn = .drain ∧ t.dev.rd (SEQ_STATE.CAUSE k) = 1) ∧
      (∀ k < 8, mask.toNat.testBit k = true → s.dev.strState k = 2 → t.dev.strState k = 1) ∧
      (∀ k < 8, mask.toNat.testBit k = true → t.dev.rd (SEQ_STATE.LOCKED_OUT k) = 1) ∧
      PageFrame [0x0A] [.seq, .chn, .nv, .rcd, .out, .net] s t) ∧
  (∀ (sid : Sid) (mask : Byte) (s : State),
    Settled s →
    Heard sid s →
    s.dev.isSteward sid .seq = true →
    ∃ t, exec (.unlock sid mask) s = .next t ∧
      Answered sid wrOk id s t ∧
      (∀ k < 8, mask.toNat.testBit k = true → t.dev.rd (SEQ_STATE.LOCKED_OUT k) = 0) ∧
      Frame ((bitsOf 8 mask.toNat).map SEQ_STATE.LOCKED_OUT) [.out, .net] s t) ∧
  (∀ (sid : Sid) (mask : Byte) (s : State),
    Settled s →
    Heard sid s →
    s.dev.isSteward sid .seq = true →
    (s.dev.sess sid).role = .maintainer →
    mask ≠ 0 →
    ∀ k < 8, mask.toNat.testBit k = true → ∀ c ∈ consOf k, s.dev.con c = 0 →
    ∃ t, exec (.clearLatch sid mask) s = .next t ∧
      Answered sid wrOk id s t ∧
      (∀ k < 8, mask.toNat.testBit k = true → tget 0 t.dev.nv.maint k = 0) ∧
      (∀ k < 8, mask.toNat.testBit k = true → tget 0 s.dev.nv.maint k ≠ 0 → s.dev.strState k = 10 → t.dev.strState k = 1) ∧
      (∀ w, mask.toNat.testBit w = false → tget 0 t.dev.nv.maint w = tget 0 s.dev.nv.maint w) ∧
      Frame ((bitsOf 8 mask.toNat).flatMap fun k => [SEQ_STATE.LATCH k, SEQ_STATE.CAUSE k, SEQ_STATE.STATE k])
        [.nv, .out, .net] s t) ∧
  (∀ (sid : Sid) (mask : Byte) (s : State),
    Settled s →
    Heard sid s →
    s.dev.isSteward sid .seq = false ∨ (s.dev.sess sid).role ≠ .maintainer →
    ∃ t, exec (.clearLatch sid mask) s = .next t ∧
      Answered sid (wrRefused 13 SEQ_CTRL.CMD.addr) id s t ∧
      t.dev.rd SEQ_RESULT.REASON = 13 ∧
      Frame [SEQ_RESULT.REASON, SEQ_RESULT.STRING, SEQ_RESULT.DETAIL] [.out, .net] s t) ∧
  (∀ (sid : Sid) (index : Fin 32) (s : State),
    Settled s →
    Heard sid s →
    s.dev.isSteward sid .seq = false ∨ (s.dev.sess sid).role ≠ .maintainer →
    ∃ t, exec (.resetWear sid index) s = .next t ∧
      Answered sid (wrRefused 13 SEQ_CTRL.CMD.addr) id s t ∧
      t.dev.rd SEQ_RESULT.REASON = 13 ∧
      Frame [SEQ_RESULT.REASON, SEQ_RESULT.STRING, SEQ_RESULT.DETAIL] [.out, .net] s t) ∧
  (∀ (sid : Sid) (index : Fin 32) (s : State),
    Settled s →
    Heard sid s →
    s.dev.isSteward sid .seq = true →
    (s.dev.sess sid).role = .maintainer →
    index.val ≤ 26 →
    ∃ t, exec (.resetWear sid index) s = .next t ∧
      Answered sid wrOk id s t ∧
      tget Wear.zero t.dev.nv.wear index.val = Wear.zero ∧ ∀ j, j ≠ index.val → tget Wear.zero t.dev.nv.wear j = tget Wear.zero s.dev.nv.wear j ∧
      Recorded [(recWearReset, leBytes 1 index.val ++ (tget Wear.zero s.dev.nv.wear index.val).bytes)] s t ∧
      Frame [] [.nv, .rcd, .out, .net] s t) ∧
  (∀ (sid : Sid) (index : Fin 32) (s : State),
    Settled s →
    Heard sid s →
    s.dev.isSteward sid .seq = true →
    (s.dev.sess sid).role = .maintainer →
    26 < index.val →
    ∃ t, exec (.resetWear sid index) s = .next t ∧
      Answered sid (wrRefused 14 SEQ_CTRL.CMD.addr) id s t ∧
      t.dev.rd SEQ_RESULT.REASON = 14 ∧
      Frame [SEQ_RESULT.REASON, SEQ_RESULT.STRING, SEQ_RESULT.DETAIL] [.out, .net] s t) ∧
  (∀ (sid : Sid) (mask : Byte) (s : State),
    Settled s →
    Heard sid s →
    s.dev.isSteward sid .seq = true →
    ∃ t, exec (.cancelJoin sid mask) s = .next t ∧
      Answered sid wrOk id s t ∧
      (∀ k < 8, mask.toNat.testBit k = true → s.dev.strState k = 2 → t.dev.strState k = 1 ∧ k ∉ t.dev.seq.queue) ∧
      (∀ k < 8, mask.toNat.testBit k = false ∨ s.dev.strState k ≠ 2 → t.dev.strState k = s.dev.strState k) ∧
      PageFrame [0x0A] [.seq, .out, .net] s t) ∧
  (∀ (sid : Sid) (value : Word) (s : State),
    Settled s →
    Heard sid s →
    s.dev.isSteward sid .seq = true →
    isPerm value.toNat = true →
    ∃ t, exec (.seqShed sid value) s = .next t ∧
      Answered sid wrOk id s t ∧
      t.dev.seq = { s.dev.seq with shed := some value.toNat } ∧
      Frame [] [.seq, .out, .net] s t) ∧
  (∀ (sid : Sid) (value : Word) (s : State),
    Settled s →
    Heard sid s →
    s.dev.isSteward sid .seq = true →
    isPerm value.toNat = false →
    ∃ t, exec (.seqShed sid value) s = .next t ∧
      Answered sid (wrInvalid 0x05 (SEQ_SHED.POS 0).addr) id s t ∧
      Frame [] [.out, .net] s t)

/-- AUX_CHANGE, NO_CLOSE, the ends of the weld watch, the waived fit, OVERLAP and the settling of the bank, in the cases
named. With SEQ acting (awake, its bed not out): an aux that closes on a CLOSING contactor makes it CLOSED, and one
that opens on an OPENING contactor, with no string queued and no expired degrade timer, makes it OPEN, each counted in
its wear; with SEQ not acting the aux alone changes. A CLOSING contactor that has not closed by T_CLOSE is NO_CLOSE,
its string's coils all go off and the string is OPENING, OPEN or in COOLDOWN: within a close sequence the attempt has
the abort code 2, in a CONNECTED string the MAINT latch is set, and on a fitted bank the bank coils go off, MAINT is
latched for the bank and no string is left QUEUED, CONNECTED or DRAINING. With every function of R29 in RUN the end of
the weld watch switches the NEG coil alone on, and a settled bus the BPOS coil alone; with one not in RUN the attempt
aborts with code 11 and the bank coils go off (the model's choice, log 99). A waived fit goes on to wait for the
match, with no coil changed. No t90 in time aborts the attempt with code 6 and no match with code 9, one more attempt
counted and every coil of the string off. OVERLAP ends with the PRE coil off and the string CLOSING POS or CONNECTED,
for the bank with the BPRE coil off; a bank that has not settled, unlatched, opens with cause 8, its coils off and no
string QUEUED. Derived from 08_strings_and_contactors.md, R182, R187. The model's choices and readings it takes in:
log entries 5, 50, 55, 99. -/
def Obligations.ContactorFeedbackAdvancesACloseSequence : Prop :=
  (∀ (con : Con) (s : State),
    Settled s →
    s.dev.seqActs = true →
    s.dev.auxClosed con.val = false →
    s.dev.con con.val = 1 →
    ∃ t, exec (.auxChange con true) s = .next t ∧
      t.dev.auxClosed con.val = true ∧ t.dev.con con.val = 2 ∧
      tget Wear.zero t.dev.nv.wear con.val = (tget Wear.zero s.dev.nv.wear con.val).closed ∧
      PageFrame [0x0A] [.seq, .chn, .nv] s t) ∧
  (∀ (con : Con) (s : State),
    Settled s →
    s.dev.seqActs = true →
    s.dev.auxClosed con.val = true →
    s.dev.con con.val = 3 →
    s.dev.seq.queue = [] →
    s.dev.saf.degOut = false →
    ∃ t, exec (.auxChange con false) s = .next t ∧
      t.dev.auxClosed con.val = false ∧ t.dev.con con.val = 0 ∧
      tget Wear.zero t.dev.nv.wear con.val = (tget Wear.zero s.dev.nv.wear con.val).opened (s.dev.conAmps (ownerOf con.val))
        (s.dev.rated (ownerOf con.val)) (s.mem.img.breakOf (ownerOf con.val)) ∧
      PageFrame [0x0A] [.seq, .chn, .nv] s t) ∧
  (∀ (con : Con) (closed : Bool) (s : State),
    Settled s →
    s.dev.seqActs = false →
    s.dev.con con.val ≠ 7 →
    s.dev.auxClosed con.val ≠ closed →
    ∃ t, exec (.auxChange con closed) s = .next t ∧
      t.dev.auxClosed con.val = closed ∧ t.dev.con con.val = s.dev.con con.val ∧
      Frame [] [.seq] s t) ∧
  (∀ (con : Con) (s : State),
    Settled s →
    s.dev.seqActs = true →
    s.dev.con con.val = 1 →
    ownerOf con.val < 8 →
    s.dev.inSequence (ownerOf con.val) = true →
    s.dev.saf.degOut = false →
    ∃ t, exec (.contactorNoClose con) s = .next t ∧
      t.dev.con con.val = 6 ∧ (∀ c ∈ consOf (ownerOf con.val), t.dev.coil c = false) ∧
      t.dev.rd (SEQ_PREC.ABORT (ownerOf con.val)) = 2 ∧
      t.dev.strState (ownerOf con.val) = 8 ∨ t.dev.strState (ownerOf con.val) = 9 ∧
      PageFrame [0x0A] [.seq, .chn, .nv, .rcd] s t) ∧
  (∀ (con : Con) (s : State),
    Settled s →
    s.dev.seqActs = true →
    s.dev.con con.val = 1 →
    ownerOf con.val < 8 →
    s.dev.connected (ownerOf con.val) = true →
    s.dev.saf.degOut = false →
    ∃ t, exec (.contactorNoClose con) s = .next t ∧
      t.dev.con con.val = 6 ∧ (∀ c ∈ consOf (ownerOf con.val), t.dev.coil c = false) ∧
      tget 0 t.dev.nv.maint (ownerOf con.val) ≠ 0 ∧
      t.dev.strState (ownerOf con.val) = 8 ∨ t.dev.strState (ownerOf con.val) = 1 ∧
      PageFrame [0x0A] [.seq, .chn, .nv, .rcd] s t) ∧
  (∀ (con : Con) (s : State),
    Settled s →
    s.dev.seqActs = true →
    s.dev.con con.val = 1 →
    ownerOf con.val = 8 →
    s.mem.img.bankPresent = true →
    ∃ t, exec (.contactorNoClose con) s = .next t ∧
      t.dev.con con.val = 6 ∧ (∀ c ∈ consOf 8, t.dev.coil c = false) ∧
      tget 0 t.dev.nv.maint 8 ≠ 0 ∧
      (∀ k < 8, t.dev.strState k ≠ 2 ∧ t.dev.strState k ≠ 6 ∧ t.dev.strState k ≠ 7) ∧
      PageFrame [0x0A] [.seq, .chn, .nv, .rcd] s t) ∧
  (∀ (str : Str) (s : State),
    Settled s →
    s.dev.seqActs = true →
    s.dev.inSequence str.val = true →
    (s.dev.sq str.val).close = .watch →
    s.dev.mayClose = true →
    ∃ t, exec (.negWeldWatchEnd str) s = .next t ∧
      t.dev.strState str.val = 4 ∧ (t.dev.sq str.val).close = .negOn ∧ (t.dev.sq str.val).negAt = s.dev.clk ∧
      t.dev.coil (3 * str.val + 1) = true ∧
      (∀ c, c ≠ 3 * str.val + 1 → t.dev.coil c = s.dev.coil c) ∧
      Frame [SEQ_STATE.STATE str.val, SEQ_STATE.NEG str.val] [.seq, .chn] s t) ∧
  (∀ (str : Str) (s : State),
    Settled s →
    s.dev.seqActs = true →
    s.dev.inSequence str.val = true →
    (s.dev.sq str.val).close = .watch →
    s.dev.mayClose = false →
    s.dev.saf.degOut = false →
    ∃ t, exec (.negWeldWatchEnd str) s = .next t ∧
      t.dev.rd (SEQ_PREC.ABORT str.val) = 11 ∧ (∀ c ∈ consOf str.val, t.dev.coil c = false) ∧
      t.dev.strState str.val = 8 ∨ t.dev.strState str.val = 9 ∧
      PageFrame [0x0A] [.seq, .chn, .nv, .rcd] s t) ∧
  (∀ (str : Str) (s : State),
    Settled s →
    s.dev.seqActs = true →
    s.dev.inSequence str.val = true →
    (s.dev.sq str.val).close = .waived →
    ∃ t, exec (.fitWaived str) s = .next t ∧
      (t.dev.sq str.val).close = .matchWait ∧
      (∀ c, t.dev.coil c = s.dev.coil c) ∧
      Frame [] [.seq] s t) ∧
  (∀ (c : Instr) (str : Str) (code : Nat) (s : State), Settled s → s.dev.seqActs = true →
    s.dev.inSequence str.val = true → s.dev.saf.degOut = false →
    (c = .t90Timeout str ∧ ((s.dev.sq str.val).close = .charge ∨ (s.dev.sq str.val).close = .negOn) ∧
        (s.dev.sq str.val).fit.t0.isSome = true ∧ (s.dev.sq str.val).fit.t90 = none ∧ code = 6 ∨
      c = .matchTimeout str ∧ ((s.dev.sq str.val).close = .matchWait ∨
        ((s.dev.sq str.val).close = .charge ∨ (s.dev.sq str.val).close = .negOn) ∧ (s.dev.sq str.val).fit.t90.isSome = true) ∧ code = 9) →
    ∃ t, exec c s = .next t ∧
      t.dev.rd (SEQ_PREC.ABORT str.val) = code ∧
      t.dev.rd (SEQ_PREC.ATTEMPTS str.val) = min (s.dev.rd (SEQ_PREC.ATTEMPTS str.val) + 1) (2 ^ (SEQ_PREC.ATTEMPTS str.val).wid - 1) ∧
      (∀ k ∈ consOf str.val, t.dev.coil k = false) ∧
      (t.dev.strState str.val = 8 ∨ t.dev.strState str.val = 9) ∧
      PageFrame [0x0A] [.seq, .chn, .nv, .rcd] s t) ∧
  (∀ (k : Str) (s : State),
    Settled s →
    s.dev.seqActs = true →
    s.dev.strState k.val = 5 →
    (s.dev.sq k.val).close = .overlap →
    ∃ t, exec (.overlapEnd ⟨k.val, by omega⟩) s = .next t ∧
      t.dev.coil (3 * k.val + 2) = false ∧
      t.dev.strState k.val = 5 ∨ t.dev.strState k.val = 6 ∧
      PageFrame [0x0A] [.seq, .chn] s t) ∧
  (∀ (s : State),
    Settled s →
    s.dev.seqActs = true →
    s.dev.seq.bank = .overlap →
    s.dev.auxClosed 26 = true →
    ∃ t, exec (.overlapEnd 8) s = .next t ∧
      t.dev.coil 26 = false ∧ t.dev.seq.bank = .bpreOff ∧
      PageFrame [0x0A] [.seq, .chn] s t) ∧
  (∀ (s : State),
    Settled s →
    s.dev.seqActs = true →
    s.dev.seq.bank = .settle →
    s.dev.mayClose = true →
    ∃ t, exec (.busSettled) s = .next t ∧
      t.dev.coil 24 = true ∧ t.dev.seq.bank = .bposOn ∧
      (∀ c, c ≠ 24 → t.dev.coil c = s.dev.coil c) ∧
      Frame [SEQ_BANK.BPOS] [.seq, .chn] s t) ∧
  (∀ (s : State),
    Settled s →
    s.dev.seqActs = true →
    s.dev.seq.bank = .settle →
    s.dev.mayClose = false →
    s.mem.img.bankPresent = true →
    ∃ t, exec (.busSettled) s = .next t ∧
      (∀ c ∈ consOf 8, t.dev.coil c = false) ∧
      t.dev.seq.bank = .allOff ∨ t.dev.seq.bank = .idle ∧
      PageFrame [0x0A] [.seq, .chn] s t) ∧
  (∀ (s : State),
    Settled s →
    s.dev.seqActs = true →
    s.dev.seq.bank = .settle →
    s.dev.rd SEQ_BANK.LATCH = 0 →
    (s.dev.latchOf 8).1 = 0 →
    s.mem.img.bankPresent = true →
    ∃ t, exec (.bankSettleTimeout) s = .next t ∧
      t.dev.rd SEQ_BANK.CAUSE = 8 ∧ (∀ c ∈ consOf 8, t.dev.coil c = false) ∧
      (∀ k < 8, t.dev.strState k ≠ 2) ∧
      PageFrame [0x0A] [.seq, .chn, .nv, .rcd] s t)

/-- The steps of a disconnect, WELD_VERDICT, WELD_UNISOLATED, BREAK_WAIT_EXPIRED and the ends of the sequencer's waits, in
the cases named. With SEQ acting: ORDER_WAIT ends with a DRAINING string waiting for its current; 10 ms of low current
switch the PRE coil alone off, 20 ms later the NEG coil goes off and the string is OPENING, OPEN or in COOLDOWN; 20 ms
after BPOS the BNEG coil alone goes off. A contactor due its verdict is OPEN where the verdict is 0 and it was OPENING
or NO_CLOSE; where the verdict is WELDED or AUX_FAULT and none stands it takes it, a string contactor making its
string WELDED with its coils off and the MAINT latch, a bank contactor latching the bank and leaving no string QUEUED,
CONNECTED or DRAINING. A current that persists with both main poles off, on the string or the bank, and one that has
not fallen within BREAK_WAIT, energise SHUNT_TRIP: every coil goes off, the bank is TRIPPED, its MAINT latch, where
none stood, takes cause 0x0C or 0x0D, and no string is QUEUED, CONNECTED or DRAINING. JOIN_WAIT puts an unlatched
QUEUED string to OPEN with cause 9 and its record and takes it out of the queue; COOL, with no string queued, puts it
to OPEN; RECLOSE_HOLD of an open string clears the HOLD latch; TRIP_PULSE de-energises SHUNT_TRIP. Derived from
08_strings_and_contactors.md, R194. The model's choices and readings it takes in: log entries 5, 12, 13, 55, 57, 58. -/
def Obligations.OpeningsEndAndWeldsAreJudged : Prop :=
  (∀ (con : Con) (current : WeldCurrent) (s : State),
    Settled s →
    s.dev.seqActs = true →
    s.dev.coil con.val = false →
    tget false s.dev.seq.judge con.val = true →
    s.dev.verdict s.mem con.val current = 0 →
    s.dev.saf.degOut = false →
    ∃ t, exec (.weldVerdict con current) s = .next t ∧
      (s.dev.con con.val = 3 ∨ s.dev.con con.val = 6 → t.dev.con con.val = 0) ∧
      PageFrame [0x0A] [.seq, .chn] s t) ∧
  (∀ (con : Con) (current : WeldCurrent) (s : State),
    Settled s →
    s.dev.seqActs = true →
    s.dev.coil con.val = false →
    tget false s.dev.seq.judge con.val = true →
    s.dev.verdict s.mem con.val current ≠ 0 →
    s.dev.con con.val ≠ 4 ∧ s.dev.con con.val ≠ 5 →
    ownerOf con.val < 8 →
    s.dev.saf.degOut = false →
    ∃ t, exec (.weldVerdict con current) s = .next t ∧
      t.dev.con con.val = s.dev.verdict s.mem con.val current ∧
      t.dev.strState (ownerOf con.val) = 10 ∧ (∀ c ∈ consOf (ownerOf con.val), t.dev.coil c = false) ∧
      tget 0 t.dev.nv.maint (ownerOf con.val) ≠ 0 ∧
      PageFrame [0x0A] [.seq, .chn, .nv, .rcd] s t) ∧
  (∀ (con : Con) (current : WeldCurrent) (s : State),
    Settled s →
    s.dev.seqActs = true →
    s.dev.coil con.val = false →
    tget false s.dev.seq.judge con.val = true →
    s.dev.verdict s.mem con.val current ≠ 0 →
    s.dev.con con.val ≠ 4 ∧ s.dev.con con.val ≠ 5 →
    ownerOf con.val = 8 →
    s.dev.saf.degOut = false →
    ∃ t, exec (.weldVerdict con current) s = .next t ∧
      t.dev.con con.val = s.dev.verdict s.mem con.val current ∧
      tget 0 t.dev.nv.maint 8 ≠ 0 ∧
      (∀ k < 8, t.dev.strState k ≠ 2 ∧ t.dev.strState k ≠ 6 ∧ t.dev.strState k ≠ 7) ∧
      PageFrame [0x0A] [.seq, .chn, .nv, .rcd] s t) ∧
  (∀ (c : Instr) (w : Who) (k : Str) (code : Nat) (s : State), s.dev.seqActs = true →
    (c = .weldUnisolated w ∧ s.dev.coil (3 * w.val) = false ∧ s.dev.coil (3 * w.val + 1) = false ∧
        s.dev.con (3 * w.val) ≠ 7 ∧ code = 0x0C ∨
      c = .breakWaitExpired k ∧ s.dev.strState k.val = 7 ∧ (s.dev.sq k.val).opn = .breakWait ∧ code = 0x0D) →
    ∃ t, exec c s = .next t ∧
      t.dev.seq.firing = true ∧ t.dev.rd CHN_SHUNT.FIRING = 1 ∧ t.dev.rd SEQ_BANK.STATE = 5 ∧
      (∀ j < 27, t.dev.coil j = false) ∧
      (tget 0 s.dev.nv.maint 8 = 0 → tget 0 t.dev.nv.maint 8 = code) ∧
      (∀ j < 8, t.dev.strState j ≠ 2 ∧ t.dev.strState j ≠ 6 ∧ t.dev.strState j ≠ 7) ∧
      PageFrame [0x0A, 0x0D] [.seq, .chn, .nv, .rcd] s t) ∧
  (∀ (str : Str) (s : State),
    Settled s →
    s.dev.seqActs = true →
    s.dev.strState str.val = 9 →
    s.dev.seq.queue = [] →
    ∃ t, exec (.coolEnd str) s = .next t ∧
      t.dev.strState str.val = 1 ∧ (t.dev.sq str.val).holdEnd = 0 ∧
      Frame [SEQ_STATE.STATE str.val] [.seq] s t) ∧
  (∀ (str : Str) (s : State),
    Settled s →
    s.dev.seqActs = true →
    s.dev.strState str.val = 2 →
    (s.dev.latchOf str.val).1 = 0 →
    ∃ t, exec (.joinTimeout str) s = .next t ∧
      t.dev.strState str.val = 1 ∧ t.dev.rd (SEQ_STATE.CAUSE str.val) = 9 ∧
      t.dev.seq.queue = s.dev.seq.queue.filter (· ≠ str.val) ∧
      Recorded [(recStringOpened, [BitVec.ofNat 8 str.val, 9])] s t ∧
      PageFrame [0x0A] [.seq, .rcd] s t) ∧
  (∀ (str : Str) (s : State),
    Settled s →
    s.dev.seqActs = true →
    s.dev.strState str.val = 7 →
    (s.dev.sq str.val).opn = .drain →
    ∃ t, exec (.orderWaitEnd str) s = .next t ∧
      t.dev.sq str.val = { s.dev.sq str.val with opn := .breakWait } ∧
      Frame [] [.seq] s t) ∧
  (∀ (str : Str) (s : State),
    Settled s →
    s.dev.seqActs = true →
    s.dev.strState str.val = 8 →
    (s.dev.sq str.val).opn = .lowWait →
    ∃ t, exec (.currentLowQualified str) s = .next t ∧
      t.dev.coil (3 * str.val + 2) = false ∧ (t.dev.sq str.val).opn = .negDelay ∧
      (∀ c, c ≠ 3 * str.val + 2 → t.dev.coil c = s.dev.coil c) ∧
      Frame [SEQ_STATE.PRE str.val] [.seq, .chn] s t) ∧
  (∀ (str : Str) (s : State),
    Settled s →
    s.dev.seqActs = true →
    s.dev.strState str.val = 8 →
    (s.dev.sq str.val).opn = .negDelay →
    s.dev.saf.degOut = false →
    ∃ t, exec (.negCoilDelayEnd str) s = .next t ∧
      t.dev.coil (3 * str.val + 1) = false ∧
      t.dev.strState str.val = 8 ∨ t.dev.strState str.val = 1 ∨ t.dev.strState str.val = 9 ∧
      PageFrame [0x0A] [.seq, .chn] s t) ∧
  (∀ (s : State),
    Settled s →
    s.dev.seqActs = true →
    s.dev.seq.bank = .bnegDelay →
    ∃ t, exec (.bnegDelayEnd) s = .next t ∧
      t.dev.coil 25 = false ∧ (t.dev.seq.bank = .allOff ∨ t.dev.seq.bank = .idle) ∧
      (∀ c, c ≠ 25 → t.dev.coil c = s.dev.coil c) ∧
      Frame [SEQ_BANK.BNEG, SEQ_BANK.STATE] [.seq, .chn] s t) ∧
  (∀ (str : Str) (s : State),
    Settled s →
    s.dev.seqActs = true →
    s.dev.isOpen str.val = true →
    (s.dev.sq str.val).hold = true →
    ∃ t, exec (.recloseHoldEnd str) s = .next t ∧
      t.dev.sq str.val = { s.dev.sq str.val with hold := false, holdEnd := 0 } ∧
      (tget 0 s.dev.saf.ret.latch str.val = 0 → tget 0 s.dev.nv.maint str.val = 0 → t.dev.rd (SEQ_STATE.LATCH str.val) = 0) ∧
      Frame [SEQ_STATE.LATCH str.val, SEQ_STATE.CAUSE str.val] [.seq] s t) ∧
  (∀ (s : State),
    Settled s →
    s.dev.seq.firing = true →
    ∃ t, exec (.tripPulseEnd) s = .next t ∧
      t.dev.seq = { s.dev.seq with firing := false } ∧ t.dev.rd CHN_SHUNT.FIRING = 0 ∧
      Frame [CHN_SHUNT.FIRING] [.seq] s t)

/-- A zone evaluation: the maximum, the factors, HOLD, a blind zone, WARN, string factors and a shutdown by level. With
THW in RUN and no THRM outage, from the points as the last sweep's end found them: a zone with a pack point that has a
value takes as its maximum the highest candidate, with its source and index; f_abs moves within the HYST band; without
HOLD the factor is f_abs, capped at F_RATE while RATE_HIGH stands, and with HOLD it does not rise above its last value
or f_abs; HOLD stands where it stood or the hottest point has been lost; WARN is the comparison with T_WARN, THROTTLE
a factor below 1, BLIND clear. A zone none of whose pack points has a value is BLIND with source 3 and temperature 0,
keeps f_abs and its factor is at most F_RATE and f_abs. A string in no zone reads 10,000 and zone 0xFF, another the
first zone of least factor among its own. A valid measured point at or above T_SHUT where the zone's level condition
held at the evaluation before declares a thermal shutdown, none being declared or latched: cause 1 or 2, no string is
left QUEUED, CONNECTED or DRAINING, the coils of every CONNECTED string and of a fitted bank are off and a
THERMAL_SHUTDOWN record is staged ahead of the others. Derived from R214, R215, R216, R217, R218, R219, R220, R221.
The model's choices and readings it takes in: log entries 59, 90. -/
def Obligations.ZonesAreEvaluatedAndJudged : Prop :=
  (∀ (z : Nat) (b : Cand) (s : State),
    s.dev.alive = true →
    s.dev.runs .thw = true →
    Settled s →
    s.mem.hasImage = true →
    s.dev.outage bedThrm = false →
    z ∈ s.mem.img.zones →
    highest (s.dev.asEnded.candidates s.mem z) = some b →
    ∃ p ∈ s.dev.asEnded.zonePoints s.mem z, (s.dev.asEnded.pointValue s.mem p).isSome = true →
    ∃ t, exec (.zoneEvaluation) s = .next t ∧
      t.dev.rd (THW_ZMAX.TEMP z) = hundredths b.1 ∧ t.dev.rd (THW_ZMAX.SRC z) = b.2.1 % 4 ∧ t.dev.rd (THW_ZMAX.INDEX z) = b.2.2 % 2048 ∧
      (t.dev.zone z).fAbs = min (s.mem.img.thermG z b.1) (max (s.dev.zone z).fAbs (s.mem.img.thermG z (b.1 + s.mem.img.hyst z))) ∧
      ((t.dev.zone z).hold = false → (t.dev.zone z).f = (if (t.dev.zone z).rateHigh = true
        then min (t.dev.zone z).fAbs (s.mem.img.fRate z) else (t.dev.zone z).fAbs)) ∧
      ((t.dev.zone z).hold = true → (t.dev.zone z).f ≤ (s.dev.zone z).f ∧ (t.dev.zone z).f ≤ (t.dev.zone z).fAbs) ∧
      ((s.dev.zone z).hold = true ∨ s.dev.asEnded.hottestLost (s.dev.zone z) = true ↔ (t.dev.zone z).hold = true) ∧
      (t.dev.rd (THW_ZSTAT.WARN z) = 1 ↔ s.mem.img.tWarn z ≤ b.1) ∧ (t.dev.rd (THW_ZSTAT.THROTTLE z) = 1 ↔ (t.dev.zone z).f < 1) ∧
      t.dev.rd (THW_ZSTAT.FACTOR z) = pct (t.dev.zone z).f ∧ t.dev.rd (THW_ZSTAT.BLIND z) = 0 ∧
      PageFrame [0x03, 0x0A, 0x0E, 0x0B, 0x70, 0x71, 0x72, 0x73, 0x74, 0x75, 0x76, 0x77] [.thw, .chn, .rcd, .seq, .nv, .saf] s t) ∧
  (∀ (z : Nat) (s : State),
    s.dev.alive = true →
    s.dev.runs .thw = true →
    Settled s →
    s.mem.hasImage = true →
    s.dev.outage bedThrm = false →
    z ∈ s.mem.img.zones →
    ∀ p ∈ s.dev.asEnded.zonePoints s.mem z, s.dev.asEnded.pointValue s.mem p = none →
    ∃ t, exec (.zoneEvaluation) s = .next t ∧
      t.dev.rd (THW_ZMAX.SRC z) = 3 ∧ t.dev.rd (THW_ZMAX.TEMP z) = 0 ∧ t.dev.rd (THW_ZSTAT.BLIND z) = 1 ∧ t.dev.rd (THW_ZSTAT.WARN z) = 0 ∧
      (t.dev.zone z).fAbs = (s.dev.zone z).fAbs ∧
      (t.dev.zone z).f ≤ s.mem.img.fRate z ∧ (t.dev.zone z).f ≤ (s.dev.zone z).fAbs ∧
      PageFrame [0x03, 0x0A, 0x0E, 0x0B, 0x70, 0x71, 0x72, 0x73, 0x74, 0x75, 0x76, 0x77] [.thw, .chn, .rcd, .seq, .nv, .saf] s t) ∧
  (∀ (k : Nat) (s : State),
    s.dev.alive = true →
    s.dev.runs .thw = true →
    Settled s →
    s.mem.hasImage = true →
    s.dev.outage bedThrm = false →
    k < 8 →
    ∃ t, exec (.zoneEvaluation) s = .next t ∧
      ((∀ z ∈ s.mem.img.zones, s.dev.inZone s.mem k z = false) →
        t.dev.rd (THW_SFACT.FACTOR k) = 10000 ∧ t.dev.rd (THW_SFACT.ZONE k) = 0xFF) ∧
      ((∃ z ∈ s.mem.img.zones, s.dev.inZone s.mem k z = true) → ∃ y ∈ s.mem.img.zones, s.dev.inZone s.mem k y = true ∧
        t.dev.rd (THW_SFACT.ZONE k) = y ∧ t.dev.rd (THW_SFACT.FACTOR k) = pct (t.dev.zone y).f ∧
        ∀ z ∈ s.mem.img.zones, s.dev.inZone s.mem k z = true → (t.dev.zone y).f < (t.dev.zone z).f ∨
          (t.dev.zone y).f = (t.dev.zone z).f ∧ y ≤ z)) ∧
  (∀ (z p : Nat) (v : Rat) (s : State),
    s.dev.alive = true →
    s.dev.runs .thw = true →
    Settled s →
    s.mem.hasImage = true →
    s.dev.outage bedThrm = false →
    z ∈ s.mem.img.zones →
    s.dev.on (SESS_FUNC.IDLE Func.thw.num) = false →
    s.dev.thw.latch = false →
    p ∈ s.dev.asEnded.zonePoints s.mem z →
    s.dev.asEnded.pointValid p = true →
    s.dev.asEnded.pointValue s.mem p = some v →
    s.mem.img.tShut z ≤ v →
    s.dev.thw.declared = false →
    (s.dev.zone z).level = true →
    ∃ t, exec (.zoneEvaluation) s = .next t ∧
      t.dev.thw.declared = true ∧ (t.dev.thw.last.1 = 1 ∨ t.dev.thw.last.1 = 2) ∧
      t.dev.rcd.urgent.any (fun x => decide ((x.src, x.code) = recThermalShutdown)) = true ∧
      (∀ k < 8, s.dev.strState k = 6 → ∀ c ∈ consOf k, t.dev.coil c = false) ∧
      (s.mem.img.bankPresent = true → ∀ c ∈ consOf 8, t.dev.coil c = false) ∧
      (∀ k < 8, t.dev.strState k ≠ 2 ∧ t.dev.strState k ≠ 6 ∧ t.dev.strState k ≠ 7) ∧
      t.dev.rd (THW_ZSTAT.SHUT z) = 1 ∧
      PageFrame [0x03, 0x0A, 0x0E, 0x0B, 0x70, 0x71, 0x72, 0x73, 0x74, 0x75, 0x76, 0x77] [.thw, .chn, .rcd, .seq, .nv, .saf] s t)

/-- Internal points, a point STALE for 3 s, and the ends of fast mode, a high rate, HOLD and the latch, in the cases
named. With THW in RUN and no THRM outage a reading of twelve internal points shows them all and INT_WARN; with none
at or above INT_SHUT no run of readings stands; with the first one there for the second time, none being declared or
latched, a thermal shutdown is declared with cause 3, its point and value, no string is left QUEUED, CONNECTED or
DRAINING and the record is staged ahead of the others; in an outage the reading is buffered and nothing else changes.
A used point STALE with its last sample, not struck by an ECC error, takes standing FAILED, is counted and shows its
substitute or 0. Fast mode, RATE_HIGH and HOLD end where their conditions do, and the rest of the zone and every other
zone stay. The retained latch clears and LATCH and CAUSE report anew, changing nothing outside page 0x0A. Derived from
R211, R212, R214, R216, R217, R219, R220, R221, R222. The model's choices and readings it takes in: log entries 5, 59. -/
def Obligations.PointsHoldsAndTheLatchEnd : Prop :=
  (∀ (temps : List Int) (s : State),
    s.dev.alive = true →
    s.dev.runs .thw = true →
    Settled s →
    s.mem.hasImage = true →
    s.dev.outage bedThrm = false →
    temps.length = 12 →
    ∀ x ∈ temps, x < s.mem.img.intShut →
    ∃ t, exec (.internalPointReading temps) s = .next t ∧
      (∀ k < 12, t.dev.rd (THW_INT.TEMP k) = unsigned 16 (temps.getD k 0)) ∧
      (t.dev.rd THW_STATUS.INT_WARN = 1 ↔ ∃ x ∈ temps, s.mem.img.intWarn ≤ x) ∧
      (∀ k < 12, tget 0 t.dev.thw.intRun k = 0) ∧
      Frame [THW_INT.TEMP 0, THW_INT.TEMP 1, THW_INT.TEMP 2, THW_INT.TEMP 3, THW_INT.TEMP 4, THW_INT.TEMP 5, THW_INT.TEMP 6, THW_INT.TEMP 7, THW_INT.TEMP 8, THW_INT.TEMP 9, THW_INT.TEMP 10, THW_INT.TEMP 11, THW_STATUS.INT_WARN] [.thw, .rcd] s t) ∧
  (∀ (temps : List Int) (k : Nat) (s : State),
    s.dev.alive = true →
    s.dev.runs .thw = true →
    Settled s →
    s.mem.hasImage = true →
    s.dev.outage bedThrm = false →
    temps.length = 12 →
    k < 12 →
    s.mem.img.intShut ≤ temps.getD k 0 →
    1 ≤ tget 0 s.dev.thw.intRun k →
    s.dev.thw.latch = false →
    s.dev.thw.declared = false →
    ∀ j < k, tget 0 s.dev.thw.intRun j = 0 ∨ temps.getD j 0 < s.mem.img.intShut →
    ∃ t, exec (.internalPointReading temps) s = .next t ∧
      t.dev.thw.declared = true ∧ t.dev.thw.last = (3, k, unsigned 16 (temps.getD k 0)) ∧
      t.dev.rcd.urgent.any (fun x => decide ((x.src, x.code) = recThermalShutdown)) = true ∧
      (∀ j < 8, t.dev.strState j ≠ 2 ∧ t.dev.strState j ≠ 6 ∧ t.dev.strState j ≠ 7) ∧
      PageFrame [0x03, 0x0A, 0x0B, 0x0E] [.thw, .chn, .rcd, .seq, .nv, .saf] s t) ∧
  (∀ (temps : List Int) (s : State),
    s.dev.alive = true →
    s.dev.runs .thw = true →
    Settled s →
    s.mem.hasImage = true →
    s.dev.outage bedThrm = true →
    ∃ t, exec (.internalPointReading temps) s = .next t ∧
      t.dev.thw = { s.dev.thw with buffer := s.dev.thw.buffer ++ [.internal temps] } ∧
      Frame [] [.thw] s t) ∧
  (∀ (p : Point) (s : State),
    s.dev.alive = true →
    s.dev.runs .thw = true →
    Settled s →
    s.dev.pointUsed s.mem p.val = true →
    s.dev.tempValid p.val = 3 →
    s.dev.rd (TEMP_VAL.STANDING p.val) ≠ 3 →
    (s.dev.point p.val).ecc = none →
    ∃ t, exec (.pointStaleFailed p) s = .next t ∧
      t.dev.rd (TEMP_VAL.STANDING p.val) = 3 ∧
      t.dev.rd (TEMP_VAL.TEMP p.val) = (match s.dev.substitute s.mem p.val with | some x => hundredths x | none => 0) ∧
      t.dev.rd THW_CNT.FAIL = min (s.dev.rd THW_CNT.FAIL + 1) 0xFFFF ∧
      Frame [TEMP_VAL.STANDING p.val, TEMP_VAL.TEMP p.val, THW_CNT.FAIL] [.thw] s t) ∧
  (∀ (p : Point) (s : State),
    s.dev.alive = true →
    s.dev.runs .thw = true →
    Settled s →
    s.dev.on (TEMP_VAL.FAST p.val) = true →
    s.dev.fastCond s.mem p.val = false →
    ∃ t, exec (.fastModeEnd p) s = .next t ∧
      t.dev.rd (TEMP_VAL.FAST p.val) = 0 ∧
      Frame [TEMP_VAL.FAST p.val] [] s t) ∧
  (∀ (z : Zone) (s : State),
    s.dev.alive = true →
    s.dev.runs .thw = true →
    Settled s →
    (s.dev.zone z.val).rateHigh = true →
    exceeds (greatest ((s.dev.zonePoints s.mem z.val).map s.dev.pointRate10)) (s.mem.img.rate10 z.val) = false →
    exceeds (greatest ((s.dev.zonePoints s.mem z.val).map s.dev.pointRate60)) (s.mem.img.rate60 z.val) = false →
    ∃ t, exec (.rateHighEnd z) s = .next t ∧
      t.dev.zone z.val = { s.dev.zone z.val with rateHigh := false } ∧
      (∀ y, y ≠ z.val → t.dev.zone y = s.dev.zone y) ∧
      t.dev.rd (THW_ZSTAT.RATE_HIGH z.val) = 0 ∧
      Frame [THW_ZSTAT.RATE_HIGH z.val] [.thw, .chn] s t) ∧
  (∀ (z : Zone) (s : State),
    s.dev.alive = true →
    s.dev.runs .thw = true →
    Settled s →
    (s.dev.zone z.val).hold = true →
    ∃ t, exec (.holdEnd z) s = .next t ∧
      t.dev.zone z.val = { s.dev.zone z.val with hold := false } ∧
      (∀ y, y ≠ z.val → t.dev.zone y = s.dev.zone y) ∧
      t.dev.rd (THW_ZSTAT.HOLD z.val) = 0 ∧
      Frame [THW_ZSTAT.HOLD z.val] [.thw] s t) ∧
  (∀ (s : State),
    Settled s →
    s.dev.thw.latch = true →
    ∃ t, exec (.thermalLatchClear) s = .next t ∧
      t.dev.thw = { s.dev.thw with latch := false, cleared := true } ∧
      PageFrame [0x0A] [.thw] s t)

/-- FORCE, UNFORCE, the end of forcing, TEST, TEST_ALL and the weekly pass, in the cases named. FORCE for the steward of
BAL, a Maintainer, on a used port, not continuous on a connected or closing string and with BAL not suspended, stores
the mask restricted to the port's good inputs and its CONTINUOUS, changes no other port of BAL, is recorded with port,
mask, MINUTES and CONTINUOUS, is answered OK where the quarantine windows need no change or the port is not live, and
else, on a continuous forcing with no command awaited, a window write of 0 and 0 is sent. The first of the four
reasons of R231 that applies refuses it, with REASON. UNFORCE and the end of MINUTES end a port's forcing, leave its
test and the other ports; the end sends the configured windows back where they were 0, the port is live and no command
is awaited. TEST outside a pass queues the test of a fitted input and leaves the other ports; in a pass it is refused
with REASON 5, of an input not fitted with REASON 2. TEST_ALL outside a pass, and the weekly pass where BAL works,
start a pass: its counts are 0 and every used port of a configured string that has inputs is given the test of input 0
next. Derived from R231, R232, R234, R235. The model's choices and readings it takes in: log entries 12, 13, 22, 42,
60, 61, 67. -/
def Obligations.ForcingAndSwitchTests : Prop :=
  (∀ (sid : Sid) (port : Mon) (s : State),
    Settled s →
    Heard sid s →
    s.dev.isSteward sid .bal = true →
    (s.dev.sess sid.val).role = .maintainer →
    s.dev.monUsed port.val = true →
    ¬(s.dev.on BAL_FORCE.CONTINUOUS = true ∧ (s.dev.connected (s.dev.monStr port.val) = true ∨ s.dev.closing (s.dev.monStr port.val) = true)) →
    s.dev.balSuspended s.mem = false →
    ∃ t, exec (.force sid port) s = .next t ∧
      (s.dev.noWindows (lcOfMon port.val) = s.dev.on BAL_FORCE.CONTINUOUS ∨ s.dev.isLive (lcOfMon port.val) = false → Answered sid wrOk id s t) ∧
      (t.dev.balPort port.val).forced = some (Nat.land (s.dev.rd BAL_FORCE.MASK) (s.dev.goodInputs port.val)) ∧
        (t.dev.balPort port.val).cont = s.dev.on BAL_FORCE.CONTINUOUS ∧
      (∀ k, k ≠ port.val → t.dev.balPort k = s.dev.balPort k) ∧
      Recorded [(recBalForced, leBytes 1 port.val ++ leBytes 3 (Nat.land (s.dev.rd BAL_FORCE.MASK) (s.dev.goodInputs port.val)) ++
        leBytes 1 (s.dev.rd BAL_FORCE.MINUTES) ++ leBytes 1 (s.dev.on BAL_FORCE.CONTINUOUS).toNat)] s t ∧
      (s.dev.noWindows (lcOfMon port.val) = false → s.dev.on BAL_FORCE.CONTINUOUS = true → s.dev.isLive (lcOfMon port.val) = true →
        (s.dev.port (lcOfMon port.val)).awaits = none →
        (t.dev.port (lcOfMon port.val)).awaits.map (·.entries) = some [(9, 0), (10, 0)]) ∧
      Frame [] [.bal, .ports, .rcd, .out, .net] s t) ∧
  (∀ (sid : Sid) (port : Mon) (r : Nat) (s : State), Settled s → Heard sid s → s.dev.isSteward sid .bal = true →
    r = (if (s.dev.sess sid.val).role ≠ .maintainer then 1
      else if s.dev.monUsed port.val = false then 2
      else if s.dev.on BAL_FORCE.CONTINUOUS = true ∧
        (s.dev.connected (s.dev.monStr port.val) = true ∨ s.dev.closing (s.dev.monStr port.val) = true) then 3
      else if s.dev.balSuspended s.mem = true then 4 else 0) →
    r ≠ 0 →
    ∃ t, exec (.force sid port) s = .next t ∧
      Answered sid (wrRefused r BAL_CTRL.CMD.addr) id s t ∧
      t.dev.rd BAL_STATUS.REASON = r ∧
      Frame [BAL_STATUS.REASON] [.out, .net] s t) ∧
  (∀ (sid : Sid) (port : Mon) (s : State),
    Settled s →
    Heard sid s →
    s.dev.isSteward sid .bal = true →
    ∃ t, exec (.unforce sid port) s = .next t ∧
      (s.dev.noWindows (lcOfMon port.val) = false ∨ s.dev.isLive (lcOfMon port.val) = false → Answered sid wrOk id s t) ∧
      (t.dev.balPort port.val).forced = none ∧ (t.dev.balPort port.val).cont = false ∧
      (t.dev.balPort port.val).test = (s.dev.balPort port.val).test ∧ (∀ k, k ≠ port.val → t.dev.balPort k = s.dev.balPort k) ∧
      Frame [] [.bal, .ports, .out, .net] s t) ∧
  (∀ (port : Mon) (s : State),
    Settled s →
    s.dev.alive = true →
    (s.dev.balPort port.val).forced.isSome = true →
    ∃ t, exec (.forceExpiry port) s = .next t ∧
      (t.dev.balPort port.val).forced = none ∧ (t.dev.balPort port.val).cont = false ∧
      (∀ k, k ≠ port.val → t.dev.balPort k = s.dev.balPort k) ∧
      (s.dev.noWindows (lcOfMon port.val) = true → s.dev.isLive (lcOfMon port.val) = true →
        (s.dev.port (lcOfMon port.val)).awaits = none →
        (t.dev.port (lcOfMon port.val)).awaits.map (·.entries) = some [(9, s.dev.rd ACQ_QW.QW_PRE), (10, s.dev.rd ACQ_QW.QW_POST)]) ∧
      Frame [] [.bal, .ports, .out] s t) ∧
  (∀ (sid : Sid) (port : Mon) (input : Fin 32) (s : State),
    Settled s →
    Heard sid s →
    s.dev.isSteward sid .bal = true →
    s.dev.bal.pass = false →
    s.dev.monUsed port.val = true →
    input.val < (s.dev.portRec (lcOfMon port.val)).inputs →
    ∃ t, exec (.balTest sid port input) s = .next t ∧
      Answered sid wrOk id s t ∧
      t.dev.balPort port.val = { s.dev.balPort port.val with todo := (s.dev.balPort port.val).todo ++ [(input.val, true)] } ∧
      (∀ k, k ≠ port.val → t.dev.balPort k = s.dev.balPort k) ∧
      Frame [] [.bal, .out, .net] s t) ∧
  (∀ (sid : Sid) (port : Mon) (input : Fin 32) (s : State),
    Settled s →
    Heard sid s →
    s.dev.isSteward sid .bal = true →
    s.dev.bal.pass = true ∨ ¬(s.dev.monUsed port.val = true ∧ input.val < (s.dev.portRec (lcOfMon port.val)).inputs) →
    ∃ t, exec (.balTest sid port input) s = .next t ∧
      Answered sid (wrRefused (if s.dev.bal.pass = true then 5 else 2) BAL_CTRL.CMD.addr) id s t ∧
      t.dev.rd BAL_STATUS.REASON = (if s.dev.bal.pass = true then 5 else 2) ∧
      Frame [BAL_STATUS.REASON] [.out, .net] s t) ∧
  (∀ (sid : Sid) (s : State),
    Settled s →
    Heard sid s →
    s.dev.isSteward sid .bal = true →
    s.dev.bal.pass = false →
    ∃ t, exec (.testAll sid) s = .next t ∧
      Answered sid wrOk id s t ∧
      t.dev.bal.pass = true ∧ t.dev.bal.tested = 0 ∧ t.dev.bal.failed = 0 ∧ t.dev.bal.unclear = 0 ∧
      (∀ k < 64, s.dev.monUsed k = true → s.dev.configured (s.dev.monStr k) = true →
        0 < (s.dev.portRec (lcOfMon k)).inputs → (t.dev.balPort k).todo = (s.dev.balPort k).todo ++ [(0, false)]) ∧
      t.dev.bal.active = s.dev.bal.active ∧
      Frame [] [.bal, .out, .net] s t) ∧
  (∀ (s : State),
    Settled s →
    s.dev.alive = true →
    s.mem.hasImage = true →
    s.dev.works .bal = true →
    s.dev.bal.pass = false →
    ∃ t, exec (.testPassDue) s = .next t ∧
      t.dev.bal.pass = true ∧ t.dev.bal.tested = 0 ∧ t.dev.bal.failed = 0 ∧ t.dev.bal.unclear = 0 ∧
      (∀ k < 64, s.dev.monUsed k = true → s.dev.configured (s.dev.monStr k) = true →
        0 < (s.dev.portRec (lcOfMon k)).inputs → (t.dev.balPort k).todo = (s.dev.balPort k).todo ++ [(0, false)]) ∧
      (s.dev.rd BAL_TEST.PERIOD : Int) ≤ (t.dev.days t.dev.bal.ageS : Int) ∧
      Frame [] [.bal] s t)

/-- CHN_SET, CHN_CLR, CHN_FCLR, the inrush window's end, short, overload and open load, in the cases named. For the
steward of CHN, a mask that names no UNUSED and no CONTACTOR channel sets or clears, no later command of the same clk
standing, the stored commands of the HOST, DEW and ZONE channels it names and keeps the commands of those it does not
name and every short, overload and OT_OFF; a permitted channel that no latch, safe default or shed holds whose demand
so turns on is in its inrush window. A mask that names a channel of role 0 or 1 is refused with REASON 1 and nothing
else changes. FCLR clears short and overload of the named channels, leaves every other channel as it was and puts one
that is demanded, permitted and held by nothing into a window. A window's end changes that alone. A short of a
conducting channel that drives no coil, and its overload outside the window, latch it, stop it conducting, are
recorded and leave the other channels. One of a channel through which a coil of a connected, closing or opening string
is commanded, and so an OT_OFF shed step at or above 150 °C, opens that string: its coils are off and MAINT is
latched, no string being queued and no degrade timer expired. An open load on a diagnosed conducting channel is
flagged and recorded, and the channel conducts on. Derived from R240, R245, R246, R247, R250, R251, R259. The model's
choices and readings it takes in: log entries 5, 12, 13, 62. -/
def Obligations.ChannelCommandsAndProtection : Prop :=
  (∀ (sid : Sid) (mask : Word) (s : State),
    Settled s →
    Heard sid s →
    s.dev.isSteward sid .chn = true →
    ∀ n < 32, mask.getLsbD n = true → s.mem.img.chanRole n ≠ 0 ∧ s.mem.img.chanRole n ≠ 1 →
    ∀ n < 32, (s.dev.chan n).last.1 = s.dev.clk + 1 → (s.dev.chan n).last.2 ≤ 1024 + sid.val →
    ∃ t, exec (.chnSet sid mask) s = .next t ∧
      Answered sid wrOk id s t ∧
      (∀ n < 32, mask.getLsbD n = true → 2 ≤ s.mem.img.chanRole n → s.mem.img.chanRole n ≤ 4 → (t.dev.chan n).cmd = true) ∧
      (∀ n, mask.getLsbD n = false → (t.dev.chan n).cmd = (s.dev.chan n).cmd) ∧
      (∀ n, (t.dev.chan n).short = (s.dev.chan n).short ∧ (t.dev.chan n).excess = (s.dev.chan n).excess ∧ (t.dev.chan n).ot = (s.dev.chan n).ot) ∧
      (∀ n < 32, s.dev.demand s.mem n = false → t.dev.demand t.mem n = true → (t.dev.chan n).held = false →
        (t.dev.chan n).ot = false → (t.dev.chan n).total = false → s.dev.permitted s.mem n = true → (t.dev.chan n).inrush = true ∧ (t.dev.chan n).wait = false) ∧
      Frame [] [.chn, .out, .net] s t) ∧
  (∀ (sid : Sid) (mask : Word) (s : State),
    Settled s →
    Heard sid s →
    s.dev.isSteward sid .chn = true →
    ∀ n < 32, mask.getLsbD n = true → s.mem.img.chanRole n ≠ 0 ∧ s.mem.img.chanRole n ≠ 1 →
    ∀ n < 32, (s.dev.chan n).last.1 = s.dev.clk + 1 → (s.dev.chan n).last.2 ≤ 1024 + sid.val →
    ∃ t, exec (.chnClr sid mask) s = .next t ∧
      Answered sid wrOk id s t ∧
      (∀ n < 32, mask.getLsbD n = true → 2 ≤ s.mem.img.chanRole n → s.mem.img.chanRole n ≤ 4 → (t.dev.chan n).cmd = false) ∧
      (∀ n, mask.getLsbD n = false → (t.dev.chan n).cmd = (s.dev.chan n).cmd) ∧
      (∀ n, (t.dev.chan n).short = (s.dev.chan n).short ∧ (t.dev.chan n).excess = (s.dev.chan n).excess ∧ (t.dev.chan n).ot = (s.dev.chan n).ot) ∧
      Frame [] [.chn, .out, .net] s t) ∧
  (∀ (c : Instr) (sid : Sid) (mask : Word) (a n : Nat) (s : State), Settled s → Heard sid s → s.dev.isSteward sid .chn = true →
    n < 32 → mask.getLsbD n = true → s.mem.img.chanRole n = 0 ∨ s.mem.img.chanRole n = 1 →
    (c = .chnSet sid mask ∧ a = CHN_SET.MASK.addr ∨ c = .chnClr sid mask ∧ a = CHN_CLR.MASK.addr) →
    ∃ t, exec c s = .next t ∧
      Answered sid (wrRefused 1 a) id s t ∧
      t.dev.rd CHN_STATUS.REASON = 1 ∧
      Frame [CHN_STATUS.REASON] [.out, .net] s t) ∧
  (∀ (sid : Sid) (mask : Word) (s : State),
    Settled s →
    Heard sid s →
    s.dev.isSteward sid .chn = true →
    ∃ t, exec (.chnFclr sid mask) s = .next t ∧
      Answered sid wrOk id s t ∧
      (∀ n < 32, mask.getLsbD n = true → (t.dev.chan n).short = false ∧ (t.dev.chan n).excess = false) ∧
      (∀ n, (mask.getLsbD n = false ∨ (s.dev.chan n).short = false ∧ (s.dev.chan n).excess = false) → t.dev.chan n = s.dev.chan n) ∧
      (∀ n < 32, mask.getLsbD n = true → (s.dev.chan n).short = true ∨ (s.dev.chan n).excess = true → s.dev.demand s.mem n = true →
        (s.dev.chan n).held = false → (s.dev.chan n).ot = false → (s.dev.chan n).total = false → s.dev.permitted s.mem n = true →
        (t.dev.chan n).inrush = true ∧ (t.dev.chan n).wait = false) ∧
      Frame [] [.chn, .out, .net] s t) ∧
  (∀ (n : Chn) (s : State),
    Settled s →
    ∃ t, exec (.inrushWindowEnd n) s = .next t ∧
      t.dev.chan n.val = { s.dev.chan n.val with inrush := false } ∧
      (∀ k, k ≠ n.val → t.dev.chan k = s.dev.chan k) ∧
      Frame [] [.chn] s t) ∧
  (∀ (n : Chn) (s : State),
    Settled s →
    s.dev.conducts s.mem n.val = true →
    coilOf s.mem n.val = none →
    ∃ t, exec (.chnShort n) s = .next t ∧
      t.dev.chan n.val = { s.dev.chan n.val with short := true, inrush := false } ∧
      (∀ k, k ≠ n.val → t.dev.chan k = s.dev.chan k) ∧
      t.dev.conducts t.mem n.val = false ∧
      Recorded [(recChnShort, [BitVec.ofNat 8 n.val])] s t ∧
      Frame [] [.chn, .rcd] s t) ∧
  (∀ (n : Chn) (s : State),
    Settled s →
    s.dev.conducts s.mem n.val = true →
    coilOf s.mem n.val = none →
    (s.dev.chan n.val).inrush = false →
    ∃ t, exec (.chnOverload n) s = .next t ∧
      t.dev.chan n.val = { s.dev.chan n.val with excess := true, inrush := false } ∧
      (∀ k, k ≠ n.val → t.dev.chan k = s.dev.chan k) ∧
      t.dev.conducts t.mem n.val = false ∧
      Recorded [(recChnOverload, [BitVec.ofNat 8 n.val])] s t ∧
      Frame [] [.chn, .rcd] s t) ∧
  (∀ (c : Instr) (n : Chn) (k : Con) (s : State), Settled s → s.dev.conducts s.mem n.val = true →
    coilOf s.mem n.val = some k.val → s.dev.coil k.val = true → ownerOf k.val < 8 →
    s.dev.connected (ownerOf k.val) = true ∨ s.dev.inSequence (ownerOf k.val) = true ∨ s.dev.strState (ownerOf k.val) = 8 →
    (c = .chnShort n ∨ c = .chnOverload n ∧ (s.dev.chan n.val).inrush = false ∨
      ∃ g temp limited low currents, c = .otShedStep g temp limited low currents ∧ 15000 ≤ temp ∧
        firstBy (otOrder s.mem limited.toNat low.toNat fun k => (currents.getD k 0).toNat)
          ((outs.filter fun k => groupOfChan k = g.val).filter (s.dev.conducts s.mem)) = some n.val) → s.dev.saf.degOut = false → s.dev.seq.queue = [] →
    ∃ t, exec c s = .next t ∧
      ((t.dev.chan n.val).short = true ∨ (t.dev.chan n.val).excess = true ∨ (t.dev.chan n.val).ot = true) ∧
      (∀ j ∈ consOf (ownerOf k.val), t.dev.coil j = false) ∧
      tget 0 t.dev.nv.maint (ownerOf k.val) ≠ 0 ∧
      t.dev.strState (ownerOf k.val) ≠ 6 ∧ t.dev.strState (ownerOf k.val) ≠ 7 ∧
      PageFrame [0x0A] [.chn, .seq, .nv, .rcd] s t) ∧
  (∀ (n : Chn) (s : State),
    Settled s →
    s.dev.conducts s.mem n.val = true →
    s.mem.img.chanOpenDiag n.val = true →
    s.dev.on (CHN_STATE.OPEN_LOAD n.val) = false →
    ∃ t, exec (.chnOpenLoad n) s = .next t ∧
      t.dev.rd (CHN_STATE.OPEN_LOAD n.val) = 1 ∧
      t.dev.conducts t.mem n.val = true ∧
      Recorded [(recChnOpenLoad, [BitVec.ofNat 8 n.val])] s t ∧
      Frame [CHN_STATE.OPEN_LOAD n.val] [.rcd] s t)

/-- Group sheds, the total shed, restoration in turn, PWMIN edges, the sensor, continuity and compensation, in the cases
named. At or above 150.00 °C the first conducting channel of the group in the order of R248, driving no coil, goes to
OT_OFF and is recorded, the others staying; at or above 175.00 °C a group not yet hot goes to OT_OFF whole, does not
conduct and is recorded, the coils of its contactor channels going off; below 130 °C the group's OT_OFF ends. Above
40.0 A, or from 38.0 A in an episode, with CHN working the next channel of R249 is shed and the others stay, the first
of an episode recorded; below 38.0 A the episode alone ends; the return ends episode and sheds. The lowest waiting,
demanded, unblocked channel starts in a new window, the others staying. A pin edge changes that pin alone. A sensor
poll shows its three values, clears STALE, and holds the dew condition below DEW_ON and not above DEW_OFF; its timeout
sets STALE, and every DEW channel is demanded outside hold-through. A passed continuity check clears OPEN and the
count of failures; a failed one is counted and from the second OPEN is set, its setting recorded. A compensated,
demanded channel not at its safe default takes the duty of R243 in the compensated phases and else goes back to R241
at the period's end; in hold-through it keeps its duty. Derived from R240, R242, R243, R248, R249, R252, R254. The
model's choices and readings it takes in: log entries 5, 12, 13, 62, 63. -/
def Obligations.ShedsRestorationAndSensors : Prop :=
  (∀ (group : Fin 9) (n : Chn) (temp : Int) (limited low : BitVec 32) (currents : List (BitVec 16)) (s : State),
    Settled s →
    15000 ≤ temp →
    firstBy (otOrder s.mem limited.toNat low.toNat fun k => (currents.getD k 0).toNat)
      ((outs.filter fun k => groupOfChan k = group.val).filter (s.dev.conducts s.mem)) = some n.val →
    coilOf s.mem n.val = none →
    ∃ t, exec (.otShedStep group temp limited low currents) s = .next t ∧
      (t.dev.chan n.val).ot = true ∧ (t.dev.chan n.val).inrush = false ∧
      t.dev.conducts t.mem n.val = false ∧
      (∀ k, k ≠ n.val → t.dev.chan k = s.dev.chan k) ∧
      Recorded [(recChnOvertemp, leBytes 1 group.val ++ leBytes 2 (unsigned 16 temp))] s t ∧
      Frame [] [.chn, .rcd] s t) ∧
  (∀ (group : Fin 9) (temp : Int) (s : State),
    Settled s →
    17500 ≤ temp →
    tget false s.dev.chn.hot group.val = false →
    ∀ n < 32, groupOfChan n = group.val → coilOf s.mem n = none →
    ∃ t, exec (.groupOtComparator group temp) s = .next t ∧
      (∀ n < 32, groupOfChan n = group.val → (t.dev.chan n).ot = true ∧ t.dev.conducts t.mem n = false) ∧
      (∀ n < 32, groupOfChan n ≠ group.val → t.dev.chan n = s.dev.chan n) ∧
      (group = 8 → t.dev.conducts t.mem 32 = false) ∧
      Recorded [(recChnOvertemp, leBytes 1 group.val ++ leBytes 2 (unsigned 16 temp))] s t ∧
      Frame [] [.chn, .rcd] s t) ∧
  (∀ (group : Fin 9) (temp : Int) (s : State),
    Settled s →
    17500 ≤ temp →
    tget false s.dev.chn.hot group.val = false →
    s.dev.saf.degOut = false →
    s.dev.seq.queue = [] →
    ∀ k < 27, s.dev.coil k = true → ownerOf k < 8 ∧ (s.dev.connected (ownerOf k) = true ∨ s.dev.inSequence (ownerOf k) = true ∨
      s.dev.strState (ownerOf k) = 8) →
    ∃ t, exec (.groupOtComparator group temp) s = .next t ∧
      (∀ n < 32, groupOfChan n = group.val → (t.dev.chan n).ot = true ∧ t.dev.conducts t.mem n = false) ∧
      (∀ n < 32, groupOfChan n = group.val → ∀ k, coilOf s.mem n = some k → t.dev.coil k = false) ∧
      PageFrame [0x0A] [.chn, .seq, .nv, .rcd] s t) ∧
  (∀ (group : Fin 9) (s : State),
    Settled s →
    ∃ t, exec (.groupCooled group) s = .next t ∧
      (∀ n < 32, t.dev.chan n = { s.dev.chan n with ot := if groupOfChan n = group.val then false else (s.dev.chan n).ot }) ∧
      tget false t.dev.chn.hot group.val = false ∧
      Frame [] [.chn] s t) ∧
  (∀ (mean : BitVec 16) (n : Nat) (s : State),
    Settled s →
    s.dev.alive = true →
    s.dev.works .chn = true →
    40000 < mean.toNat ∨ s.dev.chn.episode = true ∧ 38000 ≤ mean.toNat →
    s.dev.nextShed s.mem = some n →
    ∃ t, exec (.totalShed mean) s = .next t ∧
      (t.dev.chan n).total = true ∧ t.dev.conducts t.mem n = false ∧ 1 ≤ s.mem.img.chanPrune n ∧
      (∀ k, k ≠ n → t.dev.chan k = s.dev.chan k) ∧
      t.dev.chn.episode = true ∧
      (s.dev.chn.episode = false → Recorded [(recChnTotalShed, [BitVec.ofNat 8 n])] s t) ∧
      Frame [] [.chn, .rcd] s t) ∧
  (∀ (mean : BitVec 16) (s : State),
    Settled s →
    mean.toNat < 38000 →
    ∃ t, exec (.totalShed mean) s = .next t ∧
      t.dev.chn = { s.dev.chn with episode := false } ∧
      Frame [] [.chn] s t) ∧
  (∀ (s : State),
    Settled s →
    ∃ t, exec (.totalShedReturn) s = .next t ∧
      t.dev.chn.episode = false ∧
      (∀ n < 32, t.dev.chan n = { s.dev.chan n with total := false }) ∧
      Frame [] [.chn] s t) ∧
  (∀ (n : Nat) (s : State),
    Settled s →
    s.dev.outputsOn = true →
    s.dev.pwr.sup = .running →
    (outs.find? fun k => (s.dev.chan k).wait && !(s.dev.chan k).held && s.dev.demand s.mem k && !s.dev.blocked s.mem k) = some n →
    ∃ t, exec (.restoreStagger) s = .next t ∧
      t.dev.chan n = { s.dev.chan n with wait := false, inrush := true } ∧
      (∀ k, k ≠ n → t.dev.chan k = s.dev.chan k) ∧
      (s.dev.pinHigh s.mem n = true → t.dev.conducts t.mem n = true) ∧
      Frame [] [.chn] s t) ∧
  (∀ (pin : Fin 4) (high : Bool) (s : State),
    Settled s →
    ∃ t, exec (.pwminEdge pin high) s = .next t ∧
      tget false t.dev.chn.pins pin.val = high ∧
      (∀ k, k ≠ pin.val → tget false t.dev.chn.pins k = tget false s.dev.chn.pins k) ∧
      (∀ k, t.dev.chan k = s.dev.chan k) ∧
      Frame [] [.chn] s t) ∧
  (∀ (tcase dew rh : BitVec 16) (s : State),
    Settled s →
    s.dev.alive = true →
    ∃ t, exec (.envSensorPoll tcase dew rh) s = .next t ∧
      t.dev.rd CHN_ENV0.TCASE = tcase.toNat ∧ t.dev.rd CHN_ENV0.DEW = dew.toNat ∧ t.dev.rd CHN_ENV1.RH = rh.toNat ∧ t.dev.rd CHN_ENV1.STALE = 0 ∧
      (tcase.toInt - dew.toInt < 10 * (s.dev.rd CHN_CFG.DEW_ON : Int) → t.dev.dewHolds = true) ∧
      (10 * (s.dev.rd CHN_CFG.DEW_ON : Int) ≤ tcase.toInt - dew.toInt → 10 * (s.dev.rd CHN_CFG.DEW_OFF : Int) < tcase.toInt - dew.toInt → t.dev.dewHolds = false) ∧
      Frame [CHN_ENV0.TCASE, CHN_ENV0.DEW, CHN_ENV1.RH, CHN_ENV1.STALE] [.chn] s t) ∧
  (∀ (s : State),
    Settled s →
    s.dev.alive = true →
    ∃ t, exec (.envSensorTimeout) s = .next t ∧
      t.dev.rd CHN_ENV1.STALE = 1 ∧ t.dev.dewHolds = true ∧
      (∀ n < 32, s.mem.img.chanRole n = 3 → s.dev.pwr.sup ≠ .holdThrough → t.dev.demand t.mem n = true) ∧
      Frame [CHN_ENV1.STALE] [.chn] s t) ∧
  (∀ (s : State),
    Settled s →
    s.dev.seq.firing = false →
    ∃ t, exec (.shuntContinuityCheck true) s = .next t ∧
      t.dev.rd CHN_SHUNT.OPEN = 0 ∧ t.dev.chn = { s.dev.chn with contFails := 0 } ∧
      Frame [CHN_SHUNT.OPEN] [.chn] s t) ∧
  (∀ (s : State),
    Settled s →
    s.dev.seq.firing = false →
    ∃ t, exec (.shuntContinuityCheck false) s = .next t ∧
      t.dev.chn = { s.dev.chn with contFails := s.dev.chn.contFails + 1 } ∧
      (1 ≤ s.dev.chn.contFails → t.dev.rd CHN_SHUNT.OPEN = 1) ∧
      (1 ≤ s.dev.chn.contFails → s.dev.rd CHN_SHUNT.OPEN = 0 → Recorded [(recShuntOpen, [])] s t) ∧
      Frame [CHN_SHUNT.OPEN] [.chn, .rcd] s t) ∧
  (∀ (n : Chn) (vaux : BitVec 16) (s : State),
    Settled s →
    s.dev.pwr.sup ≠ .holdThrough →
    s.dev.compActive = true →
    s.mem.img.chanComp n.val = true →
    s.dev.demand s.mem n.val = true →
    (s.dev.chan n.val).held = false →
    vaux ≠ 0 →
    ∃ t, exec (.compensationPeriod n vaux) s = .next t ∧
      (t.dev.chan n.val).pulsed = true ∧ (t.dev.chan n.val).duty =
        roundTo 1000 ((5 * s.mem.img.chanDuty n.val : Nat) * ((24000 : Rat) / vaux.toNat) * ((24000 : Rat) / vaux.toNat)) ∧
      t.dev.chan n.val = { s.dev.chan n.val with pulsed := true, duty := (t.dev.chan n.val).duty } ∧
      (∀ k, k ≠ n.val → t.dev.chan k = s.dev.chan k) ∧
      Frame [] [.chn] s t) ∧
  (∀ (n : Chn) (vaux : BitVec 16) (s : State),
    Settled s →
    s.dev.pwr.sup ≠ .holdThrough →
    s.dev.compActive = false ∨ s.mem.img.chanComp n.val = false ∨ s.dev.demand s.mem n.val = false ∨ (s.dev.chan n.val).held = true →
    ∃ t, exec (.compensationPeriod n vaux) s = .next t ∧
      t.dev.chan n.val = { s.dev.chan n.val with pulsed := false } ∧
      (∀ k, k ≠ n.val → t.dev.chan k = s.dev.chan k) ∧
      Frame [] [.chn] s t) ∧
  (∀ (n : Chn) (vaux : BitVec 16) (s : State),
    Settled s →
    s.dev.pwr.sup = .holdThrough →
    ∃ t, exec (.compensationPeriod n vaux) s = .next t ∧
      (∀ k, t.dev.chan k = s.dev.chan k) ∧
      Frame [] [] s t)

/-- STEP, RESYNC, TIME_INCR, Sync, Follow_Up and the loss of a master, in the cases named. For the steward of TIME, with
no cue entry listed where a domain steps: STEP of a HOST domain outside a redundant pair, its first or within
JUMP_THRESH on a general one, adds the staged offset to the counter, counts it, records it with the times before and
after, and the domain reads HOST; RESYNC of a general PTP domain stands for its next Sync; TIME_INCR within its range
is written for a domain of another source; each is refused with the reason that R293 and R294 give otherwise, RESULT
naming the domain. Without transparent clock, on a slave port with TIME in RUN and one domain outside a pair served: a
first measurement steps the domain by the offset, which reads ACQUIRING with its servo at 0; a later one within
JUMP_THRESH of its prediction, not being absorbed, in a jump or judged anew, runs the equations of R296, with INCR,
LOCKED, ACQUIRING and SLEWING as they give; one above 10 us on a general domain steps it; one beyond JUMP_THRESH is
recorded as a MASTER_JUMP, counted, and the domain holds over with its counter unchanged. A two-step Sync is kept with
its timestamps in every domain and measured at its Follow_Up. A lost master of a domain outside a pair leaves it in
HOLDOVER once stepped, its counter unchanged. Derived from R292, R293, R294, R296, R297, R300, R301. The model's
choices and readings it takes in: log entries 12, 13, 69, 70, 71, 72. -/
def Obligations.TimeCommandsAndTheServoSteerDomains : Prop :=
  (∀ (sid : Sid) (k : Dom) (s : State),
    Settled s →
    Heard sid s →
    s.dev.isSteward sid .time = true →
    s.dev.source k.val = srcHost →
    s.dev.redundant k.val = false →
    (s.dev.dom k.val).stepped = false ∨ 2 ≤ k.val ∧ mag (s.dev.stagedStep : Rat) ≤ s.dev.jumpThresh k.val →
    s.dev.cue.list = [] →
    ∃ t, exec (.timeStep sid k) s = .next t ∧
      Answered sid wrOk id s t ∧
      (t.dev.dom k.val).count = (((s.dev.dom k.val).count + ((s.dev.stagedStep : Rat) * 16777216).floor) % (domModulus : Int)).toNat ∧
      (t.dev.dom k.val).state = stHost ∧ (t.dev.dom k.val).stepped = true ∧
      t.dev.rd (TIME_DSTAT.STEPS k.val) = (s.dev.rd (TIME_DSTAT.STEPS k.val) + 1) % 256 ∧
      Recorded [(recTimeStep, [BitVec.ofNat 8 k.val] ++ stepTime (s.dev.domNs k.val) ++
        stepTime ((t.dev.dom k.val).count / 2 ^ 24))] s t ∧
      Frame [TIME_DSTAT.STEPS k.val] [.time, .lgr, .rcd, .out, .net] s t) ∧
  (∀ (c : Instr) (sid : Sid) (k : Dom) (v : Word) (r a : Nat) (s : State), Settled s → Heard sid s →
    s.dev.isSteward sid .time = true → r ≠ 0 →
    (c = .timeStep sid k ∧ a = TIME_CTRL.CMD.addr ∧
        r = (if s.dev.source k.val = srcPtp then 4 else if s.dev.source k.val ≠ srcHost then 5
      else if (s.dev.dom k.val).stepped = true ∧ k.val < 2 then 1
      else if (s.dev.dom k.val).stepped = true ∧ s.dev.jumpThresh k.val < mag (s.dev.stagedStep : Rat) then 2 else 0) ∨
      c = .resync sid k ∧ a = TIME_CTRL.CMD.addr ∧ r = (if k.val < 2 then 1 else if s.dev.source k.val ≠ srcPtp then 5 else 0) ∨
      c = .timeIncr sid k v ∧ a = (TIME_INCR.INCR k.val).addr ∧ r = (if s.dev.source k.val = srcPtp then 4
        else if v.toNat < 0x09FFBE77 ∨ 0x0A004189 < v.toNat then 3 else 0)) →
    ∃ t, exec c s = .next t ∧
      Answered sid (wrRefused r a) id s t ∧
      t.dev.rd TIME_RESULT.REASON = r ∧ t.dev.rd TIME_RESULT.DOMAIN = k.val ∧
      Frame [TIME_RESULT.REASON, TIME_RESULT.DOMAIN] [.out, .net] s t) ∧
  (∀ (sid : Sid) (s : State), Settled s → Heard sid s → s.dev.isSteward sid .time = true →
    s.dev.source 0 = srcNone →
    ∃ t, exec (.timeStep sid 0) s = .next t ∧ t.dev.rd TIME_RESULT.REASON = 5 ∧ t.dev.dom 0 = s.dev.dom 0) ∧
  (∀ (sid : Sid) (k : Dom) (s : State),
    Settled s →
    Heard sid s →
    s.dev.isSteward sid .time = true →
    2 ≤ k.val →
    s.dev.source k.val = srcPtp →
    ∃ t, exec (.resync sid k) s = .next t ∧
      Answered sid wrOk id s t ∧
      t.dev.dom k.val = { s.dev.dom k.val with resync := true } ∧
      (∀ j, t.dev.trk j = s.dev.trk j) ∧
      Frame [] [.time, .out, .net] s t) ∧
  (∀ (sid : Sid) (k : Dom) (value : Word) (s : State),
    Settled s →
    Heard sid s →
    s.dev.isSteward sid .time = true →
    s.dev.source k.val ≠ srcPtp →
    0x09FFBE77 ≤ value.toNat ∧ value.toNat ≤ 0x0A004189 →
    ∃ t, exec (.timeIncr sid k value) s = .next t ∧
      Answered sid wrOk id s t ∧
      t.dev.rd (TIME_INCR.INCR k.val) = value.toNat ∧
      Frame [TIME_INCR.INCR k.val] [.out, .net] s t) ∧
  (∀ (eth : Eth) (dom : Byte) (id : BitVec 16) (origin corr : Int) (k : Dom) (o : Rat) (s : State),
    Settled s →
    s.mem.img.tcEn = false →
    s.dev.slavePort s.mem eth.val = true →
    s.dev.runs .time = true →
    s.dev.redundant k.val = false →
    ∀ j < 4, s.dev.servedBy j eth.val dom.toNat = true ↔ j = k.val →
    o = ((origin + corr + (s.dev.ptp eth.val).delay : Int) : Rat) - ((s.dev.dom k.val).count : Rat) / 16777216 →
    (s.dev.dom k.val).stepped = false →
    s.dev.cue.list = [] →
    ∃ t, exec (.sync eth dom false id origin corr) s = .next t ∧
      (t.dev.dom k.val).count = (((s.dev.dom k.val).count + (o * 16777216).floor) % (domModulus : Int)).toNat ∧
      (t.dev.dom k.val).stepped = true ∧ (t.dev.dom k.val).state = stAcquiring ∧ (t.dev.dom k.val).ppb = 0 ∧
        (t.dev.trk k.val).prev = 0 ∧ (t.dev.trk k.val).y = 0 ∧
      Recorded [(recTimeStep, [BitVec.ofNat 8 k.val] ++ stepTime (s.dev.domNs k.val) ++
        stepTime ((t.dev.dom k.val).count / 2 ^ 24))] s t ∧
      t.dev.rd (TIME_OFFS.OFFSET k.val) = unsigned 32 (max (-2147483648) (min 2147483647 (nearest o))) ∧
      Frame [TIME_OFFS.OFFSET k.val, TIME_PTP.STATE eth.val, TIME_DSTAT.STEPS k.val] [.time, .lgr, .rcd] s t) ∧
  (∀ (eth : Eth) (dom : Byte) (id : BitVec 16) (origin corr : Int) (k : Dom) (o tm : Rat) (s : State),
    Settled s →
    s.mem.img.tcEn = false →
    s.dev.slavePort s.mem eth.val = true →
    s.dev.runs .time = true →
    s.dev.redundant k.val = false →
    ∀ j < 4, s.dev.servedBy j eth.val dom.toNat = true ↔ j = k.val →
    o = ((origin + corr + (s.dev.ptp eth.val).delay : Int) : Rat) - ((s.dev.dom k.val).count : Rat) / 16777216 →
    (s.dev.dom k.val).stepped = true →
    (s.dev.dom k.val).resync = false →
    (s.dev.dom k.val).slewTo = none →
    (s.dev.trk k.val).jump = false ∧ (s.dev.trk k.val).restart = false →
    tm = ((s.dev.clk - (s.dev.trk k.val).last : Nat) : Rat) / 100000000 →
    0 < tm →
    mag (o - ((s.dev.trk k.val).prev - ((s.dev.dom k.val).ppb - (s.dev.trk k.val).y) * tm)) ≤ s.dev.jumpThresh k.val →
    k.val < 2 ∨ mag o ≤ 10000 →
    ∃ t, exec (.sync eth dom false id origin corr) s = .next t ∧
      (t.dev.trk k.val).y = (s.dev.trk k.val).y + o / (64 * tm) ∧
      (t.dev.dom k.val).ppb = clamp ((t.dev.trk k.val).y + o / (4 * tm)) (-100000) 100000 ∧
      t.dev.rd (TIME_INCR.INCR k.val) = incrOf (t.dev.dom k.val).ppb ∧
      (t.dev.trk k.val).prev = o ∧ (t.dev.trk k.val).last = s.dev.clk ∧
      (t.dev.dom k.val).count = (s.dev.dom k.val).count ∧
      ((t.dev.dom k.val).slewing = true ↔ 100000 ≤ mag (t.dev.dom k.val).ppb) ∧
      (10000 < mag o → (t.dev.trk k.val).locked = 0 ∧ (t.dev.dom k.val).state = stAcquiring) ∧
      (mag o < 1000 → 15 ≤ (s.dev.trk k.val).locked → (t.dev.dom k.val).state = stLocked) ∧
      t.dev.rd (TIME_OFFS.OFFSET k.val) = unsigned 32 (max (-2147483648) (min 2147483647 (nearest o))) ∧
      Frame [TIME_INCR.INCR k.val, TIME_OFFS.OFFSET k.val, TIME_PTP.STATE eth.val] [.time] s t) ∧
  (∀ (eth : Eth) (dom : Byte) (id : BitVec 16) (origin corr : Int) (k : Dom) (o tm : Rat) (s : State),
    Settled s →
    s.mem.img.tcEn = false →
    s.dev.slavePort s.mem eth.val = true →
    s.dev.runs .time = true →
    s.dev.redundant k.val = false →
    ∀ j < 4, s.dev.servedBy j eth.val dom.toNat = true ↔ j = k.val →
    o = ((origin + corr + (s.dev.ptp eth.val).delay : Int) : Rat) - ((s.dev.dom k.val).count : Rat) / 16777216 →
    (s.dev.dom k.val).stepped = true →
    (s.dev.dom k.val).resync = false →
    (s.dev.dom k.val).slewTo = none →
    (s.dev.trk k.val).jump = false ∧ (s.dev.trk k.val).restart = false →
    tm = ((s.dev.clk - (s.dev.trk k.val).last : Nat) : Rat) / 100000000 →
    0 < tm →
    mag (o - ((s.dev.trk k.val).prev - ((s.dev.dom k.val).ppb - (s.dev.trk k.val).y) * tm)) ≤ s.dev.jumpThresh k.val →
    2 ≤ k.val →
    10000 < mag o →
    s.dev.cue.list = [] →
    ∃ t, exec (.sync eth dom false id origin corr) s = .next t ∧
      (t.dev.dom k.val).count = (((s.dev.dom k.val).count + (o * 16777216).floor) % (domModulus : Int)).toNat ∧
      (t.dev.trk k.val).y = (s.dev.trk k.val).y ∧ (t.dev.trk k.val).prev = 0 ∧
      Recorded [(recTimeStep, [BitVec.ofNat 8 k.val] ++ stepTime (s.dev.domNs k.val) ++
        stepTime ((t.dev.dom k.val).count / 2 ^ 24))] s t ∧
      Frame [TIME_INCR.INCR k.val, TIME_OFFS.OFFSET k.val, TIME_PTP.STATE eth.val, TIME_DSTAT.STEPS k.val] [.time, .lgr, .rcd] s t) ∧
  (∀ (eth : Eth) (dom : Byte) (id : BitVec 16) (origin corr : Int) (k : Dom) (o tm : Rat) (s : State),
    Settled s →
    s.mem.img.tcEn = false →
    s.dev.slavePort s.mem eth.val = true →
    s.dev.runs .time = true →
    s.dev.redundant k.val = false →
    ∀ j < 4, s.dev.servedBy j eth.val dom.toNat = true ↔ j = k.val →
    o = ((origin + corr + (s.dev.ptp eth.val).delay : Int) : Rat) - ((s.dev.dom k.val).count : Rat) / 16777216 →
    (s.dev.dom k.val).stepped = true →
    (s.dev.dom k.val).resync = false →
    (s.dev.dom k.val).slewTo = none →
    (s.dev.trk k.val).jump = false ∧ (s.dev.trk k.val).restart = false →
    tm = ((s.dev.clk - (s.dev.trk k.val).last : Nat) : Rat) / 100000000 →
    0 < tm →
    s.dev.jumpThresh k.val < mag (o - ((s.dev.trk k.val).prev - ((s.dev.dom k.val).ppb - (s.dev.trk k.val).y) * tm)) →
    ∃ t, exec (.sync eth dom false id origin corr) s = .next t ∧
      (t.dev.trk k.val).jump = true ∧ (t.dev.dom k.val).state = stHoldover ∧ (t.dev.dom k.val).count = (s.dev.dom k.val).count ∧
      t.dev.rd (TIME_DSTAT.JUMPS k.val) = (s.dev.rd (TIME_DSTAT.JUMPS k.val) + 1) % 256 ∧
      Recorded [(recMasterJump, [BitVec.ofNat 8 k.val] ++ leBytes 4 (unsigned 32 (nearest o)))] s t ∧
      Frame [TIME_OFFS.OFFSET k.val, TIME_PTP.STATE eth.val, TIME_DSTAT.JUMPS k.val] [.time, .rcd] s t) ∧
  (∀ (eth : Eth) (dom : Byte) (id : BitVec 16) (origin corr : Int) (s : State),
    Settled s →
    s.mem.img.tcEn = false →
    s.dev.slavePort s.mem eth.val = true →
    s.dev.servesAny eth.val dom.toNat = true →
    ∃ t, exec (.sync eth dom true id origin corr) s = .next t ∧
      (t.dev.ptp eth.val).sync = some (dom.toNat, id.toNat, corr, s.dev.stamp) ∧
      (∀ j, t.dev.dom j = s.dev.dom j) ∧
      Frame [] [.time] s t) ∧
  (∀ (eth : Eth) (dom : Byte) (id : BitVec 16) (origin corr c : Int) (at_ : List Rat) (k : Dom) (o : Rat) (s : State),
    Settled s →
    s.mem.img.tcEn = false →
    s.dev.slavePort s.mem eth.val = true →
    s.dev.runs .time = true →
    s.dev.redundant k.val = false →
    ∀ j < 4, s.dev.servedBy j eth.val dom.toNat = true ↔ j = k.val →
    (s.dev.ptp eth.val).sync = some (dom.toNat, id.toNat, c, at_) →
    at_.length = 5 →
    o = ((origin + c + corr + (s.dev.ptp eth.val).delay : Int) : Rat) - at_.getD k.val 0 →
    (s.dev.dom k.val).stepped = false →
    s.dev.cue.list = [] →
    ∃ t, exec (.followUp eth dom id origin corr) s = .next t ∧
      (t.dev.ptp eth.val).sync = none ∧
      (t.dev.dom k.val).count = (((s.dev.dom k.val).count + (o * 16777216).floor) % (domModulus : Int)).toNat ∧
      (t.dev.dom k.val).stepped = true ∧ (t.dev.dom k.val).state = stAcquiring ∧
      Recorded [(recTimeStep, [BitVec.ofNat 8 k.val] ++ stepTime (s.dev.domNs k.val) ++
        stepTime ((t.dev.dom k.val).count / 2 ^ 24))] s t ∧
      t.dev.rd (TIME_OFFS.OFFSET k.val) = unsigned 32 (max (-2147483648) (min 2147483647 (nearest o)))) ∧
  (∀ (k : Dom) (s : State),
    Settled s →
    s.dev.alive = true →
    s.dev.works .time = true →
    s.dev.source k.val = srcPtp →
    (s.dev.trk k.val).lost = false →
    s.dev.redundant k.val = false →
    ∃ t, exec (.masterLost k) s = .next t ∧
      (t.dev.trk k.val).lost = true ∧
      ((s.dev.dom k.val).stepped = true → (t.dev.dom k.val).state = stHoldover) ∧
      ((s.dev.dom k.val).stepped = false → t.dev.dom k.val = s.dev.dom k.val) ∧
      (t.dev.dom k.val).count = (s.dev.dom k.val).count ∧
      Frame [TIME_PTP.STATE (s.dev.rd (TIME_DCFG.PORT k.val))] [.time] s t)

/-- Announce, the delay messages, transmitted messages, management, and the transparent clock, in the cases named. An
Announce of a served domainNumber puts a listening slave port to UNCALIBRATED. A master port without peer-to-peer
answers Delay_Req of its domainNumber with its ingress time in the domain; a port under peer-to-peer answers
Pdelay_Req with some turnaround, as its free egress gives. A slave's Delay_Resp makes its delay half of what goes out
and comes back, a Pdelay_Resp or its follow-up the link delay, each by the timestamps of the port's domain and shown
saturated. A master sends Sync with its transmit time and fraction, Announce with CLASS_LOCKED while LOCKED or HOST
and else CLASS_HOLD and its priorities; a slave sends Delay_Req and a peer-to-peer port Pdelay_Req in the domainNumber
it follows, keeping their timestamps; each goes out under the port's transport, with its checksum set to 0 over IPv4
and a trailer over IPv6 where it is changed as it leaves. With forwarding on, a management message goes out at the
other port as it came, and without it does nothing; a Sync on a port with no profile goes out with its residence time.
Derived from R296, R300, R301, R302, R303, R304. The model's choices and readings it takes in: log entries 69, 73,
106, 119. -/
def Obligations.PtpMessagesAreServedAndForwarded : Prop :=
  (∀ (eth : Eth) (dom : Byte) (s : State),
    Settled s →
    s.mem.img.tcEn = false →
    s.dev.slavePort s.mem eth.val = true →
    s.dev.servesAny eth.val dom.toNat = true →
    s.dev.rd (TIME_PTP.STATE eth.val) = 4 →
    ∃ t, exec (.announce eth dom) s = .next t ∧
      t.dev.rd (TIME_PTP.STATE eth.val) = 8 ∧
      Frame [TIME_PTP.STATE eth.val] [] s t) ∧
  (∀ (eth : Eth) (dom : Byte) (id : BitVec 16) (corr : Int) (s : State),
    Settled s →
    s.mem.img.tcEn = false →
    s.dev.ptpOn s.mem eth.val = true →
    1 ≤ s.mem.img.ptpRole eth.val →
    peerToPeer s.mem eth.val = false →
    s.dev.rd (TIME_DCFG.PTP_DOMAIN (s.mem.img.ptpRole eth.val - 1)) = dom.toNat →
    ∃ t, exec (.delayReq eth dom id corr) s = .next t ∧
      t.dev.out = .ptp eth.val (wireOf (s.mem.img.ptpTransport eth.val) false false .valid)
        { kind := 3, domain := dom.toNat, id := id.toNat, time := (s.dev.domNs (s.mem.img.ptpRole eth.val - 1) : Nat), corr := 65536 * corr, cls := 0, prio1 := 0, prio2 := 0 } :: s.dev.out ∧
      Frame [] [.out] s t) ∧
  (∀ (eth : Eth) (dom : Byte) (id : BitVec 16) (received corr : Int) (diff t3 : List Rat) (v : Rat) (s : State),
    Settled s →
    s.mem.img.tcEn = false →
    s.dev.slavePort s.mem eth.val = true →
    peerToPeer s.mem eth.val = false →
    s.dev.servesAny eth.val dom.toNat = true →
    (s.dev.ptp eth.val).req = some (id.toNat, t3) →
    (s.dev.ptp eth.val).diff = some diff →
    v = (diff.getD (s.dev.msgClock eth.val dom.toNat) 0 + ((received - corr : Int) - t3.getD (s.dev.msgClock eth.val dom.toNat) 0)) / 2 →
    ∃ t, exec (.delayResp eth dom id received corr) s = .next t ∧
      (t.dev.ptp eth.val).delay = nearest v ∧ (t.dev.ptp eth.val).req = none ∧
      t.dev.rd (TIME_PTP.DELAY eth.val) = min 65535 (nearest v).toNat ∧
      Frame [TIME_PTP.DELAY eth.val] [.time] s t) ∧
  (∀ (eth : Eth) (dom : Byte) (id : BitVec 16) (s : State),
    Settled s →
    s.dev.ptpOn s.mem eth.val = true →
    peerToPeer s.mem eth.val = true →
    ∃ t, exec (.pdelayReq eth dom id) s = .next t ∧
      ∃ turnaround : Nat, t.dev.out = .ptp eth.val (wireOf (s.mem.img.ptpTransport eth.val) true true .valid)
        { kind := 5, domain := dom.toNat, id := id.toNat, time := 0, corr := 65536 * (turnaround : Int), cls := 0, prio1 := 0, prio2 := 0 } :: s.dev.out ∧
      Frame [] [.out] s t) ∧
  (∀ (eth : Eth) (dom : Byte) (twoStep : Bool) (id : BitVec 16) (turnaround : Int) (t1 : List Rat) (v : Rat) (s : State),
    Settled s →
    s.dev.ptpOn s.mem eth.val = true →
    peerToPeer s.mem eth.val = true →
    (s.dev.ptp eth.val).preq = some (id.toNat, t1) →
    v = s.dev.stamp.getD (s.dev.portClock s.mem eth.val) 0 - t1.getD (s.dev.portClock s.mem eth.val) 0 - turnaround →
    ∃ t, exec (.pdelayResp eth dom twoStep id turnaround) s = .next t ∧
      (t.dev.ptp eth.val).preq = none ∧
      (twoStep = false → (t.dev.ptp eth.val).delay = nearest (v / 2) ∧ t.dev.rd (TIME_PTP.DELAY eth.val) = min 65535 (nearest (v / 2)).toNat) ∧
      (twoStep = true → (t.dev.ptp eth.val).presp = some (id.toNat, v) ∧ (t.dev.ptp eth.val).delay = (s.dev.ptp eth.val).delay) ∧
      Frame [TIME_PTP.DELAY eth.val] [.time] s t) ∧
  (∀ (eth : Eth) (dom : Byte) (id : BitVec 16) (turnaround : Int) (v : Rat) (s : State),
    Settled s →
    s.dev.ptpOn s.mem eth.val = true →
    peerToPeer s.mem eth.val = true →
    (s.dev.ptp eth.val).presp = some (id.toNat, v) →
    ∃ t, exec (.pdelayRespFollowUp eth dom id turnaround) s = .next t ∧
      (t.dev.ptp eth.val).delay = nearest ((v - turnaround) / 2) ∧ (t.dev.ptp eth.val).presp = none ∧
      t.dev.rd (TIME_PTP.DELAY eth.val) = min 65535 (nearest ((v - turnaround) / 2)).toNat ∧
      Frame [TIME_PTP.DELAY eth.val] [.time] s t) ∧
  (∀ (eth : Eth) (s : State),
    Settled s →
    s.dev.ptpOn s.mem eth.val = true →
    1 ≤ s.mem.img.ptpRole eth.val →
    ∃ t, exec (.ptpTransmit eth .sync) s = .next t ∧
      t.dev.out = .ptp eth.val (wireOf (s.mem.img.ptpTransport eth.val) true true .valid)
        { kind := 0, domain := s.dev.rd (TIME_DCFG.PTP_DOMAIN (s.mem.img.ptpRole eth.val - 1)), id := (s.dev.ptp eth.val).nextId, time := (s.dev.domNs (s.mem.img.ptpRole eth.val - 1) : Nat), corr := ((s.dev.dom (s.mem.img.ptpRole eth.val - 1)).count / 2 ^ 8 % 65536 : Nat), cls := 0, prio1 := 0, prio2 := 0 } :: s.dev.out ∧
      (t.dev.ptp eth.val).nextId = ((s.dev.ptp eth.val).nextId + 1) % 65536 ∧
      Frame [] [.time, .out] s t) ∧
  (∀ (eth : Eth) (s : State),
    Settled s →
    s.dev.ptpOn s.mem eth.val = true →
    1 ≤ s.mem.img.ptpRole eth.val →
    ∃ t, exec (.ptpTransmit eth .announce) s = .next t ∧
      t.dev.out = .ptp eth.val (wireOf (s.mem.img.ptpTransport eth.val) false false .valid)
        { kind := 1, domain := s.dev.rd (TIME_DCFG.PTP_DOMAIN (s.mem.img.ptpRole eth.val - 1)), id := (s.dev.ptp eth.val).nextId, time := (s.dev.domNs (s.mem.img.ptpRole eth.val - 1) : Nat), corr := ((s.dev.dom (s.mem.img.ptpRole eth.val - 1)).count / 2 ^ 8 % 65536 : Nat), cls := (if (s.dev.dom (s.mem.img.ptpRole eth.val - 1)).state = stLocked ∨ (s.dev.dom (s.mem.img.ptpRole eth.val - 1)).state = stHost
        then s.mem.img.classLocked eth.val else s.mem.img.classHold eth.val), prio1 := s.mem.img.priority1 eth.val, prio2 := s.mem.img.priority2 eth.val } :: s.dev.out ∧
      (t.dev.ptp eth.val).nextId = ((s.dev.ptp eth.val).nextId + 1) % 65536 ∧
      Frame [] [.time, .out] s t) ∧
  (∀ (eth : Eth) (s : State),
    Settled s →
    s.dev.ptpOn s.mem eth.val = true →
    s.mem.img.ptpRole eth.val = 0 →
    peerToPeer s.mem eth.val = false →
    s.dev.portClock s.mem eth.val < 4 →
    ∃ t, exec (.ptpTransmit eth .delayReq) s = .next t ∧
      t.dev.out = .ptp eth.val (wireOf (s.mem.img.ptpTransport eth.val) true false .valid)
        { kind := 2, domain := s.dev.rd (TIME_DCFG.PTP_DOMAIN (s.dev.portClock s.mem eth.val)), id := (s.dev.ptp eth.val).nextId, time := 0, corr := 0, cls := 0, prio1 := 0, prio2 := 0 } :: s.dev.out ∧
      (t.dev.ptp eth.val).req = some ((s.dev.ptp eth.val).nextId, s.dev.stamp) ∧
      (t.dev.ptp eth.val).nextId = ((s.dev.ptp eth.val).nextId + 1) % 65536 ∧
      Frame [] [.time, .out] s t) ∧
  (∀ (eth : Eth) (s : State),
    Settled s →
    s.dev.ptpOn s.mem eth.val = true →
    peerToPeer s.mem eth.val = true →
    s.dev.portClock s.mem eth.val < 4 →
    ∃ t, exec (.ptpTransmit eth .pdelayReq) s = .next t ∧
      t.dev.out = .ptp eth.val (wireOf (s.mem.img.ptpTransport eth.val) true false .valid)
        { kind := 4, domain := s.dev.rd (TIME_DCFG.PTP_DOMAIN (s.dev.portClock s.mem eth.val)), id := (s.dev.ptp eth.val).nextId, time := 0, corr := 0, cls := 0, prio1 := 0, prio2 := 0 } :: s.dev.out ∧
      (t.dev.ptp eth.val).preq = some ((s.dev.ptp eth.val).nextId, s.dev.stamp) ∧
      (t.dev.ptp eth.val).nextId = ((s.dev.ptp eth.val).nextId + 1) % 65536 ∧
      Frame [] [.time, .out] s t) ∧
  (∀ (eth : Eth) (s : State),
    Settled s →
    ∃ t, exec (.managementMessage eth) s = .next t ∧
      t.dev.out = (if s.dev.forwards s.mem eth.val = true then [.forwarded (1 - eth.val) 7 (wireOf (s.mem.img.ptpTransport eth.val) false false .kept) 0] else []) ++ s.dev.out ∧
      Frame [] [.out] s t) ∧
  (∀ (eth : Eth) (dom : Byte) (twoStep : Bool) (id : BitVec 16) (origin corr : Int) (s : State),
    Settled s →
    s.dev.forwards s.mem eth.val = true →
    s.mem.img.ptpProfile eth.val = 0 →
    ∃ t, exec (.sync eth dom twoStep id origin corr) s = .next t ∧
      ∃ residence : Nat, t.dev.out = .forwarded (1 - eth.val) 0 (wireOf (s.mem.img.ptpTransport eth.val) true true .kept) residence :: s.dev.out ∧
      Frame [] [.out] s t)

/-- WRITE, READ and DELETE of a cue entry, CAP_CLEAR, LOAD and CLEAR of a frame slot, in the cases named. For the steward
of CUE. WRITE of an entry that no row of R308 refuses and whose START is 96 clk or more ahead stores it at INDEX with
the session, shows ENTRIES and leaves the other entries; one that a row refuses is refused with that reason, one too
near that may not run late with PAST, each leaving every entry; a late BURST with no capture running starts its
capture, is recorded, LATE set; a late FRAME on a linked free port with no launch ahead of it is launched as late and
recorded; while CUE does not work a late entry is stored and does not run. READ shows entry and OWNER. DELETE of an
entry neither committed nor in its window empties it and leaves the others; a committed one is refused with reason 5,
one of another session by a session that does not hold CUE with 6. CAP_CLEAR empties the capture buffer. LOAD of a
valid length into a slot with no committed or waiting launch stores the staged bytes with LAUNCHES 0, else refuses it
with 10 or 9; CLEAR empties a slot that no entry names and no launch holds, else refuses it with 9. Derived from R308,
R312, R313, R314, R317. The model's choices and readings it takes in: log entries 12, 13, 74, 76. -/
def Obligations.CueEntriesAndFrameSlots : Prop :=
  (∀ (sid : Sid) (index : CueIx) (s : State),
    Settled s →
    Heard sid s →
    s.dev.isSteward sid .cue = true →
    s.dev.cueFault s.mem sid index.val (s.dev.stagedCue sid) = none →
    s.dev.cueAhead (s.dev.stagedCue sid) ≤ ((s.dev.stagedCue sid)).start →
    ∃ t, exec (.cueWrite sid index) s = .next t ∧
      Answered sid wrOk id s t ∧
      t.dev.cueAt index.val = { bytes := ((List.range 8).flatMap fun k => leBytes 4 (s.dev.rd (CUE_E.BYTES k))), owner := sid.val, committed := false, ran := 0, open_ := false } ∧
      (∀ k, k ≠ index.val → t.dev.cueAt k = s.dev.cueAt k) ∧
      t.dev.rd CUE_STATUS.ENTRIES = t.dev.cue.list.length % 2048 ∧
      Frame [CUE_RESULT.INDEX, CUE_STATUS.ENTRIES] [.cue, .out, .net] s t) ∧
  (∀ (sid : Sid) (index : CueIx) (r : Nat) (s : State), Settled s → Heard sid s → s.dev.isSteward sid .cue = true →
    s.dev.cueFault s.mem sid index.val (s.dev.stagedCue sid) = some r ∨
      s.dev.cueFault s.mem sid index.val (s.dev.stagedCue sid) = none ∧ ((s.dev.stagedCue sid)).start < s.dev.cueAhead (s.dev.stagedCue sid) ∧ s.dev.mayRunLate (s.dev.stagedCue sid) = false ∧ r = 2 →
    ∃ t, exec (.cueWrite sid index) s = .next t ∧
      Answered sid (wrRefused r CUE_CTRL.CMD.addr) id s t ∧
      t.dev.rd CUE_RESULT.REASON = r % 256 ∧ (∀ k, t.dev.cueAt k = s.dev.cueAt k) ∧
      Frame [CUE_RESULT.INDEX, CUE_RESULT.REASON] [.out, .net] s t) ∧
  (∀ (sid : Sid) (index : CueIx) (s : State),
    Settled s →
    Heard sid s →
    s.dev.isSteward sid .cue = true →
    s.dev.cueFault s.mem sid index.val (s.dev.stagedCue sid) = none →
    ((s.dev.stagedCue sid)).start < s.dev.cueAhead (s.dev.stagedCue sid) →
    s.dev.mayRunLate (s.dev.stagedCue sid) = false →
    ∃ t, exec (.cueWrite sid index) s = .next t ∧
      Answered sid (wrRefused 2 CUE_CTRL.CMD.addr) id s t ∧
      (∀ k, t.dev.cueAt k = s.dev.cueAt k)) ∧
  (∀ (sid : Sid) (index : CueIx) (s : State),
    Settled s →
    Heard sid s →
    s.dev.isSteward sid .cue = true →
    s.dev.cueFault s.mem sid index.val (s.dev.stagedCue sid) = none →
    ((s.dev.stagedCue sid)).start < s.dev.cueAhead (s.dev.stagedCue sid) →
    s.dev.mayRunLate (s.dev.stagedCue sid) = true →
    ((s.dev.stagedCue sid)).action = 2 →
    s.dev.cue.capBy = none →
    s.dev.works .cue = true →
    ∃ t, exec (.cueWrite sid index) s = .next t ∧
      Answered sid wrOk id s t ∧
      t.dev.cue.capBy = some index.val ∧ t.dev.rd CUE_CAP_STATUS.RUNNING = 1 ∧
      (t.dev.cueAt index.val).bytes = ((s.dev.stagedCue sid)).bytes ∧ (t.dev.cueAt index.val).open_ = true ∧
      Recorded [(recCueLate, leBytes 2 index.val)] s t ∧
      t.dev.rd CUE_STATUS.LATE = 1) ∧
  (∀ (sid : Sid) (index : CueIx) (s : State),
    Settled s →
    Heard sid s →
    s.dev.isSteward sid .cue = true →
    s.dev.cueFault s.mem sid index.val (s.dev.stagedCue sid) = none →
    ((s.dev.stagedCue sid)).start < s.dev.cueAhead (s.dev.stagedCue sid) →
    ((s.dev.stagedCue sid)).lateRun = true ∧ ((s.dev.stagedCue sid)).action = 1 →
    s.dev.works .cue = true →
    s.dev.works .net = true ∧ s.dev.portLinked (((s.dev.stagedCue sid)).target / 64) = true →
    2 ≤ ((s.dev.stagedCue sid)).target / 64 ∨ tget 0 s.dev.cue.busy (((s.dev.stagedCue sid)).target / 64) ≤ s.dev.clk ∧ s.dev.outrun s.mem (((s.dev.stagedCue sid)).target / 64) index.val = false →
    ∃ t, exec (.cueWrite sid index) s = .next t ∧
      t.dev.out = .answer sid 0 0 0 :: .launch (((s.dev.stagedCue sid)).target / 64) (((s.dev.stagedCue sid)).target % 64) true :: s.dev.out ∧
      Recorded [(recCueLate, leBytes 2 index.val)] s t ∧
      t.dev.rd CUE_STATUS.LATE = 1 ∧ (t.dev.slot ((s.dev.stagedCue sid)).target).late = true) ∧
  (∀ (sid : Sid) (index : CueIx) (s : State),
    Settled s →
    Heard sid s →
    s.dev.isSteward sid .cue = true →
    s.dev.cueFault s.mem sid index.val (s.dev.stagedCue sid) = none →
    ((s.dev.stagedCue sid)).start < s.dev.cueAhead (s.dev.stagedCue sid) →
    s.dev.mayRunLate (s.dev.stagedCue sid) = true →
    s.dev.works .cue = false →
    ∃ t, exec (.cueWrite sid index) s = .next t ∧
      Answered sid wrOk id s t ∧
      (t.dev.cueAt index.val).bytes = ((s.dev.stagedCue sid)).bytes ∧ (t.dev.cueAt index.val).open_ = false ∧ (t.dev.cueAt index.val).committed = false ∧
      (∀ k, k ≠ index.val → t.dev.cueAt k = s.dev.cueAt k) ∧
      Frame [CUE_RESULT.INDEX, CUE_STATUS.ENTRIES] [.cue, .out, .net] s t) ∧
  (∀ (sid : Sid) (index : CueIx) (s : State),
    Settled s →
    Heard sid s →
    s.dev.isSteward sid .cue = true →
    ∃ t, exec (.cueRead sid index) s = .next t ∧
      Answered sid wrOk id s t ∧
      t.dev.rd CUE_RESULT.OWNER = (s.dev.cueAt index.val).owner % 256 ∧
      (∀ k < 8, t.dev.rd (CUE_E.BYTES k) = leAt (s.dev.cueAt index.val).bytes (4 * k) 4) ∧
      PageFrame [0x10] [.out, .net] s t) ∧
  (∀ (sid : Sid) (index : CueIx) (s : State),
    Settled s →
    Heard sid s →
    s.dev.isSteward sid .cue = true →
    (s.dev.cueAt index.val).committed = false ∧ (s.dev.cueAt index.val).open_ = false →
    ∃ t, exec (.cueDelete sid index) s = .next t ∧
      Answered sid wrOk id s t ∧
      (t.dev.cueAt index.val).bytes = [] ∧
      (∀ k, k ≠ index.val → t.dev.cueAt k = s.dev.cueAt k) ∧
      Frame [CUE_RESULT.INDEX, CUE_STATUS.ENTRIES] [.cue, .out, .net] s t) ∧
  (∀ (sid : Sid) (index : CueIx) (s : State),
    Settled s →
    Heard sid s →
    s.dev.isSteward sid .cue = true →
    (s.dev.cueAt index.val).bytes ≠ [] →
    (s.dev.cueAt index.val).committed = true ∨ (s.dev.cueAt index.val).open_ = true →
    ∃ t, exec (.cueDelete sid index) s = .next t ∧
      Answered sid (wrRefused 5 CUE_CTRL.CMD.addr) id s t ∧
      t.dev.rd CUE_RESULT.REASON = 5 ∧
      Frame [CUE_RESULT.INDEX, CUE_RESULT.REASON] [.out, .net] s t) ∧
  (∀ (sid : Sid) (index : CueIx) (s : State),
    Settled s →
    Heard sid s →
    s.dev.isSteward sid .cue = false →
    (s.dev.sess sid).key ≠ 0 →
    roleGranted (s.dev.sess sid).role CUE_CTRL.CMD.addr = true →
    (s.dev.cueAt index.val).bytes ≠ [] →
    (s.dev.cueAt index.val).owner ≠ sid.val →
    ∃ t, exec (.cueDelete sid index) s = .next t ∧
      Answered sid (wrRefused 6 CUE_CTRL.CMD.addr) id s t ∧
      t.dev.rd CUE_RESULT.REASON = 6 ∧
      Frame [CUE_RESULT.INDEX, CUE_RESULT.REASON] [.out, .net] s t) ∧
  (∀ (sid : Sid) (s : State),
    Settled s →
    Heard sid s →
    s.dev.isSteward sid .cue = true →
    ∃ t, exec (.capClear sid) s = .next t ∧
      Answered sid wrOk id s t ∧
      t.dev.cue.cap = [] ∧ t.dev.rd CUE_CAP_STATUS.COUNT = 0 ∧ t.dev.rd CUE_CAP_STATUS.FULL = 0 ∧
      t.dev.cue.capBy = s.dev.cue.capBy ∧
      Frame [CUE_CAP_STATUS.COUNT, CUE_CAP_STATUS.FULL] [.cue, .out, .net] s t) ∧
  (∀ (sid : Sid) (port : Path) (slot : Fin 64) (len : BitVec 11) (s : State),
    Settled s →
    Heard sid s →
    s.dev.isSteward sid .cue = true →
    frameOk port.num len.toNat (((List.range 256).flatMap fun j => leBytes 4 (s.dev.rd (CUE_FQ_WIN.BYTES j))).take len.toNat) = true →
    s.dev.slotCommitted (64 * port.num + slot.val) = false →
    ∃ t, exec (.loadSlot sid port slot len) s = .next t ∧
      Answered sid wrOk id s t ∧
      t.dev.slot (64 * port.num + slot.val) = { s.dev.slot (64 * port.num + slot.val) with bytes := (((List.range 256).flatMap fun j => leBytes 4 (s.dev.rd (CUE_FQ_WIN.BYTES j))).take len.toNat), launches := 0, late := false } ∧
      (∀ k, k ≠ (64 * port.num + slot.val) → t.dev.slot k = s.dev.slot k) ∧
      Frame [] [.cue, .out, .net] s t) ∧
  (∀ (sid : Sid) (port : Path) (slot : Fin 64) (len : BitVec 11) (s : State),
    Settled s →
    Heard sid s →
    s.dev.isSteward sid .cue = true →
    frameOk port.num len.toNat (((List.range 256).flatMap fun j => leBytes 4 (s.dev.rd (CUE_FQ_WIN.BYTES j))).take len.toNat) = false ∨ s.dev.slotCommitted (64 * port.num + slot.val) = true →
    ∃ t, exec (.loadSlot sid port slot len) s = .next t ∧
      Answered sid (wrRefused (if frameOk port.num len.toNat (((List.range 256).flatMap fun j => leBytes 4 (s.dev.rd (CUE_FQ_WIN.BYTES j))).take len.toNat) = false then 10 else 9) CUE_FQ_CTRL.CMD.addr) id s t ∧
      t.dev.rd CUE_RESULT.REASON = (if frameOk port.num len.toNat (((List.range 256).flatMap fun j => leBytes 4 (s.dev.rd (CUE_FQ_WIN.BYTES j))).take len.toNat) = false then 10 else 9) ∧
      Frame [CUE_RESULT.REASON] [.out, .net] s t) ∧
  (∀ (sid : Sid) (port : Path) (slot : Fin 64) (s : State),
    Settled s →
    Heard sid s →
    s.dev.isSteward sid .cue = true →
    s.dev.slotCommitted (64 * port.num + slot.val) = false →
    s.dev.slotNamed (64 * port.num + slot.val) = false →
    ∃ t, exec (.clearSlot sid port slot) s = .next t ∧
      Answered sid wrOk id s t ∧
      (t.dev.slot (64 * port.num + slot.val)).bytes = [] ∧
      (∀ k, k ≠ (64 * port.num + slot.val) → t.dev.slot k = s.dev.slot k) ∧
      Frame [] [.cue, .out, .net] s t) ∧
  (∀ (sid : Sid) (port : Path) (slot : Fin 64) (s : State),
    Settled s →
    Heard sid s →
    s.dev.isSteward sid .cue = true →
    s.dev.slotCommitted (64 * port.num + slot.val) = true ∨ s.dev.slotNamed (64 * port.num + slot.val) = true →
    ∃ t, exec (.clearSlot sid port slot) s = .next t ∧
      Answered sid (wrRefused 9 CUE_FQ_CTRL.CMD.addr) id s t ∧
      t.dev.rd CUE_RESULT.REASON = 9 ∧
      Frame [CUE_RESULT.REASON] [.out, .net] s t)

/-- An occurrence is committed, triggers, ends its window, is skipped, waits, or launches late, in the cases named. With
CUE working. A live entry is committed 96 clk before its trigger, where that comes within reach, else nothing changes;
the clock goes on with it. At its trigger, from the state u as its instant comes: CH_SET and CH_CLR on a HOST, DEW or
ZONE channel with no command of the same clk from a higher index or a host change that stored command alone; with CHN
stopped or in hold-through they are skipped, counted and recorded and open no window; MARK writes CUE_MARK; BURST
starts a capture of its port, or is skipped while one runs; FRAME, with no NETS outage, launches on a linked free port
with no launch ahead of it and takes its Ethernet timestamp in the entry's domain, fails with a record without
launcher or link, and waits where the medium is taken or another launch goes first; in a NETS outage it is committed
no more. The END of an open window writes CUE_MARK_END, ends the capture keeping what it holds, or clears the channel.
With the launcher working, a launch that waited goes once the port is free with LATE, counted and recorded, where it
ends before the next committed launch; with no link it is recorded as failed; where it does not fit it keeps waiting.
Derived from R309, R310, R312, R313, R314. The model's choices and readings it takes in: log entries 2, 12, 13, 73,
75, 77, 118. -/
def Obligations.CueOccurrencesRun : Prop :=
  (∀ (index : CueIx) (s : State),
    Settled s →
    s.dev.awake = true →
    s.dev.works .cue = true →
    (s.dev.cueAt index.val).live = true →
    (s.dev.cueAt index.val).committed = false →
    s.dev.inReach (s.dev.cueAt index.val) ((s.dev.cueAt index.val).startAt (s.dev.cueAt index.val).ran) 96 = true →
    ∃ t, exec (.cueCommit index) s = .next t ∧
      t.dev.cueAt index.val = { s.dev.cueAt index.val with committed := true } ∧
      t.dev.clk = (s.dev.toInstant (s.dev.cueAt index.val) ((s.dev.cueAt index.val).startAt (s.dev.cueAt index.val).ran) 96).clk ∧
      (∀ k, k ≠ index.val → t.dev.cueAt k = s.dev.cueAt k) ∧
      Frame [] [.cue, .clk, .time] s t) ∧
  (∀ (index : CueIx) (s : State),
    Settled s →
    s.dev.inReach (s.dev.cueAt index.val) ((s.dev.cueAt index.val).startAt (s.dev.cueAt index.val).ran) 96 = false →
    ∃ t, exec (.cueCommit index) s = .next t ∧
      Frame [] [] s t) ∧
  (∀ (index : CueIx) (u s : State),
    Settled s →
    s.dev.awake = true →
    s.dev.works .cue = true →
    (s.dev.cueAt index.val).live = true →
    (s.dev.cueAt index.val).committed = true ∧ (s.dev.cueAt index.val).open_ = false →
    (s.dev.cueAt index.val).inDomain = true ∨ (s.dev.cueAt index.val).startAt (s.dev.cueAt index.val).ran / 65536 ≤ s.dev.phase.cycle →
    u = { s with dev := s.dev.toInstant (s.dev.cueAt index.val) ((s.dev.cueAt index.val).startAt (s.dev.cueAt index.val).ran) 0 } →
    (s.dev.cueAt index.val).action = 3 ∨ (s.dev.cueAt index.val).action = 4 →
    (s.dev.cueAt index.val).target < 32 →
    s.dev.channelsTake = true →
    2 ≤ s.mem.img.chanRole (s.dev.cueAt index.val).target ∧ s.mem.img.chanRole (s.dev.cueAt index.val).target ≤ 4 →
    (u.dev.chan (s.dev.cueAt index.val).target).last.1 = u.dev.clk + 1 → (u.dev.chan (s.dev.cueAt index.val).target).last.2 ≤ index.val →
    ∃ t, exec (.cueTrigger index) s = .next t ∧
      t.dev.cueAt index.val = { s.dev.cueAt index.val with committed := false, ran := (s.dev.cueAt index.val).ran + 1, open_ := (s.dev.cueAt index.val).window } ∧
      (t.dev.chan (s.dev.cueAt index.val).target).cmd = decide ((s.dev.cueAt index.val).action = 3) ∧
      (∀ n, n ≠ (s.dev.cueAt index.val).target → (t.dev.chan n).cmd = (s.dev.chan n).cmd) ∧
      Frame [] [.cue, .chn] u t) ∧
  (∀ (index : CueIx) (u s : State),
    Settled s →
    s.dev.awake = true →
    s.dev.works .cue = true →
    (s.dev.cueAt index.val).live = true →
    (s.dev.cueAt index.val).committed = true ∧ (s.dev.cueAt index.val).open_ = false →
    (s.dev.cueAt index.val).inDomain = true ∨ (s.dev.cueAt index.val).startAt (s.dev.cueAt index.val).ran / 65536 ≤ s.dev.phase.cycle →
    u = { s with dev := s.dev.toInstant (s.dev.cueAt index.val) ((s.dev.cueAt index.val).startAt (s.dev.cueAt index.val).ran) 0 } →
    (s.dev.cueAt index.val).action = 3 ∨ (s.dev.cueAt index.val).action = 4 →
    s.dev.channelsTake = false →
    ∃ t, exec (.cueTrigger index) s = .next t ∧
      t.dev.cueAt index.val = { s.dev.cueAt index.val with committed := false, ran := (s.dev.cueAt index.val).ran + 1, open_ := false } ∧
      t.dev.rd CUE_STATUS.SKIPPED = 1 ∧ t.dev.rd CUE_CNT.SKIPPED = min (s.dev.rd CUE_CNT.SKIPPED + 1) 0xFFFF ∧
      Recorded [(recCueSkipped, leBytes 2 index.val ++ leBytes 1 skipChannel)] u t ∧
      Frame [CUE_STATUS.SKIPPED, CUE_CNT.SKIPPED] [.cue, .rcd] u t) ∧
  (∀ (index : CueIx) (u s : State),
    Settled s →
    s.dev.awake = true →
    s.dev.works .cue = true →
    (s.dev.cueAt index.val).live = true →
    (s.dev.cueAt index.val).committed = true ∧ (s.dev.cueAt index.val).open_ = false →
    (s.dev.cueAt index.val).inDomain = true ∨ (s.dev.cueAt index.val).startAt (s.dev.cueAt index.val).ran / 65536 ≤ s.dev.phase.cycle →
    u = { s with dev := s.dev.toInstant (s.dev.cueAt index.val) ((s.dev.cueAt index.val).startAt (s.dev.cueAt index.val).ran) 0 } →
    (s.dev.cueAt index.val).action = 5 →
    ∃ t, exec (.cueTrigger index) s = .next t ∧
      t.dev.cueAt index.val = { s.dev.cueAt index.val with committed := false, ran := (s.dev.cueAt index.val).ran + 1, open_ := (s.dev.cueAt index.val).window } ∧
      Recorded [(recCueMark, leBytes 2 (s.dev.cueAt index.val).target ++ leBytes 2 index.val)] u t ∧
      Frame [] [.cue, .rcd] u t) ∧
  (∀ (index : CueIx) (u s : State),
    Settled s →
    s.dev.awake = true →
    s.dev.works .cue = true →
    (s.dev.cueAt index.val).live = true →
    (s.dev.cueAt index.val).committed = true ∧ (s.dev.cueAt index.val).open_ = false →
    (s.dev.cueAt index.val).inDomain = true ∨ (s.dev.cueAt index.val).startAt (s.dev.cueAt index.val).ran / 65536 ≤ s.dev.phase.cycle →
    u = { s with dev := s.dev.toInstant (s.dev.cueAt index.val) ((s.dev.cueAt index.val).startAt (s.dev.cueAt index.val).ran) 0 } →
    (s.dev.cueAt index.val).action = 2 →
    s.dev.cue.capBy = none →
    ∃ t, exec (.cueTrigger index) s = .next t ∧
      t.dev.cueAt index.val = { s.dev.cueAt index.val with committed := false, ran := (s.dev.cueAt index.val).ran + 1, open_ := (s.dev.cueAt index.val).window } ∧
      t.dev.cue.capBy = some index.val ∧ t.dev.cue.cap = [] ∧
      t.dev.rd CUE_CAP_STATUS.RUNNING = 1 ∧ t.dev.rd CUE_CAP_STATUS.FULL = 0 ∧ t.dev.rd CUE_CAP_STATUS.COUNT = 0 ∧
        t.dev.rd CUE_CAP_STATUS.PORT = (s.dev.cueAt index.val).target % 64 ∧
      Frame [CUE_CAP_STATUS.COUNT, CUE_CAP_STATUS.FULL, CUE_CAP_STATUS.RUNNING, CUE_CAP_STATUS.PORT] [.cue, .acq] u t) ∧
  (∀ (index : CueIx) (u s : State),
    Settled s →
    s.dev.awake = true →
    s.dev.works .cue = true →
    (s.dev.cueAt index.val).live = true →
    (s.dev.cueAt index.val).committed = true ∧ (s.dev.cueAt index.val).open_ = false →
    (s.dev.cueAt index.val).inDomain = true ∨ (s.dev.cueAt index.val).startAt (s.dev.cueAt index.val).ran / 65536 ≤ s.dev.phase.cycle →
    u = { s with dev := s.dev.toInstant (s.dev.cueAt index.val) ((s.dev.cueAt index.val).startAt (s.dev.cueAt index.val).ran) 0 } →
    (s.dev.cueAt index.val).action = 2 →
    s.dev.cue.capBy.isSome = true →
    ∃ t, exec (.cueTrigger index) s = .next t ∧
      t.dev.cueAt index.val = { s.dev.cueAt index.val with committed := false, ran := (s.dev.cueAt index.val).ran + 1, open_ := false } ∧
      t.dev.cue.capBy = s.dev.cue.capBy ∧ t.dev.cue.cap = s.dev.cue.cap ∧
      Recorded [(recCueSkipped, leBytes 2 index.val ++ leBytes 1 skipCapture)] u t ∧
      Frame [CUE_STATUS.SKIPPED, CUE_CNT.SKIPPED] [.cue, .rcd] u t) ∧
  (∀ (index : CueIx) (u s : State),
    Settled s →
    s.dev.awake = true →
    s.dev.works .cue = true →
    (s.dev.cueAt index.val).live = true →
    (s.dev.cueAt index.val).committed = true ∧ (s.dev.cueAt index.val).open_ = false →
    (s.dev.cueAt index.val).inDomain = true ∨ (s.dev.cueAt index.val).startAt (s.dev.cueAt index.val).ran / 65536 ≤ s.dev.phase.cycle →
    u = { s with dev := s.dev.toInstant (s.dev.cueAt index.val) ((s.dev.cueAt index.val).startAt (s.dev.cueAt index.val).ran) 0 } →
    (s.dev.cueAt index.val).action = 1 →
    s.dev.outage bedNets = false →
    s.dev.works .net = true ∧ s.dev.portLinked ((s.dev.cueAt index.val).target / 64) = true →
    2 ≤ (s.dev.cueAt index.val).target / 64 ∨ tget 0 u.dev.cue.busy ((s.dev.cueAt index.val).target / 64) ≤ u.dev.clk ∧ u.dev.outrun s.mem ((s.dev.cueAt index.val).target / 64) index.val = false →
    ∃ t, exec (.cueTrigger index) s = .next t ∧
      t.dev.cueAt index.val = { s.dev.cueAt index.val with committed := false, ran := (s.dev.cueAt index.val).ran + 1, open_ := (s.dev.cueAt index.val).window } ∧
      t.dev.out = .launch ((s.dev.cueAt index.val).target / 64) ((s.dev.cueAt index.val).target % 64) false :: s.dev.out ∧
      (t.dev.slot (s.dev.cueAt index.val).target).launches = ((s.dev.slot (s.dev.cueAt index.val).target).launches + 1) % 256 ∧ (t.dev.slot (s.dev.cueAt index.val).target).late = false ∧
      (t.dev.slot (s.dev.cueAt index.val).target).tsDom = (if (s.dev.cueAt index.val).inDomain = true then (s.dev.cueAt index.val).dom else 0) ∧ ((s.dev.cueAt index.val).target / 64 < 2 →
        (t.dev.slot (s.dev.cueAt index.val).target).tsSec * 1000000000 + (t.dev.slot (s.dev.cueAt index.val).target).tsNs = u.dev.domNs (t.dev.slot (s.dev.cueAt index.val).target).tsDom) ∧
      Frame [] [.cue, .out] u t) ∧
  (∀ (index : CueIx) (u s : State),
    Settled s →
    s.dev.awake = true →
    s.dev.works .cue = true →
    (s.dev.cueAt index.val).live = true →
    (s.dev.cueAt index.val).committed = true ∧ (s.dev.cueAt index.val).open_ = false →
    (s.dev.cueAt index.val).inDomain = true ∨ (s.dev.cueAt index.val).startAt (s.dev.cueAt index.val).ran / 65536 ≤ s.dev.phase.cycle →
    u = { s with dev := s.dev.toInstant (s.dev.cueAt index.val) ((s.dev.cueAt index.val).startAt (s.dev.cueAt index.val).ran) 0 } →
    (s.dev.cueAt index.val).action = 1 →
    s.dev.outage bedNets = false →
    ¬(s.dev.works .net = true ∧ s.dev.portLinked ((s.dev.cueAt index.val).target / 64) = true) →
    ∃ t, exec (.cueTrigger index) s = .next t ∧
      t.dev.cueAt index.val = { s.dev.cueAt index.val with committed := false, ran := (s.dev.cueAt index.val).ran + 1, open_ := (s.dev.cueAt index.val).window } ∧
      Recorded [(recCueFailed, leBytes 2 index.val)] u t ∧
      t.dev.out = s.dev.out ∧
      Frame [] [.cue, .rcd] u t) ∧
  (∀ (index : CueIx) (u s : State),
    Settled s →
    s.dev.awake = true →
    s.dev.works .cue = true →
    (s.dev.cueAt index.val).live = true →
    (s.dev.cueAt index.val).committed = true ∧ (s.dev.cueAt index.val).open_ = false →
    (s.dev.cueAt index.val).inDomain = true ∨ (s.dev.cueAt index.val).startAt (s.dev.cueAt index.val).ran / 65536 ≤ s.dev.phase.cycle →
    u = { s with dev := s.dev.toInstant (s.dev.cueAt index.val) ((s.dev.cueAt index.val).startAt (s.dev.cueAt index.val).ran) 0 } →
    (s.dev.cueAt index.val).action = 1 →
    s.dev.outage bedNets = false →
    s.dev.works .net = true ∧ s.dev.portLinked ((s.dev.cueAt index.val).target / 64) = true →
    (s.dev.cueAt index.val).target / 64 < 2 ∧ (u.dev.clk < tget 0 u.dev.cue.busy ((s.dev.cueAt index.val).target / 64) ∨ u.dev.outrun s.mem ((s.dev.cueAt index.val).target / 64) index.val = true) →
    ∃ t, exec (.cueTrigger index) s = .next t ∧
      t.dev.cueAt index.val = { s.dev.cueAt index.val with committed := false, ran := (s.dev.cueAt index.val).ran + 1, open_ := (s.dev.cueAt index.val).window } ∧
      (t.dev.slot (s.dev.cueAt index.val).target).waiting = (s.dev.slot (s.dev.cueAt index.val).target).waiting ++ [(index.val, if (s.dev.cueAt index.val).inDomain = true then (s.dev.cueAt index.val).dom else 0)] ∧
      t.dev.out = s.dev.out ∧
      Frame [] [.cue] u t) ∧
  (∀ (index : CueIx) (u s : State),
    Settled s →
    s.dev.awake = true →
    s.dev.works .cue = true →
    (s.dev.cueAt index.val).live = true →
    (s.dev.cueAt index.val).committed = true ∧ (s.dev.cueAt index.val).open_ = false →
    (s.dev.cueAt index.val).inDomain = true ∨ (s.dev.cueAt index.val).startAt (s.dev.cueAt index.val).ran / 65536 ≤ s.dev.phase.cycle →
    u = { s with dev := s.dev.toInstant (s.dev.cueAt index.val) ((s.dev.cueAt index.val).startAt (s.dev.cueAt index.val).ran) 0 } →
    (s.dev.cueAt index.val).action = 1 →
    s.dev.outage bedNets = true →
    ∃ t, exec (.cueTrigger index) s = .next t ∧
      t.dev.cueAt index.val = { s.dev.cueAt index.val with committed := false } ∧
      t.dev.out = s.dev.out ∧
      Frame [] [.cue] u t) ∧
  (∀ (index : CueIx) (u s : State),
    Settled s →
    s.dev.awake = true →
    (s.dev.cueAt index.val).open_ = true →
    (s.dev.cueAt index.val).inDomain = true ∨ (s.dev.cueAt index.val).stopAt ((s.dev.cueAt index.val).ran - 1) / 65536 ≤ s.dev.phase.cycle →
    u = { s with dev := s.dev.toInstant (s.dev.cueAt index.val) ((s.dev.cueAt index.val).stopAt ((s.dev.cueAt index.val).ran - 1)) 0 } →
    (s.dev.cueAt index.val).action = 5 →
    ∃ t, exec (.cueWindowEnd index) s = .next t ∧
      t.dev.cueAt index.val = { s.dev.cueAt index.val with open_ := false } ∧
      Recorded [(recCueMarkEnd, leBytes 2 (s.dev.cueAt index.val).target ++ leBytes 2 index.val)] u t ∧
      Frame [] [.cue, .rcd] u t) ∧
  (∀ (index : CueIx) (u s : State),
    Settled s →
    s.dev.awake = true →
    (s.dev.cueAt index.val).open_ = true →
    (s.dev.cueAt index.val).inDomain = true ∨ (s.dev.cueAt index.val).stopAt ((s.dev.cueAt index.val).ran - 1) / 65536 ≤ s.dev.phase.cycle →
    u = { s with dev := s.dev.toInstant (s.dev.cueAt index.val) ((s.dev.cueAt index.val).stopAt ((s.dev.cueAt index.val).ran - 1)) 0 } →
    (s.dev.cueAt index.val).action = 2 →
    s.dev.cue.capBy = some index.val →
    ∃ t, exec (.cueWindowEnd index) s = .next t ∧
      t.dev.cueAt index.val = { s.dev.cueAt index.val with open_ := false } ∧
      t.dev.cue.capBy = none ∧ t.dev.cue.cap = s.dev.cue.cap ∧ t.dev.rd CUE_CAP_STATUS.RUNNING = 0 ∧
      Frame [CUE_CAP_STATUS.RUNNING] [.cue] u t) ∧
  (∀ (index : CueIx) (u s : State),
    Settled s →
    s.dev.awake = true →
    (s.dev.cueAt index.val).open_ = true →
    (s.dev.cueAt index.val).inDomain = true ∨ (s.dev.cueAt index.val).stopAt ((s.dev.cueAt index.val).ran - 1) / 65536 ≤ s.dev.phase.cycle →
    u = { s with dev := s.dev.toInstant (s.dev.cueAt index.val) ((s.dev.cueAt index.val).stopAt ((s.dev.cueAt index.val).ran - 1)) 0 } →
    (s.dev.cueAt index.val).action = 3 →
    (s.dev.cueAt index.val).target < 32 →
    s.dev.channelsTake = true →
    2 ≤ s.mem.img.chanRole (s.dev.cueAt index.val).target ∧ s.mem.img.chanRole (s.dev.cueAt index.val).target ≤ 4 →
    (u.dev.chan (s.dev.cueAt index.val).target).last.1 = u.dev.clk + 1 → (u.dev.chan (s.dev.cueAt index.val).target).last.2 ≤ index.val →
    ∃ t, exec (.cueWindowEnd index) s = .next t ∧
      t.dev.cueAt index.val = { s.dev.cueAt index.val with open_ := false } ∧
      (t.dev.chan (s.dev.cueAt index.val).target).cmd = false ∧
      (∀ n, n ≠ (s.dev.cueAt index.val).target → (t.dev.chan n).cmd = (s.dev.chan n).cmd) ∧
      Frame [] [.cue, .chn] u t) ∧
  (∀ (port : Path) (slot : Fin 64) (i dom : Nat) (l : List (Nat × Nat)) (u s : State),
    Settled s →
    s.dev.awake = true →
    (s.dev.slot (64 * port.num + slot.val)).waiting = (i, dom) :: l →
    s.dev.works .net = true →
    s.dev.outage bedNets = false →
    u = { s with dev := s.dev.advanceTo (tget 0 s.dev.cue.busy port.num) } →
    u.dev.portLinked port.num = true →
    u.dev.fitsAhead s.mem port.num (s.dev.slot (64 * port.num + slot.val)).bytes.length = true →
    ∃ t, exec (.cueLate port slot) s = .next t ∧
      t.dev.out = .launch port.num slot.val true :: s.dev.out ∧
      (t.dev.slot (64 * port.num + slot.val)).waiting = l ∧ (t.dev.slot (64 * port.num + slot.val)).late = true ∧ (t.dev.slot (64 * port.num + slot.val)).tsDom = dom ∧
      t.dev.rd CUE_STATUS.LATE = 1 ∧ t.dev.rd CUE_CNT.LATE = min (s.dev.rd CUE_CNT.LATE + 1) 0xFFFF ∧
      Recorded [(recCueLate, leBytes 2 i)] u t ∧
      Frame [CUE_STATUS.LATE, CUE_CNT.LATE] [.cue, .rcd, .out] u t) ∧
  (∀ (port : Path) (slot : Fin 64) (i dom : Nat) (l : List (Nat × Nat)) (u s : State),
    Settled s →
    s.dev.awake = true →
    (s.dev.slot (64 * port.num + slot.val)).waiting = (i, dom) :: l →
    s.dev.works .net = true →
    s.dev.outage bedNets = false →
    u = { s with dev := s.dev.advanceTo (tget 0 s.dev.cue.busy port.num) } →
    u.dev.portLinked port.num = false →
    ∃ t, exec (.cueLate port slot) s = .next t ∧
      t.dev.out = s.dev.out ∧ (t.dev.slot (64 * port.num + slot.val)).waiting = l ∧
      Recorded [(recCueFailed, leBytes 2 i)] u t ∧
      Frame [] [.cue, .rcd] u t) ∧
  (∀ (port : Path) (slot : Fin 64) (i dom : Nat) (l : List (Nat × Nat)) (u s : State),
    Settled s →
    s.dev.awake = true →
    (s.dev.slot (64 * port.num + slot.val)).waiting = (i, dom) :: l →
    s.dev.works .net = true →
    s.dev.outage bedNets = false →
    u = { s with dev := s.dev.advanceTo (tget 0 s.dev.cue.busy port.num) } →
    u.dev.portLinked port.num = true →
    u.dev.fitsAhead s.mem port.num (s.dev.slot (64 * port.num + slot.val)).bytes.length = false →
    ∃ t, exec (.cueLate port slot) s = .next t ∧
      t.dev.out = s.dev.out ∧
      (∀ k, t.dev.slot k = s.dev.slot k) ∧
      Frame [] [] u t)

/-- ARP, neighbour discovery, echo, dropped and bad frames, links, CAN errors and CAN fragments, in the cases named. With
the module awake, an ARP, a neighbour discovery and an ICMP echo for an address the port hears are answered on that
port with nothing else changed; one for another address, and an RX_DROP, count once in RX_DROP, saturating, and an
RX_ERR in RX_ERR. A link change shows in that port's bit alone. A CAN error shows its counters, saturated, the error
state they give and whether the port is on, on a port that is not disabled; a disabled one does not change. A recovery
from bus-off leaves both counters 0, the port error-active and on. With RAP on the CAN port: a fragment of 1 to 56
bytes, the first or the next in order of the message in reassembly, with the whole within the longest message, is
kept, or where it is the last completes the message, which then waits for its row; one that does not fit the message
in reassembly, or is empty, too long or not within COUNT, discards it. The timeout discards what is in reassembly for
that identifier and no other. Derived from R318, R320, R324, R339. The model's choices and readings it takes in: log
entries 26, 91, 104. -/
def Obligations.NetworkFramesAndErrorsAreHandled : Prop :=
  (∀ (c : Instr) (eth : Eth) (addr : List Byte) (kind : Nat) (s : State), Settled s → s.dev.awake = true →
    (c = .arp eth addr ∧ kind = 0 ∨ c = .neighbourDiscovery eth addr ∧ kind = 1 ∨ c = .icmpEcho eth addr ∧ kind = 2) →
    s.dev.hears s.mem eth.val addr = true →
    ∃ t, exec c s = .next t ∧ t.dev.out = .host eth.val kind :: s.dev.out ∧ Frame [] [.out] s t) ∧
  (∀ (c : Instr) (eth : Eth) (addr : List Byte) (kind : Nat) (s : State), Settled s → s.dev.awake = true →
    ((c = .arp eth addr ∧ kind = 0 ∨ c = .neighbourDiscovery eth addr ∧ kind = 1 ∨ c = .icmpEcho eth addr ∧ kind = 2) ∧ s.dev.hears s.mem eth.val addr = false ∨ c = .rxDrop eth) →
    ∃ t, exec c s = .next t ∧
      t.dev.rd (NET_ETH.RX_DROP eth.val) = min (s.dev.rd (NET_ETH.RX_DROP eth.val) + 1) 0xFFFF ∧
      Frame [NET_ETH.RX_DROP eth.val] [] s t) ∧
  (∀ (eth : Eth) (s : State),
    Settled s →
    s.dev.awake = true →
    ∃ t, exec (.rxErr eth) s = .next t ∧
      t.dev.rd (NET_ETH.RX_ERR eth.val) = min (s.dev.rd (NET_ETH.RX_ERR eth.val) + 1) 0xFFFF ∧
      Frame [NET_ETH.RX_ERR eth.val] [] s t) ∧
  (∀ (eth : Eth) (up : Bool) (s : State),
    Settled s →
    ∃ t, exec (.ethLinkChange eth up) s = .next t ∧
      t.dev.on (if eth.val = 0 then NET_STATUS.ETH0_LINK else NET_STATUS.ETH1_LINK) = up ∧
      Frame [if eth.val = 0 then NET_STATUS.ETH0_LINK else NET_STATUS.ETH1_LINK] [] s t) ∧
  (∀ (upper : Bool) (tec rxc : Nat) (s : State),
    Settled s →
    s.dev.rd (NET_CAN.STATE upper.toNat) ≠ 3 →
    ∃ t, exec (.canError upper tec rxc) s = .next t ∧
      t.dev.rd (NET_CAN.TEC upper.toNat) = min 255 tec ∧ t.dev.rd (NET_CAN.REC upper.toNat) = min 255 rxc ∧
      t.dev.rd (NET_CAN.STATE upper.toNat) = (if 256 ≤ tec then 2 else if 128 ≤ tec ∨ 128 ≤ rxc then 1 else 0) ∧
      (t.dev.on (canOn upper.toNat) = true ↔ tec < 256) ∧
      Frame [NET_CAN.TEC upper.toNat, NET_CAN.REC upper.toNat, NET_CAN.STATE upper.toNat, canOn upper.toNat] [] s t) ∧
  (∀ (upper : Bool) (tec rxc : Nat) (s : State),
    Settled s →
    s.dev.rd (NET_CAN.STATE upper.toNat) = 3 →
    ∃ t, exec (.canError upper tec rxc) s = .next t ∧
      Frame [] [] s t) ∧
  (∀ (upper : Bool) (s : State),
    Settled s →
    s.dev.rd (NET_CAN.STATE upper.toNat) = 2 →
    ∃ t, exec (.busOffRecovery upper) s = .next t ∧
      t.dev.rd (NET_CAN.TEC upper.toNat) = 0 ∧ t.dev.rd (NET_CAN.REC upper.toNat) = 0 ∧ t.dev.rd (NET_CAN.STATE upper.toNat) = 0 ∧
      t.dev.on (canOn upper.toNat) = true ∧
      Frame [NET_CAN.TEC upper.toNat, NET_CAN.REC upper.toNat, NET_CAN.STATE upper.toNat, canOn upper.toNat] [] s t) ∧
  (∀ (upper : Bool) (session : Sid) (typ : Byte) (index count : Fin 8) (seq : Word) (bytes : List Byte) (old : List Byte) (s : State),
    Settled s →
    s.dev.rapOn s.mem (if upper = true then Path.can1 else Path.can0) = true →
    1 ≤ bytes.length ∧ bytes.length ≤ 56 →
    index.val < count.val →
    index.val = 0 ∧ old = [] ∨ 0 < index.val ∧ s.dev.canRx (64 * (if upper = true then Path.can1 else Path.can0).num + session.val) = some ⟨typ.toNat, count.val, index.val, seq.toNat, old⟩ →
    (old ++ bytes).length ≤ canLongest typ.toNat →
    index.val + 1 < count.val →
    ∃ t, exec (.canFragment upper session typ index count seq bytes) s = .next t ∧
      t.dev.canRx (64 * (if upper = true then Path.can1 else Path.can0).num + session.val) = some ⟨typ.toNat, count.val, index.val + 1, seq.toNat, old ++ bytes⟩ ∧
      (∀ k, k ≠ (64 * (if upper = true then Path.can1 else Path.can0).num + session.val) → t.dev.canRx k = s.dev.canRx k) ∧
      t.dev.out = s.dev.out ∧
      Frame [] [.net] s t) ∧
  (∀ (upper : Bool) (session : Sid) (typ : Byte) (index count : Fin 8) (seq : Word) (bytes : List Byte) (old : List Byte) (s : State),
    Settled s →
    s.dev.rapOn s.mem (if upper = true then Path.can1 else Path.can0) = true →
    1 ≤ bytes.length ∧ bytes.length ≤ 56 →
    index.val < count.val →
    index.val = 0 ∧ old = [] ∨ 0 < index.val ∧ s.dev.canRx (64 * (if upper = true then Path.can1 else Path.can0).num + session.val) = some ⟨typ.toNat, count.val, index.val, seq.toNat, old⟩ →
    (old ++ bytes).length ≤ canLongest typ.toNat →
    index.val + 1 = count.val →
    ∃ t, exec (.canFragment upper session typ index count seq bytes) s = .next t ∧
      t.dev.canRx (64 * (if upper = true then Path.can1 else Path.can0).num + session.val) = none ∧
      look t.dev.net.canIn (64 * (if upper = true then Path.can1 else Path.can0).num + session.val) = some ⟨typ.toNat, count.val, count.val, seq.toNat, old ++ bytes⟩ ∧
      t.dev.out = s.dev.out ∧
      Frame [] [.net] s t) ∧
  (∀ (upper : Bool) (session : Sid) (typ : Byte) (index count : Fin 8) (seq : Word) (bytes : List Byte) (x : CanRx) (s : State),
    Settled s →
    s.dev.rapOn s.mem (if upper = true then Path.can1 else Path.can0) = true →
    0 < index.val →
    s.dev.canRx (64 * (if upper = true then Path.can1 else Path.can0).num + session.val) = some x →
    x.typ ≠ typ.toNat ∨ x.count ≠ count.val ∨ x.seq ≠ seq.toNat ∨ x.next ≠ index.val →
    ∃ t, exec (.canFragment upper session typ index count seq bytes) s = .next t ∧
      t.dev.canRx (64 * (if upper = true then Path.can1 else Path.can0).num + session.val) = none ∧
      t.dev.out = s.dev.out ∧
      Frame [] [.net] s t) ∧
  (∀ (upper : Bool) (session : Sid) (typ : Byte) (index count : Fin 8) (seq : Word) (bytes : List Byte) (s : State),
    Settled s →
    s.dev.rapOn s.mem (if upper = true then Path.can1 else Path.can0) = true →
    bytes = [] ∨ 56 < bytes.length ∨ count.val ≤ index.val →
    ∃ t, exec (.canFragment upper session typ index count seq bytes) s = .next t ∧
      t.dev.canRx (64 * (if upper = true then Path.can1 else Path.can0).num + session.val) = none ∧
      (∀ k, k ≠ (64 * (if upper = true then Path.can1 else Path.can0).num + session.val) → t.dev.canRx k = s.dev.canRx k) ∧
      t.dev.out = s.dev.out ∧
      Frame [] [.net] s t) ∧
  (∀ (upper : Bool) (session : Sid) (s : State),
    Settled s →
    ∃ t, exec (.fragmentTimeout upper session) s = .next t ∧
      t.dev.canRx (64 * (if upper = true then Path.can1 else Path.can0).num + session.val) = none ∧
      (∀ k, k ≠ (64 * (if upper = true then Path.can1 else Path.can0).num + session.val) → t.dev.canRx k = s.dev.canRx k) ∧
      Frame [] [.net] s t)

/-- RECORD_WRITE, the Understudy, staging overflow, MAIN_REWRITE and the exports, in the cases named. With REC writing and
no record ahead, the first staged record goes, first time or on its retry, to its position of the main region, one of
REC itself into Understudy positions 0 to 7 in turn as well, and LAST shows its SEQ; while the main region is failed a
record of another source goes to the next of the 24 general Understudy positions, which waits to be copied back, one
overwritten before that being counted in US_LOST. A THERMAL_SHUTDOWN record goes ahead of the staged ones whatever
REC's state, and with it the thermal latch is set and shown. A write that fails its retry, with no record of the same
clk staged, fails the main region: MAIN_FAILED, its position and entry kept, a REC_MAIN_FAILED record staged, the
other positions as they were. A rewrite that passes restores the main region from the failing entry and the valid
Understudy entries and clears MAIN_FAILED; one that fails changes nothing. Once staging has room the number of lost
records is recorded and starts anew. READ_SEQ fills the session's window with four records and moves its cursor by 4;
READ_RAW fills it from a position in range, and one out of range is refused with reason 1. Derived from R221, R348,
R350, R351, R352, R354, R359. The model's choices and readings it takes in: log entries 78, 79, 98. -/
def Obligations.RecordsReachMramAndAreExported : Prop :=
  (∀ (result : WriteResult) (x : Rec) (l : List Rec) (s : State),
    Settled s →
    s.dev.recWrites = true →
    s.dev.rcd.urgent = [] →
    s.dev.rcd.staging = x :: l →
    (x.src, x.code) ≠ recThermalShutdown →
    s.dev.on REC_STATUS.MAIN_FAILED = false →
    result ≠ .failed →
    ∃ t, exec (.recordWrite result) s = .next t ∧
      t.dev.rcd = { s.dev.rcd with
        staging := l
        written := max s.dev.rcd.written (x.seq + 1)
        base := (if l.any (fun y => decide (y.mono = x.mono)) = true then some x else s.dev.rcd.base)
        main := putEntry s.dev.rcd.main (mainPos x.seq) x.bytes
        us := if x.src = 12 then putEntry s.dev.rcd.us (s.dev.rcd.usA % 8) x.bytes else s.dev.rcd.us
        usA := if x.src = 12 then (s.dev.rcd.usA + 1) % 8 else s.dev.rcd.usA } ∧
      t.dev.rd REC_LAST0.SEQ_LO = x.seq % 2 ^ 32 ∧ t.dev.rd REC_LAST1.SEQ_HI = x.seq / 2 ^ 32 % 2 ^ 16 ∧
      (x.seq = 1023 → t.dev.rd REC_STATUS.KEPT_FULL = 1) ∧
      Frame [REC_LAST0.SEQ_LO, REC_LAST1.SEQ_HI, REC_STATUS.KEPT_FULL] [.rcd] s t) ∧
  (∀ (result : WriteResult) (x : Rec) (l : List Rec) (s : State),
    Settled s →
    s.dev.recWrites = true →
    s.dev.rcd.urgent = [] →
    s.dev.rcd.staging = x :: l →
    (x.src, x.code) ≠ recThermalShutdown →
    s.dev.on REC_STATUS.MAIN_FAILED = true →
    result ≠ .failed →
    x.src ≠ 12 →
    ∃ t, exec (.recordWrite result) s = .next t ∧
      t.dev.rcd = { s.dev.rcd with
        staging := l
        written := max s.dev.rcd.written (x.seq + 1)
        base := (if l.any (fun y => decide (y.mono = x.mono)) = true then some x else s.dev.rcd.base)
        us := putEntry s.dev.rcd.us (8 + s.dev.rcd.usB % 24) x.bytes
        usB := (s.dev.rcd.usB + 1) % 24
        toCopy := s.dev.rcd.toCopy.filter (· ≠ 8 + s.dev.rcd.usB % 24) ++ [8 + s.dev.rcd.usB % 24] } ∧
      t.dev.rd REC_CNT.US_LOST = (if 8 + s.dev.rcd.usB % 24 ∈ s.dev.rcd.toCopy then min (s.dev.rd REC_CNT.US_LOST + 1) 65535 else s.dev.rd REC_CNT.US_LOST) ∧
      t.dev.rd REC_STATUS.US_USED = min (s.dev.rd REC_STATUS.US_USED + 1) 255 ∧
      t.dev.rd REC_LAST0.SEQ_LO = x.seq % 2 ^ 32 ∧ t.dev.rd REC_LAST1.SEQ_HI = x.seq / 2 ^ 32 % 2 ^ 16 ∧
      Frame [REC_LAST0.SEQ_LO, REC_LAST1.SEQ_HI, REC_STATUS.KEPT_FULL, REC_STATUS.US_USED, REC_CNT.US_LOST] [.rcd] s t) ∧
  (∀ (x : Rec) (l : List Rec) (result : WriteResult) (s : State),
    Settled s →
    s.dev.alive = true →
    s.dev.rcd.urgent = x :: l →
    (x.src, x.code) = recThermalShutdown →
    s.dev.on REC_STATUS.MAIN_FAILED = false →
    result ≠ .failed →
    ∃ t, exec (.recordWrite result) s = .next t ∧
      t.dev.thw = { s.dev.thw with latch := true, cleared := false, declared := false } ∧
      t.dev.rd THW_LATCH.CAUSE = s.dev.thw.last.1 % 4 ∧ t.dev.rd THW_LATCH.INDEX = s.dev.thw.last.2.1 % 64 ∧ t.dev.rd THW_LATCH.VALUE = s.dev.thw.last.2.2 % 65536 ∧
      t.dev.rd SEQ_BANK.LATCH = 4 ∧ t.dev.rd SEQ_BANK.CAUSE = 0x12 ∧
      t.dev.rcd.urgent = l ∧ t.dev.rcd.staging = s.dev.rcd.staging ∧ t.dev.rcd.main = putEntry s.dev.rcd.main (mainPos x.seq) x.bytes ∧
      t.dev.rd REC_LAST0.SEQ_LO = x.seq % 2 ^ 32 ∧ t.dev.rd REC_LAST1.SEQ_HI = x.seq / 2 ^ 32 % 2 ^ 16 ∧
      PageFrame [0x03, 0x0A, 0x0B, 0x14] [.rcd, .thw] s t) ∧
  (∀ (x : Rec) (l : List Rec) (s : State),
    Settled s →
    s.dev.recWrites = true →
    s.dev.rcd.urgent = [] →
    s.dev.rcd.staging = x :: l →
    (x.src, x.code) ≠ recThermalShutdown →
    s.dev.on REC_STATUS.MAIN_FAILED = false →
    l.length < 1024 →
    ∀ z ∈ l, z.mono ≠ s.dev.rcd.monoBase + 10 * s.dev.clk →
    ∃ t, exec (.recordWrite .failed) s = .next t ∧
      t.dev.rd REC_STATUS.MAIN_FAILED = 1 ∧ t.dev.rcd.failPos = mainPos x.seq ∧ t.dev.rcd.failEntry = x.bytes ∧
      (∃ y, t.dev.rcd.staging = l ++ [y] ∧ y.seq = s.dev.rcd.next ∧ y.src = 12 ∧ y.code = 3 ∧ y.data = leBytes 2 (mainPos x.seq)) ∧
      (∀ p, p ≠ mainPos x.seq → entryAt t.dev.rcd.main p = entryAt s.dev.rcd.main p) ∧
      t.dev.rd REC_LAST0.SEQ_LO = x.seq % 2 ^ 32 ∧ t.dev.rd REC_LAST1.SEQ_HI = x.seq / 2 ^ 32 % 2 ^ 16 ∧
      Frame [REC_LAST0.SEQ_LO, REC_LAST1.SEQ_HI, REC_STATUS.KEPT_FULL, REC_STATUS.MAIN_FAILED, REC_STATUS.US_USED, REC_CNT.US_LOST] [.rcd] s t) ∧
  (∀ (s : State),
    Settled s →
    s.dev.recWrites = true →
    0 < s.dev.rcd.lost →
    s.dev.rcd.staging.length + s.dev.rcd.urgent.length < 1024 →
    ∀ z ∈ s.dev.rcd.urgent ++ s.dev.rcd.staging, z.mono ≠ s.dev.rcd.monoBase + 10 * s.dev.clk →
    ∃ t, exec (.recStagingOverflow) s = .next t ∧
      t.dev.rcd.lost = 0 ∧
      (∃ y, t.dev.rcd.staging = s.dev.rcd.staging ++ [y] ∧ y.seq = s.dev.rcd.next ∧ y.src = 12 ∧ y.code = 1 ∧
        y.data = leBytes 4 (min (2 ^ 32 - 1) s.dev.rcd.lost)) ∧
      Frame [] [.rcd] s t) ∧
  (∀ (s : State),
    Settled s →
    s.dev.recWrites = true →
    s.dev.on REC_STATUS.MAIN_FAILED = true →
    s.dev.rcd.failEntry ≠ [] →
    ∀ z ∈ s.dev.rcd.urgent ++ s.dev.rcd.staging, z.mono ≠ s.dev.rcd.monoBase + 10 * s.dev.clk →
    ∃ t, exec (.mainRewrite true) s = .next t ∧
      t.dev.rd REC_STATUS.MAIN_FAILED = 0 ∧ t.dev.rcd.toCopy = [] ∧
      t.dev.rcd.main = ((s.dev.rcd.toCopy.map (entryAt s.dev.rcd.us)).filter entryValid).foldl
        (fun r e => putEntry r (mainPos (leAt e 0 6)) e) (putEntry s.dev.rcd.main s.dev.rcd.failPos s.dev.rcd.failEntry) ∧
      (∃ y, y.src = 12 ∧ y.code = 4 ∧ (t.dev.rcd.staging = s.dev.rcd.staging ++ [y] ∨ t.dev.rcd.staging = s.dev.rcd.staging)) ∧
      Frame [REC_STATUS.MAIN_FAILED] [.rcd] s t) ∧
  (∀ (s : State),
    Settled s →
    ∃ t, exec (.mainRewrite false) s = .next t ∧
      Frame [] [] s t) ∧
  (∀ (sid : Sid) (s : State),
    Settled s →
    Heard sid s →
    s.dev.isSteward sid .recorder = true ∨ (s.dev.sess sid.val).role = .auditor ∧ (s.dev.sess sid.val).key ≠ 0 →
    ∃ t, exec (.readSeq sid) s = .next t ∧
      Answered sid wrOk (fun x => { x.putSlots ((List.range 4).map fun j => s.dev.rcd.find ((x.recSeq + j) % 2 ^ 48)) with recSeq := (x.recSeq + 4) % 2 ^ 48 }) s t ∧
      Frame [] [.out, .net] s t) ∧
  (∀ (sid : Sid) (understudy : Bool) (pos : BitVec 12) (s : State),
    Settled s →
    Heard sid s →
    s.dev.isSteward sid .recorder = true ∨ (s.dev.sess sid.val).role = .auditor ∧ (s.dev.sess sid.val).key ≠ 0 →
    pos.toNat ≤ (if understudy = true then 28 else 4092) →
    ∃ t, exec (.readRaw sid understudy pos) s = .next t ∧
      Answered sid wrOk (fun x => x.putSlots ((List.range 4).map fun j => rawAt (if understudy = true then s.dev.rcd.us else s.dev.rcd.main) (pos.toNat + j))) s t ∧
      Frame [] [.out, .net] s t) ∧
  (∀ (sid : Sid) (understudy : Bool) (pos : BitVec 12) (s : State),
    Settled s →
    Heard sid s →
    s.dev.isSteward sid .recorder = true ∨ (s.dev.sess sid.val).role = .auditor ∧ (s.dev.sess sid.val).key ≠ 0 →
    (if understudy = true then 28 else 4092) < pos.toNat →
    ∃ t, exec (.readRaw sid understudy pos) s = .next t ∧
      Answered sid (wrRefused 1 REC_EXP_CTRL.CMD.addr) (fun x => { x with recStatus := x.recStatus % 2 ^ 24 + 2 ^ 24 }) s t ∧
      Frame [] [.out, .net] s t)

/-- LEDGER_STORE, the capture and the writing of a checkpoint, and READ_CP, in the cases named. With the module alive and
no RECL outage: LEDGER_STORE stores every string's accumulators, which go on. At the clk of a sweep boundary past a
multiple of 900 s a working LGR captures the body of the next checkpoint: its number, time, totals in Wh, flags and
cross-reference, the count of which starts anew; one that does not work captures none and the next carries GAP. With
LGR working and every record up to its XREF_SEQ written, the first body captured is signed with the one before and
stands at position CP_NUM mod 3,840, the other positions as they were; a failed write leaves that position empty, sets
WRITE_FAIL and is recorded. READ_CP gives the session the checkpoint of its number, or the status of a torn or missing
one, and adds 1 to its number. Derived from R355, R356, R357, R358, R360. The model's choices and readings it takes
in: log entries 5, 12, 13, 79, 81. -/
def Obligations.TheLedgerIsStoredAndSigned : Prop :=
  (∀ (s : State),
    Settled s →
    s.dev.alive = true →
    s.dev.outage bedRecl = false →
    ∃ t, exec (.ledgerStore) s = .next t ∧
      (∀ k < 8, tget 0 t.dev.lgr.storedChg k = s.dev.energyChg k ∧ tget 0 t.dev.lgr.storedDis k = s.dev.energyDis k) ∧
      t.dev.lgr.chg = s.dev.lgr.chg ∧ t.dev.lgr.dis = s.dev.lgr.dis ∧ t.dev.lgr.ring = s.dev.lgr.ring ∧
      Frame [] [.lgr] s t) ∧
  (∀ (s : State),
    Settled s →
    s.dev.alive = true →
    s.dev.outage bedRecl = false →
    s.dev.phase.k = 0 →
    s.dev.clk = s.dev.phase.boundAt →
    s.dev.lgr.mult < s.dev.ledgerSec / 900 →
    s.dev.works .lgr = true →
    ∃ t, exec (.checkpointDue) s = .next t ∧
      (∃ b : CpBody, t.dev.lgr = { s.dev.lgr with mult := s.dev.ledgerSec / 900, gap := false, stepped := false, bodies := s.dev.lgr.bodies ++ [b], next := (s.dev.lgr.next + 1) % 2 ^ 32 } ∧
        b.num = s.dev.lgr.next ∧ b.sec = s.dev.ledgerSec ∧ b.chg = s.dev.energyChg 8 / 1000 ∧ b.dis = s.dev.energyDis 8 / 1000 ∧
        b.xseq = s.dev.rcd.xseq ∧ b.xcnt = s.dev.rcd.xcnt ∧
        b.flags = ((s.dev.dom (s.dev.rd LGR_CFG.DOMAIN)).state = 0 : Bool).toNat + 2 * s.dev.lgr.gap.toNat + 4 * s.dev.lgr.stepped.toNat) ∧
      t.dev.rcd.xcnt = 0 ∧
      Frame [] [.lgr, .rcd] s t) ∧
  (∀ (s : State),
    Settled s →
    s.dev.alive = true →
    s.dev.outage bedRecl = false →
    s.dev.phase.k = 0 →
    s.dev.clk = s.dev.phase.boundAt →
    s.dev.lgr.mult < s.dev.ledgerSec / 900 →
    s.dev.works .lgr = false →
    ∃ t, exec (.checkpointDue) s = .next t ∧
      t.dev.lgr = { s.dev.lgr with mult := s.dev.ledgerSec / 900, gap := true } ∧
      Frame [] [.lgr] s t) ∧
  (∀ (result : WriteResult) (b : CpBody) (l : List CpBody) (s : State),
    Settled s →
    s.dev.alive = true →
    s.dev.outage bedRecl = false →
    s.dev.works .lgr = true →
    s.dev.lgr.bodies = b :: l →
    ∀ x ∈ s.dev.rcd.urgent ++ s.dev.rcd.staging, b.xseq < x.seq →
    result ≠ .failed →
    ∃ t, exec (.checkpointWritten result) s = .next t ∧
      t.dev.lgr.bodies = l ∧ t.dev.lgr.prevSig = sixtyFour (Config.deviceSign (Config.sha256 (b.bytes ++ sixtyFour s.dev.lgr.prevSig))) ∧
      tget [] t.dev.lgr.ring (b.num % 3840) = b.bytes ++ t.dev.lgr.prevSig ∧
      (∀ p, p ≠ b.num % 3840 → tget [] t.dev.lgr.ring p = tget [] s.dev.lgr.ring p) ∧
      b.num % 3840 ∉ t.dev.lgr.torn ∧
      t.dev.rd LGR_CP.CP_NUM = b.num % 2 ^ 32 ∧
      t.dev.lgr.chg = s.dev.lgr.chg ∧ t.dev.lgr.dis = s.dev.lgr.dis ∧ t.dev.lgr.next = s.dev.lgr.next ∧
      Frame [LGR_CP.CP_NUM] [.lgr] s t) ∧
  (∀ (b : CpBody) (l : List CpBody) (s : State),
    Settled s →
    s.dev.alive = true →
    s.dev.outage bedRecl = false →
    s.dev.works .lgr = true →
    s.dev.lgr.bodies = b :: l →
    ∀ x ∈ s.dev.rcd.urgent ++ s.dev.rcd.staging, b.xseq < x.seq →
    ∃ t, exec (.checkpointWritten .failed) s = .next t ∧
      t.dev.lgr.bodies = l ∧ t.dev.lgr.prevSig = s.dev.lgr.prevSig ∧ tget [] t.dev.lgr.ring (b.num % 3840) = [] ∧
      t.dev.rd LGR_STATUS.WRITE_FAIL = 1 ∧
      Recorded [(recLgrWriteFailed, leBytes 4 b.num)] s t ∧
      Frame [LGR_STATUS.WRITE_FAIL] [.lgr, .rcd] s t) ∧
  (∀ (sid : Sid) (s : State),
    Settled s →
    Heard sid s →
    s.dev.isSteward sid .lgr = true ∨ (s.dev.sess sid.val).role = .auditor ∧ (s.dev.sess sid.val).key ≠ 0 →
    ∃ t, exec (.readCp sid) s = .next t ∧
      Answered sid wrOk (fun x => { x with lgrNum := (x.lgrNum + 1) % 2 ^ 32, lgrStatus := (if s.dev.lgr.torn.contains (x.lgrNum % 3840) then 2 else if (entryAt s.dev.lgr.ring (x.lgrNum % 3840)).isEmpty then 3 else if leAt (entryAt s.dev.lgr.ring (x.lgrNum % 3840)) 0 4 = x.lgrNum then 0 else 3), lgrWin := (if s.dev.lgr.torn.contains (x.lgrNum % 3840) then [] else if leAt (entryAt s.dev.lgr.ring (x.lgrNum % 3840)) 0 4 = x.lgrNum then entryAt s.dev.lgr.ring (x.lgrNum % 3840) else []) }) s t ∧
      Frame [] [.out, .net] s t)

/-- Aux inputs lost, restored and reversed, holdup, the charge of HOLD and the recovery phase, in the cases named. With
the module powered: an input lost while neither was is marked lost and recorded, a lost one restored is marked so and
recorded; a reversed input sets its flag with one record, again changes nothing, and its clearing clears the flag.
HOLDUP_START sets HOLDUP with a record, and every OUT channel of role other than 1 and 5 conducts no more and waits
its turn; HOLDUP_END clears it with a record and starts a recovery phase of 60 s, whose end alone ends it. A charge of
HOLD outside Prune 4 and holdup shows its capacitance; at or above HOLD_MIN, the charge having been in time, it clears
HOLD_LOW, below it sets HOLD_LOW with one record. 20 s without 28.0 V set HOLD_LOW with a record. At Prune 4 and in
holdup, the charger being off, HOLD_CHARGED changes nothing. Derived from R362, R363, R364, R388. The model's choices
and readings it takes in: log entries 5, 12, 13, 84. -/
def Obligations.SupplyInputsAndHoldupAreJudged : Prop :=
  (∀ (b : Bool) (s : State),
    Settled s →
    s.dev.powered = true →
    s.dev.pwr.lost b = false →
    s.dev.pwr.lost (!b) = false →
    ∃ t, exec (.auxInputLost b) s = .next t ∧
      t.dev.pwr = s.dev.pwr.setLost b true ∧
      t.dev.pwr.lost b = true ∧
      Recorded [(recAuxInputLost, leBytes 1 b.toNat)] s t ∧
      Frame [] [.pwr, .rcd] s t) ∧
  (∀ (b : Bool) (s : State),
    Settled s →
    s.dev.powered = true →
    s.dev.pwr.lost b = true →
    ∃ t, exec (.auxInputRestored b) s = .next t ∧
      t.dev.pwr = s.dev.pwr.setLost b false ∧
      t.dev.pwr.lost b = false ∧
      Recorded [(recAuxInputRestored, leBytes 1 b.toNat)] s t ∧
      Frame [] [.pwr, .rcd] s t) ∧
  (∀ (b : Bool) (s : State),
    Settled s →
    s.dev.powered = true →
    s.dev.on (revFld b) = false →
    ∃ t, exec (.auxReversed b) s = .next t ∧
      t.dev.on (if b = true then PWR_STATUS.AUX_B_REV else PWR_STATUS.AUX_A_REV) = true ∧
      Recorded [(recAuxReversed, leBytes 1 b.toNat)] s t ∧
      Frame [revFld b] [.rcd] s t) ∧
  (∀ (b : Bool) (s : State),
    Settled s →
    s.dev.powered = true →
    s.dev.on (revFld b) = true →
    ∃ t, exec (.auxReversed b) s = .next t ∧
      Frame [] [] s t) ∧
  (∀ (b : Bool) (s : State),
    Settled s →
    s.dev.powered = true →
    ∃ t, exec (.auxReverseClear b) s = .next t ∧
      t.dev.on (if b = true then PWR_STATUS.AUX_B_REV else PWR_STATUS.AUX_A_REV) = false ∧
      Frame [revFld b] [] s t) ∧
  (∀ (s : State),
    Settled s →
    s.dev.powered = true →
    s.dev.on PWR_STATUS.HOLDUP = false →
    ∃ t, exec (.holdupStart) s = .next t ∧
      t.dev.on PWR_STATUS.HOLDUP = true ∧
      Recorded [(recHoldupStart, [])] s t ∧
      (∀ n < 32, s.mem.img.chanRole n ≠ 1 → s.mem.img.chanRole n ≠ 5 →
        t.dev.conducts s.mem n = false ∧ t.dev.chan n = { s.dev.chan n with inrush := false, wait := true }) ∧
      Frame [PWR_STATUS.HOLDUP] [.pwr, .chn, .rcd] s t) ∧
  (∀ (s : State),
    Settled s →
    s.dev.powered = true →
    s.dev.on PWR_STATUS.HOLDUP = true →
    ∃ t, exec (.holdupEnd) s = .next t ∧
      t.dev.on PWR_STATUS.HOLDUP = false ∧
      t.dev.pwr = { s.dev.pwr with recovEnd := some (s.dev.clk + 6000000000) } ∧
      Recorded [(recHoldupEnd, [])] s t ∧
      Frame [PWR_STATUS.HOLDUP] [.pwr, .rcd] s t) ∧
  (∀ (s : State),
    Settled s →
    ∃ t, exec (.recoveryPhaseEnd) s = .next t ∧
      t.dev.pwr = { s.dev.pwr with recovEnd := none } ∧
      Frame [] [.pwr] s t) ∧
  (∀ (c : BitVec 16) (s : State),
    Settled s →
    s.dev.powered = true →
    s.dev.stage < 4 →
    s.dev.on PWR_STATUS.HOLDUP = false →
    10 * s.dev.rd PWR_CFG.HOLD_MIN ≤ c.toNat →
    s.dev.pwr.slow = false →
    ∃ t, exec (.holdCharged c) s = .next t ∧
      t.dev.rd PWR_HOLD.C_HOLD = c.toNat ∧ t.dev.pwr = { s.dev.pwr with ready := some true, slow := false } ∧
      t.dev.rd PWR_STATUS.HOLD_LOW = 0 ∧
      Frame [PWR_HOLD.C_HOLD, PWR_STATUS.HOLD_LOW] [.pwr] s t) ∧
  (∀ (c : BitVec 16) (s : State),
    Settled s →
    s.dev.powered = true →
    s.dev.stage < 4 →
    s.dev.on PWR_STATUS.HOLDUP = false →
    c.toNat < 10 * s.dev.rd PWR_CFG.HOLD_MIN →
    ∃ t, exec (.holdCharged c) s = .next t ∧
      t.dev.rd PWR_HOLD.C_HOLD = c.toNat ∧ t.dev.pwr = { s.dev.pwr with ready := some true, slow := false } ∧
      t.dev.rd PWR_STATUS.HOLD_LOW = 1 ∧
      (s.dev.on PWR_STATUS.HOLD_LOW = false → Recorded [(recHoldLow, [])] s t) ∧
      (s.dev.on PWR_STATUS.HOLD_LOW = true → t.dev.rcd = s.dev.rcd) ∧
      Frame [PWR_HOLD.C_HOLD, PWR_STATUS.HOLD_LOW] [.pwr, .rcd] s t) ∧
  (∀ (c : BitVec 16) (s : State),
    Settled s →
    s.dev.powered = true →
    s.dev.stage = 4 ∨ s.dev.on PWR_STATUS.HOLDUP = true →
    ∃ t, exec (.holdCharged c) s = .next t ∧
      Frame [] [] s t) ∧
  (∀ (s : State),
    Settled s →
    s.dev.powered = true →
    s.dev.stage < 4 →
    s.dev.on PWR_STATUS.HOLDUP = false →
    s.dev.on PWR_STATUS.HOLD_LOW = false →
    ∃ t, exec (.holdLow) s = .next t ∧
      t.dev.rd PWR_STATUS.HOLD_LOW = 1 ∧ t.dev.pwr.ready = some false ∧
      Recorded [(recHoldLow, [])] s t ∧
      Frame [PWR_STATUS.HOLD_LOW] [.pwr, .rcd] s t)

/-- PRUNE_ENTER and PRUNE_EXIT, in the cases named. With the module powered. Entry to a stage not yet entered marks it, so
that the stage in force is at least it, is counted, saturating, and every OUT channel no longer permitted conducts no
more. Entry to Prune 1 changes the stage, its count and the channels and stages one record, none of the same clk being
staged. With the module alive, at Prune 2 at most eight sessions stay open, none on ETH1 or CAN1, both of which are
idle, the sequencer, safety and time state as before; at Prune 3 no string is QUEUED or in a close sequence, and a
CONNECTED one stays so; at Prune 4 every session ends, staging is empty and every string's energies are stored. The
exit of a stage entered, no calibration waiting, clears that stage alone; the exit that brings the stage in force from
3 or more to 2 or less starts a recovery phase of 60 s and no other does; at 1 or less ETH1 and CAN1 are idle no more.
Derived from R253, R337, R366, R367, R369, R388. The model's choices and readings it takes in: log entries 5, 83. -/
def Obligations.SupplyStagesShedAndReturn : Prop :=
  (∀ (stage : Fin 4) (s : State),
    Settled s →
    s.dev.powered = true →
    s.dev.alive = true →
    s.dev.pwr.staged (stage.val + 1) = false →
    ∃ t, exec (.pruneEnter stage) s = .next t ∧
      t.dev.pwr.staged (stage.val + 1) = true ∧ t.dev.stage = max s.dev.stage (stage.val + 1) ∧
      t.dev.rd (stageCount (stage.val + 1)) = min (s.dev.rd (stageCount (stage.val + 1)) + 1) 255 ∧
      (∀ n < 32, t.dev.permitted s.mem n = false → t.dev.conducts s.mem n = false) ∧
      t.dev.clk = s.dev.clk ∧ t.mem = s.mem ∧ t.pending = s.pending) ∧
  (∀ (s : State),
    Settled s →
    s.dev.powered = true →
    s.dev.pwr.p1 = false →
    ∀ z ∈ s.dev.rcd.urgent ++ s.dev.rcd.staging, z.mono ≠ s.dev.rcd.monoBase + 10 * s.dev.clk →
    ∃ t, exec (.pruneEnter 0) s = .next t ∧
      t.dev.pwr = { s.dev.pwr with p1 := true } ∧
      (∃ y, (y.src = 14 ∧ y.code = 2 ∧ y.data.take 1 = [1#8]) ∧
        (s.dev.pwr.sup = .running → s.dev.rcd.staging.length + s.dev.rcd.urgent.length < 1024 →
          t.dev.rcd.staging = s.dev.rcd.staging ++ [y])) ∧
      Frame [PWR_CNT.P1] [.pwr, .chn, .rcd] s t) ∧
  (∀ (s : State),
    Settled s →
    s.dev.powered = true →
    s.dev.alive = true →
    s.dev.pwr.p2 = false →
    ∃ t, exec (.pruneEnter 1) s = .next t ∧
      (t.dev.openSessions.length ≤ 8 ∧ ∀ k ∈ t.dev.openSessions, (t.dev.sess k).path ≠ .eth1 ∧ (t.dev.sess k).path ≠ .can1) ∧
      t.dev.on NET_STATUS.ETH1_IDLE = true ∧ t.dev.on NET_STATUS.CAN1_IDLE = true ∧
      (∀ k, k ∉ s.dev.openSessions → t.dev.sess k = s.dev.sess k) ∧
      t.dev.nv = s.dev.nv ∧ t.dev.seq = s.dev.seq ∧ t.dev.saf = s.dev.saf ∧ t.dev.time = s.dev.time) ∧
  (∀ (s : State),
    Settled s →
    s.dev.powered = true →
    s.dev.alive = true →
    s.dev.pwr.p3 = false →
    s.dev.pwr.p4 = false →
    ∃ t, exec (.pruneEnter 2) s = .next t ∧
      (∀ w < 8, ¬ (2 ≤ t.dev.strState w ∧ t.dev.strState w ≤ 5)) ∧
      (∀ w < 8, s.dev.strState w = 6 → t.dev.strState w = 6) ∧
      t.dev.saf = s.dev.saf ∧ t.dev.time = s.dev.time ∧ t.dev.net = s.dev.net ∧ t.dev.lgr = s.dev.lgr) ∧
  (∀ (s : State),
    Settled s →
    s.dev.powered = true →
    s.dev.alive = true →
    s.dev.pwr.p4 = false →
    ∃ t, exec (.pruneEnter 3) s = .next t ∧
      (∀ k < 64, t.dev.sess k = Sess.free) ∧
      t.dev.rcd.staging = [] ∧ t.dev.rcd.urgent = [] ∧
      (∀ k < 8, tget 0 t.dev.lgr.storedChg k = s.dev.energyChg k ∧ tget 0 t.dev.lgr.storedDis k = s.dev.energyDis k) ∧
      t.dev.seq = s.dev.seq ∧ t.dev.saf = s.dev.saf ∧ t.dev.time = s.dev.time) ∧
  (∀ (stage : Fin 4) (s : State),
    Settled s →
    s.dev.powered = true →
    s.dev.pwr.staged (stage.val + 1) = true →
    s.dev.pwr.calWait = false →
    ∃ t, exec (.pruneExit stage) s = .next t ∧
      t.dev.pwr.staged (stage.val + 1) = false ∧
      (∀ k, 1 ≤ k → k ≤ 4 → k ≠ stage.val + 1 → t.dev.pwr.staged k = s.dev.pwr.staged k) ∧
      (3 ≤ s.dev.stage → t.dev.stage ≤ 2 → t.dev.pwr.recovEnd = some (s.dev.clk + 6000000000)) ∧
      (s.dev.stage < 3 ∨ 2 < t.dev.stage → t.dev.pwr.recovEnd = s.dev.pwr.recovEnd) ∧
      (t.dev.stage ≤ 1 → t.dev.on NET_STATUS.ETH1_IDLE = false ∧ t.dev.on NET_STATUS.CAN1_IDLE = false) ∧
      Frame [NET_STATUS.ETH1_IDLE, NET_STATUS.CAN1_IDLE] [.pwr, .rcd] s t)

/-- START_UP, PLL_RELOCK, TRANSPORT_EXIT, the release of the channels and the end of the start-up sequence, in the cases
named. START_UP from off and PLL_RELOCK from the clock hold, the transport flag clear, and TRANSPORT_EXIT from sleep
with the charger present and an input of 18.0 V or more, start the module: its supervisor runs, Prune 0, clock 0; the
cause is the one kept, 4 and 5, and the starts are counted, saturating; the images are as the selection of R373 leaves
them; no session is open and no function is in RUN; the retained safety state, the aux contacts, the wear, the
commission and transport flags stand; no OUT channel conducts and its short and overload latches stand; no coil is
commanded; nothing is sent. START_UP with the transport flag, and no charger or both inputs below 18.0 V, sleeps on
with nothing else changed. The release lets every OUT channel wait for its turn, a CONTACTOR channel excepted, and
leaves it otherwise as it was. The end of the sequence, the supervisor running and no calibration waiting, makes the
module awake at phase 0 of cycle 0 with the transport flag clear and the safety reset armed; the state is COMMISSION
without an image or with the commission flag and neither latch, SAFE nor DEGRADED, THERMAL_LATCH with the latch, SAFE
where SAFE or DEGRADED was retained without it; images, queue, clock, load context and cue list stand. Derived from
R92, R254, R371, R372, R373, R374, R378, R379. The model's choices and readings it takes in: log entries 5, 66, 68,
72, 79, 80, 82, 85. -/
def Obligations.StartsRunInTheirOrder : Prop :=
  (∀ (supply : Supply) (bankA bankB : Bool) (s : State),
    Settled s →
    s.dev.pwr.boot = .off →
    s.dev.nv.transport = false →
    ∃ t, exec (.startUp supply bankA bankB) s = .next t ∧
      t.dev.pwr.boot = .started ∧ t.dev.pwr.sup = .running ∧ t.dev.pwr.inTransport = false ∧ t.dev.stage = 0 ∧ t.dev.clk = 0 ∧
      t.dev.nv.cause = s.dev.pwr.why ∧ t.dev.nv.starts = min 0xFFFFFF (s.dev.nv.starts + 1) ∧
      t.mem = s.mem.start bankA bankB s.dev ∧
      (∀ k, t.dev.sess k = Sess.free) ∧
      (∀ f : Func, t.dev.fnState f.num = 0) ∧
      t.dev.saf.ret = s.dev.saf.ret ∧ t.dev.seq.aux = s.dev.seq.aux ∧ t.dev.nv.wear = s.dev.nv.wear ∧
        t.dev.nv.commission = s.dev.nv.commission ∧ t.dev.nv.transport = s.dev.nv.transport ∧
      (∀ n < 32, t.dev.conducts t.mem n = false ∧ (t.dev.chan n).short = (s.dev.chan n).short ∧ (t.dev.chan n).excess = (s.dev.chan n).excess) ∧
      (∀ w, t.dev.coil w = false) ∧
      t.pending = s.pending ∧ t.dev.out = s.dev.out) ∧
  (∀ (supply : Supply) (bankA bankB : Bool) (s : State),
    Settled s →
    s.dev.pwr.boot = .off →
    s.dev.nv.transport = true →
    supply.chgPresent = false ∨ (supply.auxA < 18000 ∧ supply.auxB < 18000) →
    ∃ t, exec (.startUp supply bankA bankB) s = .next t ∧
      t.dev.pwr = { s.dev.pwr with boot := .asleep, inTransport := true } ∧
      Frame [] [.pwr] s t) ∧
  (∀ (supply : Supply) (bankA bankB : Bool) (s : State),
    Settled s →
    s.dev.pwr.boot = .clockHold →
    s.dev.nv.transport = false →
    ∃ t, exec (.pllRelock supply bankA bankB) s = .next t ∧
      t.dev.pwr.boot = .started ∧ t.dev.pwr.sup = .running ∧ t.dev.pwr.inTransport = false ∧ t.dev.stage = 0 ∧ t.dev.clk = 0 ∧
      t.dev.nv.cause = 4 ∧ t.dev.nv.starts = min 0xFFFFFF (s.dev.nv.starts + 1) ∧
      t.mem = s.mem.start bankA bankB s.dev ∧
      (∀ k, t.dev.sess k = Sess.free) ∧
      (∀ f : Func, t.dev.fnState f.num = 0) ∧
      t.dev.saf.ret = s.dev.saf.ret ∧ t.dev.seq.aux = s.dev.seq.aux ∧ t.dev.nv.wear = s.dev.nv.wear ∧
        t.dev.nv.commission = s.dev.nv.commission ∧ t.dev.nv.transport = s.dev.nv.transport ∧
      (∀ n < 32, t.dev.conducts t.mem n = false ∧ (t.dev.chan n).short = (s.dev.chan n).short ∧ (t.dev.chan n).excess = (s.dev.chan n).excess) ∧
      (∀ w, t.dev.coil w = false) ∧
      t.pending = s.pending ∧ t.dev.out = s.dev.out) ∧
  (∀ (supply : Supply) (bankA bankB : Bool) (s : State),
    Settled s →
    s.dev.pwr.boot = .asleep →
    supply.chgPresent = true →
    18000 ≤ supply.auxA ∨ 18000 ≤ supply.auxB →
    ∃ t, exec (.transportExit supply bankA bankB) s = .next t ∧
      t.dev.pwr.boot = .started ∧ t.dev.pwr.sup = .running ∧ t.dev.pwr.inTransport = false ∧ t.dev.stage = 0 ∧ t.dev.clk = 0 ∧
      t.dev.nv.cause = 5 ∧ t.dev.nv.starts = min 0xFFFFFF (s.dev.nv.starts + 1) ∧
      t.mem = s.mem.start bankA bankB s.dev ∧
      (∀ k, t.dev.sess k = Sess.free) ∧
      (∀ f : Func, t.dev.fnState f.num = 0) ∧
      t.dev.saf.ret = s.dev.saf.ret ∧ t.dev.seq.aux = s.dev.seq.aux ∧ t.dev.nv.wear = s.dev.nv.wear ∧
        t.dev.nv.commission = s.dev.nv.commission ∧ t.dev.nv.transport = s.dev.nv.transport ∧
      (∀ n < 32, t.dev.conducts t.mem n = false ∧ (t.dev.chan n).short = (s.dev.chan n).short ∧ (t.dev.chan n).excess = (s.dev.chan n).excess) ∧
      (∀ w, t.dev.coil w = false) ∧
      t.pending = s.pending ∧ t.dev.out = s.dev.out) ∧
  (∀ (s : State),
    Settled s →
    s.dev.pwr.boot = .started →
    ∃ t, exec (.channelRelease) s = .next t ∧
      t.dev.pwr = { s.dev.pwr with boot := .released } ∧
      (∀ n < 32, t.dev.chan n = { s.dev.chan n with wait := decide (s.mem.img.chanRole n ≠ 1) }) ∧
      Frame [] [.pwr, .chn] s t) ∧
  (∀ (s : State),
    Settled s →
    s.dev.pwr.boot = .released →
    s.dev.pwr.sup = .running →
    s.dev.pwr.calWait = false →
    ∃ t, exec (.startUpEnd) s = .next t ∧
      t.dev.pwr = { s.dev.pwr with boot := .awake } ∧
      t.dev.phase.cycle = 0 ∧ t.dev.phase.start = 0 ∧ t.dev.phase.k = 0 ∧
      t.dev.nv.transport = false ∧ t.dev.nv.cause = s.dev.nv.cause ∧ t.dev.rd SAF_RESET.ARMED = 1 ∧
      ((s.mem.hasImage = false ∨ s.dev.nv.commission = true) → s.dev.pwr.inTransport = false → s.dev.thw.latch = false → s.dev.saf.ret.safe = false →
        s.dev.saf.ret.degraded = false → t.dev.mode t.mem = .commission) ∧
      (s.dev.pwr.inTransport = false → t.dev.thw.latch = true → t.dev.mode t.mem = .thermalLatch) ∧
      (s.dev.pwr.inTransport = false → s.dev.thw.latch = false → s.dev.saf.ret.safe = true ∨ s.dev.saf.ret.degraded = true → t.dev.mode t.mem = .safe) ∧
      t.mem = s.mem ∧ t.pending = s.pending ∧ t.dev.clk = s.dev.clk ∧ t.dev.load = s.dev.load ∧ t.dev.cue = s.dev.cue)

/-- ENTER_COMMISSION, LEAVE_COMMISSION and their refusals, in the cases named. For a session of a Maintainer or Safety
Steward, with an image, every string open and the state outside TRANSPORT, THERMAL_LATCH and SAFE: ENTER with the flag
clear and the state not DEGRADED sets it, the state is COMMISSION, and it is recorded; with the flag set it is
answered OK and nothing changes; LEAVE with the flag set, SAF and REC in RUN and DEGRADED not retained clears it, the
state is STANDBY, and it is recorded. Another role is refused with reason 1, of those roles a state among the three,
and for LEAVE the want of an image, with 7, a string not open with 3, and LEAVE with SAF or REC stopped with 5,
PWR_RESULT naming reason and command and nothing else changing. Derived from R375, R383. The model's choices and
readings it takes in: log entries 12, 13, 22, 37. -/
def Obligations.CommissioningIsEnteredAndLeft : Prop :=
  (∀ (sid : Sid) (s : State),
    Settled s →
    Heard sid s →
    s.mem.hasImage = true →
    (s.dev.sess sid.val).role = .maintainer ∨ (s.dev.sess sid.val).role = .safetySteward →
    s.dev.mode s.mem ∉ [.transport, .thermalLatch, .safe] →
    s.dev.allOpen = true →
    s.dev.nv.commission = false →
    s.dev.mode s.mem ≠ .degraded →
    ∃ t, exec (.enterCommission sid) s = .next t ∧
      Answered sid wrOk id s t ∧
      t.dev.nv = { s.dev.nv with commission := true } ∧ t.dev.mode t.mem = .commission ∧
      Recorded [(recCommissionEnter, [])] s t ∧
      Frame [] [.out, .net, .nv, .rcd] s t) ∧
  (∀ (sid : Sid) (s : State),
    Settled s →
    Heard sid s →
    s.mem.hasImage = true →
    (s.dev.sess sid.val).role = .maintainer ∨ (s.dev.sess sid.val).role = .safetySteward →
    s.dev.mode s.mem ∉ [.transport, .thermalLatch, .safe] →
    s.dev.allOpen = true →
    s.dev.nv.commission = true →
    ∃ t, exec (.enterCommission sid) s = .next t ∧
      Answered sid wrOk id s t ∧
      Frame [] [.out, .net] s t) ∧
  (∀ (sid : Sid) (s : State),
    Settled s →
    Heard sid s →
    s.mem.hasImage = true →
    (s.dev.sess sid.val).role = .maintainer ∨ (s.dev.sess sid.val).role = .safetySteward →
    s.dev.mode s.mem ∉ [.transport, .thermalLatch, .safe] →
    s.dev.allOpen = true →
    s.dev.nv.commission = true →
    s.dev.fnState Func.saf.num = 1 ∧ s.dev.fnState Func.recorder.num = 1 →
    s.dev.saf.ret.degraded = false →
    ∃ t, exec (.leaveCommission sid) s = .next t ∧
      Answered sid wrOk id s t ∧
      t.dev.nv = { s.dev.nv with commission := false } ∧ t.dev.mode t.mem = .standby ∧
      Recorded [(recCommissionExit, [])] s t ∧
      Frame [] [.out, .net, .nv, .rcd] s t) ∧
  (∀ (sid : Sid) (s : State),
    Settled s →
    Heard sid s →
    s.mem.hasImage = true →
    ¬ ((s.dev.sess sid.val).role = .maintainer ∨ (s.dev.sess sid.val).role = .safetySteward) →
    ∃ t, exec (.enterCommission sid) s = .next t ∧
      Answered sid (wrRefused 1 PWR_CTRL.CMD.addr) id s t ∧
      t.dev.rd PWR_RESULT.REASON = 1 ∧ t.dev.rd PWR_RESULT.CMD = 2 ∧
      Frame [PWR_RESULT.REASON, PWR_RESULT.CMD] [.out, .net] s t) ∧
  (∀ (sid : Sid) (s : State),
    Settled s →
    Heard sid s →
    ¬ ((s.dev.sess sid.val).role = .maintainer ∨ (s.dev.sess sid.val).role = .safetySteward) →
    ∃ t, exec (.leaveCommission sid) s = .next t ∧
      Answered sid (wrRefused 1 PWR_CTRL.CMD.addr) id s t ∧
      t.dev.rd PWR_RESULT.REASON = 1 ∧ t.dev.rd PWR_RESULT.CMD = 3 ∧
      Frame [PWR_RESULT.REASON, PWR_RESULT.CMD] [.out, .net] s t) ∧
  (∀ (sid : Sid) (s : State),
    Settled s →
    Heard sid s →
    s.mem.hasImage = true →
    (s.dev.sess sid.val).role = .maintainer ∨ (s.dev.sess sid.val).role = .safetySteward →
    s.dev.mode s.mem ∈ [.transport, .thermalLatch, .safe] →
    ∃ t, exec (.enterCommission sid) s = .next t ∧
      Answered sid (wrRefused 7 PWR_CTRL.CMD.addr) id s t ∧
      t.dev.rd PWR_RESULT.REASON = 7 ∧ t.dev.rd PWR_RESULT.CMD = 2 ∧
      Frame [PWR_RESULT.REASON, PWR_RESULT.CMD] [.out, .net] s t) ∧
  (∀ (sid : Sid) (s : State),
    Settled s →
    Heard sid s →
    (s.dev.sess sid.val).role = .maintainer ∨ (s.dev.sess sid.val).role = .safetySteward →
    s.dev.mode s.mem ∈ [.transport, .thermalLatch, .safe] ∨ s.mem.hasImage = false →
    ∃ t, exec (.leaveCommission sid) s = .next t ∧
      Answered sid (wrRefused 7 PWR_CTRL.CMD.addr) id s t ∧
      t.dev.rd PWR_RESULT.REASON = 7 ∧ t.dev.rd PWR_RESULT.CMD = 3 ∧
      Frame [PWR_RESULT.REASON, PWR_RESULT.CMD] [.out, .net] s t) ∧
  (∀ (sid : Sid) (s : State),
    Settled s →
    Heard sid s →
    s.mem.hasImage = true →
    (s.dev.sess sid.val).role = .maintainer ∨ (s.dev.sess sid.val).role = .safetySteward →
    s.dev.mode s.mem ∉ [.transport, .thermalLatch, .safe] →
    s.dev.allOpen = false →
    ∃ t, exec (.enterCommission sid) s = .next t ∧
      Answered sid (wrRefused 3 PWR_CTRL.CMD.addr) id s t ∧
      t.dev.rd PWR_RESULT.REASON = 3 ∧ t.dev.rd PWR_RESULT.CMD = 2 ∧
      Frame [PWR_RESULT.REASON, PWR_RESULT.CMD] [.out, .net] s t) ∧
  (∀ (sid : Sid) (s : State),
    Settled s →
    Heard sid s →
    s.mem.hasImage = true →
    (s.dev.sess sid.val).role = .maintainer ∨ (s.dev.sess sid.val).role = .safetySteward →
    s.dev.mode s.mem ∉ [.transport, .thermalLatch, .safe] →
    s.dev.allOpen = false →
    ∃ t, exec (.leaveCommission sid) s = .next t ∧
      Answered sid (wrRefused 3 PWR_CTRL.CMD.addr) id s t ∧
      t.dev.rd PWR_RESULT.REASON = 3 ∧ t.dev.rd PWR_RESULT.CMD = 3 ∧
      Frame [PWR_RESULT.REASON, PWR_RESULT.CMD] [.out, .net] s t) ∧
  (∀ (sid : Sid) (s : State),
    Settled s →
    Heard sid s →
    s.mem.hasImage = true →
    (s.dev.sess sid.val).role = .maintainer ∨ (s.dev.sess sid.val).role = .safetySteward →
    s.dev.mode s.mem ∉ [.transport, .thermalLatch, .safe] →
    s.dev.allOpen = true →
    s.dev.fnState Func.saf.num = 0 ∨ s.dev.fnState Func.recorder.num = 0 →
    ∃ t, exec (.leaveCommission sid) s = .next t ∧
      Answered sid (wrRefused 5 PWR_CTRL.CMD.addr) id s t ∧
      t.dev.rd PWR_RESULT.REASON = 5 ∧ t.dev.rd PWR_RESULT.CMD = 3 ∧
      Frame [PWR_RESULT.REASON, PWR_RESULT.CMD] [.out, .net] s t)

/-- CALIBRATE, CALIBRATION_DUE, CAL_DONE, REFRESH, REFRESH_DUE and MRAM_REFRESH, in the cases named. CALIBRATE of a
Maintainer with an image, none active, at Prune 0 or 1 and with no PWRM outage, and the end of CAL_PERIOD outside
TRANSPORT under the same conditions, set CAL_ACTIVE; another role or no image is refused with reason 1, an active one
with 8, Prune 2 or deeper with 6. The end of an active calibration clears CAL_ACTIVE; passed, it is recorded, takes
the other coefficient slot and its age is 0 days; failed, CAL_FAIL is set and the item recorded. REFRESH of a
Maintainer with an image and none active sets REFRESH_ACTIVE, else it is refused with 1 or 8; REFRESH_DUE outside
TRANSPORT sets it and keeps it due. The end of an active refresh not paused by Prune 2, a mirror or a load clears it,
records 131,072 units or the units refreshed and failed, the main region being failed in that case, and its age is 0
days; a paused one does not end. Derived from R380, R381, R383. The model's choices and readings it takes in: log
entries 5, 12, 13, 22, 83, 87. -/
def Obligations.CalibrationAndRefreshRun : Prop :=
  (∀ (sid : Sid) (s : State),
    Settled s →
    Heard sid s →
    s.mem.hasImage = true →
    (s.dev.sess sid.val).role = .maintainer →
    s.dev.on PWR_STATUS.CAL_ACTIVE = false →
    s.dev.stage ≤ 1 →
    s.dev.outage bedPwrm = false →
    ∃ t, exec (.calibrate sid) s = .next t ∧
      Answered sid wrOk id s t ∧
      t.dev.on PWR_STATUS.CAL_ACTIVE = true ∧ t.dev.pwr = { s.dev.pwr with calWait := false } ∧
      Frame [PWR_STATUS.CAL_ACTIVE] [.out, .net, .pwr] s t) ∧
  (∀ (sid : Sid) (s : State),
    Settled s →
    Heard sid s →
    s.mem.hasImage = false ∨ (s.dev.sess sid.val).role ≠ .maintainer →
    ∃ t, exec (.calibrate sid) s = .next t ∧
      Answered sid (wrRefused 1 PWR_CTRL.CMD.addr) id s t ∧
      t.dev.rd PWR_RESULT.REASON = 1 ∧ t.dev.rd PWR_RESULT.CMD = 4 ∧
      Frame [PWR_RESULT.REASON, PWR_RESULT.CMD] [.out, .net] s t) ∧
  (∀ (sid : Sid) (s : State),
    Settled s →
    Heard sid s →
    s.mem.hasImage = true →
    (s.dev.sess sid.val).role = .maintainer →
    s.dev.on PWR_STATUS.CAL_ACTIVE = true →
    ∃ t, exec (.calibrate sid) s = .next t ∧
      Answered sid (wrRefused 8 PWR_CTRL.CMD.addr) id s t ∧
      t.dev.rd PWR_RESULT.REASON = 8 ∧ t.dev.rd PWR_RESULT.CMD = 4 ∧
      Frame [PWR_RESULT.REASON, PWR_RESULT.CMD] [.out, .net] s t) ∧
  (∀ (sid : Sid) (s : State),
    Settled s →
    Heard sid s →
    s.mem.hasImage = true →
    (s.dev.sess sid.val).role = .maintainer →
    s.dev.on PWR_STATUS.CAL_ACTIVE = false →
    2 ≤ s.dev.stage →
    ∃ t, exec (.calibrate sid) s = .next t ∧
      Answered sid (wrRefused 6 PWR_CTRL.CMD.addr) id s t ∧
      t.dev.rd PWR_RESULT.REASON = 6 ∧ t.dev.rd PWR_RESULT.CMD = 4 ∧
      Frame [PWR_RESULT.REASON, PWR_RESULT.CMD] [.out, .net] s t) ∧
  (∀ (s : State),
    Settled s →
    s.dev.alive = true →
    s.dev.pwr.inTransport = false →
    s.dev.on PWR_STATUS.CAL_ACTIVE = false →
    s.dev.stage ≤ 1 →
    s.dev.outage bedPwrm = false →
    ∃ t, exec (.calibrationDue) s = .next t ∧
      t.dev.on PWR_STATUS.CAL_ACTIVE = true ∧
      Frame [PWR_STATUS.CAL_ACTIVE] [.pwr] s t) ∧
  (∀ (s : State),
    Settled s →
    s.dev.alive = true →
    s.dev.on PWR_STATUS.CAL_ACTIVE = true →
    ∃ t, exec (.calDone none) s = .next t ∧
      t.dev.on PWR_STATUS.CAL_ACTIVE = false ∧
      t.dev.nv = { s.dev.nv with calSlot := 1 - s.dev.nv.calSlot, calS := -(s.dev.clkS : Int) } ∧ t.dev.days t.dev.nv.calS = 0 ∧
      Recorded [(recCalDone, [])] s t ∧
      Frame [PWR_STATUS.CAL_ACTIVE] [.nv, .rcd] s t) ∧
  (∀ (item : Byte) (s : State),
    Settled s →
    s.dev.alive = true →
    s.dev.on PWR_STATUS.CAL_ACTIVE = true →
    ∃ t, exec (.calDone (some item)) s = .next t ∧
      t.dev.on PWR_STATUS.CAL_ACTIVE = false ∧ t.dev.rd PWR_STATUS.CAL_FAIL = 1 ∧
      Recorded [(recCalFail, [item])] s t ∧
      Frame [PWR_STATUS.CAL_ACTIVE, PWR_STATUS.CAL_FAIL] [.rcd] s t) ∧
  (∀ (sid : Sid) (s : State),
    Settled s →
    Heard sid s →
    s.mem.hasImage = true →
    (s.dev.sess sid.val).role = .maintainer →
    s.dev.on PWR_STATUS.REFRESH_ACTIVE = false →
    ∃ t, exec (.refresh sid) s = .next t ∧
      Answered sid wrOk id s t ∧
      t.dev.on PWR_STATUS.REFRESH_ACTIVE = true ∧
      Frame [PWR_STATUS.REFRESH_ACTIVE] [.out, .net] s t) ∧
  (∀ (sid : Sid) (s : State),
    Settled s →
    Heard sid s →
    s.mem.hasImage = false ∨ (s.dev.sess sid.val).role ≠ .maintainer →
    ∃ t, exec (.refresh sid) s = .next t ∧
      Answered sid (wrRefused 1 PWR_CTRL.CMD.addr) id s t ∧
      t.dev.rd PWR_RESULT.REASON = 1 ∧ t.dev.rd PWR_RESULT.CMD = 5 ∧
      Frame [PWR_RESULT.REASON, PWR_RESULT.CMD] [.out, .net] s t) ∧
  (∀ (sid : Sid) (s : State),
    Settled s →
    Heard sid s →
    s.mem.hasImage = true →
    (s.dev.sess sid.val).role = .maintainer →
    s.dev.on PWR_STATUS.REFRESH_ACTIVE = true →
    ∃ t, exec (.refresh sid) s = .next t ∧
      Answered sid (wrRefused 8 PWR_CTRL.CMD.addr) id s t ∧
      t.dev.rd PWR_RESULT.REASON = 8 ∧ t.dev.rd PWR_RESULT.CMD = 5 ∧
      Frame [PWR_RESULT.REASON, PWR_RESULT.CMD] [.out, .net] s t) ∧
  (∀ (s : State),
    Settled s →
    s.dev.alive = true →
    s.dev.pwr.inTransport = false →
    ∃ t, exec (.refreshDue) s = .next t ∧
      t.dev.nv = { s.dev.nv with refreshDue := true } ∧ t.dev.on PWR_STATUS.REFRESH_ACTIVE = true ∧
      Frame [PWR_STATUS.REFRESH_ACTIVE] [.nv] s t) ∧
  (∀ (s : State),
    Settled s →
    s.dev.alive = true →
    s.dev.on PWR_STATUS.REFRESH_ACTIVE = true →
    s.dev.stage ≤ 1 ∧ s.mem.redo = none ∧ (s.dev.ldState = ldIdle ∨ s.dev.ldState = ldFailed) →
    ∃ t, exec (.mramRefresh 0) s = .next t ∧
      t.dev.on PWR_STATUS.REFRESH_ACTIVE = false ∧
      t.dev.nv = { s.dev.nv with refreshDue := false, refreshS := -(s.dev.clkS : Int) } ∧ t.dev.days t.dev.nv.refreshS = 0 ∧
      Recorded [(recMramRefresh, leBytes 4 131072 ++ leBytes 4 0)] s t ∧
      Frame [PWR_STATUS.REFRESH_ACTIVE] [.nv, .rcd] s t) ∧
  (∀ (failed : Nat) (s : State),
    Settled s →
    s.dev.alive = true →
    s.dev.on PWR_STATUS.REFRESH_ACTIVE = true →
    s.dev.stage ≤ 1 ∧ s.mem.redo = none ∧ (s.dev.ldState = ldIdle ∨ s.dev.ldState = ldFailed) →
    0 < failed →
    s.dev.on REC_STATUS.MAIN_FAILED = true →
    ∃ t, exec (.mramRefresh failed) s = .next t ∧
      t.dev.on PWR_STATUS.REFRESH_ACTIVE = false ∧ t.dev.nv.refreshDue = false ∧
      Recorded [(recMramRefresh, leBytes 4 (131072 - min 131072 failed) ++ leBytes 4 (min 131072 failed))] s t ∧
      Frame [PWR_STATUS.REFRESH_ACTIVE] [.nv, .rcd] s t) ∧
  (∀ (failed : Nat) (s : State),
    Settled s →
    ¬ (s.dev.stage ≤ 1 ∧ s.mem.redo = none ∧ (s.dev.ldState = ldIdle ∨ s.dev.ldState = ldFailed)) →
    ∃ t, exec (.mramRefresh failed) s = .next t ∧
      Frame [] [] s t)

/-- TRANSPORT, its refusals and TRANSPORT_SLEEP, in the cases named. Of a session no transport is in progress for.
TRANSPORT of a Maintainer with an image, no string beyond OPEN, no load, switch or mirror pending and at Prune 0 or 1:
where SERVICE_EN is found asserted, a free value of the model, the module is in TRANSPORT with its flag written, no
session, an empty staging, no conducting OUT channel, no commanded coil and every used port DOWN, the images and the
queue as they were; where it is found off, it is refused with reason 2. Another role or no image is refused with 1; a
string not open, a pending load and a deeper Prune with 3, 4 and 6 in this order, or 2 where the pin is found off.
TRANSPORT_SLEEP in TRANSPORT puts the module to sleep and changes nothing else. Derived from R377, R378, R383. The
model's choices and readings it takes in: log entries 22, 83, 86. -/
def Obligations.TransportIsEnteredAndSleeps : Prop :=
  (∀ (sid : Sid) (s : State), Settled s → Heard sid s → s.dev.pwr.leaving = false → s.mem.hasImage = true →
    (s.dev.sess sid.val).role = .maintainer → strings.any (fun w => decide (1 < s.dev.strState w)) = false → s.dev.rd IMG_LOAD_STATUS.OWNER = 0 ∧ s.dev.ldState = ldIdle ∧ s.mem.redo = none → s.dev.stage ≤ 1 →
    ∃ t, exec (.transport sid) s = .next t ∧
      (s.dev.drawBool.1 = true →
        t.dev.mode t.mem = .transport ∧ t.dev.nv.transport = true ∧ (∀ k < 64, t.dev.sess k = Sess.free) ∧
        t.dev.rcd.staging = [] ∧ t.dev.rcd.urgent = [] ∧ (∀ n < 32, t.dev.conducts t.mem n = false) ∧
        (∀ c < 27, t.dev.coil c = false) ∧ (∀ n ∈ controllers, s.dev.portUsed n = true → t.dev.link n = 1) ∧ t.mem = s.mem ∧ t.pending = s.pending) ∧
      (s.dev.drawBool.1 = false →
        Answered sid (wrRefused 2 PWR_CTRL.CMD.addr) id s t ∧ t.dev.rd PWR_RESULT.REASON = 2 ∧
        Frame [PWR_RESULT.REASON, PWR_RESULT.CMD] [.out, .net] s t)) ∧
  (∀ (sid : Sid) (s : State),
    Settled s →
    Heard sid s →
    s.dev.pwr.leaving = false →
    s.mem.hasImage = false ∨ (s.dev.sess sid.val).role ≠ .maintainer →
    ∃ t, exec (.transport sid) s = .next t ∧
      Answered sid (wrRefused 1 PWR_CTRL.CMD.addr) id s t ∧
      t.dev.rd PWR_RESULT.REASON = 1 ∧ t.dev.rd PWR_RESULT.CMD = 1 ∧
      Frame [PWR_RESULT.REASON, PWR_RESULT.CMD] [.out, .net] s t) ∧
  (∀ (sid : Sid) (reason : Nat) (s : State), Settled s → Heard sid s → s.dev.pwr.leaving = false → s.mem.hasImage = true →
    (s.dev.sess sid.val).role = .maintainer →
    (strings.any (fun w => decide (1 < s.dev.strState w)) = true ∧ reason = 3 ∨ strings.any (fun w => decide (1 < s.dev.strState w)) = false ∧ ¬ (s.dev.rd IMG_LOAD_STATUS.OWNER = 0 ∧ s.dev.ldState = ldIdle ∧ s.mem.redo = none) ∧ reason = 4 ∨ strings.any (fun w => decide (1 < s.dev.strState w)) = false ∧ (s.dev.rd IMG_LOAD_STATUS.OWNER = 0 ∧ s.dev.ldState = ldIdle ∧ s.mem.redo = none) ∧ 2 ≤ s.dev.stage ∧ reason = 6) →
    ∃ t, exec (.transport sid) s = .next t ∧
      Answered sid (wrRefused (if s.dev.drawBool.1 = true then reason else 2) PWR_CTRL.CMD.addr) id s t ∧
      t.dev.rd PWR_RESULT.REASON = (if s.dev.drawBool.1 = true then reason else 2) ∧
      Frame [PWR_RESULT.REASON, PWR_RESULT.CMD] [.out, .net] s t) ∧
  (∀ (s : State),
    Settled s →
    s.dev.awake = true →
    s.dev.pwr.inTransport = true →
    ∃ t, exec (.transportSleep) s = .next t ∧
      t.dev.pwr = { s.dev.pwr with boot := .asleep } ∧
      Frame [] [.pwr] s t)

/-- A step carries out the command at the front of the queue. For every command c and state s, a step of s with c at the
front of its queue is exec of c on s with the queue's rest. Derived from 01_architecture.md. -/
def Obligations.StepRunsTheFrontCommand : Prop :=
  ∀ (c : Instr) (l : List Instr) (s : State), step { s with pending := c :: l } = exec c { s with pending := l }

/-- On an empty queue one clk passes once the module is awake. On an empty queue an awake module's local clock and its
domains advance by one clk, and nothing changes before the end of the start-up sequence. That time passes so is the
model's choice (log entry 2), which follows R4 and R291. Derived from R4, R290, R291. The model's choices and readings
it takes in: log entry 2. -/
def Obligations.AnEmptyQueueLetsOneClkPass : Prop :=
  ∀ s : State, s.pending = [] →
    ∃ t, step s = .next t ∧ t.pending = [] ∧ t.mem = s.mem ∧ t.dev.clk = (if s.dev.awake = true then s.dev.clk + 1 else s.dev.clk) ∧
      (s.dev.awake = false → t = s) ∧
      ∀ p : Part, p ∉ [.clk, .time] → p.same s t

/-- The reset state holds the reset values, no image and no records, and meets the invariant. At reset every field reads
its reset value (DESIGN CHOICE of log entry 3 for the fields whose reset value the spec leaves to the pin, the image
or MRAM), no session is open, no function runs, the MRAM copies list nothing and no image runs, both regions of the
recorder are empty, the commission flag is set (R341, R375), no command waits; and the invariants that every step
keeps hold. Derived from R341, R375. The model's choices and readings it takes in: log entries 1, 3, 4. -/
def Obligations.ResetIsTheModuleFromTheFactory : Prop :=
  (∀ f : Fld, State.reset.dev.rd f = f.rst) ∧ State.reset.pending = [] ∧ (∀ k, State.reset.dev.sess k = Sess.free) ∧
    (∀ f : Func, State.reset.dev.fnState f.num = 0) ∧ State.reset.mem = ⟨[], [], [], [], 3, [], none⟩ ∧
    State.reset.dev.rcd.main = [] ∧ State.reset.dev.rcd.us = [] ∧ State.reset.dev.nv.commission = true ∧
    State.reset.dev.mode State.reset.mem = .commission ∧ Inv State.reset ∧ SeqOrdered State.reset

/-- Every step keeps the invariant: records numbered, MRAM copies canonical. For every state that meets the invariant (no
record waits for its SEQ, and the two Trellis copies, the two code copies and the table of active beds are in
canonical form, so that equal contents are equal data), every step, of every command or of an empty queue, answers a
next state that meets it. The form is the model's (log entry 1); the copies are those of R20 and R45. Derived from
R20, R45, R344. The model's choices and readings it takes in: log entry 1. -/
def Obligations.EveryStepKeepsRecordsNumberedAndMramCanonical : Prop :=
  ∀ s : State, Inv s → ∃ t, step s = .next t ∧ Inv t

/-- Every step keeps the waiting records in SEQ order, below the next SEQ. For every state in which the records that wait
for MRAM are in SEQ order, no two with one SEQ and all below the next SEQ, every step, of every command or of an empty
queue, answers a next state of which the same holds (R344, R350). Derived from R344, R350. The model's choices and
readings it takes in: log entry 12. -/
def Obligations.EveryStepKeepsSequenceNumbersApart : Prop :=
  ∀ s : State, Settled s → SeqOrdered s → ∃ t, step s = .next t ∧ SeqOrdered t

/-- Every command answers a next state, leaves the queue and, but for those listed, the MRAM copies. No command faults or
is refused in any state: each answers a next state with the queue as it was. Only register writes and requests, the
IMG page's commands, the switches, the mirror and the starts may change the MRAM copies (R20, R45, R46, R54, R56,
R58). Derived from R20, R45, R46, R54, R56, R58. The model's choices and readings it takes in: log entry 10. -/
def Obligations.EveryCommandAnswersANextState : Prop :=
  ∀ (c : Instr) (s : State), ∃ t, exec c s = .next t ∧ t.pending = s.pending ∧ (writesMram c = false → t.mem = s.mem)

/-- Reserved bits read 0, and values written to them are ignored. Two writes of a mapped register that differ in reserved
bits alone do the same in every state, as register writes and as unlisted commands. A read of a mapped register gives
0 in every reserved bit, where the words of wide values that the session keeps do, and keeps them so (R8, R10).
Formalises R8. -/
def Obligations.ReservedBitsReadZeroAndAreIgnored : Prop :=
  (∀ (sid : Sid) (addr : BitVec 16) (value other : Word) (l : List Fld) (s : State), regFields addr.toNat = some l →
    (∀ b < 32, ¬ Reserved l b → value.getLsbD b = other.getLsbD b) →
    exec (.registerWrite sid addr value) s = exec (.registerWrite sid addr other) s ∧
      exec (.badCommand sid addr value) s = exec (.badCommand sid addr other) s) ∧
  (∀ (c : Instr) (sid : Sid) (addr : BitVec 16) (l : List Fld) (s : State), c = .rcRead sid addr ∨ c = .wideValueRead sid addr →
    Settled s → Heard sid s → regFields addr.toNat = some l → KeptWords sid s →
    ∃ (t : State) (v : Word), exec c s = .next t ∧ t.dev.out = .value sid addr.toNat v :: s.dev.out ∧
      (∀ b < 32, Reserved l b → v.getLsbD b = false) ∧ KeptWords sid t)

/-- Below 9.0 V the supervisor is held in reset and every coil drops; a start follows. BROWN_OUT, V_IN below 9.0 V, holds
the supervisor in reset: no session is heard. Every gate is open: no channel and no coil conducts. START_UP, V_IN at
or above 10.0 V for 10 ms, ends the reset with a start (R370). Formalises R370. -/
def Obligations.SupplyLossOpensEverything : Prop :=
  (∀ (torn : Option (List Byte)) (s : State), Settled s → s.dev.pwr.boot ≠ .off →
    ∃ t, exec (.brownOut torn) s = .next t ∧ t.dev.pwr.boot = .off ∧ t.dev.alive = false ∧ (∀ sid, ¬ Heard sid t) ∧
      (∀ c < 27, t.dev.coil c = false) ∧ (∀ n ≤ 32, t.dev.conducts t.mem n = false) ∧ t.mem = s.mem ∧
      t.pending = s.pending ∧ t.dev.regs = s.dev.regs ∧ t.dev.saf = s.dev.saf ∧
      (torn = none → t.dev.rcd = s.dev.rcd ∧ t.dev.lgr = s.dev.lgr)) ∧
  (∀ (supply : Supply) (bankA bankB : Bool) (s : State), Settled s → s.dev.pwr.boot = .off → s.dev.nv.transport = false →
    ∃ t, exec (.startUp supply bankA bankB) s = .next t ∧ t.dev.pwr.boot = .started ∧ t.dev.nv.cause = s.dev.pwr.why ∧
      t.dev.nv.starts = min 0xFFFFFF (s.dev.nv.starts + 1))
end

