-- ==== Sys2Proof/Laws/Tbl.lean ====
section
/-! SUPPORT. The laws of sparse tables: what a read gives after a write, and that a write keeps the
canonical form. -/

namespace Sys2Proof.Machine

theorem look_place_same {α : Type} (l : List (Nat × α)) (k : Nat) (v : α) : look (place l k v) k = some v := by
  induction l with
  | nil => simp [place, look]
  | cons x l ih =>
    obtain ⟨j, w⟩ := x
    simp only [place]
    split
    · simp [look]
    · split
      · simp [look]
      · simp [look, *]

theorem look_place_other {α : Type} (l : List (Nat × α)) {k n : Nat} (v : α) (h : n ≠ k) :
    look (place l k v) n = look l n := by
  induction l with
  | nil => simp [place, look, h]
  | cons x l ih =>
    obtain ⟨j, w⟩ := x
    simp only [place]
    split
    · subst_vars; simp [look, h]
    · split
      · simp [look, h]
      · simp [look, ih]

theorem look_strike_same {α : Type} (l : List (Nat × α)) (k : Nat) : look (strike l k) k = none := by
  induction l with
  | nil => rfl
  | cons x l ih =>
    obtain ⟨j, w⟩ := x
    simp only [strike]
    split
    · exact ih
    · simp [look, *]

theorem look_strike_other {α : Type} (l : List (Nat × α)) {k n : Nat} (h : n ≠ k) :
    look (strike l k) n = look l n := by
  induction l with
  | nil => rfl
  | cons x l ih =>
    obtain ⟨j, w⟩ := x
    simp only [strike]
    split
    · subst_vars; simp [look, h, ih]
    · simp [look, ih]

@[simp] theorem tget_nil {α : Type} (d : α) (k : Nat) : tget d [] k = d := rfl

@[simp] theorem tget_tset_same {α : Type} [DecidableEq α] (d : α) (l : List (Nat × α)) (k : Nat) (v : α) :
    tget d (tset d l k v) k = v := by
  unfold tget tset
  split
  · simp [look_strike_same, *]
  · simp [look_place_same]

@[simp] theorem tget_tset_other {α : Type} [DecidableEq α] (d : α) (l : List (Nat × α)) {k n : Nat} (v : α)
    (h : n ≠ k) : tget d (tset d l k v) n = tget d l n := by
  unfold tget tset
  split
  · rw [look_strike_other l h]
  · rw [look_place_other l v h]

@[simp] theorem tget_tmod_same {α : Type} [DecidableEq α] (d : α) (l : List (Nat × α)) (k : Nat) (f : α → α) :
    tget d (tmod d l k f) k = f (tget d l k) := by
  simp [tmod]

@[simp] theorem tget_tmod_other {α : Type} [DecidableEq α] (d : α) (l : List (Nat × α)) {k n : Nat} (f : α → α)
    (h : n ≠ k) : tget d (tmod d l k f) n = tget d l n := by
  simp [tmod, h]

theorem canonFrom_mono {α : Type} [DecidableEq α] (d : α) {a b : Nat} (l : List (Nat × α)) (h : a ≤ b)
    (c : canonFrom d b l = true) : canonFrom d a l = true := by
  cases l with
  | nil => rfl
  | cons x l =>
    obtain ⟨j, w⟩ := x
    simp only [canonFrom, Bool.and_eq_true, decide_eq_true_eq] at *
    exact ⟨Nat.le_trans h c.1, c.2⟩

theorem canonFrom_place {α : Type} [DecidableEq α] {d : α} {b k : Nat} {v : α} (l : List (Nat × α)) (hb : b ≤ k)
    (hv : v ≠ d) (c : canonFrom d b l = true) : canonFrom d b (place l k v) = true := by
  induction l generalizing b with
  | nil => simp [place, canonFrom, hb, hv]
  | cons x l ih =>
    obtain ⟨j, w⟩ := x
    simp only [canonFrom, Bool.and_eq_true, decide_eq_true_eq] at c
    simp only [place]
    split
    · subst_vars; simp [canonFrom, hb, hv, c.2.2]
    · split
      · simp [canonFrom, hb, hv, c.2.1, c.2.2]; omega
      · simp only [canonFrom, Bool.and_eq_true, decide_eq_true_eq]
        exact ⟨c.1, c.2.1, ih (by omega) c.2.2⟩

theorem canonFrom_strike {α : Type} [DecidableEq α] {d : α} {b : Nat} (k : Nat) (l : List (Nat × α))
    (c : canonFrom d b l = true) : canonFrom d b (strike l k) = true := by
  induction l generalizing b with
  | nil => rfl
  | cons x l ih =>
    obtain ⟨j, w⟩ := x
    simp only [canonFrom, Bool.and_eq_true, decide_eq_true_eq] at c
    simp only [strike]
    split
    · exact ih (canonFrom_mono d l (by omega) c.2.2)
    · simp only [canonFrom, Bool.and_eq_true, decide_eq_true_eq]
      exact ⟨c.1, c.2.1, ih c.2.2⟩

/-- Every write keeps the canonical form. -/
theorem canon_tset {α : Type} [DecidableEq α] {d : α} {l : List (Nat × α)} (k : Nat) (v : α)
    (c : canon d l = true) : canon d (tset d l k v) = true := by
  unfold tset canon at *
  split
  · exact canonFrom_strike k l c
  · exact canonFrom_place l (Nat.zero_le k) (by assumption) c

@[simp] theorem canon_nil {α : Type} [DecidableEq α] (d : α) : canon d ([] : List (Nat × α)) = true := rfl

end Sys2Proof.Machine
end

