-- ==== Sys2Proof/Laws/Bytes.lean ====
section
/-! SUPPORT. The laws of byte images: what a byte, a slice and a word read after a store. -/

namespace Sys2Proof.Machine

@[simp] theorem leBytes_length (n v : Nat) : (leBytes n v).length = n := by
  induction n generalizing v with
  | zero => rfl
  | succ n ih => simp [leBytes, ih]

/-- A store changes the bytes it covers and no other. -/
theorem tget_store (i : Img) (a : Nat) (l : List Byte) (x : Nat) :
    tget 0 (Img.store i a l) x = if a ≤ x ∧ x < a + l.length then l.getD (x - a) 0 else tget 0 i x := by
  induction l generalizing i a with
  | nil => simp [Img.store] <;> omega
  | cons b l ih =>
    rw [Img.store, ih]
    by_cases h : x = a
    · subst h; simp <;> omega
    · rw [tget_tset_other _ _ _ h]
      by_cases g : a + 1 ≤ x
      · have e : x - a = (x - (a + 1)) + 1 := by omega
        have e1 : a + (l.length + 1) = a + 1 + l.length := by omega
        have e2 : a ≤ x := by omega
        rw [e]; simp only [List.getD_cons_succ, List.length_cons, e1, g, e2]
      · have n : ¬ a ≤ x := by omega
        simp [g, n]

theorem tget_store_other (i : Img) (a : Nat) (l : List Byte) {x : Nat} (h : x < a ∨ a + l.length ≤ x) :
    tget 0 (Img.store i a l) x = tget 0 i x := by
  rw [tget_store, if_neg]; omega

theorem u8_store_other (i : Img) (a : Nat) (l : List Byte) {x : Nat} (h : x < a ∨ a + l.length ≤ x) :
    Img.u8 (Img.store i a l) x = Img.u8 i x := by
  simp only [Img.u8, tget_store_other i a l h]

/-- A slice depends on its own bytes alone. -/
theorem slice_congr {i j : Img} {a : Nat} (n : Nat) (h : ∀ x, a ≤ x → x < a + n → tget 0 i x = tget 0 j x) :
    Img.slice i a n = Img.slice j a n := by
  induction n generalizing a with
  | zero => rfl
  | succ n ih =>
    simp only [Img.slice, Img.u8]
    rw [h a (by omega) (by omega), ih fun x hx hy => h x (by omega) (by omega)]

/-- The bytes of a stored value. -/
theorem tget_store_leBytes (i : Img) (a n v k : Nat) (h : k < n) :
    (tget 0 (Img.store i a (leBytes n v)) (a + k)).toNat = v / 256 ^ k % 256 := by
  rw [tget_store, if_pos (by simp; omega)]
  have e : a + k - a = k := by omega
  rw [e]
  clear e
  induction k generalizing n v with
  | zero =>
    obtain ⟨n, rfl⟩ : ∃ m, n = m + 1 := ⟨n - 1, by omega⟩
    simp [leBytes]
  | succ k ih =>
    obtain ⟨n, rfl⟩ : ∃ m, n = m + 1 := ⟨n - 1, by omega⟩
    simp only [leBytes, List.getD_cons_succ]
    rw [ih n (v / 256) (by omega), Nat.div_div_eq_div_mul, Nat.pow_succ, Nat.mul_comm]

/-- A stored 32-bit word reads back. -/
theorem u32_store (i : Img) (a v : Nat) (h : v < 2 ^ 32) : Img.u32 (Img.store i a (leBytes 4 v)) a = v := by
  have k0 := tget_store_leBytes i a 4 v 0 (by omega)
  have k1 := tget_store_leBytes i a 4 v 1 (by omega)
  have k2 := tget_store_leBytes i a 4 v 2 (by omega)
  have k3 := tget_store_leBytes i a 4 v 3 (by omega)
  simp only [Img.u32, Img.u16, Img.u8]
  simp only [Nat.add_zero] at k0
  have e : a + 2 + 1 = a + 3 := by omega
  rw [e, k0, k1, k2, k3]; omega

end Sys2Proof.Machine
end

