-- ==== Sys2Proof/Laws/State.lean ====
section
/-! SUPPORT. What each update of `Dev` leaves as it was and what it sets, one lemma per field per update, so that no
proof unfolds a record update. -/

namespace Sys2Proof.Machine

variable (d : Dev)

@[simp] theorem Dev.wr_regs (f : Fld) (v : Nat) : (d.wr f v).regs = d.regs.put f v := rfl
@[simp] theorem Dev.wr_clk (f : Fld) (v : Nat) : (d.wr f v).clk = d.clk := rfl
@[simp] theorem Dev.wr_free (f : Fld) (v : Nat) : (d.wr f v).free = d.free := rfl
@[simp] theorem Dev.wr_out (f : Fld) (v : Nat) : (d.wr f v).out = d.out := rfl
@[simp] theorem Dev.wr_topo (f : Fld) (v : Nat) : (d.wr f v).topo = d.topo := rfl
@[simp] theorem Dev.wr_nv (f : Fld) (v : Nat) : (d.wr f v).nv = d.nv := rfl
@[simp] theorem Dev.wr_pwr (f : Fld) (v : Nat) : (d.wr f v).pwr = d.pwr := rfl
@[simp] theorem Dev.wr_load (f : Fld) (v : Nat) : (d.wr f v).load = d.load := rfl
@[simp] theorem Dev.wr_net (f : Fld) (v : Nat) : (d.wr f v).net = d.net := rfl
@[simp] theorem Dev.wr_rcd (f : Fld) (v : Nat) : (d.wr f v).rcd = d.rcd := rfl
@[simp] theorem Dev.wr_lgr (f : Fld) (v : Nat) : (d.wr f v).lgr = d.lgr := rfl
@[simp] theorem Dev.wr_time (f : Fld) (v : Nat) : (d.wr f v).time = d.time := rfl
@[simp] theorem Dev.wr_cue (f : Fld) (v : Nat) : (d.wr f v).cue = d.cue := rfl
@[simp] theorem Dev.wr_ports (f : Fld) (v : Nat) : (d.wr f v).ports = d.ports := rfl
@[simp] theorem Dev.wr_phase (f : Fld) (v : Nat) : (d.wr f v).phase = d.phase := rfl
@[simp] theorem Dev.wr_acq (f : Fld) (v : Nat) : (d.wr f v).acq = d.acq := rfl
@[simp] theorem Dev.wr_est (f : Fld) (v : Nat) : (d.wr f v).est = d.est := rfl
@[simp] theorem Dev.wr_lrn (f : Fld) (v : Nat) : (d.wr f v).lrn = d.lrn := rfl
@[simp] theorem Dev.wr_lim (f : Fld) (v : Nat) : (d.wr f v).lim = d.lim := rfl
@[simp] theorem Dev.wr_seq (f : Fld) (v : Nat) : (d.wr f v).seq = d.seq := rfl
@[simp] theorem Dev.wr_thw (f : Fld) (v : Nat) : (d.wr f v).thw = d.thw := rfl
@[simp] theorem Dev.wr_bal (f : Fld) (v : Nat) : (d.wr f v).bal = d.bal := rfl
@[simp] theorem Dev.wr_chn (f : Fld) (v : Nat) : (d.wr f v).chn = d.chn := rfl
@[simp] theorem Dev.wr_saf (f : Fld) (v : Nat) : (d.wr f v).saf = d.saf := rfl

@[simp] theorem Dev.flag_regs (f : Fld) (b : Bool) : (d.flag f b).regs = d.regs.put f b.toNat := rfl
@[simp] theorem Dev.flag_clk (f : Fld) (b : Bool) : (d.flag f b).clk = d.clk := rfl
@[simp] theorem Dev.flag_free (f : Fld) (b : Bool) : (d.flag f b).free = d.free := rfl
@[simp] theorem Dev.flag_out (f : Fld) (b : Bool) : (d.flag f b).out = d.out := rfl
@[simp] theorem Dev.flag_topo (f : Fld) (b : Bool) : (d.flag f b).topo = d.topo := rfl
@[simp] theorem Dev.flag_nv (f : Fld) (b : Bool) : (d.flag f b).nv = d.nv := rfl
@[simp] theorem Dev.flag_pwr (f : Fld) (b : Bool) : (d.flag f b).pwr = d.pwr := rfl
@[simp] theorem Dev.flag_load (f : Fld) (b : Bool) : (d.flag f b).load = d.load := rfl
@[simp] theorem Dev.flag_net (f : Fld) (b : Bool) : (d.flag f b).net = d.net := rfl
@[simp] theorem Dev.flag_rcd (f : Fld) (b : Bool) : (d.flag f b).rcd = d.rcd := rfl
@[simp] theorem Dev.flag_lgr (f : Fld) (b : Bool) : (d.flag f b).lgr = d.lgr := rfl
@[simp] theorem Dev.flag_time (f : Fld) (b : Bool) : (d.flag f b).time = d.time := rfl
@[simp] theorem Dev.flag_cue (f : Fld) (b : Bool) : (d.flag f b).cue = d.cue := rfl
@[simp] theorem Dev.flag_ports (f : Fld) (b : Bool) : (d.flag f b).ports = d.ports := rfl
@[simp] theorem Dev.flag_phase (f : Fld) (b : Bool) : (d.flag f b).phase = d.phase := rfl
@[simp] theorem Dev.flag_acq (f : Fld) (b : Bool) : (d.flag f b).acq = d.acq := rfl
@[simp] theorem Dev.flag_est (f : Fld) (b : Bool) : (d.flag f b).est = d.est := rfl
@[simp] theorem Dev.flag_lrn (f : Fld) (b : Bool) : (d.flag f b).lrn = d.lrn := rfl
@[simp] theorem Dev.flag_lim (f : Fld) (b : Bool) : (d.flag f b).lim = d.lim := rfl
@[simp] theorem Dev.flag_seq (f : Fld) (b : Bool) : (d.flag f b).seq = d.seq := rfl
@[simp] theorem Dev.flag_thw (f : Fld) (b : Bool) : (d.flag f b).thw = d.thw := rfl
@[simp] theorem Dev.flag_bal (f : Fld) (b : Bool) : (d.flag f b).bal = d.bal := rfl
@[simp] theorem Dev.flag_chn (f : Fld) (b : Bool) : (d.flag f b).chn = d.chn := rfl
@[simp] theorem Dev.flag_saf (f : Fld) (b : Bool) : (d.flag f b).saf = d.saf := rfl

@[simp] theorem Dev.bump_clk (f : Fld) : (d.bump f).clk = d.clk := rfl
@[simp] theorem Dev.bump_free (f : Fld) : (d.bump f).free = d.free := rfl
@[simp] theorem Dev.bump_out (f : Fld) : (d.bump f).out = d.out := rfl
@[simp] theorem Dev.bump_topo (f : Fld) : (d.bump f).topo = d.topo := rfl
@[simp] theorem Dev.bump_nv (f : Fld) : (d.bump f).nv = d.nv := rfl
@[simp] theorem Dev.bump_pwr (f : Fld) : (d.bump f).pwr = d.pwr := rfl
@[simp] theorem Dev.bump_load (f : Fld) : (d.bump f).load = d.load := rfl
@[simp] theorem Dev.bump_net (f : Fld) : (d.bump f).net = d.net := rfl
@[simp] theorem Dev.bump_rcd (f : Fld) : (d.bump f).rcd = d.rcd := rfl
@[simp] theorem Dev.bump_lgr (f : Fld) : (d.bump f).lgr = d.lgr := rfl
@[simp] theorem Dev.bump_time (f : Fld) : (d.bump f).time = d.time := rfl
@[simp] theorem Dev.bump_cue (f : Fld) : (d.bump f).cue = d.cue := rfl
@[simp] theorem Dev.bump_ports (f : Fld) : (d.bump f).ports = d.ports := rfl
@[simp] theorem Dev.bump_phase (f : Fld) : (d.bump f).phase = d.phase := rfl
@[simp] theorem Dev.bump_acq (f : Fld) : (d.bump f).acq = d.acq := rfl
@[simp] theorem Dev.bump_est (f : Fld) : (d.bump f).est = d.est := rfl
@[simp] theorem Dev.bump_lrn (f : Fld) : (d.bump f).lrn = d.lrn := rfl
@[simp] theorem Dev.bump_lim (f : Fld) : (d.bump f).lim = d.lim := rfl
@[simp] theorem Dev.bump_seq (f : Fld) : (d.bump f).seq = d.seq := rfl
@[simp] theorem Dev.bump_thw (f : Fld) : (d.bump f).thw = d.thw := rfl
@[simp] theorem Dev.bump_bal (f : Fld) : (d.bump f).bal = d.bal := rfl
@[simp] theorem Dev.bump_chn (f : Fld) : (d.bump f).chn = d.chn := rfl
@[simp] theorem Dev.bump_saf (f : Fld) : (d.bump f).saf = d.saf := rfl

@[simp] theorem Dev.bumpMod_clk (f : Fld) : (d.bumpMod f).clk = d.clk := rfl
@[simp] theorem Dev.bumpMod_free (f : Fld) : (d.bumpMod f).free = d.free := rfl
@[simp] theorem Dev.bumpMod_out (f : Fld) : (d.bumpMod f).out = d.out := rfl
@[simp] theorem Dev.bumpMod_topo (f : Fld) : (d.bumpMod f).topo = d.topo := rfl
@[simp] theorem Dev.bumpMod_nv (f : Fld) : (d.bumpMod f).nv = d.nv := rfl
@[simp] theorem Dev.bumpMod_pwr (f : Fld) : (d.bumpMod f).pwr = d.pwr := rfl
@[simp] theorem Dev.bumpMod_load (f : Fld) : (d.bumpMod f).load = d.load := rfl
@[simp] theorem Dev.bumpMod_net (f : Fld) : (d.bumpMod f).net = d.net := rfl
@[simp] theorem Dev.bumpMod_rcd (f : Fld) : (d.bumpMod f).rcd = d.rcd := rfl
@[simp] theorem Dev.bumpMod_lgr (f : Fld) : (d.bumpMod f).lgr = d.lgr := rfl
@[simp] theorem Dev.bumpMod_time (f : Fld) : (d.bumpMod f).time = d.time := rfl
@[simp] theorem Dev.bumpMod_cue (f : Fld) : (d.bumpMod f).cue = d.cue := rfl
@[simp] theorem Dev.bumpMod_ports (f : Fld) : (d.bumpMod f).ports = d.ports := rfl
@[simp] theorem Dev.bumpMod_phase (f : Fld) : (d.bumpMod f).phase = d.phase := rfl
@[simp] theorem Dev.bumpMod_acq (f : Fld) : (d.bumpMod f).acq = d.acq := rfl
@[simp] theorem Dev.bumpMod_est (f : Fld) : (d.bumpMod f).est = d.est := rfl
@[simp] theorem Dev.bumpMod_lrn (f : Fld) : (d.bumpMod f).lrn = d.lrn := rfl
@[simp] theorem Dev.bumpMod_lim (f : Fld) : (d.bumpMod f).lim = d.lim := rfl
@[simp] theorem Dev.bumpMod_seq (f : Fld) : (d.bumpMod f).seq = d.seq := rfl
@[simp] theorem Dev.bumpMod_thw (f : Fld) : (d.bumpMod f).thw = d.thw := rfl
@[simp] theorem Dev.bumpMod_bal (f : Fld) : (d.bumpMod f).bal = d.bal := rfl
@[simp] theorem Dev.bumpMod_chn (f : Fld) : (d.bumpMod f).chn = d.chn := rfl
@[simp] theorem Dev.bumpMod_saf (f : Fld) : (d.bumpMod f).saf = d.saf := rfl

@[simp] theorem Dev.emit_regs (x : Msg) : (d.emit x).regs = d.regs := rfl
@[simp] theorem Dev.emit_clk (x : Msg) : (d.emit x).clk = d.clk := rfl
@[simp] theorem Dev.emit_free (x : Msg) : (d.emit x).free = d.free := rfl
@[simp] theorem Dev.emit_out (x : Msg) : (d.emit x).out = x :: d.out := rfl
@[simp] theorem Dev.emit_topo (x : Msg) : (d.emit x).topo = d.topo := rfl
@[simp] theorem Dev.emit_nv (x : Msg) : (d.emit x).nv = d.nv := rfl
@[simp] theorem Dev.emit_pwr (x : Msg) : (d.emit x).pwr = d.pwr := rfl
@[simp] theorem Dev.emit_load (x : Msg) : (d.emit x).load = d.load := rfl
@[simp] theorem Dev.emit_net (x : Msg) : (d.emit x).net = d.net := rfl
@[simp] theorem Dev.emit_rcd (x : Msg) : (d.emit x).rcd = d.rcd := rfl
@[simp] theorem Dev.emit_lgr (x : Msg) : (d.emit x).lgr = d.lgr := rfl
@[simp] theorem Dev.emit_time (x : Msg) : (d.emit x).time = d.time := rfl
@[simp] theorem Dev.emit_cue (x : Msg) : (d.emit x).cue = d.cue := rfl
@[simp] theorem Dev.emit_ports (x : Msg) : (d.emit x).ports = d.ports := rfl
@[simp] theorem Dev.emit_phase (x : Msg) : (d.emit x).phase = d.phase := rfl
@[simp] theorem Dev.emit_acq (x : Msg) : (d.emit x).acq = d.acq := rfl
@[simp] theorem Dev.emit_est (x : Msg) : (d.emit x).est = d.est := rfl
@[simp] theorem Dev.emit_lrn (x : Msg) : (d.emit x).lrn = d.lrn := rfl
@[simp] theorem Dev.emit_lim (x : Msg) : (d.emit x).lim = d.lim := rfl
@[simp] theorem Dev.emit_seq (x : Msg) : (d.emit x).seq = d.seq := rfl
@[simp] theorem Dev.emit_thw (x : Msg) : (d.emit x).thw = d.thw := rfl
@[simp] theorem Dev.emit_bal (x : Msg) : (d.emit x).bal = d.bal := rfl
@[simp] theorem Dev.emit_chn (x : Msg) : (d.emit x).chn = d.chn := rfl
@[simp] theorem Dev.emit_saf (x : Msg) : (d.emit x).saf = d.saf := rfl

@[simp] theorem Dev.commit_regs : (d.commit).regs = d.regs := rfl
@[simp] theorem Dev.commit_clk : (d.commit).clk = d.clk := rfl
@[simp] theorem Dev.commit_free : (d.commit).free = d.free := rfl
@[simp] theorem Dev.commit_out : (d.commit).out = d.out := rfl
@[simp] theorem Dev.commit_topo : (d.commit).topo = d.topo := rfl
@[simp] theorem Dev.commit_nv : (d.commit).nv = d.nv := rfl
@[simp] theorem Dev.commit_pwr : (d.commit).pwr = d.pwr := rfl
@[simp] theorem Dev.commit_load : (d.commit).load = d.load := rfl
@[simp] theorem Dev.commit_net : (d.commit).net = d.net := rfl
@[simp] theorem Dev.commit_rcd : (d.commit).rcd = d.rcd.commit := rfl
@[simp] theorem Dev.commit_lgr : (d.commit).lgr = d.lgr := rfl
@[simp] theorem Dev.commit_time : (d.commit).time = d.time := rfl
@[simp] theorem Dev.commit_cue : (d.commit).cue = d.cue := rfl
@[simp] theorem Dev.commit_ports : (d.commit).ports = d.ports := rfl
@[simp] theorem Dev.commit_phase : (d.commit).phase = d.phase := rfl
@[simp] theorem Dev.commit_acq : (d.commit).acq = d.acq := rfl
@[simp] theorem Dev.commit_est : (d.commit).est = d.est := rfl
@[simp] theorem Dev.commit_lrn : (d.commit).lrn = d.lrn := rfl
@[simp] theorem Dev.commit_lim : (d.commit).lim = d.lim := rfl
@[simp] theorem Dev.commit_seq : (d.commit).seq = d.seq := rfl
@[simp] theorem Dev.commit_thw : (d.commit).thw = d.thw := rfl
@[simp] theorem Dev.commit_bal : (d.commit).bal = d.bal := rfl
@[simp] theorem Dev.commit_chn : (d.commit).chn = d.chn := rfl
@[simp] theorem Dev.commit_saf : (d.commit).saf = d.saf := rfl

@[simp] theorem Dev.record_regs (k : Kind) (x : List Byte) : (d.record k x).regs = d.regs := by unfold Dev.record; split <;> rfl
@[simp] theorem Dev.record_clk (k : Kind) (x : List Byte) : (d.record k x).clk = d.clk := by unfold Dev.record; split <;> rfl
@[simp] theorem Dev.record_free (k : Kind) (x : List Byte) : (d.record k x).free = d.free := by unfold Dev.record; split <;> rfl
@[simp] theorem Dev.record_out (k : Kind) (x : List Byte) : (d.record k x).out = d.out := by unfold Dev.record; split <;> rfl
@[simp] theorem Dev.record_topo (k : Kind) (x : List Byte) : (d.record k x).topo = d.topo := by unfold Dev.record; split <;> rfl
@[simp] theorem Dev.record_nv (k : Kind) (x : List Byte) : (d.record k x).nv = d.nv := by unfold Dev.record; split <;> rfl
@[simp] theorem Dev.record_pwr (k : Kind) (x : List Byte) : (d.record k x).pwr = d.pwr := by unfold Dev.record; split <;> rfl
@[simp] theorem Dev.record_load (k : Kind) (x : List Byte) : (d.record k x).load = d.load := by unfold Dev.record; split <;> rfl
@[simp] theorem Dev.record_net (k : Kind) (x : List Byte) : (d.record k x).net = d.net := by unfold Dev.record; split <;> rfl
@[simp] theorem Dev.record_lgr (k : Kind) (x : List Byte) : (d.record k x).lgr = d.lgr := by unfold Dev.record; split <;> rfl
@[simp] theorem Dev.record_time (k : Kind) (x : List Byte) : (d.record k x).time = d.time := by unfold Dev.record; split <;> rfl
@[simp] theorem Dev.record_cue (k : Kind) (x : List Byte) : (d.record k x).cue = d.cue := by unfold Dev.record; split <;> rfl
@[simp] theorem Dev.record_ports (k : Kind) (x : List Byte) : (d.record k x).ports = d.ports := by unfold Dev.record; split <;> rfl
@[simp] theorem Dev.record_phase (k : Kind) (x : List Byte) : (d.record k x).phase = d.phase := by unfold Dev.record; split <;> rfl
@[simp] theorem Dev.record_acq (k : Kind) (x : List Byte) : (d.record k x).acq = d.acq := by unfold Dev.record; split <;> rfl
@[simp] theorem Dev.record_est (k : Kind) (x : List Byte) : (d.record k x).est = d.est := by unfold Dev.record; split <;> rfl
@[simp] theorem Dev.record_lrn (k : Kind) (x : List Byte) : (d.record k x).lrn = d.lrn := by unfold Dev.record; split <;> rfl
@[simp] theorem Dev.record_lim (k : Kind) (x : List Byte) : (d.record k x).lim = d.lim := by unfold Dev.record; split <;> rfl
@[simp] theorem Dev.record_seq (k : Kind) (x : List Byte) : (d.record k x).seq = d.seq := by unfold Dev.record; split <;> rfl
@[simp] theorem Dev.record_thw (k : Kind) (x : List Byte) : (d.record k x).thw = d.thw := by unfold Dev.record; split <;> rfl
@[simp] theorem Dev.record_bal (k : Kind) (x : List Byte) : (d.record k x).bal = d.bal := by unfold Dev.record; split <;> rfl
@[simp] theorem Dev.record_chn (k : Kind) (x : List Byte) : (d.record k x).chn = d.chn := by unfold Dev.record; split <;> rfl
@[simp] theorem Dev.record_saf (k : Kind) (x : List Byte) : (d.record k x).saf = d.saf := by unfold Dev.record; split <;> rfl

@[simp] theorem Dev.modSaf_regs (g : SafSt → SafSt) : (d.modSaf g).regs = d.regs := rfl
@[simp] theorem Dev.modSaf_clk (g : SafSt → SafSt) : (d.modSaf g).clk = d.clk := rfl
@[simp] theorem Dev.modSaf_free (g : SafSt → SafSt) : (d.modSaf g).free = d.free := rfl
@[simp] theorem Dev.modSaf_out (g : SafSt → SafSt) : (d.modSaf g).out = d.out := rfl
@[simp] theorem Dev.modSaf_topo (g : SafSt → SafSt) : (d.modSaf g).topo = d.topo := rfl
@[simp] theorem Dev.modSaf_nv (g : SafSt → SafSt) : (d.modSaf g).nv = d.nv := rfl
@[simp] theorem Dev.modSaf_pwr (g : SafSt → SafSt) : (d.modSaf g).pwr = d.pwr := rfl
@[simp] theorem Dev.modSaf_load (g : SafSt → SafSt) : (d.modSaf g).load = d.load := rfl
@[simp] theorem Dev.modSaf_net (g : SafSt → SafSt) : (d.modSaf g).net = d.net := rfl
@[simp] theorem Dev.modSaf_rcd (g : SafSt → SafSt) : (d.modSaf g).rcd = d.rcd := rfl
@[simp] theorem Dev.modSaf_lgr (g : SafSt → SafSt) : (d.modSaf g).lgr = d.lgr := rfl
@[simp] theorem Dev.modSaf_time (g : SafSt → SafSt) : (d.modSaf g).time = d.time := rfl
@[simp] theorem Dev.modSaf_cue (g : SafSt → SafSt) : (d.modSaf g).cue = d.cue := rfl
@[simp] theorem Dev.modSaf_ports (g : SafSt → SafSt) : (d.modSaf g).ports = d.ports := rfl
@[simp] theorem Dev.modSaf_phase (g : SafSt → SafSt) : (d.modSaf g).phase = d.phase := rfl
@[simp] theorem Dev.modSaf_acq (g : SafSt → SafSt) : (d.modSaf g).acq = d.acq := rfl
@[simp] theorem Dev.modSaf_est (g : SafSt → SafSt) : (d.modSaf g).est = d.est := rfl
@[simp] theorem Dev.modSaf_lrn (g : SafSt → SafSt) : (d.modSaf g).lrn = d.lrn := rfl
@[simp] theorem Dev.modSaf_lim (g : SafSt → SafSt) : (d.modSaf g).lim = d.lim := rfl
@[simp] theorem Dev.modSaf_seq (g : SafSt → SafSt) : (d.modSaf g).seq = d.seq := rfl
@[simp] theorem Dev.modSaf_thw (g : SafSt → SafSt) : (d.modSaf g).thw = d.thw := rfl
@[simp] theorem Dev.modSaf_bal (g : SafSt → SafSt) : (d.modSaf g).bal = d.bal := rfl
@[simp] theorem Dev.modSaf_chn (g : SafSt → SafSt) : (d.modSaf g).chn = d.chn := rfl
@[simp] theorem Dev.modSaf_saf (g : SafSt → SafSt) : (d.modSaf g).saf = g d.saf := rfl

@[simp] theorem Dev.modPwr_regs (g : PwrSt → PwrSt) : (d.modPwr g).regs = d.regs := rfl
@[simp] theorem Dev.modPwr_clk (g : PwrSt → PwrSt) : (d.modPwr g).clk = d.clk := rfl
@[simp] theorem Dev.modPwr_free (g : PwrSt → PwrSt) : (d.modPwr g).free = d.free := rfl
@[simp] theorem Dev.modPwr_out (g : PwrSt → PwrSt) : (d.modPwr g).out = d.out := rfl
@[simp] theorem Dev.modPwr_topo (g : PwrSt → PwrSt) : (d.modPwr g).topo = d.topo := rfl
@[simp] theorem Dev.modPwr_nv (g : PwrSt → PwrSt) : (d.modPwr g).nv = d.nv := rfl
@[simp] theorem Dev.modPwr_pwr (g : PwrSt → PwrSt) : (d.modPwr g).pwr = g d.pwr := rfl
@[simp] theorem Dev.modPwr_load (g : PwrSt → PwrSt) : (d.modPwr g).load = d.load := rfl
@[simp] theorem Dev.modPwr_net (g : PwrSt → PwrSt) : (d.modPwr g).net = d.net := rfl
@[simp] theorem Dev.modPwr_rcd (g : PwrSt → PwrSt) : (d.modPwr g).rcd = d.rcd := rfl
@[simp] theorem Dev.modPwr_lgr (g : PwrSt → PwrSt) : (d.modPwr g).lgr = d.lgr := rfl
@[simp] theorem Dev.modPwr_time (g : PwrSt → PwrSt) : (d.modPwr g).time = d.time := rfl
@[simp] theorem Dev.modPwr_cue (g : PwrSt → PwrSt) : (d.modPwr g).cue = d.cue := rfl
@[simp] theorem Dev.modPwr_ports (g : PwrSt → PwrSt) : (d.modPwr g).ports = d.ports := rfl
@[simp] theorem Dev.modPwr_phase (g : PwrSt → PwrSt) : (d.modPwr g).phase = d.phase := rfl
@[simp] theorem Dev.modPwr_acq (g : PwrSt → PwrSt) : (d.modPwr g).acq = d.acq := rfl
@[simp] theorem Dev.modPwr_est (g : PwrSt → PwrSt) : (d.modPwr g).est = d.est := rfl
@[simp] theorem Dev.modPwr_lrn (g : PwrSt → PwrSt) : (d.modPwr g).lrn = d.lrn := rfl
@[simp] theorem Dev.modPwr_lim (g : PwrSt → PwrSt) : (d.modPwr g).lim = d.lim := rfl
@[simp] theorem Dev.modPwr_seq (g : PwrSt → PwrSt) : (d.modPwr g).seq = d.seq := rfl
@[simp] theorem Dev.modPwr_thw (g : PwrSt → PwrSt) : (d.modPwr g).thw = d.thw := rfl
@[simp] theorem Dev.modPwr_bal (g : PwrSt → PwrSt) : (d.modPwr g).bal = d.bal := rfl
@[simp] theorem Dev.modPwr_chn (g : PwrSt → PwrSt) : (d.modPwr g).chn = d.chn := rfl
@[simp] theorem Dev.modPwr_saf (g : PwrSt → PwrSt) : (d.modPwr g).saf = d.saf := rfl

@[simp] theorem Dev.modNv_regs (g : Nv → Nv) : (d.modNv g).regs = d.regs := rfl
@[simp] theorem Dev.modNv_clk (g : Nv → Nv) : (d.modNv g).clk = d.clk := rfl
@[simp] theorem Dev.modNv_free (g : Nv → Nv) : (d.modNv g).free = d.free := rfl
@[simp] theorem Dev.modNv_out (g : Nv → Nv) : (d.modNv g).out = d.out := rfl
@[simp] theorem Dev.modNv_topo (g : Nv → Nv) : (d.modNv g).topo = d.topo := rfl
@[simp] theorem Dev.modNv_nv (g : Nv → Nv) : (d.modNv g).nv = g d.nv := rfl
@[simp] theorem Dev.modNv_pwr (g : Nv → Nv) : (d.modNv g).pwr = d.pwr := rfl
@[simp] theorem Dev.modNv_load (g : Nv → Nv) : (d.modNv g).load = d.load := rfl
@[simp] theorem Dev.modNv_net (g : Nv → Nv) : (d.modNv g).net = d.net := rfl
@[simp] theorem Dev.modNv_rcd (g : Nv → Nv) : (d.modNv g).rcd = d.rcd := rfl
@[simp] theorem Dev.modNv_lgr (g : Nv → Nv) : (d.modNv g).lgr = d.lgr := rfl
@[simp] theorem Dev.modNv_time (g : Nv → Nv) : (d.modNv g).time = d.time := rfl
@[simp] theorem Dev.modNv_cue (g : Nv → Nv) : (d.modNv g).cue = d.cue := rfl
@[simp] theorem Dev.modNv_ports (g : Nv → Nv) : (d.modNv g).ports = d.ports := rfl
@[simp] theorem Dev.modNv_phase (g : Nv → Nv) : (d.modNv g).phase = d.phase := rfl
@[simp] theorem Dev.modNv_acq (g : Nv → Nv) : (d.modNv g).acq = d.acq := rfl
@[simp] theorem Dev.modNv_est (g : Nv → Nv) : (d.modNv g).est = d.est := rfl
@[simp] theorem Dev.modNv_lrn (g : Nv → Nv) : (d.modNv g).lrn = d.lrn := rfl
@[simp] theorem Dev.modNv_lim (g : Nv → Nv) : (d.modNv g).lim = d.lim := rfl
@[simp] theorem Dev.modNv_seq (g : Nv → Nv) : (d.modNv g).seq = d.seq := rfl
@[simp] theorem Dev.modNv_thw (g : Nv → Nv) : (d.modNv g).thw = d.thw := rfl
@[simp] theorem Dev.modNv_bal (g : Nv → Nv) : (d.modNv g).bal = d.bal := rfl
@[simp] theorem Dev.modNv_chn (g : Nv → Nv) : (d.modNv g).chn = d.chn := rfl
@[simp] theorem Dev.modNv_saf (g : Nv → Nv) : (d.modNv g).saf = d.saf := rfl

@[simp] theorem Dev.modSeq_regs (g : SeqSt → SeqSt) : (d.modSeq g).regs = d.regs := rfl
@[simp] theorem Dev.modSeq_clk (g : SeqSt → SeqSt) : (d.modSeq g).clk = d.clk := rfl
@[simp] theorem Dev.modSeq_free (g : SeqSt → SeqSt) : (d.modSeq g).free = d.free := rfl
@[simp] theorem Dev.modSeq_out (g : SeqSt → SeqSt) : (d.modSeq g).out = d.out := rfl
@[simp] theorem Dev.modSeq_topo (g : SeqSt → SeqSt) : (d.modSeq g).topo = d.topo := rfl
@[simp] theorem Dev.modSeq_nv (g : SeqSt → SeqSt) : (d.modSeq g).nv = d.nv := rfl
@[simp] theorem Dev.modSeq_pwr (g : SeqSt → SeqSt) : (d.modSeq g).pwr = d.pwr := rfl
@[simp] theorem Dev.modSeq_load (g : SeqSt → SeqSt) : (d.modSeq g).load = d.load := rfl
@[simp] theorem Dev.modSeq_net (g : SeqSt → SeqSt) : (d.modSeq g).net = d.net := rfl
@[simp] theorem Dev.modSeq_rcd (g : SeqSt → SeqSt) : (d.modSeq g).rcd = d.rcd := rfl
@[simp] theorem Dev.modSeq_lgr (g : SeqSt → SeqSt) : (d.modSeq g).lgr = d.lgr := rfl
@[simp] theorem Dev.modSeq_time (g : SeqSt → SeqSt) : (d.modSeq g).time = d.time := rfl
@[simp] theorem Dev.modSeq_cue (g : SeqSt → SeqSt) : (d.modSeq g).cue = d.cue := rfl
@[simp] theorem Dev.modSeq_ports (g : SeqSt → SeqSt) : (d.modSeq g).ports = d.ports := rfl
@[simp] theorem Dev.modSeq_phase (g : SeqSt → SeqSt) : (d.modSeq g).phase = d.phase := rfl
@[simp] theorem Dev.modSeq_acq (g : SeqSt → SeqSt) : (d.modSeq g).acq = d.acq := rfl
@[simp] theorem Dev.modSeq_est (g : SeqSt → SeqSt) : (d.modSeq g).est = d.est := rfl
@[simp] theorem Dev.modSeq_lrn (g : SeqSt → SeqSt) : (d.modSeq g).lrn = d.lrn := rfl
@[simp] theorem Dev.modSeq_lim (g : SeqSt → SeqSt) : (d.modSeq g).lim = d.lim := rfl
@[simp] theorem Dev.modSeq_seq (g : SeqSt → SeqSt) : (d.modSeq g).seq = g d.seq := rfl
@[simp] theorem Dev.modSeq_thw (g : SeqSt → SeqSt) : (d.modSeq g).thw = d.thw := rfl
@[simp] theorem Dev.modSeq_bal (g : SeqSt → SeqSt) : (d.modSeq g).bal = d.bal := rfl
@[simp] theorem Dev.modSeq_chn (g : SeqSt → SeqSt) : (d.modSeq g).chn = d.chn := rfl
@[simp] theorem Dev.modSeq_saf (g : SeqSt → SeqSt) : (d.modSeq g).saf = d.saf := rfl

@[simp] theorem Dev.modChn_regs (g : ChnSt → ChnSt) : (d.modChn g).regs = d.regs := rfl
@[simp] theorem Dev.modChn_clk (g : ChnSt → ChnSt) : (d.modChn g).clk = d.clk := rfl
@[simp] theorem Dev.modChn_free (g : ChnSt → ChnSt) : (d.modChn g).free = d.free := rfl
@[simp] theorem Dev.modChn_out (g : ChnSt → ChnSt) : (d.modChn g).out = d.out := rfl
@[simp] theorem Dev.modChn_topo (g : ChnSt → ChnSt) : (d.modChn g).topo = d.topo := rfl
@[simp] theorem Dev.modChn_nv (g : ChnSt → ChnSt) : (d.modChn g).nv = d.nv := rfl
@[simp] theorem Dev.modChn_pwr (g : ChnSt → ChnSt) : (d.modChn g).pwr = d.pwr := rfl
@[simp] theorem Dev.modChn_load (g : ChnSt → ChnSt) : (d.modChn g).load = d.load := rfl
@[simp] theorem Dev.modChn_net (g : ChnSt → ChnSt) : (d.modChn g).net = d.net := rfl
@[simp] theorem Dev.modChn_rcd (g : ChnSt → ChnSt) : (d.modChn g).rcd = d.rcd := rfl
@[simp] theorem Dev.modChn_lgr (g : ChnSt → ChnSt) : (d.modChn g).lgr = d.lgr := rfl
@[simp] theorem Dev.modChn_time (g : ChnSt → ChnSt) : (d.modChn g).time = d.time := rfl
@[simp] theorem Dev.modChn_cue (g : ChnSt → ChnSt) : (d.modChn g).cue = d.cue := rfl
@[simp] theorem Dev.modChn_ports (g : ChnSt → ChnSt) : (d.modChn g).ports = d.ports := rfl
@[simp] theorem Dev.modChn_phase (g : ChnSt → ChnSt) : (d.modChn g).phase = d.phase := rfl
@[simp] theorem Dev.modChn_acq (g : ChnSt → ChnSt) : (d.modChn g).acq = d.acq := rfl
@[simp] theorem Dev.modChn_est (g : ChnSt → ChnSt) : (d.modChn g).est = d.est := rfl
@[simp] theorem Dev.modChn_lrn (g : ChnSt → ChnSt) : (d.modChn g).lrn = d.lrn := rfl
@[simp] theorem Dev.modChn_lim (g : ChnSt → ChnSt) : (d.modChn g).lim = d.lim := rfl
@[simp] theorem Dev.modChn_seq (g : ChnSt → ChnSt) : (d.modChn g).seq = d.seq := rfl
@[simp] theorem Dev.modChn_thw (g : ChnSt → ChnSt) : (d.modChn g).thw = d.thw := rfl
@[simp] theorem Dev.modChn_bal (g : ChnSt → ChnSt) : (d.modChn g).bal = d.bal := rfl
@[simp] theorem Dev.modChn_chn (g : ChnSt → ChnSt) : (d.modChn g).chn = g d.chn := rfl
@[simp] theorem Dev.modChn_saf (g : ChnSt → ChnSt) : (d.modChn g).saf = d.saf := rfl

@[simp] theorem Dev.modLoad_regs (g : LoadSt → LoadSt) : (d.modLoad g).regs = d.regs := rfl
@[simp] theorem Dev.modLoad_clk (g : LoadSt → LoadSt) : (d.modLoad g).clk = d.clk := rfl
@[simp] theorem Dev.modLoad_free (g : LoadSt → LoadSt) : (d.modLoad g).free = d.free := rfl
@[simp] theorem Dev.modLoad_out (g : LoadSt → LoadSt) : (d.modLoad g).out = d.out := rfl
@[simp] theorem Dev.modLoad_topo (g : LoadSt → LoadSt) : (d.modLoad g).topo = d.topo := rfl
@[simp] theorem Dev.modLoad_nv (g : LoadSt → LoadSt) : (d.modLoad g).nv = d.nv := rfl
@[simp] theorem Dev.modLoad_pwr (g : LoadSt → LoadSt) : (d.modLoad g).pwr = d.pwr := rfl
@[simp] theorem Dev.modLoad_load (g : LoadSt → LoadSt) : (d.modLoad g).load = g d.load := rfl
@[simp] theorem Dev.modLoad_net (g : LoadSt → LoadSt) : (d.modLoad g).net = d.net := rfl
@[simp] theorem Dev.modLoad_rcd (g : LoadSt → LoadSt) : (d.modLoad g).rcd = d.rcd := rfl
@[simp] theorem Dev.modLoad_lgr (g : LoadSt → LoadSt) : (d.modLoad g).lgr = d.lgr := rfl
@[simp] theorem Dev.modLoad_time (g : LoadSt → LoadSt) : (d.modLoad g).time = d.time := rfl
@[simp] theorem Dev.modLoad_cue (g : LoadSt → LoadSt) : (d.modLoad g).cue = d.cue := rfl
@[simp] theorem Dev.modLoad_ports (g : LoadSt → LoadSt) : (d.modLoad g).ports = d.ports := rfl
@[simp] theorem Dev.modLoad_phase (g : LoadSt → LoadSt) : (d.modLoad g).phase = d.phase := rfl
@[simp] theorem Dev.modLoad_acq (g : LoadSt → LoadSt) : (d.modLoad g).acq = d.acq := rfl
@[simp] theorem Dev.modLoad_est (g : LoadSt → LoadSt) : (d.modLoad g).est = d.est := rfl
@[simp] theorem Dev.modLoad_lrn (g : LoadSt → LoadSt) : (d.modLoad g).lrn = d.lrn := rfl
@[simp] theorem Dev.modLoad_lim (g : LoadSt → LoadSt) : (d.modLoad g).lim = d.lim := rfl
@[simp] theorem Dev.modLoad_seq (g : LoadSt → LoadSt) : (d.modLoad g).seq = d.seq := rfl
@[simp] theorem Dev.modLoad_thw (g : LoadSt → LoadSt) : (d.modLoad g).thw = d.thw := rfl
@[simp] theorem Dev.modLoad_bal (g : LoadSt → LoadSt) : (d.modLoad g).bal = d.bal := rfl
@[simp] theorem Dev.modLoad_chn (g : LoadSt → LoadSt) : (d.modLoad g).chn = d.chn := rfl
@[simp] theorem Dev.modLoad_saf (g : LoadSt → LoadSt) : (d.modLoad g).saf = d.saf := rfl

@[simp] theorem Dev.modRcd_regs (g : RecSt → RecSt) : (d.modRcd g).regs = d.regs := rfl
@[simp] theorem Dev.modRcd_clk (g : RecSt → RecSt) : (d.modRcd g).clk = d.clk := rfl
@[simp] theorem Dev.modRcd_free (g : RecSt → RecSt) : (d.modRcd g).free = d.free := rfl
@[simp] theorem Dev.modRcd_out (g : RecSt → RecSt) : (d.modRcd g).out = d.out := rfl
@[simp] theorem Dev.modRcd_topo (g : RecSt → RecSt) : (d.modRcd g).topo = d.topo := rfl
@[simp] theorem Dev.modRcd_nv (g : RecSt → RecSt) : (d.modRcd g).nv = d.nv := rfl
@[simp] theorem Dev.modRcd_pwr (g : RecSt → RecSt) : (d.modRcd g).pwr = d.pwr := rfl
@[simp] theorem Dev.modRcd_load (g : RecSt → RecSt) : (d.modRcd g).load = d.load := rfl
@[simp] theorem Dev.modRcd_net (g : RecSt → RecSt) : (d.modRcd g).net = d.net := rfl
@[simp] theorem Dev.modRcd_rcd (g : RecSt → RecSt) : (d.modRcd g).rcd = g d.rcd := rfl
@[simp] theorem Dev.modRcd_lgr (g : RecSt → RecSt) : (d.modRcd g).lgr = d.lgr := rfl
@[simp] theorem Dev.modRcd_time (g : RecSt → RecSt) : (d.modRcd g).time = d.time := rfl
@[simp] theorem Dev.modRcd_cue (g : RecSt → RecSt) : (d.modRcd g).cue = d.cue := rfl
@[simp] theorem Dev.modRcd_ports (g : RecSt → RecSt) : (d.modRcd g).ports = d.ports := rfl
@[simp] theorem Dev.modRcd_phase (g : RecSt → RecSt) : (d.modRcd g).phase = d.phase := rfl
@[simp] theorem Dev.modRcd_acq (g : RecSt → RecSt) : (d.modRcd g).acq = d.acq := rfl
@[simp] theorem Dev.modRcd_est (g : RecSt → RecSt) : (d.modRcd g).est = d.est := rfl
@[simp] theorem Dev.modRcd_lrn (g : RecSt → RecSt) : (d.modRcd g).lrn = d.lrn := rfl
@[simp] theorem Dev.modRcd_lim (g : RecSt → RecSt) : (d.modRcd g).lim = d.lim := rfl
@[simp] theorem Dev.modRcd_seq (g : RecSt → RecSt) : (d.modRcd g).seq = d.seq := rfl
@[simp] theorem Dev.modRcd_thw (g : RecSt → RecSt) : (d.modRcd g).thw = d.thw := rfl
@[simp] theorem Dev.modRcd_bal (g : RecSt → RecSt) : (d.modRcd g).bal = d.bal := rfl
@[simp] theorem Dev.modRcd_chn (g : RecSt → RecSt) : (d.modRcd g).chn = d.chn := rfl
@[simp] theorem Dev.modRcd_saf (g : RecSt → RecSt) : (d.modRcd g).saf = d.saf := rfl

@[simp] theorem Dev.modLgr_regs (g : LgrSt → LgrSt) : (d.modLgr g).regs = d.regs := rfl
@[simp] theorem Dev.modLgr_clk (g : LgrSt → LgrSt) : (d.modLgr g).clk = d.clk := rfl
@[simp] theorem Dev.modLgr_free (g : LgrSt → LgrSt) : (d.modLgr g).free = d.free := rfl
@[simp] theorem Dev.modLgr_out (g : LgrSt → LgrSt) : (d.modLgr g).out = d.out := rfl
@[simp] theorem Dev.modLgr_topo (g : LgrSt → LgrSt) : (d.modLgr g).topo = d.topo := rfl
@[simp] theorem Dev.modLgr_nv (g : LgrSt → LgrSt) : (d.modLgr g).nv = d.nv := rfl
@[simp] theorem Dev.modLgr_pwr (g : LgrSt → LgrSt) : (d.modLgr g).pwr = d.pwr := rfl
@[simp] theorem Dev.modLgr_load (g : LgrSt → LgrSt) : (d.modLgr g).load = d.load := rfl
@[simp] theorem Dev.modLgr_net (g : LgrSt → LgrSt) : (d.modLgr g).net = d.net := rfl
@[simp] theorem Dev.modLgr_rcd (g : LgrSt → LgrSt) : (d.modLgr g).rcd = d.rcd := rfl
@[simp] theorem Dev.modLgr_lgr (g : LgrSt → LgrSt) : (d.modLgr g).lgr = g d.lgr := rfl
@[simp] theorem Dev.modLgr_time (g : LgrSt → LgrSt) : (d.modLgr g).time = d.time := rfl
@[simp] theorem Dev.modLgr_cue (g : LgrSt → LgrSt) : (d.modLgr g).cue = d.cue := rfl
@[simp] theorem Dev.modLgr_ports (g : LgrSt → LgrSt) : (d.modLgr g).ports = d.ports := rfl
@[simp] theorem Dev.modLgr_phase (g : LgrSt → LgrSt) : (d.modLgr g).phase = d.phase := rfl
@[simp] theorem Dev.modLgr_acq (g : LgrSt → LgrSt) : (d.modLgr g).acq = d.acq := rfl
@[simp] theorem Dev.modLgr_est (g : LgrSt → LgrSt) : (d.modLgr g).est = d.est := rfl
@[simp] theorem Dev.modLgr_lrn (g : LgrSt → LgrSt) : (d.modLgr g).lrn = d.lrn := rfl
@[simp] theorem Dev.modLgr_lim (g : LgrSt → LgrSt) : (d.modLgr g).lim = d.lim := rfl
@[simp] theorem Dev.modLgr_seq (g : LgrSt → LgrSt) : (d.modLgr g).seq = d.seq := rfl
@[simp] theorem Dev.modLgr_thw (g : LgrSt → LgrSt) : (d.modLgr g).thw = d.thw := rfl
@[simp] theorem Dev.modLgr_bal (g : LgrSt → LgrSt) : (d.modLgr g).bal = d.bal := rfl
@[simp] theorem Dev.modLgr_chn (g : LgrSt → LgrSt) : (d.modLgr g).chn = d.chn := rfl
@[simp] theorem Dev.modLgr_saf (g : LgrSt → LgrSt) : (d.modLgr g).saf = d.saf := rfl

@[simp] theorem Dev.modPhase_regs (g : PhaseSt → PhaseSt) : (d.modPhase g).regs = d.regs := rfl
@[simp] theorem Dev.modPhase_clk (g : PhaseSt → PhaseSt) : (d.modPhase g).clk = d.clk := rfl
@[simp] theorem Dev.modPhase_free (g : PhaseSt → PhaseSt) : (d.modPhase g).free = d.free := rfl
@[simp] theorem Dev.modPhase_out (g : PhaseSt → PhaseSt) : (d.modPhase g).out = d.out := rfl
@[simp] theorem Dev.modPhase_topo (g : PhaseSt → PhaseSt) : (d.modPhase g).topo = d.topo := rfl
@[simp] theorem Dev.modPhase_nv (g : PhaseSt → PhaseSt) : (d.modPhase g).nv = d.nv := rfl
@[simp] theorem Dev.modPhase_pwr (g : PhaseSt → PhaseSt) : (d.modPhase g).pwr = d.pwr := rfl
@[simp] theorem Dev.modPhase_load (g : PhaseSt → PhaseSt) : (d.modPhase g).load = d.load := rfl
@[simp] theorem Dev.modPhase_net (g : PhaseSt → PhaseSt) : (d.modPhase g).net = d.net := rfl
@[simp] theorem Dev.modPhase_rcd (g : PhaseSt → PhaseSt) : (d.modPhase g).rcd = d.rcd := rfl
@[simp] theorem Dev.modPhase_lgr (g : PhaseSt → PhaseSt) : (d.modPhase g).lgr = d.lgr := rfl
@[simp] theorem Dev.modPhase_time (g : PhaseSt → PhaseSt) : (d.modPhase g).time = d.time := rfl
@[simp] theorem Dev.modPhase_cue (g : PhaseSt → PhaseSt) : (d.modPhase g).cue = d.cue := rfl
@[simp] theorem Dev.modPhase_ports (g : PhaseSt → PhaseSt) : (d.modPhase g).ports = d.ports := rfl
@[simp] theorem Dev.modPhase_phase (g : PhaseSt → PhaseSt) : (d.modPhase g).phase = g d.phase := rfl
@[simp] theorem Dev.modPhase_acq (g : PhaseSt → PhaseSt) : (d.modPhase g).acq = d.acq := rfl
@[simp] theorem Dev.modPhase_est (g : PhaseSt → PhaseSt) : (d.modPhase g).est = d.est := rfl
@[simp] theorem Dev.modPhase_lrn (g : PhaseSt → PhaseSt) : (d.modPhase g).lrn = d.lrn := rfl
@[simp] theorem Dev.modPhase_lim (g : PhaseSt → PhaseSt) : (d.modPhase g).lim = d.lim := rfl
@[simp] theorem Dev.modPhase_seq (g : PhaseSt → PhaseSt) : (d.modPhase g).seq = d.seq := rfl
@[simp] theorem Dev.modPhase_thw (g : PhaseSt → PhaseSt) : (d.modPhase g).thw = d.thw := rfl
@[simp] theorem Dev.modPhase_bal (g : PhaseSt → PhaseSt) : (d.modPhase g).bal = d.bal := rfl
@[simp] theorem Dev.modPhase_chn (g : PhaseSt → PhaseSt) : (d.modPhase g).chn = d.chn := rfl
@[simp] theorem Dev.modPhase_saf (g : PhaseSt → PhaseSt) : (d.modPhase g).saf = d.saf := rfl

@[simp] theorem Dev.modAcq_regs (g : AcqSt → AcqSt) : (d.modAcq g).regs = d.regs := rfl
@[simp] theorem Dev.modAcq_clk (g : AcqSt → AcqSt) : (d.modAcq g).clk = d.clk := rfl
@[simp] theorem Dev.modAcq_free (g : AcqSt → AcqSt) : (d.modAcq g).free = d.free := rfl
@[simp] theorem Dev.modAcq_out (g : AcqSt → AcqSt) : (d.modAcq g).out = d.out := rfl
@[simp] theorem Dev.modAcq_topo (g : AcqSt → AcqSt) : (d.modAcq g).topo = d.topo := rfl
@[simp] theorem Dev.modAcq_nv (g : AcqSt → AcqSt) : (d.modAcq g).nv = d.nv := rfl
@[simp] theorem Dev.modAcq_pwr (g : AcqSt → AcqSt) : (d.modAcq g).pwr = d.pwr := rfl
@[simp] theorem Dev.modAcq_load (g : AcqSt → AcqSt) : (d.modAcq g).load = d.load := rfl
@[simp] theorem Dev.modAcq_net (g : AcqSt → AcqSt) : (d.modAcq g).net = d.net := rfl
@[simp] theorem Dev.modAcq_rcd (g : AcqSt → AcqSt) : (d.modAcq g).rcd = d.rcd := rfl
@[simp] theorem Dev.modAcq_lgr (g : AcqSt → AcqSt) : (d.modAcq g).lgr = d.lgr := rfl
@[simp] theorem Dev.modAcq_time (g : AcqSt → AcqSt) : (d.modAcq g).time = d.time := rfl
@[simp] theorem Dev.modAcq_cue (g : AcqSt → AcqSt) : (d.modAcq g).cue = d.cue := rfl
@[simp] theorem Dev.modAcq_ports (g : AcqSt → AcqSt) : (d.modAcq g).ports = d.ports := rfl
@[simp] theorem Dev.modAcq_phase (g : AcqSt → AcqSt) : (d.modAcq g).phase = d.phase := rfl
@[simp] theorem Dev.modAcq_acq (g : AcqSt → AcqSt) : (d.modAcq g).acq = g d.acq := rfl
@[simp] theorem Dev.modAcq_est (g : AcqSt → AcqSt) : (d.modAcq g).est = d.est := rfl
@[simp] theorem Dev.modAcq_lrn (g : AcqSt → AcqSt) : (d.modAcq g).lrn = d.lrn := rfl
@[simp] theorem Dev.modAcq_lim (g : AcqSt → AcqSt) : (d.modAcq g).lim = d.lim := rfl
@[simp] theorem Dev.modAcq_seq (g : AcqSt → AcqSt) : (d.modAcq g).seq = d.seq := rfl
@[simp] theorem Dev.modAcq_thw (g : AcqSt → AcqSt) : (d.modAcq g).thw = d.thw := rfl
@[simp] theorem Dev.modAcq_bal (g : AcqSt → AcqSt) : (d.modAcq g).bal = d.bal := rfl
@[simp] theorem Dev.modAcq_chn (g : AcqSt → AcqSt) : (d.modAcq g).chn = d.chn := rfl
@[simp] theorem Dev.modAcq_saf (g : AcqSt → AcqSt) : (d.modAcq g).saf = d.saf := rfl

@[simp] theorem Dev.modLim_regs (g : LimSt → LimSt) : (d.modLim g).regs = d.regs := rfl
@[simp] theorem Dev.modLim_clk (g : LimSt → LimSt) : (d.modLim g).clk = d.clk := rfl
@[simp] theorem Dev.modLim_free (g : LimSt → LimSt) : (d.modLim g).free = d.free := rfl
@[simp] theorem Dev.modLim_out (g : LimSt → LimSt) : (d.modLim g).out = d.out := rfl
@[simp] theorem Dev.modLim_topo (g : LimSt → LimSt) : (d.modLim g).topo = d.topo := rfl
@[simp] theorem Dev.modLim_nv (g : LimSt → LimSt) : (d.modLim g).nv = d.nv := rfl
@[simp] theorem Dev.modLim_pwr (g : LimSt → LimSt) : (d.modLim g).pwr = d.pwr := rfl
@[simp] theorem Dev.modLim_load (g : LimSt → LimSt) : (d.modLim g).load = d.load := rfl
@[simp] theorem Dev.modLim_net (g : LimSt → LimSt) : (d.modLim g).net = d.net := rfl
@[simp] theorem Dev.modLim_rcd (g : LimSt → LimSt) : (d.modLim g).rcd = d.rcd := rfl
@[simp] theorem Dev.modLim_lgr (g : LimSt → LimSt) : (d.modLim g).lgr = d.lgr := rfl
@[simp] theorem Dev.modLim_time (g : LimSt → LimSt) : (d.modLim g).time = d.time := rfl
@[simp] theorem Dev.modLim_cue (g : LimSt → LimSt) : (d.modLim g).cue = d.cue := rfl
@[simp] theorem Dev.modLim_ports (g : LimSt → LimSt) : (d.modLim g).ports = d.ports := rfl
@[simp] theorem Dev.modLim_phase (g : LimSt → LimSt) : (d.modLim g).phase = d.phase := rfl
@[simp] theorem Dev.modLim_acq (g : LimSt → LimSt) : (d.modLim g).acq = d.acq := rfl
@[simp] theorem Dev.modLim_est (g : LimSt → LimSt) : (d.modLim g).est = d.est := rfl
@[simp] theorem Dev.modLim_lrn (g : LimSt → LimSt) : (d.modLim g).lrn = d.lrn := rfl
@[simp] theorem Dev.modLim_lim (g : LimSt → LimSt) : (d.modLim g).lim = g d.lim := rfl
@[simp] theorem Dev.modLim_seq (g : LimSt → LimSt) : (d.modLim g).seq = d.seq := rfl
@[simp] theorem Dev.modLim_thw (g : LimSt → LimSt) : (d.modLim g).thw = d.thw := rfl
@[simp] theorem Dev.modLim_bal (g : LimSt → LimSt) : (d.modLim g).bal = d.bal := rfl
@[simp] theorem Dev.modLim_chn (g : LimSt → LimSt) : (d.modLim g).chn = d.chn := rfl
@[simp] theorem Dev.modLim_saf (g : LimSt → LimSt) : (d.modLim g).saf = d.saf := rfl

@[simp] theorem Dev.modThw_regs (g : ThwSt → ThwSt) : (d.modThw g).regs = d.regs := rfl
@[simp] theorem Dev.modThw_clk (g : ThwSt → ThwSt) : (d.modThw g).clk = d.clk := rfl
@[simp] theorem Dev.modThw_free (g : ThwSt → ThwSt) : (d.modThw g).free = d.free := rfl
@[simp] theorem Dev.modThw_out (g : ThwSt → ThwSt) : (d.modThw g).out = d.out := rfl
@[simp] theorem Dev.modThw_topo (g : ThwSt → ThwSt) : (d.modThw g).topo = d.topo := rfl
@[simp] theorem Dev.modThw_nv (g : ThwSt → ThwSt) : (d.modThw g).nv = d.nv := rfl
@[simp] theorem Dev.modThw_pwr (g : ThwSt → ThwSt) : (d.modThw g).pwr = d.pwr := rfl
@[simp] theorem Dev.modThw_load (g : ThwSt → ThwSt) : (d.modThw g).load = d.load := rfl
@[simp] theorem Dev.modThw_net (g : ThwSt → ThwSt) : (d.modThw g).net = d.net := rfl
@[simp] theorem Dev.modThw_rcd (g : ThwSt → ThwSt) : (d.modThw g).rcd = d.rcd := rfl
@[simp] theorem Dev.modThw_lgr (g : ThwSt → ThwSt) : (d.modThw g).lgr = d.lgr := rfl
@[simp] theorem Dev.modThw_time (g : ThwSt → ThwSt) : (d.modThw g).time = d.time := rfl
@[simp] theorem Dev.modThw_cue (g : ThwSt → ThwSt) : (d.modThw g).cue = d.cue := rfl
@[simp] theorem Dev.modThw_ports (g : ThwSt → ThwSt) : (d.modThw g).ports = d.ports := rfl
@[simp] theorem Dev.modThw_phase (g : ThwSt → ThwSt) : (d.modThw g).phase = d.phase := rfl
@[simp] theorem Dev.modThw_acq (g : ThwSt → ThwSt) : (d.modThw g).acq = d.acq := rfl
@[simp] theorem Dev.modThw_est (g : ThwSt → ThwSt) : (d.modThw g).est = d.est := rfl
@[simp] theorem Dev.modThw_lrn (g : ThwSt → ThwSt) : (d.modThw g).lrn = d.lrn := rfl
@[simp] theorem Dev.modThw_lim (g : ThwSt → ThwSt) : (d.modThw g).lim = d.lim := rfl
@[simp] theorem Dev.modThw_seq (g : ThwSt → ThwSt) : (d.modThw g).seq = d.seq := rfl
@[simp] theorem Dev.modThw_thw (g : ThwSt → ThwSt) : (d.modThw g).thw = g d.thw := rfl
@[simp] theorem Dev.modThw_bal (g : ThwSt → ThwSt) : (d.modThw g).bal = d.bal := rfl
@[simp] theorem Dev.modThw_chn (g : ThwSt → ThwSt) : (d.modThw g).chn = d.chn := rfl
@[simp] theorem Dev.modThw_saf (g : ThwSt → ThwSt) : (d.modThw g).saf = d.saf := rfl

@[simp] theorem Dev.modBal_regs (g : BalSt → BalSt) : (d.modBal g).regs = d.regs := rfl
@[simp] theorem Dev.modBal_clk (g : BalSt → BalSt) : (d.modBal g).clk = d.clk := rfl
@[simp] theorem Dev.modBal_free (g : BalSt → BalSt) : (d.modBal g).free = d.free := rfl
@[simp] theorem Dev.modBal_out (g : BalSt → BalSt) : (d.modBal g).out = d.out := rfl
@[simp] theorem Dev.modBal_topo (g : BalSt → BalSt) : (d.modBal g).topo = d.topo := rfl
@[simp] theorem Dev.modBal_nv (g : BalSt → BalSt) : (d.modBal g).nv = d.nv := rfl
@[simp] theorem Dev.modBal_pwr (g : BalSt → BalSt) : (d.modBal g).pwr = d.pwr := rfl
@[simp] theorem Dev.modBal_load (g : BalSt → BalSt) : (d.modBal g).load = d.load := rfl
@[simp] theorem Dev.modBal_net (g : BalSt → BalSt) : (d.modBal g).net = d.net := rfl
@[simp] theorem Dev.modBal_rcd (g : BalSt → BalSt) : (d.modBal g).rcd = d.rcd := rfl
@[simp] theorem Dev.modBal_lgr (g : BalSt → BalSt) : (d.modBal g).lgr = d.lgr := rfl
@[simp] theorem Dev.modBal_time (g : BalSt → BalSt) : (d.modBal g).time = d.time := rfl
@[simp] theorem Dev.modBal_cue (g : BalSt → BalSt) : (d.modBal g).cue = d.cue := rfl
@[simp] theorem Dev.modBal_ports (g : BalSt → BalSt) : (d.modBal g).ports = d.ports := rfl
@[simp] theorem Dev.modBal_phase (g : BalSt → BalSt) : (d.modBal g).phase = d.phase := rfl
@[simp] theorem Dev.modBal_acq (g : BalSt → BalSt) : (d.modBal g).acq = d.acq := rfl
@[simp] theorem Dev.modBal_est (g : BalSt → BalSt) : (d.modBal g).est = d.est := rfl
@[simp] theorem Dev.modBal_lrn (g : BalSt → BalSt) : (d.modBal g).lrn = d.lrn := rfl
@[simp] theorem Dev.modBal_lim (g : BalSt → BalSt) : (d.modBal g).lim = d.lim := rfl
@[simp] theorem Dev.modBal_seq (g : BalSt → BalSt) : (d.modBal g).seq = d.seq := rfl
@[simp] theorem Dev.modBal_thw (g : BalSt → BalSt) : (d.modBal g).thw = d.thw := rfl
@[simp] theorem Dev.modBal_bal (g : BalSt → BalSt) : (d.modBal g).bal = g d.bal := rfl
@[simp] theorem Dev.modBal_chn (g : BalSt → BalSt) : (d.modBal g).chn = d.chn := rfl
@[simp] theorem Dev.modBal_saf (g : BalSt → BalSt) : (d.modBal g).saf = d.saf := rfl

@[simp] theorem Dev.modLrn_regs (g : LrnSt → LrnSt) : (d.modLrn g).regs = d.regs := rfl
@[simp] theorem Dev.modLrn_clk (g : LrnSt → LrnSt) : (d.modLrn g).clk = d.clk := rfl
@[simp] theorem Dev.modLrn_free (g : LrnSt → LrnSt) : (d.modLrn g).free = d.free := rfl
@[simp] theorem Dev.modLrn_out (g : LrnSt → LrnSt) : (d.modLrn g).out = d.out := rfl
@[simp] theorem Dev.modLrn_topo (g : LrnSt → LrnSt) : (d.modLrn g).topo = d.topo := rfl
@[simp] theorem Dev.modLrn_nv (g : LrnSt → LrnSt) : (d.modLrn g).nv = d.nv := rfl
@[simp] theorem Dev.modLrn_pwr (g : LrnSt → LrnSt) : (d.modLrn g).pwr = d.pwr := rfl
@[simp] theorem Dev.modLrn_load (g : LrnSt → LrnSt) : (d.modLrn g).load = d.load := rfl
@[simp] theorem Dev.modLrn_net (g : LrnSt → LrnSt) : (d.modLrn g).net = d.net := rfl
@[simp] theorem Dev.modLrn_rcd (g : LrnSt → LrnSt) : (d.modLrn g).rcd = d.rcd := rfl
@[simp] theorem Dev.modLrn_lgr (g : LrnSt → LrnSt) : (d.modLrn g).lgr = d.lgr := rfl
@[simp] theorem Dev.modLrn_time (g : LrnSt → LrnSt) : (d.modLrn g).time = d.time := rfl
@[simp] theorem Dev.modLrn_cue (g : LrnSt → LrnSt) : (d.modLrn g).cue = d.cue := rfl
@[simp] theorem Dev.modLrn_ports (g : LrnSt → LrnSt) : (d.modLrn g).ports = d.ports := rfl
@[simp] theorem Dev.modLrn_phase (g : LrnSt → LrnSt) : (d.modLrn g).phase = d.phase := rfl
@[simp] theorem Dev.modLrn_acq (g : LrnSt → LrnSt) : (d.modLrn g).acq = d.acq := rfl
@[simp] theorem Dev.modLrn_est (g : LrnSt → LrnSt) : (d.modLrn g).est = d.est := rfl
@[simp] theorem Dev.modLrn_lrn (g : LrnSt → LrnSt) : (d.modLrn g).lrn = g d.lrn := rfl
@[simp] theorem Dev.modLrn_lim (g : LrnSt → LrnSt) : (d.modLrn g).lim = d.lim := rfl
@[simp] theorem Dev.modLrn_seq (g : LrnSt → LrnSt) : (d.modLrn g).seq = d.seq := rfl
@[simp] theorem Dev.modLrn_thw (g : LrnSt → LrnSt) : (d.modLrn g).thw = d.thw := rfl
@[simp] theorem Dev.modLrn_bal (g : LrnSt → LrnSt) : (d.modLrn g).bal = d.bal := rfl
@[simp] theorem Dev.modLrn_chn (g : LrnSt → LrnSt) : (d.modLrn g).chn = d.chn := rfl
@[simp] theorem Dev.modLrn_saf (g : LrnSt → LrnSt) : (d.modLrn g).saf = d.saf := rfl

@[simp] theorem Dev.modEst_regs (g : EstSt → EstSt) : (d.modEst g).regs = d.regs := rfl
@[simp] theorem Dev.modEst_clk (g : EstSt → EstSt) : (d.modEst g).clk = d.clk := rfl
@[simp] theorem Dev.modEst_free (g : EstSt → EstSt) : (d.modEst g).free = d.free := rfl
@[simp] theorem Dev.modEst_out (g : EstSt → EstSt) : (d.modEst g).out = d.out := rfl
@[simp] theorem Dev.modEst_topo (g : EstSt → EstSt) : (d.modEst g).topo = d.topo := rfl
@[simp] theorem Dev.modEst_nv (g : EstSt → EstSt) : (d.modEst g).nv = d.nv := rfl
@[simp] theorem Dev.modEst_pwr (g : EstSt → EstSt) : (d.modEst g).pwr = d.pwr := rfl
@[simp] theorem Dev.modEst_load (g : EstSt → EstSt) : (d.modEst g).load = d.load := rfl
@[simp] theorem Dev.modEst_net (g : EstSt → EstSt) : (d.modEst g).net = d.net := rfl
@[simp] theorem Dev.modEst_rcd (g : EstSt → EstSt) : (d.modEst g).rcd = d.rcd := rfl
@[simp] theorem Dev.modEst_lgr (g : EstSt → EstSt) : (d.modEst g).lgr = d.lgr := rfl
@[simp] theorem Dev.modEst_time (g : EstSt → EstSt) : (d.modEst g).time = d.time := rfl
@[simp] theorem Dev.modEst_cue (g : EstSt → EstSt) : (d.modEst g).cue = d.cue := rfl
@[simp] theorem Dev.modEst_ports (g : EstSt → EstSt) : (d.modEst g).ports = d.ports := rfl
@[simp] theorem Dev.modEst_phase (g : EstSt → EstSt) : (d.modEst g).phase = d.phase := rfl
@[simp] theorem Dev.modEst_acq (g : EstSt → EstSt) : (d.modEst g).acq = d.acq := rfl
@[simp] theorem Dev.modEst_est (g : EstSt → EstSt) : (d.modEst g).est = g d.est := rfl
@[simp] theorem Dev.modEst_lrn (g : EstSt → EstSt) : (d.modEst g).lrn = d.lrn := rfl
@[simp] theorem Dev.modEst_lim (g : EstSt → EstSt) : (d.modEst g).lim = d.lim := rfl
@[simp] theorem Dev.modEst_seq (g : EstSt → EstSt) : (d.modEst g).seq = d.seq := rfl
@[simp] theorem Dev.modEst_thw (g : EstSt → EstSt) : (d.modEst g).thw = d.thw := rfl
@[simp] theorem Dev.modEst_bal (g : EstSt → EstSt) : (d.modEst g).bal = d.bal := rfl
@[simp] theorem Dev.modEst_chn (g : EstSt → EstSt) : (d.modEst g).chn = d.chn := rfl
@[simp] theorem Dev.modEst_saf (g : EstSt → EstSt) : (d.modEst g).saf = d.saf := rfl

@[simp] theorem Dev.modCueSt_regs (g : CueSt → CueSt) : (d.modCueSt g).regs = d.regs := rfl
@[simp] theorem Dev.modCueSt_clk (g : CueSt → CueSt) : (d.modCueSt g).clk = d.clk := rfl
@[simp] theorem Dev.modCueSt_free (g : CueSt → CueSt) : (d.modCueSt g).free = d.free := rfl
@[simp] theorem Dev.modCueSt_out (g : CueSt → CueSt) : (d.modCueSt g).out = d.out := rfl
@[simp] theorem Dev.modCueSt_topo (g : CueSt → CueSt) : (d.modCueSt g).topo = d.topo := rfl
@[simp] theorem Dev.modCueSt_nv (g : CueSt → CueSt) : (d.modCueSt g).nv = d.nv := rfl
@[simp] theorem Dev.modCueSt_pwr (g : CueSt → CueSt) : (d.modCueSt g).pwr = d.pwr := rfl
@[simp] theorem Dev.modCueSt_load (g : CueSt → CueSt) : (d.modCueSt g).load = d.load := rfl
@[simp] theorem Dev.modCueSt_net (g : CueSt → CueSt) : (d.modCueSt g).net = d.net := rfl
@[simp] theorem Dev.modCueSt_rcd (g : CueSt → CueSt) : (d.modCueSt g).rcd = d.rcd := rfl
@[simp] theorem Dev.modCueSt_lgr (g : CueSt → CueSt) : (d.modCueSt g).lgr = d.lgr := rfl
@[simp] theorem Dev.modCueSt_time (g : CueSt → CueSt) : (d.modCueSt g).time = d.time := rfl
@[simp] theorem Dev.modCueSt_cue (g : CueSt → CueSt) : (d.modCueSt g).cue = g d.cue := rfl
@[simp] theorem Dev.modCueSt_ports (g : CueSt → CueSt) : (d.modCueSt g).ports = d.ports := rfl
@[simp] theorem Dev.modCueSt_phase (g : CueSt → CueSt) : (d.modCueSt g).phase = d.phase := rfl
@[simp] theorem Dev.modCueSt_acq (g : CueSt → CueSt) : (d.modCueSt g).acq = d.acq := rfl
@[simp] theorem Dev.modCueSt_est (g : CueSt → CueSt) : (d.modCueSt g).est = d.est := rfl
@[simp] theorem Dev.modCueSt_lrn (g : CueSt → CueSt) : (d.modCueSt g).lrn = d.lrn := rfl
@[simp] theorem Dev.modCueSt_lim (g : CueSt → CueSt) : (d.modCueSt g).lim = d.lim := rfl
@[simp] theorem Dev.modCueSt_seq (g : CueSt → CueSt) : (d.modCueSt g).seq = d.seq := rfl
@[simp] theorem Dev.modCueSt_thw (g : CueSt → CueSt) : (d.modCueSt g).thw = d.thw := rfl
@[simp] theorem Dev.modCueSt_bal (g : CueSt → CueSt) : (d.modCueSt g).bal = d.bal := rfl
@[simp] theorem Dev.modCueSt_chn (g : CueSt → CueSt) : (d.modCueSt g).chn = d.chn := rfl
@[simp] theorem Dev.modCueSt_saf (g : CueSt → CueSt) : (d.modCueSt g).saf = d.saf := rfl

@[simp] theorem Dev.modRet_regs (g : Retained → Retained) : (d.modRet g).regs = d.regs := rfl
@[simp] theorem Dev.modRet_clk (g : Retained → Retained) : (d.modRet g).clk = d.clk := rfl
@[simp] theorem Dev.modRet_free (g : Retained → Retained) : (d.modRet g).free = d.free := rfl
@[simp] theorem Dev.modRet_out (g : Retained → Retained) : (d.modRet g).out = d.out := rfl
@[simp] theorem Dev.modRet_topo (g : Retained → Retained) : (d.modRet g).topo = d.topo := rfl
@[simp] theorem Dev.modRet_nv (g : Retained → Retained) : (d.modRet g).nv = d.nv := rfl
@[simp] theorem Dev.modRet_pwr (g : Retained → Retained) : (d.modRet g).pwr = d.pwr := rfl
@[simp] theorem Dev.modRet_load (g : Retained → Retained) : (d.modRet g).load = d.load := rfl
@[simp] theorem Dev.modRet_net (g : Retained → Retained) : (d.modRet g).net = d.net := rfl
@[simp] theorem Dev.modRet_rcd (g : Retained → Retained) : (d.modRet g).rcd = d.rcd := rfl
@[simp] theorem Dev.modRet_lgr (g : Retained → Retained) : (d.modRet g).lgr = d.lgr := rfl
@[simp] theorem Dev.modRet_time (g : Retained → Retained) : (d.modRet g).time = d.time := rfl
@[simp] theorem Dev.modRet_cue (g : Retained → Retained) : (d.modRet g).cue = d.cue := rfl
@[simp] theorem Dev.modRet_ports (g : Retained → Retained) : (d.modRet g).ports = d.ports := rfl
@[simp] theorem Dev.modRet_phase (g : Retained → Retained) : (d.modRet g).phase = d.phase := rfl
@[simp] theorem Dev.modRet_acq (g : Retained → Retained) : (d.modRet g).acq = d.acq := rfl
@[simp] theorem Dev.modRet_est (g : Retained → Retained) : (d.modRet g).est = d.est := rfl
@[simp] theorem Dev.modRet_lrn (g : Retained → Retained) : (d.modRet g).lrn = d.lrn := rfl
@[simp] theorem Dev.modRet_lim (g : Retained → Retained) : (d.modRet g).lim = d.lim := rfl
@[simp] theorem Dev.modRet_seq (g : Retained → Retained) : (d.modRet g).seq = d.seq := rfl
@[simp] theorem Dev.modRet_thw (g : Retained → Retained) : (d.modRet g).thw = d.thw := rfl
@[simp] theorem Dev.modRet_bal (g : Retained → Retained) : (d.modRet g).bal = d.bal := rfl
@[simp] theorem Dev.modRet_chn (g : Retained → Retained) : (d.modRet g).chn = d.chn := rfl

@[simp] theorem Dev.modPort_regs (k : Nat) (g : PortSt → PortSt) : (d.modPort k g).regs = d.regs := rfl
@[simp] theorem Dev.modPort_clk (k : Nat) (g : PortSt → PortSt) : (d.modPort k g).clk = d.clk := rfl
@[simp] theorem Dev.modPort_free (k : Nat) (g : PortSt → PortSt) : (d.modPort k g).free = d.free := rfl
@[simp] theorem Dev.modPort_out (k : Nat) (g : PortSt → PortSt) : (d.modPort k g).out = d.out := rfl
@[simp] theorem Dev.modPort_topo (k : Nat) (g : PortSt → PortSt) : (d.modPort k g).topo = d.topo := rfl
@[simp] theorem Dev.modPort_nv (k : Nat) (g : PortSt → PortSt) : (d.modPort k g).nv = d.nv := rfl
@[simp] theorem Dev.modPort_pwr (k : Nat) (g : PortSt → PortSt) : (d.modPort k g).pwr = d.pwr := rfl
@[simp] theorem Dev.modPort_load (k : Nat) (g : PortSt → PortSt) : (d.modPort k g).load = d.load := rfl
@[simp] theorem Dev.modPort_net (k : Nat) (g : PortSt → PortSt) : (d.modPort k g).net = d.net := rfl
@[simp] theorem Dev.modPort_rcd (k : Nat) (g : PortSt → PortSt) : (d.modPort k g).rcd = d.rcd := rfl
@[simp] theorem Dev.modPort_lgr (k : Nat) (g : PortSt → PortSt) : (d.modPort k g).lgr = d.lgr := rfl
@[simp] theorem Dev.modPort_time (k : Nat) (g : PortSt → PortSt) : (d.modPort k g).time = d.time := rfl
@[simp] theorem Dev.modPort_cue (k : Nat) (g : PortSt → PortSt) : (d.modPort k g).cue = d.cue := rfl
@[simp] theorem Dev.modPort_ports (k : Nat) (g : PortSt → PortSt) : (d.modPort k g).ports = tmod PortSt.blank d.ports k g := rfl
@[simp] theorem Dev.modPort_phase (k : Nat) (g : PortSt → PortSt) : (d.modPort k g).phase = d.phase := rfl
@[simp] theorem Dev.modPort_acq (k : Nat) (g : PortSt → PortSt) : (d.modPort k g).acq = d.acq := rfl
@[simp] theorem Dev.modPort_est (k : Nat) (g : PortSt → PortSt) : (d.modPort k g).est = d.est := rfl
@[simp] theorem Dev.modPort_lrn (k : Nat) (g : PortSt → PortSt) : (d.modPort k g).lrn = d.lrn := rfl
@[simp] theorem Dev.modPort_lim (k : Nat) (g : PortSt → PortSt) : (d.modPort k g).lim = d.lim := rfl
@[simp] theorem Dev.modPort_seq (k : Nat) (g : PortSt → PortSt) : (d.modPort k g).seq = d.seq := rfl
@[simp] theorem Dev.modPort_thw (k : Nat) (g : PortSt → PortSt) : (d.modPort k g).thw = d.thw := rfl
@[simp] theorem Dev.modPort_bal (k : Nat) (g : PortSt → PortSt) : (d.modPort k g).bal = d.bal := rfl
@[simp] theorem Dev.modPort_chn (k : Nat) (g : PortSt → PortSt) : (d.modPort k g).chn = d.chn := rfl
@[simp] theorem Dev.modPort_saf (k : Nat) (g : PortSt → PortSt) : (d.modPort k g).saf = d.saf := rfl

@[simp] theorem Dev.modSq_regs (k : Nat) (g : StrSeq → StrSeq) : (d.modSq k g).regs = d.regs := rfl
@[simp] theorem Dev.modSq_clk (k : Nat) (g : StrSeq → StrSeq) : (d.modSq k g).clk = d.clk := rfl
@[simp] theorem Dev.modSq_free (k : Nat) (g : StrSeq → StrSeq) : (d.modSq k g).free = d.free := rfl
@[simp] theorem Dev.modSq_out (k : Nat) (g : StrSeq → StrSeq) : (d.modSq k g).out = d.out := rfl
@[simp] theorem Dev.modSq_topo (k : Nat) (g : StrSeq → StrSeq) : (d.modSq k g).topo = d.topo := rfl
@[simp] theorem Dev.modSq_nv (k : Nat) (g : StrSeq → StrSeq) : (d.modSq k g).nv = d.nv := rfl
@[simp] theorem Dev.modSq_pwr (k : Nat) (g : StrSeq → StrSeq) : (d.modSq k g).pwr = d.pwr := rfl
@[simp] theorem Dev.modSq_load (k : Nat) (g : StrSeq → StrSeq) : (d.modSq k g).load = d.load := rfl
@[simp] theorem Dev.modSq_net (k : Nat) (g : StrSeq → StrSeq) : (d.modSq k g).net = d.net := rfl
@[simp] theorem Dev.modSq_rcd (k : Nat) (g : StrSeq → StrSeq) : (d.modSq k g).rcd = d.rcd := rfl
@[simp] theorem Dev.modSq_lgr (k : Nat) (g : StrSeq → StrSeq) : (d.modSq k g).lgr = d.lgr := rfl
@[simp] theorem Dev.modSq_time (k : Nat) (g : StrSeq → StrSeq) : (d.modSq k g).time = d.time := rfl
@[simp] theorem Dev.modSq_cue (k : Nat) (g : StrSeq → StrSeq) : (d.modSq k g).cue = d.cue := rfl
@[simp] theorem Dev.modSq_ports (k : Nat) (g : StrSeq → StrSeq) : (d.modSq k g).ports = d.ports := rfl
@[simp] theorem Dev.modSq_phase (k : Nat) (g : StrSeq → StrSeq) : (d.modSq k g).phase = d.phase := rfl
@[simp] theorem Dev.modSq_acq (k : Nat) (g : StrSeq → StrSeq) : (d.modSq k g).acq = d.acq := rfl
@[simp] theorem Dev.modSq_est (k : Nat) (g : StrSeq → StrSeq) : (d.modSq k g).est = d.est := rfl
@[simp] theorem Dev.modSq_lrn (k : Nat) (g : StrSeq → StrSeq) : (d.modSq k g).lrn = d.lrn := rfl
@[simp] theorem Dev.modSq_lim (k : Nat) (g : StrSeq → StrSeq) : (d.modSq k g).lim = d.lim := rfl
@[simp] theorem Dev.modSq_seq (k : Nat) (g : StrSeq → StrSeq) : (d.modSq k g).seq = { d.seq with strs := tmod StrSeq.idle d.seq.strs k g } := rfl
@[simp] theorem Dev.modSq_thw (k : Nat) (g : StrSeq → StrSeq) : (d.modSq k g).thw = d.thw := rfl
@[simp] theorem Dev.modSq_bal (k : Nat) (g : StrSeq → StrSeq) : (d.modSq k g).bal = d.bal := rfl
@[simp] theorem Dev.modSq_chn (k : Nat) (g : StrSeq → StrSeq) : (d.modSq k g).chn = d.chn := rfl
@[simp] theorem Dev.modSq_saf (k : Nat) (g : StrSeq → StrSeq) : (d.modSq k g).saf = d.saf := rfl

@[simp] theorem Dev.modSess_regs (k : Nat) (g : Sess → Sess) : (d.modSess k g).regs = d.regs := rfl
@[simp] theorem Dev.modSess_clk (k : Nat) (g : Sess → Sess) : (d.modSess k g).clk = d.clk := rfl
@[simp] theorem Dev.modSess_free (k : Nat) (g : Sess → Sess) : (d.modSess k g).free = d.free := rfl
@[simp] theorem Dev.modSess_out (k : Nat) (g : Sess → Sess) : (d.modSess k g).out = d.out := rfl
@[simp] theorem Dev.modSess_topo (k : Nat) (g : Sess → Sess) : (d.modSess k g).topo = d.topo := rfl
@[simp] theorem Dev.modSess_nv (k : Nat) (g : Sess → Sess) : (d.modSess k g).nv = d.nv := rfl
@[simp] theorem Dev.modSess_pwr (k : Nat) (g : Sess → Sess) : (d.modSess k g).pwr = d.pwr := rfl
@[simp] theorem Dev.modSess_load (k : Nat) (g : Sess → Sess) : (d.modSess k g).load = d.load := rfl
@[simp] theorem Dev.modSess_net (k : Nat) (g : Sess → Sess) : (d.modSess k g).net = { d.net with sess := tmod Sess.free d.net.sess k g } := rfl
@[simp] theorem Dev.modSess_rcd (k : Nat) (g : Sess → Sess) : (d.modSess k g).rcd = d.rcd := rfl
@[simp] theorem Dev.modSess_lgr (k : Nat) (g : Sess → Sess) : (d.modSess k g).lgr = d.lgr := rfl
@[simp] theorem Dev.modSess_time (k : Nat) (g : Sess → Sess) : (d.modSess k g).time = d.time := rfl
@[simp] theorem Dev.modSess_cue (k : Nat) (g : Sess → Sess) : (d.modSess k g).cue = d.cue := rfl
@[simp] theorem Dev.modSess_ports (k : Nat) (g : Sess → Sess) : (d.modSess k g).ports = d.ports := rfl
@[simp] theorem Dev.modSess_phase (k : Nat) (g : Sess → Sess) : (d.modSess k g).phase = d.phase := rfl
@[simp] theorem Dev.modSess_acq (k : Nat) (g : Sess → Sess) : (d.modSess k g).acq = d.acq := rfl
@[simp] theorem Dev.modSess_est (k : Nat) (g : Sess → Sess) : (d.modSess k g).est = d.est := rfl
@[simp] theorem Dev.modSess_lrn (k : Nat) (g : Sess → Sess) : (d.modSess k g).lrn = d.lrn := rfl
@[simp] theorem Dev.modSess_lim (k : Nat) (g : Sess → Sess) : (d.modSess k g).lim = d.lim := rfl
@[simp] theorem Dev.modSess_seq (k : Nat) (g : Sess → Sess) : (d.modSess k g).seq = d.seq := rfl
@[simp] theorem Dev.modSess_thw (k : Nat) (g : Sess → Sess) : (d.modSess k g).thw = d.thw := rfl
@[simp] theorem Dev.modSess_bal (k : Nat) (g : Sess → Sess) : (d.modSess k g).bal = d.bal := rfl
@[simp] theorem Dev.modSess_chn (k : Nat) (g : Sess → Sess) : (d.modSess k g).chn = d.chn := rfl
@[simp] theorem Dev.modSess_saf (k : Nat) (g : Sess → Sess) : (d.modSess k g).saf = d.saf := rfl

@[simp] theorem Dev.modChan_regs (k : Nat) (g : Chan → Chan) : (d.modChan k g).regs = d.regs := rfl
@[simp] theorem Dev.modChan_clk (k : Nat) (g : Chan → Chan) : (d.modChan k g).clk = d.clk := rfl
@[simp] theorem Dev.modChan_free (k : Nat) (g : Chan → Chan) : (d.modChan k g).free = d.free := rfl
@[simp] theorem Dev.modChan_out (k : Nat) (g : Chan → Chan) : (d.modChan k g).out = d.out := rfl
@[simp] theorem Dev.modChan_topo (k : Nat) (g : Chan → Chan) : (d.modChan k g).topo = d.topo := rfl
@[simp] theorem Dev.modChan_nv (k : Nat) (g : Chan → Chan) : (d.modChan k g).nv = d.nv := rfl
@[simp] theorem Dev.modChan_pwr (k : Nat) (g : Chan → Chan) : (d.modChan k g).pwr = d.pwr := rfl
@[simp] theorem Dev.modChan_load (k : Nat) (g : Chan → Chan) : (d.modChan k g).load = d.load := rfl
@[simp] theorem Dev.modChan_net (k : Nat) (g : Chan → Chan) : (d.modChan k g).net = d.net := rfl
@[simp] theorem Dev.modChan_rcd (k : Nat) (g : Chan → Chan) : (d.modChan k g).rcd = d.rcd := rfl
@[simp] theorem Dev.modChan_lgr (k : Nat) (g : Chan → Chan) : (d.modChan k g).lgr = d.lgr := rfl
@[simp] theorem Dev.modChan_time (k : Nat) (g : Chan → Chan) : (d.modChan k g).time = d.time := rfl
@[simp] theorem Dev.modChan_cue (k : Nat) (g : Chan → Chan) : (d.modChan k g).cue = d.cue := rfl
@[simp] theorem Dev.modChan_ports (k : Nat) (g : Chan → Chan) : (d.modChan k g).ports = d.ports := rfl
@[simp] theorem Dev.modChan_phase (k : Nat) (g : Chan → Chan) : (d.modChan k g).phase = d.phase := rfl
@[simp] theorem Dev.modChan_acq (k : Nat) (g : Chan → Chan) : (d.modChan k g).acq = d.acq := rfl
@[simp] theorem Dev.modChan_est (k : Nat) (g : Chan → Chan) : (d.modChan k g).est = d.est := rfl
@[simp] theorem Dev.modChan_lrn (k : Nat) (g : Chan → Chan) : (d.modChan k g).lrn = d.lrn := rfl
@[simp] theorem Dev.modChan_lim (k : Nat) (g : Chan → Chan) : (d.modChan k g).lim = d.lim := rfl
@[simp] theorem Dev.modChan_seq (k : Nat) (g : Chan → Chan) : (d.modChan k g).seq = d.seq := rfl
@[simp] theorem Dev.modChan_thw (k : Nat) (g : Chan → Chan) : (d.modChan k g).thw = d.thw := rfl
@[simp] theorem Dev.modChan_bal (k : Nat) (g : Chan → Chan) : (d.modChan k g).bal = d.bal := rfl
@[simp] theorem Dev.modChan_chn (k : Nat) (g : Chan → Chan) : (d.modChan k g).chn = { d.chn with chans := tmod Chan.rest d.chn.chans k g } := rfl
@[simp] theorem Dev.modChan_saf (k : Nat) (g : Chan → Chan) : (d.modChan k g).saf = d.saf := rfl

@[simp] theorem Dev.modCell_regs (k : Nat) (g : CellEst → CellEst) : (d.modCell k g).regs = d.regs := rfl
@[simp] theorem Dev.modCell_clk (k : Nat) (g : CellEst → CellEst) : (d.modCell k g).clk = d.clk := rfl
@[simp] theorem Dev.modCell_free (k : Nat) (g : CellEst → CellEst) : (d.modCell k g).free = d.free := rfl
@[simp] theorem Dev.modCell_out (k : Nat) (g : CellEst → CellEst) : (d.modCell k g).out = d.out := rfl
@[simp] theorem Dev.modCell_topo (k : Nat) (g : CellEst → CellEst) : (d.modCell k g).topo = d.topo := rfl
@[simp] theorem Dev.modCell_nv (k : Nat) (g : CellEst → CellEst) : (d.modCell k g).nv = d.nv := rfl
@[simp] theorem Dev.modCell_pwr (k : Nat) (g : CellEst → CellEst) : (d.modCell k g).pwr = d.pwr := rfl
@[simp] theorem Dev.modCell_load (k : Nat) (g : CellEst → CellEst) : (d.modCell k g).load = d.load := rfl
@[simp] theorem Dev.modCell_net (k : Nat) (g : CellEst → CellEst) : (d.modCell k g).net = d.net := rfl
@[simp] theorem Dev.modCell_rcd (k : Nat) (g : CellEst → CellEst) : (d.modCell k g).rcd = d.rcd := rfl
@[simp] theorem Dev.modCell_lgr (k : Nat) (g : CellEst → CellEst) : (d.modCell k g).lgr = d.lgr := rfl
@[simp] theorem Dev.modCell_time (k : Nat) (g : CellEst → CellEst) : (d.modCell k g).time = d.time := rfl
@[simp] theorem Dev.modCell_cue (k : Nat) (g : CellEst → CellEst) : (d.modCell k g).cue = d.cue := rfl
@[simp] theorem Dev.modCell_ports (k : Nat) (g : CellEst → CellEst) : (d.modCell k g).ports = d.ports := rfl
@[simp] theorem Dev.modCell_phase (k : Nat) (g : CellEst → CellEst) : (d.modCell k g).phase = d.phase := rfl
@[simp] theorem Dev.modCell_acq (k : Nat) (g : CellEst → CellEst) : (d.modCell k g).acq = d.acq := rfl
@[simp] theorem Dev.modCell_est (k : Nat) (g : CellEst → CellEst) : (d.modCell k g).est = { d.est with cells := tmod CellEst.blank d.est.cells k g } := rfl
@[simp] theorem Dev.modCell_lrn (k : Nat) (g : CellEst → CellEst) : (d.modCell k g).lrn = d.lrn := rfl
@[simp] theorem Dev.modCell_lim (k : Nat) (g : CellEst → CellEst) : (d.modCell k g).lim = d.lim := rfl
@[simp] theorem Dev.modCell_seq (k : Nat) (g : CellEst → CellEst) : (d.modCell k g).seq = d.seq := rfl
@[simp] theorem Dev.modCell_thw (k : Nat) (g : CellEst → CellEst) : (d.modCell k g).thw = d.thw := rfl
@[simp] theorem Dev.modCell_bal (k : Nat) (g : CellEst → CellEst) : (d.modCell k g).bal = d.bal := rfl
@[simp] theorem Dev.modCell_chn (k : Nat) (g : CellEst → CellEst) : (d.modCell k g).chn = d.chn := rfl
@[simp] theorem Dev.modCell_saf (k : Nat) (g : CellEst → CellEst) : (d.modCell k g).saf = d.saf := rfl

@[simp] theorem Dev.modSe_regs (k : Nat) (g : StrEst → StrEst) : (d.modSe k g).regs = d.regs := rfl
@[simp] theorem Dev.modSe_clk (k : Nat) (g : StrEst → StrEst) : (d.modSe k g).clk = d.clk := rfl
@[simp] theorem Dev.modSe_free (k : Nat) (g : StrEst → StrEst) : (d.modSe k g).free = d.free := rfl
@[simp] theorem Dev.modSe_out (k : Nat) (g : StrEst → StrEst) : (d.modSe k g).out = d.out := rfl
@[simp] theorem Dev.modSe_topo (k : Nat) (g : StrEst → StrEst) : (d.modSe k g).topo = d.topo := rfl
@[simp] theorem Dev.modSe_nv (k : Nat) (g : StrEst → StrEst) : (d.modSe k g).nv = d.nv := rfl
@[simp] theorem Dev.modSe_pwr (k : Nat) (g : StrEst → StrEst) : (d.modSe k g).pwr = d.pwr := rfl
@[simp] theorem Dev.modSe_load (k : Nat) (g : StrEst → StrEst) : (d.modSe k g).load = d.load := rfl
@[simp] theorem Dev.modSe_net (k : Nat) (g : StrEst → StrEst) : (d.modSe k g).net = d.net := rfl
@[simp] theorem Dev.modSe_rcd (k : Nat) (g : StrEst → StrEst) : (d.modSe k g).rcd = d.rcd := rfl
@[simp] theorem Dev.modSe_lgr (k : Nat) (g : StrEst → StrEst) : (d.modSe k g).lgr = d.lgr := rfl
@[simp] theorem Dev.modSe_time (k : Nat) (g : StrEst → StrEst) : (d.modSe k g).time = d.time := rfl
@[simp] theorem Dev.modSe_cue (k : Nat) (g : StrEst → StrEst) : (d.modSe k g).cue = d.cue := rfl
@[simp] theorem Dev.modSe_ports (k : Nat) (g : StrEst → StrEst) : (d.modSe k g).ports = d.ports := rfl
@[simp] theorem Dev.modSe_phase (k : Nat) (g : StrEst → StrEst) : (d.modSe k g).phase = d.phase := rfl
@[simp] theorem Dev.modSe_acq (k : Nat) (g : StrEst → StrEst) : (d.modSe k g).acq = d.acq := rfl
@[simp] theorem Dev.modSe_est (k : Nat) (g : StrEst → StrEst) : (d.modSe k g).est = { d.est with strs := tmod StrEst.blank d.est.strs k g } := rfl
@[simp] theorem Dev.modSe_lrn (k : Nat) (g : StrEst → StrEst) : (d.modSe k g).lrn = d.lrn := rfl
@[simp] theorem Dev.modSe_lim (k : Nat) (g : StrEst → StrEst) : (d.modSe k g).lim = d.lim := rfl
@[simp] theorem Dev.modSe_seq (k : Nat) (g : StrEst → StrEst) : (d.modSe k g).seq = d.seq := rfl
@[simp] theorem Dev.modSe_thw (k : Nat) (g : StrEst → StrEst) : (d.modSe k g).thw = d.thw := rfl
@[simp] theorem Dev.modSe_bal (k : Nat) (g : StrEst → StrEst) : (d.modSe k g).bal = d.bal := rfl
@[simp] theorem Dev.modSe_chn (k : Nat) (g : StrEst → StrEst) : (d.modSe k g).chn = d.chn := rfl
@[simp] theorem Dev.modSe_saf (k : Nat) (g : StrEst → StrEst) : (d.modSe k g).saf = d.saf := rfl

@[simp] theorem Dev.modBlock_regs (k : Nat) (g : BlockSt → BlockSt) : (d.modBlock k g).regs = d.regs := rfl
@[simp] theorem Dev.modBlock_clk (k : Nat) (g : BlockSt → BlockSt) : (d.modBlock k g).clk = d.clk := rfl
@[simp] theorem Dev.modBlock_free (k : Nat) (g : BlockSt → BlockSt) : (d.modBlock k g).free = d.free := rfl
@[simp] theorem Dev.modBlock_out (k : Nat) (g : BlockSt → BlockSt) : (d.modBlock k g).out = d.out := rfl
@[simp] theorem Dev.modBlock_topo (k : Nat) (g : BlockSt → BlockSt) : (d.modBlock k g).topo = d.topo := rfl
@[simp] theorem Dev.modBlock_nv (k : Nat) (g : BlockSt → BlockSt) : (d.modBlock k g).nv = d.nv := rfl
@[simp] theorem Dev.modBlock_pwr (k : Nat) (g : BlockSt → BlockSt) : (d.modBlock k g).pwr = d.pwr := rfl
@[simp] theorem Dev.modBlock_load (k : Nat) (g : BlockSt → BlockSt) : (d.modBlock k g).load = d.load := rfl
@[simp] theorem Dev.modBlock_net (k : Nat) (g : BlockSt → BlockSt) : (d.modBlock k g).net = d.net := rfl
@[simp] theorem Dev.modBlock_rcd (k : Nat) (g : BlockSt → BlockSt) : (d.modBlock k g).rcd = d.rcd := rfl
@[simp] theorem Dev.modBlock_lgr (k : Nat) (g : BlockSt → BlockSt) : (d.modBlock k g).lgr = d.lgr := rfl
@[simp] theorem Dev.modBlock_time (k : Nat) (g : BlockSt → BlockSt) : (d.modBlock k g).time = d.time := rfl
@[simp] theorem Dev.modBlock_cue (k : Nat) (g : BlockSt → BlockSt) : (d.modBlock k g).cue = d.cue := rfl
@[simp] theorem Dev.modBlock_ports (k : Nat) (g : BlockSt → BlockSt) : (d.modBlock k g).ports = d.ports := rfl
@[simp] theorem Dev.modBlock_phase (k : Nat) (g : BlockSt → BlockSt) : (d.modBlock k g).phase = d.phase := rfl
@[simp] theorem Dev.modBlock_acq (k : Nat) (g : BlockSt → BlockSt) : (d.modBlock k g).acq = d.acq := rfl
@[simp] theorem Dev.modBlock_est (k : Nat) (g : BlockSt → BlockSt) : (d.modBlock k g).est = d.est := rfl
@[simp] theorem Dev.modBlock_lrn (k : Nat) (g : BlockSt → BlockSt) : (d.modBlock k g).lrn = { d.lrn with blocks := tmod BlockSt.blank d.lrn.blocks k g } := rfl
@[simp] theorem Dev.modBlock_lim (k : Nat) (g : BlockSt → BlockSt) : (d.modBlock k g).lim = d.lim := rfl
@[simp] theorem Dev.modBlock_seq (k : Nat) (g : BlockSt → BlockSt) : (d.modBlock k g).seq = d.seq := rfl
@[simp] theorem Dev.modBlock_thw (k : Nat) (g : BlockSt → BlockSt) : (d.modBlock k g).thw = d.thw := rfl
@[simp] theorem Dev.modBlock_bal (k : Nat) (g : BlockSt → BlockSt) : (d.modBlock k g).bal = d.bal := rfl
@[simp] theorem Dev.modBlock_chn (k : Nat) (g : BlockSt → BlockSt) : (d.modBlock k g).chn = d.chn := rfl
@[simp] theorem Dev.modBlock_saf (k : Nat) (g : BlockSt → BlockSt) : (d.modBlock k g).saf = d.saf := rfl

@[simp] theorem Dev.modStrLrn_regs (k : Nat) (g : StrLrn → StrLrn) : (d.modStrLrn k g).regs = d.regs := rfl
@[simp] theorem Dev.modStrLrn_clk (k : Nat) (g : StrLrn → StrLrn) : (d.modStrLrn k g).clk = d.clk := rfl
@[simp] theorem Dev.modStrLrn_free (k : Nat) (g : StrLrn → StrLrn) : (d.modStrLrn k g).free = d.free := rfl
@[simp] theorem Dev.modStrLrn_out (k : Nat) (g : StrLrn → StrLrn) : (d.modStrLrn k g).out = d.out := rfl
@[simp] theorem Dev.modStrLrn_topo (k : Nat) (g : StrLrn → StrLrn) : (d.modStrLrn k g).topo = d.topo := rfl
@[simp] theorem Dev.modStrLrn_nv (k : Nat) (g : StrLrn → StrLrn) : (d.modStrLrn k g).nv = d.nv := rfl
@[simp] theorem Dev.modStrLrn_pwr (k : Nat) (g : StrLrn → StrLrn) : (d.modStrLrn k g).pwr = d.pwr := rfl
@[simp] theorem Dev.modStrLrn_load (k : Nat) (g : StrLrn → StrLrn) : (d.modStrLrn k g).load = d.load := rfl
@[simp] theorem Dev.modStrLrn_net (k : Nat) (g : StrLrn → StrLrn) : (d.modStrLrn k g).net = d.net := rfl
@[simp] theorem Dev.modStrLrn_rcd (k : Nat) (g : StrLrn → StrLrn) : (d.modStrLrn k g).rcd = d.rcd := rfl
@[simp] theorem Dev.modStrLrn_lgr (k : Nat) (g : StrLrn → StrLrn) : (d.modStrLrn k g).lgr = d.lgr := rfl
@[simp] theorem Dev.modStrLrn_time (k : Nat) (g : StrLrn → StrLrn) : (d.modStrLrn k g).time = d.time := rfl
@[simp] theorem Dev.modStrLrn_cue (k : Nat) (g : StrLrn → StrLrn) : (d.modStrLrn k g).cue = d.cue := rfl
@[simp] theorem Dev.modStrLrn_ports (k : Nat) (g : StrLrn → StrLrn) : (d.modStrLrn k g).ports = d.ports := rfl
@[simp] theorem Dev.modStrLrn_phase (k : Nat) (g : StrLrn → StrLrn) : (d.modStrLrn k g).phase = d.phase := rfl
@[simp] theorem Dev.modStrLrn_acq (k : Nat) (g : StrLrn → StrLrn) : (d.modStrLrn k g).acq = d.acq := rfl
@[simp] theorem Dev.modStrLrn_est (k : Nat) (g : StrLrn → StrLrn) : (d.modStrLrn k g).est = d.est := rfl
@[simp] theorem Dev.modStrLrn_lrn (k : Nat) (g : StrLrn → StrLrn) : (d.modStrLrn k g).lrn = { d.lrn with strs := tmod StrLrn.blank d.lrn.strs k g } := rfl
@[simp] theorem Dev.modStrLrn_lim (k : Nat) (g : StrLrn → StrLrn) : (d.modStrLrn k g).lim = d.lim := rfl
@[simp] theorem Dev.modStrLrn_seq (k : Nat) (g : StrLrn → StrLrn) : (d.modStrLrn k g).seq = d.seq := rfl
@[simp] theorem Dev.modStrLrn_thw (k : Nat) (g : StrLrn → StrLrn) : (d.modStrLrn k g).thw = d.thw := rfl
@[simp] theorem Dev.modStrLrn_bal (k : Nat) (g : StrLrn → StrLrn) : (d.modStrLrn k g).bal = d.bal := rfl
@[simp] theorem Dev.modStrLrn_chn (k : Nat) (g : StrLrn → StrLrn) : (d.modStrLrn k g).chn = d.chn := rfl
@[simp] theorem Dev.modStrLrn_saf (k : Nat) (g : StrLrn → StrLrn) : (d.modStrLrn k g).saf = d.saf := rfl

@[simp] theorem Dev.modOne_regs (k : Nat) (g : LimOne → LimOne) : (d.modOne k g).regs = d.regs := rfl
@[simp] theorem Dev.modOne_clk (k : Nat) (g : LimOne → LimOne) : (d.modOne k g).clk = d.clk := rfl
@[simp] theorem Dev.modOne_free (k : Nat) (g : LimOne → LimOne) : (d.modOne k g).free = d.free := rfl
@[simp] theorem Dev.modOne_out (k : Nat) (g : LimOne → LimOne) : (d.modOne k g).out = d.out := rfl
@[simp] theorem Dev.modOne_topo (k : Nat) (g : LimOne → LimOne) : (d.modOne k g).topo = d.topo := rfl
@[simp] theorem Dev.modOne_nv (k : Nat) (g : LimOne → LimOne) : (d.modOne k g).nv = d.nv := rfl
@[simp] theorem Dev.modOne_pwr (k : Nat) (g : LimOne → LimOne) : (d.modOne k g).pwr = d.pwr := rfl
@[simp] theorem Dev.modOne_load (k : Nat) (g : LimOne → LimOne) : (d.modOne k g).load = d.load := rfl
@[simp] theorem Dev.modOne_net (k : Nat) (g : LimOne → LimOne) : (d.modOne k g).net = d.net := rfl
@[simp] theorem Dev.modOne_rcd (k : Nat) (g : LimOne → LimOne) : (d.modOne k g).rcd = d.rcd := rfl
@[simp] theorem Dev.modOne_lgr (k : Nat) (g : LimOne → LimOne) : (d.modOne k g).lgr = d.lgr := rfl
@[simp] theorem Dev.modOne_time (k : Nat) (g : LimOne → LimOne) : (d.modOne k g).time = d.time := rfl
@[simp] theorem Dev.modOne_cue (k : Nat) (g : LimOne → LimOne) : (d.modOne k g).cue = d.cue := rfl
@[simp] theorem Dev.modOne_ports (k : Nat) (g : LimOne → LimOne) : (d.modOne k g).ports = d.ports := rfl
@[simp] theorem Dev.modOne_phase (k : Nat) (g : LimOne → LimOne) : (d.modOne k g).phase = d.phase := rfl
@[simp] theorem Dev.modOne_acq (k : Nat) (g : LimOne → LimOne) : (d.modOne k g).acq = d.acq := rfl
@[simp] theorem Dev.modOne_est (k : Nat) (g : LimOne → LimOne) : (d.modOne k g).est = d.est := rfl
@[simp] theorem Dev.modOne_lrn (k : Nat) (g : LimOne → LimOne) : (d.modOne k g).lrn = d.lrn := rfl
@[simp] theorem Dev.modOne_lim (k : Nat) (g : LimOne → LimOne) : (d.modOne k g).lim = { d.lim with ones := tmod LimOne.blank d.lim.ones k g } := rfl
@[simp] theorem Dev.modOne_seq (k : Nat) (g : LimOne → LimOne) : (d.modOne k g).seq = d.seq := rfl
@[simp] theorem Dev.modOne_thw (k : Nat) (g : LimOne → LimOne) : (d.modOne k g).thw = d.thw := rfl
@[simp] theorem Dev.modOne_bal (k : Nat) (g : LimOne → LimOne) : (d.modOne k g).bal = d.bal := rfl
@[simp] theorem Dev.modOne_chn (k : Nat) (g : LimOne → LimOne) : (d.modOne k g).chn = d.chn := rfl
@[simp] theorem Dev.modOne_saf (k : Nat) (g : LimOne → LimOne) : (d.modOne k g).saf = d.saf := rfl

@[simp] theorem Dev.modPoint_regs (k : Nat) (g : PointSt → PointSt) : (d.modPoint k g).regs = d.regs := rfl
@[simp] theorem Dev.modPoint_clk (k : Nat) (g : PointSt → PointSt) : (d.modPoint k g).clk = d.clk := rfl
@[simp] theorem Dev.modPoint_free (k : Nat) (g : PointSt → PointSt) : (d.modPoint k g).free = d.free := rfl
@[simp] theorem Dev.modPoint_out (k : Nat) (g : PointSt → PointSt) : (d.modPoint k g).out = d.out := rfl
@[simp] theorem Dev.modPoint_topo (k : Nat) (g : PointSt → PointSt) : (d.modPoint k g).topo = d.topo := rfl
@[simp] theorem Dev.modPoint_nv (k : Nat) (g : PointSt → PointSt) : (d.modPoint k g).nv = d.nv := rfl
@[simp] theorem Dev.modPoint_pwr (k : Nat) (g : PointSt → PointSt) : (d.modPoint k g).pwr = d.pwr := rfl
@[simp] theorem Dev.modPoint_load (k : Nat) (g : PointSt → PointSt) : (d.modPoint k g).load = d.load := rfl
@[simp] theorem Dev.modPoint_net (k : Nat) (g : PointSt → PointSt) : (d.modPoint k g).net = d.net := rfl
@[simp] theorem Dev.modPoint_rcd (k : Nat) (g : PointSt → PointSt) : (d.modPoint k g).rcd = d.rcd := rfl
@[simp] theorem Dev.modPoint_lgr (k : Nat) (g : PointSt → PointSt) : (d.modPoint k g).lgr = d.lgr := rfl
@[simp] theorem Dev.modPoint_time (k : Nat) (g : PointSt → PointSt) : (d.modPoint k g).time = d.time := rfl
@[simp] theorem Dev.modPoint_cue (k : Nat) (g : PointSt → PointSt) : (d.modPoint k g).cue = d.cue := rfl
@[simp] theorem Dev.modPoint_ports (k : Nat) (g : PointSt → PointSt) : (d.modPoint k g).ports = d.ports := rfl
@[simp] theorem Dev.modPoint_phase (k : Nat) (g : PointSt → PointSt) : (d.modPoint k g).phase = d.phase := rfl
@[simp] theorem Dev.modPoint_acq (k : Nat) (g : PointSt → PointSt) : (d.modPoint k g).acq = d.acq := rfl
@[simp] theorem Dev.modPoint_est (k : Nat) (g : PointSt → PointSt) : (d.modPoint k g).est = d.est := rfl
@[simp] theorem Dev.modPoint_lrn (k : Nat) (g : PointSt → PointSt) : (d.modPoint k g).lrn = d.lrn := rfl
@[simp] theorem Dev.modPoint_lim (k : Nat) (g : PointSt → PointSt) : (d.modPoint k g).lim = d.lim := rfl
@[simp] theorem Dev.modPoint_seq (k : Nat) (g : PointSt → PointSt) : (d.modPoint k g).seq = d.seq := rfl
@[simp] theorem Dev.modPoint_thw (k : Nat) (g : PointSt → PointSt) : (d.modPoint k g).thw = { d.thw with points := tmod PointSt.blank d.thw.points k g } := rfl
@[simp] theorem Dev.modPoint_bal (k : Nat) (g : PointSt → PointSt) : (d.modPoint k g).bal = d.bal := rfl
@[simp] theorem Dev.modPoint_chn (k : Nat) (g : PointSt → PointSt) : (d.modPoint k g).chn = d.chn := rfl
@[simp] theorem Dev.modPoint_saf (k : Nat) (g : PointSt → PointSt) : (d.modPoint k g).saf = d.saf := rfl

@[simp] theorem Dev.modZone_regs (k : Nat) (g : ZoneSt → ZoneSt) : (d.modZone k g).regs = d.regs := rfl
@[simp] theorem Dev.modZone_clk (k : Nat) (g : ZoneSt → ZoneSt) : (d.modZone k g).clk = d.clk := rfl
@[simp] theorem Dev.modZone_free (k : Nat) (g : ZoneSt → ZoneSt) : (d.modZone k g).free = d.free := rfl
@[simp] theorem Dev.modZone_out (k : Nat) (g : ZoneSt → ZoneSt) : (d.modZone k g).out = d.out := rfl
@[simp] theorem Dev.modZone_topo (k : Nat) (g : ZoneSt → ZoneSt) : (d.modZone k g).topo = d.topo := rfl
@[simp] theorem Dev.modZone_nv (k : Nat) (g : ZoneSt → ZoneSt) : (d.modZone k g).nv = d.nv := rfl
@[simp] theorem Dev.modZone_pwr (k : Nat) (g : ZoneSt → ZoneSt) : (d.modZone k g).pwr = d.pwr := rfl
@[simp] theorem Dev.modZone_load (k : Nat) (g : ZoneSt → ZoneSt) : (d.modZone k g).load = d.load := rfl
@[simp] theorem Dev.modZone_net (k : Nat) (g : ZoneSt → ZoneSt) : (d.modZone k g).net = d.net := rfl
@[simp] theorem Dev.modZone_rcd (k : Nat) (g : ZoneSt → ZoneSt) : (d.modZone k g).rcd = d.rcd := rfl
@[simp] theorem Dev.modZone_lgr (k : Nat) (g : ZoneSt → ZoneSt) : (d.modZone k g).lgr = d.lgr := rfl
@[simp] theorem Dev.modZone_time (k : Nat) (g : ZoneSt → ZoneSt) : (d.modZone k g).time = d.time := rfl
@[simp] theorem Dev.modZone_cue (k : Nat) (g : ZoneSt → ZoneSt) : (d.modZone k g).cue = d.cue := rfl
@[simp] theorem Dev.modZone_ports (k : Nat) (g : ZoneSt → ZoneSt) : (d.modZone k g).ports = d.ports := rfl
@[simp] theorem Dev.modZone_phase (k : Nat) (g : ZoneSt → ZoneSt) : (d.modZone k g).phase = d.phase := rfl
@[simp] theorem Dev.modZone_acq (k : Nat) (g : ZoneSt → ZoneSt) : (d.modZone k g).acq = d.acq := rfl
@[simp] theorem Dev.modZone_est (k : Nat) (g : ZoneSt → ZoneSt) : (d.modZone k g).est = d.est := rfl
@[simp] theorem Dev.modZone_lrn (k : Nat) (g : ZoneSt → ZoneSt) : (d.modZone k g).lrn = d.lrn := rfl
@[simp] theorem Dev.modZone_lim (k : Nat) (g : ZoneSt → ZoneSt) : (d.modZone k g).lim = d.lim := rfl
@[simp] theorem Dev.modZone_seq (k : Nat) (g : ZoneSt → ZoneSt) : (d.modZone k g).seq = d.seq := rfl
@[simp] theorem Dev.modZone_thw (k : Nat) (g : ZoneSt → ZoneSt) : (d.modZone k g).thw = { d.thw with zones := tmod ZoneSt.blank d.thw.zones k g } := rfl
@[simp] theorem Dev.modZone_bal (k : Nat) (g : ZoneSt → ZoneSt) : (d.modZone k g).bal = d.bal := rfl
@[simp] theorem Dev.modZone_chn (k : Nat) (g : ZoneSt → ZoneSt) : (d.modZone k g).chn = d.chn := rfl
@[simp] theorem Dev.modZone_saf (k : Nat) (g : ZoneSt → ZoneSt) : (d.modZone k g).saf = d.saf := rfl

@[simp] theorem Dev.modBalPort_regs (k : Nat) (g : BalPort → BalPort) : (d.modBalPort k g).regs = d.regs := rfl
@[simp] theorem Dev.modBalPort_clk (k : Nat) (g : BalPort → BalPort) : (d.modBalPort k g).clk = d.clk := rfl
@[simp] theorem Dev.modBalPort_free (k : Nat) (g : BalPort → BalPort) : (d.modBalPort k g).free = d.free := rfl
@[simp] theorem Dev.modBalPort_out (k : Nat) (g : BalPort → BalPort) : (d.modBalPort k g).out = d.out := rfl
@[simp] theorem Dev.modBalPort_topo (k : Nat) (g : BalPort → BalPort) : (d.modBalPort k g).topo = d.topo := rfl
@[simp] theorem Dev.modBalPort_nv (k : Nat) (g : BalPort → BalPort) : (d.modBalPort k g).nv = d.nv := rfl
@[simp] theorem Dev.modBalPort_pwr (k : Nat) (g : BalPort → BalPort) : (d.modBalPort k g).pwr = d.pwr := rfl
@[simp] theorem Dev.modBalPort_load (k : Nat) (g : BalPort → BalPort) : (d.modBalPort k g).load = d.load := rfl
@[simp] theorem Dev.modBalPort_net (k : Nat) (g : BalPort → BalPort) : (d.modBalPort k g).net = d.net := rfl
@[simp] theorem Dev.modBalPort_rcd (k : Nat) (g : BalPort → BalPort) : (d.modBalPort k g).rcd = d.rcd := rfl
@[simp] theorem Dev.modBalPort_lgr (k : Nat) (g : BalPort → BalPort) : (d.modBalPort k g).lgr = d.lgr := rfl
@[simp] theorem Dev.modBalPort_time (k : Nat) (g : BalPort → BalPort) : (d.modBalPort k g).time = d.time := rfl
@[simp] theorem Dev.modBalPort_cue (k : Nat) (g : BalPort → BalPort) : (d.modBalPort k g).cue = d.cue := rfl
@[simp] theorem Dev.modBalPort_ports (k : Nat) (g : BalPort → BalPort) : (d.modBalPort k g).ports = d.ports := rfl
@[simp] theorem Dev.modBalPort_phase (k : Nat) (g : BalPort → BalPort) : (d.modBalPort k g).phase = d.phase := rfl
@[simp] theorem Dev.modBalPort_acq (k : Nat) (g : BalPort → BalPort) : (d.modBalPort k g).acq = d.acq := rfl
@[simp] theorem Dev.modBalPort_est (k : Nat) (g : BalPort → BalPort) : (d.modBalPort k g).est = d.est := rfl
@[simp] theorem Dev.modBalPort_lrn (k : Nat) (g : BalPort → BalPort) : (d.modBalPort k g).lrn = d.lrn := rfl
@[simp] theorem Dev.modBalPort_lim (k : Nat) (g : BalPort → BalPort) : (d.modBalPort k g).lim = d.lim := rfl
@[simp] theorem Dev.modBalPort_seq (k : Nat) (g : BalPort → BalPort) : (d.modBalPort k g).seq = d.seq := rfl
@[simp] theorem Dev.modBalPort_thw (k : Nat) (g : BalPort → BalPort) : (d.modBalPort k g).thw = d.thw := rfl
@[simp] theorem Dev.modBalPort_bal (k : Nat) (g : BalPort → BalPort) : (d.modBalPort k g).bal = { d.bal with ports := tmod BalPort.blank d.bal.ports k g } := rfl
@[simp] theorem Dev.modBalPort_chn (k : Nat) (g : BalPort → BalPort) : (d.modBalPort k g).chn = d.chn := rfl
@[simp] theorem Dev.modBalPort_saf (k : Nat) (g : BalPort → BalPort) : (d.modBalPort k g).saf = d.saf := rfl

@[simp] theorem Dev.modSlot_regs (k : Nat) (g : Slot → Slot) : (d.modSlot k g).regs = d.regs := rfl
@[simp] theorem Dev.modSlot_clk (k : Nat) (g : Slot → Slot) : (d.modSlot k g).clk = d.clk := rfl
@[simp] theorem Dev.modSlot_free (k : Nat) (g : Slot → Slot) : (d.modSlot k g).free = d.free := rfl
@[simp] theorem Dev.modSlot_out (k : Nat) (g : Slot → Slot) : (d.modSlot k g).out = d.out := rfl
@[simp] theorem Dev.modSlot_topo (k : Nat) (g : Slot → Slot) : (d.modSlot k g).topo = d.topo := rfl
@[simp] theorem Dev.modSlot_nv (k : Nat) (g : Slot → Slot) : (d.modSlot k g).nv = d.nv := rfl
@[simp] theorem Dev.modSlot_pwr (k : Nat) (g : Slot → Slot) : (d.modSlot k g).pwr = d.pwr := rfl
@[simp] theorem Dev.modSlot_load (k : Nat) (g : Slot → Slot) : (d.modSlot k g).load = d.load := rfl
@[simp] theorem Dev.modSlot_net (k : Nat) (g : Slot → Slot) : (d.modSlot k g).net = d.net := rfl
@[simp] theorem Dev.modSlot_rcd (k : Nat) (g : Slot → Slot) : (d.modSlot k g).rcd = d.rcd := rfl
@[simp] theorem Dev.modSlot_lgr (k : Nat) (g : Slot → Slot) : (d.modSlot k g).lgr = d.lgr := rfl
@[simp] theorem Dev.modSlot_time (k : Nat) (g : Slot → Slot) : (d.modSlot k g).time = d.time := rfl
@[simp] theorem Dev.modSlot_cue (k : Nat) (g : Slot → Slot) : (d.modSlot k g).cue = { d.cue with slots := tmod Slot.empty d.cue.slots k g } := rfl
@[simp] theorem Dev.modSlot_ports (k : Nat) (g : Slot → Slot) : (d.modSlot k g).ports = d.ports := rfl
@[simp] theorem Dev.modSlot_phase (k : Nat) (g : Slot → Slot) : (d.modSlot k g).phase = d.phase := rfl
@[simp] theorem Dev.modSlot_acq (k : Nat) (g : Slot → Slot) : (d.modSlot k g).acq = d.acq := rfl
@[simp] theorem Dev.modSlot_est (k : Nat) (g : Slot → Slot) : (d.modSlot k g).est = d.est := rfl
@[simp] theorem Dev.modSlot_lrn (k : Nat) (g : Slot → Slot) : (d.modSlot k g).lrn = d.lrn := rfl
@[simp] theorem Dev.modSlot_lim (k : Nat) (g : Slot → Slot) : (d.modSlot k g).lim = d.lim := rfl
@[simp] theorem Dev.modSlot_seq (k : Nat) (g : Slot → Slot) : (d.modSlot k g).seq = d.seq := rfl
@[simp] theorem Dev.modSlot_thw (k : Nat) (g : Slot → Slot) : (d.modSlot k g).thw = d.thw := rfl
@[simp] theorem Dev.modSlot_bal (k : Nat) (g : Slot → Slot) : (d.modSlot k g).bal = d.bal := rfl
@[simp] theorem Dev.modSlot_chn (k : Nat) (g : Slot → Slot) : (d.modSlot k g).chn = d.chn := rfl
@[simp] theorem Dev.modSlot_saf (k : Nat) (g : Slot → Slot) : (d.modSlot k g).saf = d.saf := rfl

@[simp] theorem Dev.modCue_regs (k : Nat) (g : Cue → Cue) : (d.modCue k g).regs = d.regs := rfl
@[simp] theorem Dev.modCue_clk (k : Nat) (g : Cue → Cue) : (d.modCue k g).clk = d.clk := rfl
@[simp] theorem Dev.modCue_free (k : Nat) (g : Cue → Cue) : (d.modCue k g).free = d.free := rfl
@[simp] theorem Dev.modCue_out (k : Nat) (g : Cue → Cue) : (d.modCue k g).out = d.out := rfl
@[simp] theorem Dev.modCue_topo (k : Nat) (g : Cue → Cue) : (d.modCue k g).topo = d.topo := rfl
@[simp] theorem Dev.modCue_nv (k : Nat) (g : Cue → Cue) : (d.modCue k g).nv = d.nv := rfl
@[simp] theorem Dev.modCue_pwr (k : Nat) (g : Cue → Cue) : (d.modCue k g).pwr = d.pwr := rfl
@[simp] theorem Dev.modCue_load (k : Nat) (g : Cue → Cue) : (d.modCue k g).load = d.load := rfl
@[simp] theorem Dev.modCue_net (k : Nat) (g : Cue → Cue) : (d.modCue k g).net = d.net := rfl
@[simp] theorem Dev.modCue_rcd (k : Nat) (g : Cue → Cue) : (d.modCue k g).rcd = d.rcd := rfl
@[simp] theorem Dev.modCue_lgr (k : Nat) (g : Cue → Cue) : (d.modCue k g).lgr = d.lgr := rfl
@[simp] theorem Dev.modCue_time (k : Nat) (g : Cue → Cue) : (d.modCue k g).time = d.time := rfl
@[simp] theorem Dev.modCue_cue (k : Nat) (g : Cue → Cue) : (d.modCue k g).cue = { d.cue with list := tmod Cue.empty d.cue.list k g } := rfl
@[simp] theorem Dev.modCue_ports (k : Nat) (g : Cue → Cue) : (d.modCue k g).ports = d.ports := rfl
@[simp] theorem Dev.modCue_phase (k : Nat) (g : Cue → Cue) : (d.modCue k g).phase = d.phase := rfl
@[simp] theorem Dev.modCue_acq (k : Nat) (g : Cue → Cue) : (d.modCue k g).acq = d.acq := rfl
@[simp] theorem Dev.modCue_est (k : Nat) (g : Cue → Cue) : (d.modCue k g).est = d.est := rfl
@[simp] theorem Dev.modCue_lrn (k : Nat) (g : Cue → Cue) : (d.modCue k g).lrn = d.lrn := rfl
@[simp] theorem Dev.modCue_lim (k : Nat) (g : Cue → Cue) : (d.modCue k g).lim = d.lim := rfl
@[simp] theorem Dev.modCue_seq (k : Nat) (g : Cue → Cue) : (d.modCue k g).seq = d.seq := rfl
@[simp] theorem Dev.modCue_thw (k : Nat) (g : Cue → Cue) : (d.modCue k g).thw = d.thw := rfl
@[simp] theorem Dev.modCue_bal (k : Nat) (g : Cue → Cue) : (d.modCue k g).bal = d.bal := rfl
@[simp] theorem Dev.modCue_chn (k : Nat) (g : Cue → Cue) : (d.modCue k g).chn = d.chn := rfl
@[simp] theorem Dev.modCue_saf (k : Nat) (g : Cue → Cue) : (d.modCue k g).saf = d.saf := rfl

@[simp] theorem Dev.modDom_regs (k : Nat) (g : Domain → Domain) : (d.modDom k g).regs = d.regs := rfl
@[simp] theorem Dev.modDom_clk (k : Nat) (g : Domain → Domain) : (d.modDom k g).clk = d.clk := rfl
@[simp] theorem Dev.modDom_free (k : Nat) (g : Domain → Domain) : (d.modDom k g).free = d.free := rfl
@[simp] theorem Dev.modDom_out (k : Nat) (g : Domain → Domain) : (d.modDom k g).out = d.out := rfl
@[simp] theorem Dev.modDom_topo (k : Nat) (g : Domain → Domain) : (d.modDom k g).topo = d.topo := rfl
@[simp] theorem Dev.modDom_nv (k : Nat) (g : Domain → Domain) : (d.modDom k g).nv = d.nv := rfl
@[simp] theorem Dev.modDom_pwr (k : Nat) (g : Domain → Domain) : (d.modDom k g).pwr = d.pwr := rfl
@[simp] theorem Dev.modDom_load (k : Nat) (g : Domain → Domain) : (d.modDom k g).load = d.load := rfl
@[simp] theorem Dev.modDom_net (k : Nat) (g : Domain → Domain) : (d.modDom k g).net = d.net := rfl
@[simp] theorem Dev.modDom_rcd (k : Nat) (g : Domain → Domain) : (d.modDom k g).rcd = d.rcd := rfl
@[simp] theorem Dev.modDom_lgr (k : Nat) (g : Domain → Domain) : (d.modDom k g).lgr = d.lgr := rfl
@[simp] theorem Dev.modDom_cue (k : Nat) (g : Domain → Domain) : (d.modDom k g).cue = d.cue := rfl
@[simp] theorem Dev.modDom_ports (k : Nat) (g : Domain → Domain) : (d.modDom k g).ports = d.ports := rfl
@[simp] theorem Dev.modDom_phase (k : Nat) (g : Domain → Domain) : (d.modDom k g).phase = d.phase := rfl
@[simp] theorem Dev.modDom_acq (k : Nat) (g : Domain → Domain) : (d.modDom k g).acq = d.acq := rfl
@[simp] theorem Dev.modDom_est (k : Nat) (g : Domain → Domain) : (d.modDom k g).est = d.est := rfl
@[simp] theorem Dev.modDom_lrn (k : Nat) (g : Domain → Domain) : (d.modDom k g).lrn = d.lrn := rfl
@[simp] theorem Dev.modDom_lim (k : Nat) (g : Domain → Domain) : (d.modDom k g).lim = d.lim := rfl
@[simp] theorem Dev.modDom_seq (k : Nat) (g : Domain → Domain) : (d.modDom k g).seq = d.seq := rfl
@[simp] theorem Dev.modDom_thw (k : Nat) (g : Domain → Domain) : (d.modDom k g).thw = d.thw := rfl
@[simp] theorem Dev.modDom_bal (k : Nat) (g : Domain → Domain) : (d.modDom k g).bal = d.bal := rfl
@[simp] theorem Dev.modDom_chn (k : Nat) (g : Domain → Domain) : (d.modDom k g).chn = d.chn := rfl
@[simp] theorem Dev.modDom_saf (k : Nat) (g : Domain → Domain) : (d.modDom k g).saf = d.saf := rfl

@[simp] theorem Dev.modTrk_regs (k : Nat) (g : Tracker → Tracker) : (d.modTrk k g).regs = d.regs := rfl
@[simp] theorem Dev.modTrk_clk (k : Nat) (g : Tracker → Tracker) : (d.modTrk k g).clk = d.clk := rfl
@[simp] theorem Dev.modTrk_free (k : Nat) (g : Tracker → Tracker) : (d.modTrk k g).free = d.free := rfl
@[simp] theorem Dev.modTrk_out (k : Nat) (g : Tracker → Tracker) : (d.modTrk k g).out = d.out := rfl
@[simp] theorem Dev.modTrk_topo (k : Nat) (g : Tracker → Tracker) : (d.modTrk k g).topo = d.topo := rfl
@[simp] theorem Dev.modTrk_nv (k : Nat) (g : Tracker → Tracker) : (d.modTrk k g).nv = d.nv := rfl
@[simp] theorem Dev.modTrk_pwr (k : Nat) (g : Tracker → Tracker) : (d.modTrk k g).pwr = d.pwr := rfl
@[simp] theorem Dev.modTrk_load (k : Nat) (g : Tracker → Tracker) : (d.modTrk k g).load = d.load := rfl
@[simp] theorem Dev.modTrk_net (k : Nat) (g : Tracker → Tracker) : (d.modTrk k g).net = d.net := rfl
@[simp] theorem Dev.modTrk_rcd (k : Nat) (g : Tracker → Tracker) : (d.modTrk k g).rcd = d.rcd := rfl
@[simp] theorem Dev.modTrk_lgr (k : Nat) (g : Tracker → Tracker) : (d.modTrk k g).lgr = d.lgr := rfl
@[simp] theorem Dev.modTrk_time (k : Nat) (g : Tracker → Tracker) : (d.modTrk k g).time = { d.time with trk := tmod Tracker.start d.time.trk k g } := rfl
@[simp] theorem Dev.modTrk_cue (k : Nat) (g : Tracker → Tracker) : (d.modTrk k g).cue = d.cue := rfl
@[simp] theorem Dev.modTrk_ports (k : Nat) (g : Tracker → Tracker) : (d.modTrk k g).ports = d.ports := rfl
@[simp] theorem Dev.modTrk_phase (k : Nat) (g : Tracker → Tracker) : (d.modTrk k g).phase = d.phase := rfl
@[simp] theorem Dev.modTrk_acq (k : Nat) (g : Tracker → Tracker) : (d.modTrk k g).acq = d.acq := rfl
@[simp] theorem Dev.modTrk_est (k : Nat) (g : Tracker → Tracker) : (d.modTrk k g).est = d.est := rfl
@[simp] theorem Dev.modTrk_lrn (k : Nat) (g : Tracker → Tracker) : (d.modTrk k g).lrn = d.lrn := rfl
@[simp] theorem Dev.modTrk_lim (k : Nat) (g : Tracker → Tracker) : (d.modTrk k g).lim = d.lim := rfl
@[simp] theorem Dev.modTrk_seq (k : Nat) (g : Tracker → Tracker) : (d.modTrk k g).seq = d.seq := rfl
@[simp] theorem Dev.modTrk_thw (k : Nat) (g : Tracker → Tracker) : (d.modTrk k g).thw = d.thw := rfl
@[simp] theorem Dev.modTrk_bal (k : Nat) (g : Tracker → Tracker) : (d.modTrk k g).bal = d.bal := rfl
@[simp] theorem Dev.modTrk_chn (k : Nat) (g : Tracker → Tracker) : (d.modTrk k g).chn = d.chn := rfl
@[simp] theorem Dev.modTrk_saf (k : Nat) (g : Tracker → Tracker) : (d.modTrk k g).saf = d.saf := rfl

@[simp] theorem Dev.modPtp_regs (k : Nat) (g : PtpSt → PtpSt) : (d.modPtp k g).regs = d.regs := rfl
@[simp] theorem Dev.modPtp_clk (k : Nat) (g : PtpSt → PtpSt) : (d.modPtp k g).clk = d.clk := rfl
@[simp] theorem Dev.modPtp_free (k : Nat) (g : PtpSt → PtpSt) : (d.modPtp k g).free = d.free := rfl
@[simp] theorem Dev.modPtp_out (k : Nat) (g : PtpSt → PtpSt) : (d.modPtp k g).out = d.out := rfl
@[simp] theorem Dev.modPtp_topo (k : Nat) (g : PtpSt → PtpSt) : (d.modPtp k g).topo = d.topo := rfl
@[simp] theorem Dev.modPtp_nv (k : Nat) (g : PtpSt → PtpSt) : (d.modPtp k g).nv = d.nv := rfl
@[simp] theorem Dev.modPtp_pwr (k : Nat) (g : PtpSt → PtpSt) : (d.modPtp k g).pwr = d.pwr := rfl
@[simp] theorem Dev.modPtp_load (k : Nat) (g : PtpSt → PtpSt) : (d.modPtp k g).load = d.load := rfl
@[simp] theorem Dev.modPtp_net (k : Nat) (g : PtpSt → PtpSt) : (d.modPtp k g).net = d.net := rfl
@[simp] theorem Dev.modPtp_rcd (k : Nat) (g : PtpSt → PtpSt) : (d.modPtp k g).rcd = d.rcd := rfl
@[simp] theorem Dev.modPtp_lgr (k : Nat) (g : PtpSt → PtpSt) : (d.modPtp k g).lgr = d.lgr := rfl
@[simp] theorem Dev.modPtp_time (k : Nat) (g : PtpSt → PtpSt) : (d.modPtp k g).time = { d.time with ptp := tmod PtpSt.start d.time.ptp k g } := rfl
@[simp] theorem Dev.modPtp_cue (k : Nat) (g : PtpSt → PtpSt) : (d.modPtp k g).cue = d.cue := rfl
@[simp] theorem Dev.modPtp_ports (k : Nat) (g : PtpSt → PtpSt) : (d.modPtp k g).ports = d.ports := rfl
@[simp] theorem Dev.modPtp_phase (k : Nat) (g : PtpSt → PtpSt) : (d.modPtp k g).phase = d.phase := rfl
@[simp] theorem Dev.modPtp_acq (k : Nat) (g : PtpSt → PtpSt) : (d.modPtp k g).acq = d.acq := rfl
@[simp] theorem Dev.modPtp_est (k : Nat) (g : PtpSt → PtpSt) : (d.modPtp k g).est = d.est := rfl
@[simp] theorem Dev.modPtp_lrn (k : Nat) (g : PtpSt → PtpSt) : (d.modPtp k g).lrn = d.lrn := rfl
@[simp] theorem Dev.modPtp_lim (k : Nat) (g : PtpSt → PtpSt) : (d.modPtp k g).lim = d.lim := rfl
@[simp] theorem Dev.modPtp_seq (k : Nat) (g : PtpSt → PtpSt) : (d.modPtp k g).seq = d.seq := rfl
@[simp] theorem Dev.modPtp_thw (k : Nat) (g : PtpSt → PtpSt) : (d.modPtp k g).thw = d.thw := rfl
@[simp] theorem Dev.modPtp_bal (k : Nat) (g : PtpSt → PtpSt) : (d.modPtp k g).bal = d.bal := rfl
@[simp] theorem Dev.modPtp_chn (k : Nat) (g : PtpSt → PtpSt) : (d.modPtp k g).chn = d.chn := rfl
@[simp] theorem Dev.modPtp_saf (k : Nat) (g : PtpSt → PtpSt) : (d.modPtp k g).saf = d.saf := rfl

end Sys2Proof.Machine
end

