-- ==== Sys2Proof/Laws/Regs.lean ====
section
/-! SUPPORT. The laws of the register file: a field reads what was last written to it, cut to its width; a write
leaves every other field alone; and no other operation changes a field. -/

namespace Sys2Proof.Machine

theorem RegFile.get_put_same (r : RegFile) (f : Fld) (v : Nat) : (r.put f v).get f = v % 2 ^ f.wid := by
  unfold RegFile.get RegFile.put
  split
  · simp [look_strike_same, *]
  · simp [look_place_same]

theorem RegFile.get_put_other (r : RegFile) {f g : Fld} (v : Nat) (h : g.key ≠ f.key) :
    (r.put f v).get g = r.get g := by
  unfold RegFile.get RegFile.put
  split
  · rw [look_strike_other r h]
  · rw [look_place_other r _ h]

variable (d : Dev)

@[simp] theorem Dev.rd_wr_same (f : Fld) (v : Nat) : (d.wr f v).rd f = v % 2 ^ f.wid :=
  RegFile.get_put_same d.regs f v

@[simp] theorem Dev.rd_wr_other {f g : Fld} (v : Nat) (h : g.key ≠ f.key) : (d.wr f v).rd g = d.rd g :=
  RegFile.get_put_other d.regs v h

@[simp] theorem Dev.rd_flag_other {f g : Fld} (b : Bool) (h : g.key ≠ f.key) : (d.flag f b).rd g = d.rd g :=
  RegFile.get_put_other d.regs b.toNat h

@[simp] theorem Dev.rd_flag_same (f : Fld) (b : Bool) (h : f.wid = 1) : (d.flag f b).rd f = b.toNat := by
  unfold Dev.flag
  rw [Dev.rd_wr_same, h]
  cases b <;> rfl

@[simp] theorem Dev.rd_bump_same (f : Fld) : (d.bump f).rd f = min (d.rd f + 1) (2 ^ f.wid - 1) := by
  unfold Dev.bump
  rw [Dev.rd_wr_same]
  have : 0 < 2 ^ f.wid := Nat.two_pow_pos _
  exact Nat.mod_eq_of_lt (by omega)

@[simp] theorem Dev.rd_bump_other {f g : Fld} (h : g.key ≠ f.key) : (d.bump f).rd g = d.rd g :=
  RegFile.get_put_other d.regs _ h

@[simp] theorem Dev.rd_bumpMod_same (f : Fld) : (d.bumpMod f).rd f = (d.rd f + 1) % 2 ^ f.wid :=
  Dev.rd_wr_same d f _

@[simp] theorem Dev.rd_bumpMod_other {f g : Fld} (h : g.key ≠ f.key) : (d.bumpMod f).rd g = d.rd g :=
  RegFile.get_put_other d.regs _ h

@[simp] theorem Dev.rd_emit (x : Msg) (f : Fld) : (d.emit x).rd f = d.rd f := rfl
@[simp] theorem Dev.rd_commit (f : Fld) : (d.commit).rd f = d.rd f := rfl
@[simp] theorem Dev.rd_record (k : Kind) (x : List Byte) (f : Fld) : (d.record k x).rd f = d.rd f := by unfold Dev.rd; simp
@[simp] theorem Dev.rd_modSaf (g : SafSt → SafSt) (f : Fld) : (d.modSaf g).rd f = d.rd f := rfl
@[simp] theorem Dev.rd_modPwr (g : PwrSt → PwrSt) (f : Fld) : (d.modPwr g).rd f = d.rd f := rfl
@[simp] theorem Dev.rd_modNv (g : Nv → Nv) (f : Fld) : (d.modNv g).rd f = d.rd f := rfl
@[simp] theorem Dev.rd_modSeq (g : SeqSt → SeqSt) (f : Fld) : (d.modSeq g).rd f = d.rd f := rfl
@[simp] theorem Dev.rd_modChn (g : ChnSt → ChnSt) (f : Fld) : (d.modChn g).rd f = d.rd f := rfl
@[simp] theorem Dev.rd_modLoad (g : LoadSt → LoadSt) (f : Fld) : (d.modLoad g).rd f = d.rd f := rfl
@[simp] theorem Dev.rd_modRcd (g : RecSt → RecSt) (f : Fld) : (d.modRcd g).rd f = d.rd f := rfl
@[simp] theorem Dev.rd_modLgr (g : LgrSt → LgrSt) (f : Fld) : (d.modLgr g).rd f = d.rd f := rfl
@[simp] theorem Dev.rd_modPhase (g : PhaseSt → PhaseSt) (f : Fld) : (d.modPhase g).rd f = d.rd f := rfl
@[simp] theorem Dev.rd_modAcq (g : AcqSt → AcqSt) (f : Fld) : (d.modAcq g).rd f = d.rd f := rfl
@[simp] theorem Dev.rd_modLim (g : LimSt → LimSt) (f : Fld) : (d.modLim g).rd f = d.rd f := rfl
@[simp] theorem Dev.rd_modThw (g : ThwSt → ThwSt) (f : Fld) : (d.modThw g).rd f = d.rd f := rfl
@[simp] theorem Dev.rd_modBal (g : BalSt → BalSt) (f : Fld) : (d.modBal g).rd f = d.rd f := rfl
@[simp] theorem Dev.rd_modLrn (g : LrnSt → LrnSt) (f : Fld) : (d.modLrn g).rd f = d.rd f := rfl
@[simp] theorem Dev.rd_modEst (g : EstSt → EstSt) (f : Fld) : (d.modEst g).rd f = d.rd f := rfl
@[simp] theorem Dev.rd_modCueSt (g : CueSt → CueSt) (f : Fld) : (d.modCueSt g).rd f = d.rd f := rfl
@[simp] theorem Dev.rd_modRet (g : Retained → Retained) (f : Fld) : (d.modRet g).rd f = d.rd f := rfl
@[simp] theorem Dev.rd_modPort (k : Nat) (g : PortSt → PortSt) (f : Fld) : (d.modPort k g).rd f = d.rd f := rfl
@[simp] theorem Dev.rd_modSq (k : Nat) (g : StrSeq → StrSeq) (f : Fld) : (d.modSq k g).rd f = d.rd f := rfl
@[simp] theorem Dev.rd_modSess (k : Nat) (g : Sess → Sess) (f : Fld) : (d.modSess k g).rd f = d.rd f := rfl
@[simp] theorem Dev.rd_modChan (k : Nat) (g : Chan → Chan) (f : Fld) : (d.modChan k g).rd f = d.rd f := rfl
@[simp] theorem Dev.rd_modCell (k : Nat) (g : CellEst → CellEst) (f : Fld) : (d.modCell k g).rd f = d.rd f := rfl
@[simp] theorem Dev.rd_modSe (k : Nat) (g : StrEst → StrEst) (f : Fld) : (d.modSe k g).rd f = d.rd f := rfl
@[simp] theorem Dev.rd_modBlock (k : Nat) (g : BlockSt → BlockSt) (f : Fld) : (d.modBlock k g).rd f = d.rd f := rfl
@[simp] theorem Dev.rd_modStrLrn (k : Nat) (g : StrLrn → StrLrn) (f : Fld) : (d.modStrLrn k g).rd f = d.rd f := rfl
@[simp] theorem Dev.rd_modOne (k : Nat) (g : LimOne → LimOne) (f : Fld) : (d.modOne k g).rd f = d.rd f := rfl
@[simp] theorem Dev.rd_modPoint (k : Nat) (g : PointSt → PointSt) (f : Fld) : (d.modPoint k g).rd f = d.rd f := rfl
@[simp] theorem Dev.rd_modZone (k : Nat) (g : ZoneSt → ZoneSt) (f : Fld) : (d.modZone k g).rd f = d.rd f := rfl
@[simp] theorem Dev.rd_modBalPort (k : Nat) (g : BalPort → BalPort) (f : Fld) : (d.modBalPort k g).rd f = d.rd f := rfl
@[simp] theorem Dev.rd_modSlot (k : Nat) (g : Slot → Slot) (f : Fld) : (d.modSlot k g).rd f = d.rd f := rfl
@[simp] theorem Dev.rd_modCue (k : Nat) (g : Cue → Cue) (f : Fld) : (d.modCue k g).rd f = d.rd f := rfl
@[simp] theorem Dev.rd_modDom (k : Nat) (g : Domain → Domain) (f : Fld) : (d.modDom k g).rd f = d.rd f := rfl
@[simp] theorem Dev.rd_modTrk (k : Nat) (g : Tracker → Tracker) (f : Fld) : (d.modTrk k g).rd f = d.rd f := rfl
@[simp] theorem Dev.rd_modPtp (k : Nat) (g : PtpSt → PtpSt) (f : Fld) : (d.modPtp k g).rd f = d.rd f := rfl

end Sys2Proof.Machine
end

