-- ==== Sys2Proof/Laws/Run.lean ====
section
/-! SUPPORT. What the shared ways of running a command do: `run` and `runMem` always give a next state with the
queue as it was, the end of a step numbers its records and changes nothing else, and an answer touches only
the session and what is sent. -/

namespace Sys2Proof.Machine

theorem run_next (s : State) (f : Mem → Dev → Dev) :
    s.run f = .next { s with dev := (f s.mem s.dev).commit } := rfl

theorem runMem_next (s : State) (f : Mem → Dev → Mem × Dev) :
    s.runMem f = .next { s with mem := (f s.mem s.dev).1, dev := (f s.mem s.dev).2.commit } := rfl

theorem number_drafts (r : RecSt) (x : Rec) : (r.number x).drafts = r.drafts := by
  unfold RecSt.number
  split
  · rfl
  · simp only
    split <;> split <;> rfl

theorem foldl_number_drafts (l : List Rec) (r : RecSt) : (l.foldl RecSt.number r).drafts = r.drafts := by
  induction l generalizing r with
  | nil => rfl
  | cons x l ih => simp [List.foldl, ih, number_drafts]

/-- After a step no record waits for its SEQ. -/
@[simp] theorem commit_drafts (r : RecSt) : r.commit.drafts = [] := by
  unfold RecSt.commit
  split
  · assumption
  · exact foldl_number_drafts _ _

/-- Without a record of the step, its end changes nothing. -/
theorem RecSt.commit_none {r : RecSt} (h : r.drafts = []) : r.commit = r := by
  unfold RecSt.commit
  rw [h]

theorem commit_none {d : Dev} (h : d.rcd.drafts = []) : d.commit = d := by
  unfold Dev.commit
  rw [RecSt.commit_none h]

theorem host_heard {sid : Nat} {d : Dev} (go : Dev → Did) (h : d.isOpened sid = true ∧ d.alive = true) :
    d.host sid go = Dev.answer sid (go d) := by
  simp [Dev.host, h.1, h.2]

theorem host_unheard {sid : Nat} {d : Dev} (go : Dev → Did) (h : ¬(d.isOpened sid = true ∧ d.alive = true)) :
    d.host sid go = d := by
  simp only [Dev.host, Bool.and_eq_true, h, if_false]

theorem answer_out (sid : Nat) (x : Did) :
    (Dev.answer sid x).out = .answer sid x.2.status x.2.code x.2.addr :: x.1.out := by
  unfold Dev.answer; split <;> rfl

theorem answer_sess_same {sid : Nat} {x : Did} (h : x.1.isOpened sid = true) :
    (Dev.answer sid x).sess sid = { x.1.sess sid with heard := x.1.clk } := by
  simp [Dev.answer, h, Dev.emit, Dev.modSess, Dev.sess]

theorem answer_sess_other {sid k : Nat} (x : Did) (h : k ≠ sid) : (Dev.answer sid x).sess k = x.1.sess k := by
  unfold Dev.answer
  split <;> simp [Dev.emit, Dev.modSess, Dev.sess, h]

/-- What a record holds depends on the recorder, the supervisor, the clocks and three fields alone. -/
theorem record_congr {d e : Dev} (k : Kind) (x : List Byte) (hp : e.pwr = d.pwr) (hr : e.rcd = d.rcd)
    (hc : e.clk = d.clk) (hf : e.phase = d.phase) (ht : e.time = d.time)
    (h1 : e.rd REC_CFG.DOMAIN = d.rd REC_CFG.DOMAIN) (h2 : e.rd TIME_CFG.MODE12 = d.rd TIME_CFG.MODE12)
    (h3 : e.rd TIME_CFG.MODE34 = d.rd TIME_CFG.MODE34) : (e.record k x).rcd = (d.record k x).rcd := by
  have hre : ∀ n, e.redundant n = d.redundant n := by intro n; simp [Dev.redundant, Dev.on, h2, h3]
  have hdom : ∀ n, e.dom n = d.dom n := by intro n; simp [Dev.dom, Dev.domIx, hre, ht]
  have hq : ∀ n, e.quality n = d.quality n := by
    intro n; simp [Dev.quality, hre, hdom, Dev.trk, Dev.upperActive, ht]
  unfold Dev.record
  rw [hp]
  split
  · simp [Dev.modRcd, hr]
  · simp [Dev.modRcd, hr, h1, hq, Dev.domSec, Dev.domNs, hdom, hc, Dev.phaseNow, Dev.cycleClk, hf]

theorem run_of {s : State} {f : Mem → Dev → Dev} {e : Dev} (hg : f s.mem s.dev = e) (hd : e.rcd.drafts = []) :
    s.run f = .next { s with dev := e } := by
  rw [run_next, hg, commit_none hd]

theorem run_rec {s : State} {f : Mem → Dev → Dev} {e : Dev} (hg : f s.mem s.dev = e) :
    s.run f = .next { s with dev := e.commit } := by
  rw [run_next, hg]

@[simp] theorem answer_regs (sid : Nat) (x : Did) : (Dev.answer sid x).regs = x.1.regs := by
  unfold Dev.answer; split <;> rfl
@[simp] theorem answer_clk (sid : Nat) (x : Did) : (Dev.answer sid x).clk = x.1.clk := by
  unfold Dev.answer; split <;> rfl
@[simp] theorem answer_free (sid : Nat) (x : Did) : (Dev.answer sid x).free = x.1.free := by
  unfold Dev.answer; split <;> rfl
@[simp] theorem answer_topo (sid : Nat) (x : Did) : (Dev.answer sid x).topo = x.1.topo := by
  unfold Dev.answer; split <;> rfl
@[simp] theorem answer_nv (sid : Nat) (x : Did) : (Dev.answer sid x).nv = x.1.nv := by
  unfold Dev.answer; split <;> rfl
@[simp] theorem answer_pwr (sid : Nat) (x : Did) : (Dev.answer sid x).pwr = x.1.pwr := by
  unfold Dev.answer; split <;> rfl
@[simp] theorem answer_load (sid : Nat) (x : Did) : (Dev.answer sid x).load = x.1.load := by
  unfold Dev.answer; split <;> rfl
@[simp] theorem answer_rcd (sid : Nat) (x : Did) : (Dev.answer sid x).rcd = x.1.rcd := by
  unfold Dev.answer; split <;> rfl
@[simp] theorem answer_lgr (sid : Nat) (x : Did) : (Dev.answer sid x).lgr = x.1.lgr := by
  unfold Dev.answer; split <;> rfl
@[simp] theorem answer_time (sid : Nat) (x : Did) : (Dev.answer sid x).time = x.1.time := by
  unfold Dev.answer; split <;> rfl
@[simp] theorem answer_cue (sid : Nat) (x : Did) : (Dev.answer sid x).cue = x.1.cue := by
  unfold Dev.answer; split <;> rfl
@[simp] theorem answer_ports (sid : Nat) (x : Did) : (Dev.answer sid x).ports = x.1.ports := by
  unfold Dev.answer; split <;> rfl
@[simp] theorem answer_phase (sid : Nat) (x : Did) : (Dev.answer sid x).phase = x.1.phase := by
  unfold Dev.answer; split <;> rfl
@[simp] theorem answer_acq (sid : Nat) (x : Did) : (Dev.answer sid x).acq = x.1.acq := by
  unfold Dev.answer; split <;> rfl
@[simp] theorem answer_est (sid : Nat) (x : Did) : (Dev.answer sid x).est = x.1.est := by
  unfold Dev.answer; split <;> rfl
@[simp] theorem answer_lrn (sid : Nat) (x : Did) : (Dev.answer sid x).lrn = x.1.lrn := by
  unfold Dev.answer; split <;> rfl
@[simp] theorem answer_lim (sid : Nat) (x : Did) : (Dev.answer sid x).lim = x.1.lim := by
  unfold Dev.answer; split <;> rfl
@[simp] theorem answer_seq (sid : Nat) (x : Did) : (Dev.answer sid x).seq = x.1.seq := by
  unfold Dev.answer; split <;> rfl
@[simp] theorem answer_thw (sid : Nat) (x : Did) : (Dev.answer sid x).thw = x.1.thw := by
  unfold Dev.answer; split <;> rfl
@[simp] theorem answer_bal (sid : Nat) (x : Did) : (Dev.answer sid x).bal = x.1.bal := by
  unfold Dev.answer; split <;> rfl
@[simp] theorem answer_chn (sid : Nat) (x : Did) : (Dev.answer sid x).chn = x.1.chn := by
  unfold Dev.answer; split <;> rfl
@[simp] theorem answer_saf (sid : Nat) (x : Did) : (Dev.answer sid x).saf = x.1.saf := by
  unfold Dev.answer; split <;> rfl

@[simp] theorem answer_rd (sid : Nat) (x : Did) (f : Fld) : (Dev.answer sid x).rd f = x.1.rd f := by
  simp [Dev.rd]

end Sys2Proof.Machine
end

