-- ==== Sys2Proof/Laws/Keep.lean ====
section
/-! SUPPORT. What a loop leaves as it was: a reading that no turn changes is the same after all of them. -/

namespace Sys2Proof.Machine

theorem foldl_keep {α β : Type} (get : Dev → β) (f : Dev → α → Dev) (h : ∀ d x, get (f d x) = get d) (l : List α)
    (d : Dev) : get (l.foldl f d) = get d := by
  induction l generalizing d with
  | nil => rfl
  | cons x l ih => rw [List.foldl, ih, h]

theorem foldl_keep_mem {α β : Type} (get : Dev → β) (f : Dev → α → Dev) (l : List α)
    (h : ∀ d, ∀ x ∈ l, get (f d x) = get d) (d : Dev) : get (l.foldl f d) = get d := by
  induction l generalizing d with
  | nil => rfl
  | cons x l ih =>
    rw [List.foldl, ih (fun d y hy => h d y (List.mem_cons_of_mem x hy)), h d x (List.mem_cons_self ..)]

theorem each_keep {β : Type} (get : Dev → β) (f : Nat → Dev → Dev) (h : ∀ k d, get (f k d) = get d) (l : List Nat)
    (d : Dev) : get (d.each l f) = get d := foldl_keep get (fun d k => f k d) (fun d k => h k d) l d

theorem each_keep_mem {β : Type} (get : Dev → β) (f : Nat → Dev → Dev) (l : List Nat)
    (h : ∀ k ∈ l, ∀ d, get (f k d) = get d) (d : Dev) : get (d.each l f) = get d :=
  foldl_keep_mem get (fun d k => f k d) l (fun d k hk => h k hk d) d

/-- Fields of different addresses have different keys. -/
theorem key_ne_of_addr {f g : Fld} (hf : f.lo < 32) (hg : g.lo < 32) (h : f.addr ≠ g.addr) : f.key ≠ g.key := by
  unfold Fld.key
  omega

end Sys2Proof.Machine
end

