-- ==== Sys2Proof/Laws/Mem.lean ====
section
/-! SUPPORT. Every operation on the MRAM copies keeps their canonical form. -/

namespace Sys2Proof.Machine

theorem canonFrom_append {α : Type} [DecidableEq α] {d : α} {b c : Nat} {l r : List (Nat × α)}
    (hl : canonFrom d b l = true) (hc : ∀ x ∈ l, x.1 < c) (hb : b ≤ c) (hr : canonFrom d c r = true) :
    canonFrom d b (l ++ r) = true := by
  induction l generalizing b with
  | nil => exact canonFrom_mono d r hb hr
  | cons x l ih =>
    obtain ⟨j, v⟩ := x
    simp only [canonFrom, List.cons_append, Bool.and_eq_true, decide_eq_true_eq] at *
    exact ⟨hl.1, hl.2.1, ih hl.2.2 (fun x hx => hc x (by simp [hx])) (hc (j, v) (by simp))⟩

theorem canonFrom_filter {α : Type} [DecidableEq α] {d : α} {b : Nat} {l : List (Nat × α)} (p : Nat × α → Bool)
    (h : canonFrom d b l = true) : canonFrom d b (l.filter p) = true := by
  induction l generalizing b with
  | nil => rfl
  | cons x l ih =>
    obtain ⟨j, v⟩ := x
    simp only [canonFrom, Bool.and_eq_true, decide_eq_true_eq] at h
    simp only [List.filter]
    split
    · simp only [canonFrom, Bool.and_eq_true, decide_eq_true_eq]
      exact ⟨h.1, h.2.1, ih h.2.2⟩
    · exact ih (canonFrom_mono d l (by omega) h.2.2)

/-- Entries that all lie at `c` or above. -/
theorem canonFrom_raise {α : Type} [DecidableEq α] {d : α} {b c : Nat} {l : List (Nat × α)} (h : canonFrom d b l = true)
    (hc : ∀ x ∈ l, c ≤ x.1) : canonFrom d c l = true := by
  cases l with
  | nil => rfl
  | cons x l =>
    obtain ⟨j, v⟩ := x
    simp only [canonFrom, Bool.and_eq_true, decide_eq_true_eq] at *
    exact ⟨hc (j, v) (by simp), h.2⟩

theorem canonFrom_shift {α : Type} [DecidableEq α] {d : α} {b : Nat} (n : Nat) {l : List (Nat × α)}
    (h : canonFrom d b l = true) : canonFrom d (b + n) (l.map fun x => (x.1 + n, x.2)) = true := by
  induction l generalizing b with
  | nil => rfl
  | cons x l ih =>
    obtain ⟨j, v⟩ := x
    simp only [canonFrom, List.map, Bool.and_eq_true, decide_eq_true_eq] at *
    refine ⟨by omega, h.2.1, ?_⟩
    have := ih h.2.2
    rwa [show j + 1 + n = j + n + 1 by omega] at this

theorem canonFrom_lower {α : Type} [DecidableEq α] {d : α} {b : Nat} (n : Nat) {l : List (Nat × α)}
    (h : canonFrom d (b + n) l = true) : canonFrom d b (l.map fun x => (x.1 - n, x.2)) = true := by
  induction l generalizing b with
  | nil => rfl
  | cons x l ih =>
    obtain ⟨j, v⟩ := x
    simp only [canonFrom, List.map, Bool.and_eq_true, decide_eq_true_eq] at *
    refine ⟨by omega, h.2.1, ?_⟩
    apply ih
    rw [show j - n + 1 + n = j + 1 by omega]
    exact h.2.2

theorem canon_store {i : Img} (a : Nat) (l : List Byte) (h : canon 0 i = true) : canon 0 (i.store a l) = true := by
  induction l generalizing i a with
  | nil => exact h
  | cons b l ih => exact ih (a + 1) (canon_tset a b h)

theorem canon_slotOf {code : List Host.Cell} (id : Nat) (h : canon 0 code = true) : canon 0 (slotOf code id) = true := by
  unfold slotOf canon
  apply canonFrom_lower
  exact canonFrom_raise (canonFrom_filter _ h) (by simp; omega)

theorem canon_putSlot {code : List Host.Cell} {b : Img} (id : Nat) (h : canon 0 code = true) (hb : canon 0 b = true) :
    canon 0 (putSlot code id b) = true := by
  unfold putSlot canon
  rw [List.append_assoc]
  refine canonFrom_append (c := bedAt id) (canonFrom_filter _ h) (by simp) (Nat.zero_le _) ?_
  refine canonFrom_append (c := bedAt id + bedSize id) ?_ ?_ (by omega) ?_
  · have := canonFrom_shift (bedAt id) (canonFrom_filter (fun x => x.1 < bedSize id) hb)
    simpa using this
  · simp only [List.mem_map, List.mem_filter, decide_eq_true_eq]
    rintro x ⟨y, ⟨-, hy⟩, rfl⟩
    simp only; omega
  · exact canonFrom_raise (canonFrom_filter _ h) (by simp)

/-- What the canonical form says of each part. -/
theorem Mem.wf_iff (m : Mem) : m.wf = true ↔ canon 0 m.copyA = true ∧ canon 0 m.copyB = true ∧ canon 0 m.codeA = true ∧
    canon 0 m.codeB = true ∧ canon 0 m.active = true ∧ (m.run = 0 ∨ m.run = 1 ∨ m.run = 3) := by
  simp [Mem.wf, and_assoc, or_assoc]

theorem Mem.wf_copy {m : Mem} (k : Nat) (h : m.wf = true) : canon 0 (m.copy k) = true := by
  rw [Mem.wf_iff] at h
  unfold Mem.copy; split
  · exact h.1
  · exact h.2.1

theorem Mem.wf_img {m : Mem} (h : m.wf = true) : canon 0 m.img = true := by
  rw [Mem.wf_iff] at h
  unfold Mem.img
  split
  · exact h.1
  · split
    · exact h.2.1
    · rfl

theorem Mem.wf_bed {m : Mem} (id : Nat) (h : m.wf = true) : canon 0 (m.bed id) = true := by
  rw [Mem.wf_iff] at h
  unfold Mem.bed; split
  · exact canon_slotOf id h.2.2.1
  · exact canon_slotOf id h.2.2.2.1

theorem Mem.wf_spare {m : Mem} (id : Nat) (h : m.wf = true) : canon 0 (m.spare id) = true := by
  rw [Mem.wf_iff] at h
  unfold Mem.spare; split
  · exact canon_slotOf id h.2.2.2.1
  · exact canon_slotOf id h.2.2.1

theorem Mem.wf_putCopy {m : Mem} {i : Img} (k : Nat) (h : m.wf = true) (hi : canon 0 i = true) :
    (m.putCopy k i).wf = true := by
  rw [Mem.wf_iff] at *
  unfold Mem.putCopy; split
  · exact ⟨hi, h.2⟩
  · exact ⟨h.1, hi, h.2.2⟩

theorem Mem.wf_putSpare {m : Mem} {b : Img} (id : Nat) (h : m.wf = true) (hb : canon 0 b = true) :
    (m.putSpare id b).wf = true := by
  rw [Mem.wf_iff] at *
  obtain ⟨a, b', c, e, f⟩ := h
  unfold Mem.putSpare; split
  · exact ⟨a, b', c, canon_putSlot id e hb, f⟩
  · exact ⟨a, b', canon_putSlot id c hb, e, f⟩

theorem canon_commit {i : Img} (serial state : Nat) (h : canon 0 i = true) : canon 0 (i.commit serial state) = true :=
  canon_store _ _ h

theorem Mem.wf_redo {m : Mem} (x : Option Nat) (h : m.wf = true) : ({ m with redo := x } : Mem).wf = true := h

theorem Mem.wf_switched {m : Mem} (h : m.wf = true) : m.switched.wf = true := by
  unfold Mem.switched
  have h1 := Mem.wf_putCopy (1 - m.target) (Mem.wf_putCopy m.target h (canon_commit (m.copy m.target).serial 1 (Mem.wf_copy m.target h)))
    (canon_commit 0 0 (Mem.wf_copy (1 - m.target) h))
  rw [Mem.wf_iff] at h1 ⊢
  obtain ⟨a, b, c, e, f, -⟩ := h1
  refine ⟨a, b, c, e, f, ?_⟩
  show m.target = 0 ∨ m.target = 1 ∨ m.target = 3
  unfold Mem.target; split <;> simp

theorem Mem.wf_bedSwitched {m : Mem} (id : Nat) (h : m.wf = true) : (m.bedSwitched id).wf = true := by
  rw [Mem.wf_iff] at *
  obtain ⟨a, b, c, e, f, g⟩ := h
  exact ⟨a, b, c, e, canon_tset _ _ f, g⟩

theorem canon_setEach (f : Nat → Nat) (l : List Nat) (t : List (Nat × Nat)) (h : canon 0 t = true) :
    canon 0 (l.foldl (fun t k => tset 0 t k (f k)) t) = true := by
  induction l generalizing t with
  | nil => exact h
  | cons k l ih => exact ih _ (canon_tset k (f k) h)

theorem Mem.select_range (bankA bankB : Bool) (m : Mem) (d : Dev) :
    m.select bankA bankB d = 0 ∨ m.select bankA bankB d = 1 ∨ m.select bankA bankB d = 3 := by
  unfold Mem.select
  repeat' split
  all_goals simp

theorem Mem.wf_start {m : Mem} (bankA bankB : Bool) (d : Dev) (h : m.wf = true) : (m.start bankA bankB d).wf = true := by
  rw [Mem.wf_iff] at *
  obtain ⟨a, b, c, e, f, -⟩ := h
  refine ⟨a, b, c, e, ?_, Mem.select_range bankA bankB m d⟩
  exact canon_setEach _ _ _ f

end Sys2Proof.Machine
end

