-- ==== Sys2Proof/Laws/Net.lean ====
section
/-! SUPPORT. What the shared updates of sessions and their messages leave as it was and what they set. -/

namespace Sys2Proof.Machine

variable (d : Dev)

@[simp] theorem Dev.commanded_regs (f : Func) : (d.commanded f).regs = d.regs := rfl
@[simp] theorem Dev.commanded_clk (f : Func) : (d.commanded f).clk = d.clk := rfl
@[simp] theorem Dev.commanded_free (f : Func) : (d.commanded f).free = d.free := rfl
@[simp] theorem Dev.commanded_out (f : Func) : (d.commanded f).out = d.out := rfl
@[simp] theorem Dev.commanded_topo (f : Func) : (d.commanded f).topo = d.topo := rfl
@[simp] theorem Dev.commanded_nv (f : Func) : (d.commanded f).nv = d.nv := rfl
@[simp] theorem Dev.commanded_pwr (f : Func) : (d.commanded f).pwr = d.pwr := rfl
@[simp] theorem Dev.commanded_load (f : Func) : (d.commanded f).load = d.load := rfl
@[simp] theorem Dev.commanded_net (f : Func) : (d.commanded f).net = { d.net with cmdAt := tset 0 d.net.cmdAt f.num d.clk } := rfl
@[simp] theorem Dev.commanded_rcd (f : Func) : (d.commanded f).rcd = d.rcd := rfl
@[simp] theorem Dev.commanded_lgr (f : Func) : (d.commanded f).lgr = d.lgr := rfl
@[simp] theorem Dev.commanded_time (f : Func) : (d.commanded f).time = d.time := rfl
@[simp] theorem Dev.commanded_cue (f : Func) : (d.commanded f).cue = d.cue := rfl
@[simp] theorem Dev.commanded_ports (f : Func) : (d.commanded f).ports = d.ports := rfl
@[simp] theorem Dev.commanded_phase (f : Func) : (d.commanded f).phase = d.phase := rfl
@[simp] theorem Dev.commanded_acq (f : Func) : (d.commanded f).acq = d.acq := rfl
@[simp] theorem Dev.commanded_est (f : Func) : (d.commanded f).est = d.est := rfl
@[simp] theorem Dev.commanded_lrn (f : Func) : (d.commanded f).lrn = d.lrn := rfl
@[simp] theorem Dev.commanded_lim (f : Func) : (d.commanded f).lim = d.lim := rfl
@[simp] theorem Dev.commanded_seq (f : Func) : (d.commanded f).seq = d.seq := rfl
@[simp] theorem Dev.commanded_thw (f : Func) : (d.commanded f).thw = d.thw := rfl
@[simp] theorem Dev.commanded_bal (f : Func) : (d.commanded f).bal = d.bal := rfl
@[simp] theorem Dev.commanded_chn (f : Func) : (d.commanded f).chn = d.chn := rfl
@[simp] theorem Dev.commanded_saf (f : Func) : (d.commanded f).saf = d.saf := rfl
@[simp] theorem Dev.commanded_rd (f : Func) (g : Fld) : (d.commanded f).rd g = d.rd g := by simp [Dev.rd]
@[simp] theorem Dev.commanded_sess (f : Func) (j : Nat) : (d.commanded f).sess j = d.sess j := by rfl

@[simp] theorem Dev.putCanRx_regs (k : Nat) (x : Option CanRx) : (d.putCanRx k x).regs = d.regs := rfl
@[simp] theorem Dev.putCanRx_clk (k : Nat) (x : Option CanRx) : (d.putCanRx k x).clk = d.clk := rfl
@[simp] theorem Dev.putCanRx_free (k : Nat) (x : Option CanRx) : (d.putCanRx k x).free = d.free := rfl
@[simp] theorem Dev.putCanRx_out (k : Nat) (x : Option CanRx) : (d.putCanRx k x).out = d.out := rfl
@[simp] theorem Dev.putCanRx_topo (k : Nat) (x : Option CanRx) : (d.putCanRx k x).topo = d.topo := rfl
@[simp] theorem Dev.putCanRx_nv (k : Nat) (x : Option CanRx) : (d.putCanRx k x).nv = d.nv := rfl
@[simp] theorem Dev.putCanRx_pwr (k : Nat) (x : Option CanRx) : (d.putCanRx k x).pwr = d.pwr := rfl
@[simp] theorem Dev.putCanRx_load (k : Nat) (x : Option CanRx) : (d.putCanRx k x).load = d.load := rfl
@[simp] theorem Dev.putCanRx_rcd (k : Nat) (x : Option CanRx) : (d.putCanRx k x).rcd = d.rcd := rfl
@[simp] theorem Dev.putCanRx_lgr (k : Nat) (x : Option CanRx) : (d.putCanRx k x).lgr = d.lgr := rfl
@[simp] theorem Dev.putCanRx_time (k : Nat) (x : Option CanRx) : (d.putCanRx k x).time = d.time := rfl
@[simp] theorem Dev.putCanRx_cue (k : Nat) (x : Option CanRx) : (d.putCanRx k x).cue = d.cue := rfl
@[simp] theorem Dev.putCanRx_ports (k : Nat) (x : Option CanRx) : (d.putCanRx k x).ports = d.ports := rfl
@[simp] theorem Dev.putCanRx_phase (k : Nat) (x : Option CanRx) : (d.putCanRx k x).phase = d.phase := rfl
@[simp] theorem Dev.putCanRx_acq (k : Nat) (x : Option CanRx) : (d.putCanRx k x).acq = d.acq := rfl
@[simp] theorem Dev.putCanRx_est (k : Nat) (x : Option CanRx) : (d.putCanRx k x).est = d.est := rfl
@[simp] theorem Dev.putCanRx_lrn (k : Nat) (x : Option CanRx) : (d.putCanRx k x).lrn = d.lrn := rfl
@[simp] theorem Dev.putCanRx_lim (k : Nat) (x : Option CanRx) : (d.putCanRx k x).lim = d.lim := rfl
@[simp] theorem Dev.putCanRx_seq (k : Nat) (x : Option CanRx) : (d.putCanRx k x).seq = d.seq := rfl
@[simp] theorem Dev.putCanRx_thw (k : Nat) (x : Option CanRx) : (d.putCanRx k x).thw = d.thw := rfl
@[simp] theorem Dev.putCanRx_bal (k : Nat) (x : Option CanRx) : (d.putCanRx k x).bal = d.bal := rfl
@[simp] theorem Dev.putCanRx_chn (k : Nat) (x : Option CanRx) : (d.putCanRx k x).chn = d.chn := rfl
@[simp] theorem Dev.putCanRx_saf (k : Nat) (x : Option CanRx) : (d.putCanRx k x).saf = d.saf := rfl
@[simp] theorem Dev.putCanRx_rd (k : Nat) (x : Option CanRx) (g : Fld) : (d.putCanRx k x).rd g = d.rd g := by simp [Dev.rd]
@[simp] theorem Dev.putCanRx_sess (k : Nat) (x : Option CanRx) (j : Nat) : (d.putCanRx k x).sess j = d.sess j := by rfl

@[simp] theorem Dev.canComplete_regs (k : Nat) (x : CanRx) : (d.canComplete k x).regs = d.regs := rfl
@[simp] theorem Dev.canComplete_clk (k : Nat) (x : CanRx) : (d.canComplete k x).clk = d.clk := rfl
@[simp] theorem Dev.canComplete_free (k : Nat) (x : CanRx) : (d.canComplete k x).free = d.free := rfl
@[simp] theorem Dev.canComplete_out (k : Nat) (x : CanRx) : (d.canComplete k x).out = d.out := rfl
@[simp] theorem Dev.canComplete_topo (k : Nat) (x : CanRx) : (d.canComplete k x).topo = d.topo := rfl
@[simp] theorem Dev.canComplete_nv (k : Nat) (x : CanRx) : (d.canComplete k x).nv = d.nv := rfl
@[simp] theorem Dev.canComplete_pwr (k : Nat) (x : CanRx) : (d.canComplete k x).pwr = d.pwr := rfl
@[simp] theorem Dev.canComplete_load (k : Nat) (x : CanRx) : (d.canComplete k x).load = d.load := rfl
@[simp] theorem Dev.canComplete_net (k : Nat) (x : CanRx) : (d.canComplete k x).net = { d.net with canIn := place d.net.canIn k x } := rfl
@[simp] theorem Dev.canComplete_rcd (k : Nat) (x : CanRx) : (d.canComplete k x).rcd = d.rcd := rfl
@[simp] theorem Dev.canComplete_lgr (k : Nat) (x : CanRx) : (d.canComplete k x).lgr = d.lgr := rfl
@[simp] theorem Dev.canComplete_time (k : Nat) (x : CanRx) : (d.canComplete k x).time = d.time := rfl
@[simp] theorem Dev.canComplete_cue (k : Nat) (x : CanRx) : (d.canComplete k x).cue = d.cue := rfl
@[simp] theorem Dev.canComplete_ports (k : Nat) (x : CanRx) : (d.canComplete k x).ports = d.ports := rfl
@[simp] theorem Dev.canComplete_phase (k : Nat) (x : CanRx) : (d.canComplete k x).phase = d.phase := rfl
@[simp] theorem Dev.canComplete_acq (k : Nat) (x : CanRx) : (d.canComplete k x).acq = d.acq := rfl
@[simp] theorem Dev.canComplete_est (k : Nat) (x : CanRx) : (d.canComplete k x).est = d.est := rfl
@[simp] theorem Dev.canComplete_lrn (k : Nat) (x : CanRx) : (d.canComplete k x).lrn = d.lrn := rfl
@[simp] theorem Dev.canComplete_lim (k : Nat) (x : CanRx) : (d.canComplete k x).lim = d.lim := rfl
@[simp] theorem Dev.canComplete_seq (k : Nat) (x : CanRx) : (d.canComplete k x).seq = d.seq := rfl
@[simp] theorem Dev.canComplete_thw (k : Nat) (x : CanRx) : (d.canComplete k x).thw = d.thw := rfl
@[simp] theorem Dev.canComplete_bal (k : Nat) (x : CanRx) : (d.canComplete k x).bal = d.bal := rfl
@[simp] theorem Dev.canComplete_chn (k : Nat) (x : CanRx) : (d.canComplete k x).chn = d.chn := rfl
@[simp] theorem Dev.canComplete_saf (k : Nat) (x : CanRx) : (d.canComplete k x).saf = d.saf := rfl
@[simp] theorem Dev.canComplete_rd (k : Nat) (x : CanRx) (g : Fld) : (d.canComplete k x).rd g = d.rd g := by simp [Dev.rd]
@[simp] theorem Dev.canComplete_sess (k : Nat) (x : CanRx) (j : Nat) : (d.canComplete k x).sess j = d.sess j := by rfl

@[simp] theorem Dev.taken_regs (typ sid : Nat) (x : RapMsg) : (d.taken typ sid x).regs = d.regs := by unfold Dev.taken; split <;> rfl
@[simp] theorem Dev.taken_clk (typ sid : Nat) (x : RapMsg) : (d.taken typ sid x).clk = d.clk := by unfold Dev.taken; split <;> rfl
@[simp] theorem Dev.taken_free (typ sid : Nat) (x : RapMsg) : (d.taken typ sid x).free = d.free := by unfold Dev.taken; split <;> rfl
@[simp] theorem Dev.taken_out (typ sid : Nat) (x : RapMsg) : (d.taken typ sid x).out = d.out := by unfold Dev.taken; split <;> rfl
@[simp] theorem Dev.taken_topo (typ sid : Nat) (x : RapMsg) : (d.taken typ sid x).topo = d.topo := by unfold Dev.taken; split <;> rfl
@[simp] theorem Dev.taken_nv (typ sid : Nat) (x : RapMsg) : (d.taken typ sid x).nv = d.nv := by unfold Dev.taken; split <;> rfl
@[simp] theorem Dev.taken_pwr (typ sid : Nat) (x : RapMsg) : (d.taken typ sid x).pwr = d.pwr := by unfold Dev.taken; split <;> rfl
@[simp] theorem Dev.taken_load (typ sid : Nat) (x : RapMsg) : (d.taken typ sid x).load = d.load := by unfold Dev.taken; split <;> rfl
@[simp] theorem Dev.taken_rcd (typ sid : Nat) (x : RapMsg) : (d.taken typ sid x).rcd = d.rcd := by unfold Dev.taken; split <;> rfl
@[simp] theorem Dev.taken_lgr (typ sid : Nat) (x : RapMsg) : (d.taken typ sid x).lgr = d.lgr := by unfold Dev.taken; split <;> rfl
@[simp] theorem Dev.taken_time (typ sid : Nat) (x : RapMsg) : (d.taken typ sid x).time = d.time := by unfold Dev.taken; split <;> rfl
@[simp] theorem Dev.taken_cue (typ sid : Nat) (x : RapMsg) : (d.taken typ sid x).cue = d.cue := by unfold Dev.taken; split <;> rfl
@[simp] theorem Dev.taken_ports (typ sid : Nat) (x : RapMsg) : (d.taken typ sid x).ports = d.ports := by unfold Dev.taken; split <;> rfl
@[simp] theorem Dev.taken_phase (typ sid : Nat) (x : RapMsg) : (d.taken typ sid x).phase = d.phase := by unfold Dev.taken; split <;> rfl
@[simp] theorem Dev.taken_acq (typ sid : Nat) (x : RapMsg) : (d.taken typ sid x).acq = d.acq := by unfold Dev.taken; split <;> rfl
@[simp] theorem Dev.taken_est (typ sid : Nat) (x : RapMsg) : (d.taken typ sid x).est = d.est := by unfold Dev.taken; split <;> rfl
@[simp] theorem Dev.taken_lrn (typ sid : Nat) (x : RapMsg) : (d.taken typ sid x).lrn = d.lrn := by unfold Dev.taken; split <;> rfl
@[simp] theorem Dev.taken_lim (typ sid : Nat) (x : RapMsg) : (d.taken typ sid x).lim = d.lim := by unfold Dev.taken; split <;> rfl
@[simp] theorem Dev.taken_seq (typ sid : Nat) (x : RapMsg) : (d.taken typ sid x).seq = d.seq := by unfold Dev.taken; split <;> rfl
@[simp] theorem Dev.taken_thw (typ sid : Nat) (x : RapMsg) : (d.taken typ sid x).thw = d.thw := by unfold Dev.taken; split <;> rfl
@[simp] theorem Dev.taken_bal (typ sid : Nat) (x : RapMsg) : (d.taken typ sid x).bal = d.bal := by unfold Dev.taken; split <;> rfl
@[simp] theorem Dev.taken_chn (typ sid : Nat) (x : RapMsg) : (d.taken typ sid x).chn = d.chn := by unfold Dev.taken; split <;> rfl
@[simp] theorem Dev.taken_saf (typ sid : Nat) (x : RapMsg) : (d.taken typ sid x).saf = d.saf := by unfold Dev.taken; split <;> rfl
@[simp] theorem Dev.taken_rd (typ sid : Nat) (x : RapMsg) (g : Fld) : (d.taken typ sid x).rd g = d.rd g := by simp [Dev.rd]
@[simp] theorem Dev.taken_sess (typ sid : Nat) (x : RapMsg) (j : Nat) : (d.taken typ sid x).sess j = d.sess j := by unfold Dev.taken; split <;> rfl

@[simp] theorem Dev.sendRap_regs (p : Path) (base id typ sid len seq : Nat) (l : List Byte) : (d.sendRap p base id typ sid len seq l).regs = d.regs := rfl
@[simp] theorem Dev.sendRap_clk (p : Path) (base id typ sid len seq : Nat) (l : List Byte) : (d.sendRap p base id typ sid len seq l).clk = d.clk := rfl
@[simp] theorem Dev.sendRap_free (p : Path) (base id typ sid len seq : Nat) (l : List Byte) : (d.sendRap p base id typ sid len seq l).free = d.free := rfl
@[simp] theorem Dev.sendRap_out (p : Path) (base id typ sid len seq : Nat) (l : List Byte) : (d.sendRap p base id typ sid len seq l).out = .rap p (if p.num < 2 then none else some (base + id)) (rapFrames p typ sid len seq l) :: d.out := rfl
@[simp] theorem Dev.sendRap_topo (p : Path) (base id typ sid len seq : Nat) (l : List Byte) : (d.sendRap p base id typ sid len seq l).topo = d.topo := rfl
@[simp] theorem Dev.sendRap_nv (p : Path) (base id typ sid len seq : Nat) (l : List Byte) : (d.sendRap p base id typ sid len seq l).nv = d.nv := rfl
@[simp] theorem Dev.sendRap_pwr (p : Path) (base id typ sid len seq : Nat) (l : List Byte) : (d.sendRap p base id typ sid len seq l).pwr = d.pwr := rfl
@[simp] theorem Dev.sendRap_load (p : Path) (base id typ sid len seq : Nat) (l : List Byte) : (d.sendRap p base id typ sid len seq l).load = d.load := rfl
@[simp] theorem Dev.sendRap_net (p : Path) (base id typ sid len seq : Nat) (l : List Byte) : (d.sendRap p base id typ sid len seq l).net = d.net := rfl
@[simp] theorem Dev.sendRap_rcd (p : Path) (base id typ sid len seq : Nat) (l : List Byte) : (d.sendRap p base id typ sid len seq l).rcd = d.rcd := rfl
@[simp] theorem Dev.sendRap_lgr (p : Path) (base id typ sid len seq : Nat) (l : List Byte) : (d.sendRap p base id typ sid len seq l).lgr = d.lgr := rfl
@[simp] theorem Dev.sendRap_time (p : Path) (base id typ sid len seq : Nat) (l : List Byte) : (d.sendRap p base id typ sid len seq l).time = d.time := rfl
@[simp] theorem Dev.sendRap_cue (p : Path) (base id typ sid len seq : Nat) (l : List Byte) : (d.sendRap p base id typ sid len seq l).cue = d.cue := rfl
@[simp] theorem Dev.sendRap_ports (p : Path) (base id typ sid len seq : Nat) (l : List Byte) : (d.sendRap p base id typ sid len seq l).ports = d.ports := rfl
@[simp] theorem Dev.sendRap_phase (p : Path) (base id typ sid len seq : Nat) (l : List Byte) : (d.sendRap p base id typ sid len seq l).phase = d.phase := rfl
@[simp] theorem Dev.sendRap_acq (p : Path) (base id typ sid len seq : Nat) (l : List Byte) : (d.sendRap p base id typ sid len seq l).acq = d.acq := rfl
@[simp] theorem Dev.sendRap_est (p : Path) (base id typ sid len seq : Nat) (l : List Byte) : (d.sendRap p base id typ sid len seq l).est = d.est := rfl
@[simp] theorem Dev.sendRap_lrn (p : Path) (base id typ sid len seq : Nat) (l : List Byte) : (d.sendRap p base id typ sid len seq l).lrn = d.lrn := rfl
@[simp] theorem Dev.sendRap_lim (p : Path) (base id typ sid len seq : Nat) (l : List Byte) : (d.sendRap p base id typ sid len seq l).lim = d.lim := rfl
@[simp] theorem Dev.sendRap_seq (p : Path) (base id typ sid len seq : Nat) (l : List Byte) : (d.sendRap p base id typ sid len seq l).seq = d.seq := rfl
@[simp] theorem Dev.sendRap_thw (p : Path) (base id typ sid len seq : Nat) (l : List Byte) : (d.sendRap p base id typ sid len seq l).thw = d.thw := rfl
@[simp] theorem Dev.sendRap_bal (p : Path) (base id typ sid len seq : Nat) (l : List Byte) : (d.sendRap p base id typ sid len seq l).bal = d.bal := rfl
@[simp] theorem Dev.sendRap_chn (p : Path) (base id typ sid len seq : Nat) (l : List Byte) : (d.sendRap p base id typ sid len seq l).chn = d.chn := rfl
@[simp] theorem Dev.sendRap_saf (p : Path) (base id typ sid len seq : Nat) (l : List Byte) : (d.sendRap p base id typ sid len seq l).saf = d.saf := rfl
@[simp] theorem Dev.sendRap_rd (p : Path) (base id typ sid len seq : Nat) (l : List Byte) (g : Fld) : (d.sendRap p base id typ sid len seq l).rd g = d.rd g := by simp [Dev.rd]
@[simp] theorem Dev.sendRap_sess (p : Path) (base id typ sid len seq : Nat) (l : List Byte) (j : Nat) : (d.sendRap p base id typ sid len seq l).sess j = d.sess j := by rfl

@[simp] theorem Dev.sendSealed_regs (x : Sess) (sid typ seq : Nat) (l : List Byte) : (d.sendSealed x sid typ seq l).regs = d.regs := rfl
@[simp] theorem Dev.sendSealed_clk (x : Sess) (sid typ seq : Nat) (l : List Byte) : (d.sendSealed x sid typ seq l).clk = d.clk := rfl
@[simp] theorem Dev.sendSealed_free (x : Sess) (sid typ seq : Nat) (l : List Byte) : (d.sendSealed x sid typ seq l).free = d.free := rfl
@[simp] theorem Dev.sendSealed_topo (x : Sess) (sid typ seq : Nat) (l : List Byte) : (d.sendSealed x sid typ seq l).topo = d.topo := rfl
@[simp] theorem Dev.sendSealed_nv (x : Sess) (sid typ seq : Nat) (l : List Byte) : (d.sendSealed x sid typ seq l).nv = d.nv := rfl
@[simp] theorem Dev.sendSealed_pwr (x : Sess) (sid typ seq : Nat) (l : List Byte) : (d.sendSealed x sid typ seq l).pwr = d.pwr := rfl
@[simp] theorem Dev.sendSealed_load (x : Sess) (sid typ seq : Nat) (l : List Byte) : (d.sendSealed x sid typ seq l).load = d.load := rfl
@[simp] theorem Dev.sendSealed_net (x : Sess) (sid typ seq : Nat) (l : List Byte) : (d.sendSealed x sid typ seq l).net = d.net := rfl
@[simp] theorem Dev.sendSealed_rcd (x : Sess) (sid typ seq : Nat) (l : List Byte) : (d.sendSealed x sid typ seq l).rcd = d.rcd := rfl
@[simp] theorem Dev.sendSealed_lgr (x : Sess) (sid typ seq : Nat) (l : List Byte) : (d.sendSealed x sid typ seq l).lgr = d.lgr := rfl
@[simp] theorem Dev.sendSealed_time (x : Sess) (sid typ seq : Nat) (l : List Byte) : (d.sendSealed x sid typ seq l).time = d.time := rfl
@[simp] theorem Dev.sendSealed_cue (x : Sess) (sid typ seq : Nat) (l : List Byte) : (d.sendSealed x sid typ seq l).cue = d.cue := rfl
@[simp] theorem Dev.sendSealed_ports (x : Sess) (sid typ seq : Nat) (l : List Byte) : (d.sendSealed x sid typ seq l).ports = d.ports := rfl
@[simp] theorem Dev.sendSealed_phase (x : Sess) (sid typ seq : Nat) (l : List Byte) : (d.sendSealed x sid typ seq l).phase = d.phase := rfl
@[simp] theorem Dev.sendSealed_acq (x : Sess) (sid typ seq : Nat) (l : List Byte) : (d.sendSealed x sid typ seq l).acq = d.acq := rfl
@[simp] theorem Dev.sendSealed_est (x : Sess) (sid typ seq : Nat) (l : List Byte) : (d.sendSealed x sid typ seq l).est = d.est := rfl
@[simp] theorem Dev.sendSealed_lrn (x : Sess) (sid typ seq : Nat) (l : List Byte) : (d.sendSealed x sid typ seq l).lrn = d.lrn := rfl
@[simp] theorem Dev.sendSealed_lim (x : Sess) (sid typ seq : Nat) (l : List Byte) : (d.sendSealed x sid typ seq l).lim = d.lim := rfl
@[simp] theorem Dev.sendSealed_seq (x : Sess) (sid typ seq : Nat) (l : List Byte) : (d.sendSealed x sid typ seq l).seq = d.seq := rfl
@[simp] theorem Dev.sendSealed_thw (x : Sess) (sid typ seq : Nat) (l : List Byte) : (d.sendSealed x sid typ seq l).thw = d.thw := rfl
@[simp] theorem Dev.sendSealed_bal (x : Sess) (sid typ seq : Nat) (l : List Byte) : (d.sendSealed x sid typ seq l).bal = d.bal := rfl
@[simp] theorem Dev.sendSealed_chn (x : Sess) (sid typ seq : Nat) (l : List Byte) : (d.sendSealed x sid typ seq l).chn = d.chn := rfl
@[simp] theorem Dev.sendSealed_saf (x : Sess) (sid typ seq : Nat) (l : List Byte) : (d.sendSealed x sid typ seq l).saf = d.saf := rfl
@[simp] theorem Dev.sendSealed_rd (x : Sess) (sid typ seq : Nat) (l : List Byte) (g : Fld) : (d.sendSealed x sid typ seq l).rd g = d.rd g := by simp [Dev.rd]
@[simp] theorem Dev.sendSealed_sess (x : Sess) (sid typ seq : Nat) (l : List Byte) (j : Nat) : (d.sendSealed x sid typ seq l).sess j = d.sess j := by rfl

theorem Sess.sealed_length (x : Sess) (o : Bool) (typ sid len seq : Nat) (l : List Byte) :
    (x.sealed o typ sid len seq l).length = len + 16 := by simp [Sess.sealed]

/-- A message sealed under the session's keys opens. -/
theorem Sess.opens_sealed {x : Sess} {typ sid : Nat} {msg : RapMsg} {plain : List Byte} (hp : x.path = msg.path)
    (hb : msg.body = x.sealed false typ sid plain.length msg.seq.toNat plain) : x.opens typ sid msg plain = true := by
  have : msg.body.length = plain.length + 16 := by rw [hb, Sess.sealed_length]
  simp [Sess.opens, hp, this, ← hb]

@[simp] theorem Dev.taken_accepts {d : Dev} (typ j : Nat) (x : RapMsg) (sid seq : Nat) (b : Bool) :
    (d.taken typ j x).accepts sid seq b = d.accepts sid seq b := by
  simp [Dev.accepts, Dev.isOpened]

/-- What a message that reaches the module does: it is carried out when accepted, else counted. -/
theorem message_arrived {m : Mem} {d : Dev} {typ : Nat} {x : RapMsg} {plain : List Byte} {go : Mem → Dev → Mem × Dev}
    (ha : d.alive = true) (h1 : 1 ≤ x.session.toNat) (h2 : x.session.toNat ≤ 63)
    (hr : d.arrived typ x.session.toNat x = true) (hl : plain.length ≤ payloadLimit x.path) :
    d.message m typ x plain go =
      if d.accepts x.session.toNat x.seq.toNat ((d.sess x.session.toNat).opens typ x.session.toNat x plain) = true then
        go m ((d.taken typ x.session.toNat x).accepted x.session.toNat x.seq.toNat)
      else (m, (d.taken typ x.session.toNat x).bump SESS_CNT.AUTH_FAIL) := by
  have a1 : ¬ x.session.toNat = 0 := by omega
  have a2 : ¬ 63 < x.session.toNat := by omega
  have a3 : ¬ payloadLimit x.path < plain.length := by omega
  simp [Dev.message, ha, a1, a2, a3, hr]

end Sys2Proof.Machine
end

