-- ==== Sys2Proof/Tests/Slice0.lean ====
section
/-! SUPPORT. Small states, the checks of WellFormed, worked examples of the spec, and for each clause of each
statement a state and operands that meet its hypotheses together. -/

set_option Elab.async false
set_option linter.unusedVariables false

namespace Sys2Proof.Tests
open Sys2Proof Sys2Proof.Machine
/-- The module awake, with an open session 1 of key 5 on ETH0 in role `r`. -/
def up (r : Role) : State :=
  { State.reset with dev := { Dev.factory with
      pwr := { PwrSt.off with boot := .awake }
      net := ⟨[(1, { Sess.free with life := .opened, key := 5, role := r, idle := 600, tx := 1 })], [], [], [], []⟩ } }
/-- `s` with some register fields set. -/
def withRegs (l : List (Fld × Nat)) (s : State) : State := { s with dev := l.foldl (fun d (x : Fld × Nat) => d.wr x.1 x.2) s.dev }
/-- A directory of one section at 4096 with a value of `n` bytes, and the value's bytes that are not 0. -/
def oneSec (ty n : Nat) (l : List (Nat × Nat)) : Img :=
  ([(24, 1), (64, ty % 256), (65, ty / 256), (69, 0x10), (72, n % 256), (73, n / 256)] ++ l.map fun (x : Nat × Nat) => (4104 + x.1, x.2)).foldl
    (fun i (x : Nat × Nat) => tset 0 i x.1 (BitVec.ofNat 8 x.2)) []
/-- Copy A runs and holds the one section. -/
def withSec (ty n : Nat) (l : List (Nat × Nat)) (s : State) : State :=
  { s with mem := { s.mem with run := 0, copyA := oneSec ty n l } }
/-- Copy A runs and holds a second section as well, at 8192. -/
def withSec2 (ty n : Nat) (l : List (Nat × Nat)) (s : State) : State :=
  { s with mem := { s.mem with copyA :=
      ([(24, 2), (112, ty % 256), (113, ty / 256), (117, 0x20), (120, n % 256), (121, n / 256)] ++
        l.map fun (x : Nat × Nat) => (8200 + x.1, x.2)).foldl (fun i (x : Nat × Nat) => tset 0 i x.1 (BitVec.ofNat 8 x.2)) s.mem.copyA } }
/-- Key 5, granted every role, path and function. -/
def withKey (s : State) : State :=
  withSec 0x60 96 [(64, 5), (66, 63), (67, 15), (68, 4), (70, 10), (72, 255), (73, 127)] s
end Sys2Proof.Tests
namespace Sys2Proof.Tests
open Sys2Proof Sys2Proof.Machine
/-- Copy A runs; string 0 has monitor port 0 and front port 8, 24 cells and 16 points. -/
def wired (s : State) : State :=
  { s with
    mem := { s.mem with run := 0 }
    dev := { s.dev with topo := ⟨[(0, ⟨true, 100, 1 / 1000, [0], 8⟩)], [(0, ⟨0, 24, 16, 0, .none⟩), (8, ⟨0, 0, 0, 0, .none⟩)]⟩ } }
def withPort (n : Nat) (g : PortSt → PortSt) (s : State) : State := { s with dev := s.dev.modPort n g }
end Sys2Proof.Tests
namespace Sys2Proof.Tests
open Sys2Proof Sys2Proof.Machine
/-- A datagram of session `sid` on ETH0. -/
def dgram (sid len : Nat) (seq : BitVec 64) (body : List Byte) : RapMsg :=
  ⟨⟨⟨0x4152, 1, BitVec.ofNat 8 sid, 0, BitVec.ofNat 16 len⟩, seq, body⟩, .eth0⟩
/-- One that session 1 of `s` seals. -/
def sealedMsg (typ : Nat) (seq : BitVec 64) (plain : List Byte) (s : State) : RapMsg :=
  dgram 1 plain.length seq ((s.dev.sess 1).sealed false typ 1 plain.length seq.toNat plain)
/-- `s` with session 2 in establishment. -/
def establishing (s : State) : State :=
  { s with dev := s.dev.modSess 2 fun _ => { Sess.free with life := .establishing, key := 5, role := .dispatcher, idle := 10 } }
/-- The FINISH of session 2 in `s`. -/
def finishMsg (s : State) : RapMsg :=
  let x := (s.dev.sess 2).keyed s.mem 2
  dgram 0 32 0 (x.sealed false rapFinish 0 32 0 (x.th 2))
end Sys2Proof.Tests

namespace Sys2Proof.Tests
open Sys2Proof Sys2Proof.Machine

/-! ### WellFormed: an ill-formed term for each check -/

theorem test_wf_session : (Instr.take 0 .seq).wf = false ∧ (Instr.take 1 .seq).wf = true := by decide
theorem test_wf_cells : (Instr.cellsFrame 0 0 ⟨24, 0⟩ (List.replicate 23 0) 0).wf = false ∧
    (Instr.cellsFrame 0 0 ⟨24, 0⟩ (List.replicate 24 0) 0).wf = true := by decide
theorem test_wf_temps : (Instr.tempsFrame 0 0 ⟨0, 0⟩ (List.replicate 17 0) 0 0 0).wf = false ∧
    (Instr.tempsFrame 0 0 ⟨0, 0⟩ (List.replicate 16 0) 0 0 0).wf = true := by decide
theorem test_wf_bed : (Instr.bedResumption 0).wf = false ∧ (Instr.bedResumption 1).wf = true := by decide
theorem test_wf_internal_points : (Instr.internalPointReading [25]).wf = false ∧
    (Instr.internalPointReading (List.replicate 12 25)).wf = true := by decide
theorem test_wf_shed : (Instr.otShedStep 0 150 0 0 []).wf = false ∧
    (Instr.otShedStep 0 150 0 0 (List.replicate 32 0)).wf = true := by decide
theorem test_wf_fragment : (Instr.canFragment false 1 0 7 7 0 [0]).wf = false ∧
    (Instr.canFragment false 1 0 0 1 0 []).wf = false ∧ (Instr.canFragment false 1 0 0 1 0 [0]).wf = true := by decide
theorem test_wf_torn : (Instr.brownOut (some [0])).wf = false ∧ (Instr.brownOut none).wf = true := by decide
theorem test_wf_refresh : (Instr.mramRefresh 131073).wf = false ∧ (Instr.mramRefresh 131072).wf = true := by decide

/-! ### The worked examples of the spec -/

/-- Chapter 18: `CELL_SOC`600 at 0x52C2, `TEMP_VAL`412 at 0x7339 and `SEQ_STATE`3 at 0x0A1C. -/
theorem test_addresses : (CELL_SOC.SOC 600).addr = 0x52C2 ∧ (TEMP_VAL.TEMP 412).addr = 0x7339 ∧
    (SEQ_STATE.STATE 3).addr = 0x0A1C := by decide
/-- Chapter 18: a READ of 0x1700 is answered BAD_ADDRESS with it. -/
theorem test_bad_address : (match exec (.rcRead 1 0x1700) (up .maintainer) with
    | .next t => t.dev.out
    | _ => []) = [.answer 1 5 0 0x1700] := by decide +kernel
/-- Chapter 15: SEQ 48,117 lies at position 2,037 of the main region. -/
theorem test_record_position : mainPos 48117 = 2037 := by decide
/-- R3: a domain's increment of 10.0 ns is 0x0A00_0000. -/
theorem test_reset_increment : State.reset.dev.rd (TIME_INCR.INCR 2) = 0x0A000000 := by decide +kernel
/-- Chapter 9, zone 3: T_THROT 45.00 °C and T_CUT 55.00 °C make g(48.00) = 0.70, g(47.20) = 0.78, g(48.25) = 0.675
and g(49.10) = 0.59. -/
theorem test_zone_factor : (fun i : Img => [i.thermG 0 48, i.thermG 0 (472 / 10), i.thermG 0 (4825 / 100), i.thermG 0 (491 / 10)])
    (withSec 0x12 2048 [(42, 0x94), (43, 0x11), (44, 0x7C), (45, 0x15)] State.reset).mem.copyA =
      [7 / 10, 78 / 100, 675 / 1000, 59 / 100] := by decide +kernel
/-- R4, R291: on an empty queue an awake module lets one clk pass. -/
theorem test_step_idle : (match step (up .maintainer) with
    | .next t => t.dev.clk
    | _ => 0) = 1 := by decide +kernel
/-- R334: after TAKE the session is SEQ's steward. -/
theorem test_take : (match step { withKey (up .operator) with pending := [.take 1 .seq] } with
    | .next t => t.dev.steward .seq
    | _ => 0) = 1 := by decide +kernel
end Sys2Proof.Tests















namespace Sys2Proof.Tests
open Sys2Proof Sys2Proof.Machine
/-- A learning record with its header (R142) and no entry. -/
def recHead : Img := [(0, 0x4C), (1, 0x52), (2, 0x45), (3, 0x43), (4, 1), (8, 0x90), (9, 0xCA), (41, 6), (42, 64), (43, 8)].foldl (fun i (x : Nat × Nat) => tset 0 i x.1 (BitVec.ofNat 8 x.2)) []
/-- The same with its CRC-32. -/
@[irreducible] def recBuf : Img := Img.store recHead 51840 (leBytes 4 (crc32Ref (Img.slice recHead 0 51840)))
def withWord (w : Nat) (s : State) : State := { s with dev := { s.dev with lrn := { s.dev.lrn with word := w } } }
def withBuf (b : Img) (s : State) : State := { s with dev := { s.dev with lrn := { s.dev.lrn with buf := b } } }
theorem withWord_word (b : Img) (s : State) :
    (withWord (crc32Ref (Img.slice b 0 51840)) (withBuf b s)).dev.lrn.word =
      crc32Ref (Img.slice (withWord (crc32Ref (Img.slice b 0 51840)) (withBuf b s)).dev.lrn.buf 0 51840) := by
  simp only [withWord, withBuf]
theorem recBuf_u8 {x : Nat} (h : x < 51840) : Img.u8 recBuf x = Img.u8 recHead x := by
  unfold recBuf; exact u8_store_other _ _ _ (Or.inl h)
theorem recBuf_slice : Img.slice recBuf 0 51840 = Img.slice recHead 0 51840 :=
  slice_congr _ fun x _ h => by unfold recBuf; exact tget_store_other _ _ _ (Or.inl (by omega))
theorem crc32Ref_lt (l : List Byte) : crc32Ref l < 2 ^ 32 := by unfold crc32Ref; omega
theorem recBuf_crc : Img.u32 recBuf 51840 = crc32Ref (Img.slice recBuf 0 51840) := by
  rw [recBuf_slice]; unfold recBuf; exact u32_store _ _ _ (crc32Ref_lt _)
theorem headerOk_congr {i j : Img} (h : ∀ x < 64, i.u8 x = j.u8 x) : headerOk i = headerOk j := by
  have a : ((List.range 20).all fun k => decide (i.u8 (44 + k) = 0)) = (List.range 20).all fun k => decide (j.u8 (44 + k) = 0) := by
    rw [Bool.eq_iff_iff, List.all_eq_true, List.all_eq_true]
    have g : ∀ k ∈ List.range 20, i.u8 (44 + k) = j.u8 (44 + k) := fun k hk => h _ (by have := List.mem_range.1 hk; omega)
    exact ⟨fun f k hk => (g k hk) ▸ f k hk, fun f k hk => (g k hk).symm ▸ f k hk⟩
  have u (x : Nat) (hx : x + 3 < 64) : i.u32 x = j.u32 x := by
    simp only [Img.u32, Img.u16]; rw [h x (by omega), h (x + 1) (by omega), h (x + 2) (by omega), h (x + 2 + 1) (by omega)]
  have v (x : Nat) (hx : x + 1 < 64) : i.u16 x = j.u16 x := by
    simp only [Img.u16]; rw [h x (by omega), h (x + 1) (by omega)]
  unfold headerOk
  rw [a, u 0 (by omega), u 8 (by omega), v 4 (by omega), v 40 (by omega), h 42 (by omega), h 43 (by omega)]
theorem recBuf_header : headerOk recBuf = true := by
  rw [headerOk_congr (i := recBuf) (j := recHead) fun x h => recBuf_u8 (by omega)]; decide +kernel
end Sys2Proof.Tests






namespace Sys2Proof.Tests
open Sys2Proof Sys2Proof.Machine
/-- The state as the clock has gone on to the trigger of entry `k`, and to the end of its window. -/
def cueAtStart (k : Nat) (s : State) : State :=
  { s with dev := s.dev.toInstant (s.dev.cueAt k) ((s.dev.cueAt k).startAt (s.dev.cueAt k).ran) 0 }
def cueAtStop (k : Nat) (s : State) : State :=
  { s with dev := s.dev.toInstant (s.dev.cueAt k) ((s.dev.cueAt k).stopAt ((s.dev.cueAt k).ran - 1)) 0 }
/-- The state as the clock has gone on to where port `p` is free. -/
def portFreed (p : Nat) (s : State) : State := { s with dev := s.dev.advanceTo (tget 0 s.dev.cue.busy p) }
end Sys2Proof.Tests







namespace Sys2Proof.Tests
open Sys2Proof Sys2Proof.Machine

theorem witness_StewardshipIsTakenAndReleased_take : ∃ (sid : Sid) (f : Func) (s : State),
    (Heard sid.val s) ∧ (Settled s) ∧ (s.dev.steward f = 0) ∧ (roleTakes (s.dev.sess sid.val).role f = true) ∧ (keyTakes s.mem (s.dev.sess sid.val).key f = true) ∧ ((takers f sid.val s.pending).any (s.dev.mayTake s.mem f) = false) :=
  ⟨1, .seq, withKey (up .operator), by decide +kernel⟩

theorem witness_StewardshipIsTakenAndReleased_takeContended : ∃ (sid : Sid) (f : Func) (s : State),
    (Heard sid.val s) ∧ (Settled s) ∧ (s.dev.steward f = 0) ∧ (roleTakes (s.dev.sess sid.val).role f = true) ∧ (keyTakes s.mem (s.dev.sess sid.val).key f = true) ∧ ((takers f sid.val s.pending).any (s.dev.mayTake s.mem f) = true) :=
  ⟨2, .seq, (fun s => { s with pending := [.take 1 .seq], dev := s.dev.modSess 2 fun _ => s.dev.sess 1 }) (withKey (up .operator)), by decide +kernel⟩

theorem witness_StewardshipIsTakenAndReleased_release : ∃ (sid : Sid) (f : Func) (s : State),
    (Heard sid.val s) ∧ (Settled s) ∧ (s.dev.isSteward sid.val f = true) :=
  ⟨1, .seq, withRegs [(SESS_FUNC.STEWARD 4, 1)] (up .operator), by decide +kernel⟩

theorem witness_StopAndStartAreAcceptedThenTakeEffect_stopFunc : ∃ (sid : Sid) (f : Func) (s : State),
    (Heard sid.val s) ∧ (Settled s) ∧ (s.dev.isSteward sid.val f = true) ∧ (s.dev.fnState f.num = 1) ∧ ((f = .saf ∨ f = .recorder → s.dev.mode s.mem = .commission)) ∧ ((stopNeedsOpen f = true → s.dev.allOpen = true)) ∧ ((f = .acq → s.dev.allOpen = true ∧ s.dev.bankClosing = false)) :=
  ⟨1, .seq, withRegs [(SESS_FUNC.STEWARD 4, 1), (SESS_FUNC.STATE 4, 1)] (up .operator), by decide +kernel⟩

theorem witness_StopAndStartAreAcceptedThenTakeEffect_startFunc : ∃ (sid : Sid) (f : Func) (s : State),
    (Heard sid.val s) ∧ (Settled s) ∧ (s.dev.isSteward sid.val f = true) ∧ (s.dev.fnState f.num = 0) ∧ (f ≠ .saf) ∧ (s.dev.validateNow s.mem f = none) ∧ (s.dev.depsRun f = true) :=
  ⟨1, .acq, withRegs [(SESS_FUNC.STEWARD 0, 1)] (up .operator), by decide +kernel⟩

theorem witness_HelloAndFinishOpenASession_hello : ∃ (msg : RapMsg) (roles paths top idle k : Nat) (r : Role) (s : State),
    (Settled s) ∧ (s.dev.rapOn s.mem msg.path = true) ∧ (s.dev.arrived rapHello 0 msg = true) ∧ (helloFormed msg.body = true) ∧ (keyRights s.mem (helloKey msg.body) = some (roles, paths, top, idle)) ∧ (Role.ofNum (helloRole msg.body) = some r) ∧ (roles.testBit (helloRole msg.body) = true) ∧ (paths.testBit msg.path.num = true) ∧ (s.dev.openUnder (helloKey msg.body) < top) ∧ (s.dev.pruneFull = false) ∧ (s.dev.freeSid = some k) ∧ (s.dev.establishing.length < 4) ∧ ((2 ≤ msg.path.num → (s.dev.establishing.any fun j => (s.dev.sess j).path = msg.path) = false)) :=
  ⟨dgram 0 84 0 ([0, 0, 4] ++ leBytes 81 0), 16, 1, 1, 600, 2, .maintainer, up .operator, by decide +kernel⟩

theorem witness_HelloAndFinishOpenASession_finish : ∃ (sid : Sid) (msg : RapMsg) (roles paths top idle : Nat) (s : State),
    (Settled s) ∧ (s.dev.alive = true) ∧ ((s.dev.sess sid.val).life = .establishing) ∧ ((s.dev.sess sid.val).path = msg.path) ∧ (s.dev.arrived rapFinish sid.val msg = true) ∧ (msg.seq = 0) ∧ (msg.body = Sess.sealed ((s.dev.sess sid.val).keyed s.mem sid.val) false rapFinish 0 32 0
        ((s.dev.sess sid.val).th sid.val)) ∧ (keyRights s.mem (s.dev.sess sid.val).key = some (roles, paths, top, idle)) ∧ (roles.testBit (s.dev.sess sid.val).role.num = true) ∧ (paths.testBit (s.dev.sess sid.val).path.num = true) ∧ (s.dev.openUnder (s.dev.sess sid.val).key < top) ∧ (s.dev.pruneFull = false) ∧ (s.dev.pathIdle (s.dev.sess sid.val).path = false) :=
  by
    refine ⟨2, finishMsg (establishing (withKey (up .operator))), 63, 15, 4, 10, establishing (withKey (up .operator)), ?_⟩
    refine ⟨by decide +kernel, by decide +kernel, by decide +kernel, by decide +kernel, by decide +kernel, by decide +kernel, rfl, ?_⟩
    decide +kernel

theorem witness_HelloAndFinishOpenASession_establishTimeout : ∃ (sid : Sid) (s : State),
    (s.dev.alive = true) ∧ ((s.dev.sess sid.val).life = .establishing) ∧ ((keyRights s.mem (s.dev.sess sid.val).key).isSome = true) :=
  ⟨2, establishing (withKey (up .operator)), by decide +kernel⟩

theorem witness_AcceptedMessagesOfASession_keepalive : ∃ (msg : RapMsg) (plain : List Byte) (s : State),
    (Settled s) ∧ (Reaches rapKeepalive msg plain s) ∧ (Authentic rapKeepalive msg plain s) :=
  by
    refine ⟨sealedMsg rapKeepalive 7 [] (up .observer), [], up .observer, ?_⟩
    exact ⟨by decide +kernel, by decide +kernel, rfl, rfl, by decide +kernel⟩

theorem witness_AcceptedMessagesOfASession_refusedMessage : ∃ (msg : RapMsg) (plain : List Byte) (s : State),
    (Settled s) ∧ (Reaches rapKeepalive msg plain s) ∧ (s.dev.accepts msg.session.toNat msg.seq.toNat ((s.dev.sess msg.session.toNat).opens rapKeepalive msg.session.toNat msg plain) = false) ∧ (Reaches rapClose msg plain s) ∧ (s.dev.accepts msg.session.toNat msg.seq.toNat ((s.dev.sess msg.session.toNat).opens rapClose msg.session.toNat msg plain) = false) :=
  ⟨dgram 3 0 1 (leBytes 16 0), [], up .observer, by decide +kernel⟩

theorem witness_ClosedSessionHoldsNothing_rapClose : ∃ (msg : RapMsg) (plain : List Byte) (s : State),
    (Reaches rapClose msg plain s) ∧ (Authentic rapClose msg plain s) :=
  by
    refine ⟨sealedMsg rapClose 7 [1] (up .operator), [1], up .operator, ?_⟩
    exact ⟨by decide +kernel, rfl, rfl, by decide +kernel⟩

theorem witness_ClosedSessionHoldsNothing_idleTimeout : ∃ (sid : Sid) (s : State),
    (sid.val ≠ 0) ∧ (s.dev.alive = true) ∧ (s.dev.isOpened sid.val = true) :=
  ⟨1, up .operator, by decide +kernel⟩

theorem witness_WritesAnAddressRefuses_unmapped : ∃ (sid : Sid) (addr : BitVec 16) (value : Word) (s : State),
    (Heard sid.val s) ∧ (Settled s) ∧ (s.dev.pwr.leaving = false) ∧ (regFields addr.toNat = none) :=
  ⟨1, 0x3000, 7, up .operator, by decide +kernel⟩

theorem witness_WritesAnAddressRefuses_denied : ∃ (sid : Sid) (addr : BitVec 16) (value : Word) (l : List Fld) (s : State),
    (Heard sid.val s) ∧ (Settled s) ∧ (s.dev.pwr.leaving = false) ∧ (regFields addr.toNat = some l) ∧ ((∀ f ∈ l, f.acc = .ro ∨ f.acc = .rc)) :=
  ⟨1, 0x0100, 7, regsPage1 0x100, up .operator, by decide +kernel⟩

theorem witness_WritesAnAddressRefuses_notSteward : ∃ (sid : Sid) (addr : BitVec 16) (value : Word) (l : List Fld) (f : Func) (s : State),
    (Heard sid.val s) ∧ (Settled s) ∧ (s.dev.pwr.leaving = false) ∧ (regFields addr.toNat = some l) ∧ (writable l = true) ∧ (regOwner addr.toNat = some f) ∧ (addr.toNat ∉ [LRN_WIN_BASE.PAGE.addr, SAF_CTRL.CMD.addr, PWR_CTRL.CMD.addr]) ∧ (s.dev.isSteward sid.val f = false) ∧ (roleGranted (s.dev.sess sid.val).role addr.toNat = false) ∧ ((s.dev.sess sid.val).key ≠ 0) ∧ ((addr.toNat = SEQ_CTRL.CMD.addr → SEQ_CTRL.CMD.of value.toNat ≠ 6 ∧ SEQ_CTRL.CMD.of value.toNat ≠ 7)) :=
  ⟨1, 0x0A00, 7, regsPageA 0xA00, .seq, up .operator, by decide +kernel⟩

theorem witness_WritesAnAddressRefuses_running : ∃ (sid : Sid) (addr : BitVec 16) (value : Word) (l : List Fld) (f : Func) (s : State),
    (Heard sid.val s) ∧ (Settled s) ∧ (s.dev.pwr.leaving = false) ∧ (regFields addr.toNat = some l) ∧ (regOwner addr.toNat = some f) ∧ ((∃ x ∈ l, x.acc = .rws)) ∧ (s.dev.fnState f.num ≠ 0) ∧ (s.dev.isSteward sid.val f = true) :=
  ⟨1, 0x0602, 7, regsPage6 0x602, .acq, withRegs [(SESS_FUNC.STEWARD 0, 1), (SESS_FUNC.STATE 0, 1)] (up .operator), by decide +kernel⟩

theorem witness_PlainWritesStore_plainWrite : ∃ (sid : Sid) (addr : BitVec 16) (value : Word) (l : List Fld) (f : Func) (s : State),
    (Heard sid.val s) ∧ (Settled s) ∧ (s.dev.pwr.leaving = false) ∧ (regFields addr.toNat = some l) ∧ (regOwner addr.toNat = some f) ∧ (addr.toNat / 256 ∈ [5, 7, 9, 11]) ∧ (writable l = true) ∧ ((l.any (fun x => x.acc = .rws) = true → s.dev.fnState f.num = 0)) ∧ (s.dev.isSteward sid.val f = true) ∧ (s.dev.overruled sid.val addr.toNat = false) :=
  ⟨1, 0x0700, 7, regsPage7 0x700, .est, withRegs [(SESS_FUNC.STEWARD 1, 1)] (up .operator), by decide +kernel⟩

theorem witness_PlainWritesStore_overruledWrite : ∃ (sid : Sid) (addr : BitVec 16) (value : Word) (l : List Fld) (f : Func) (s : State),
    (Heard sid.val s) ∧ (Settled s) ∧ (s.dev.pwr.leaving = false) ∧ (regFields addr.toNat = some l) ∧ (regOwner addr.toNat = some f) ∧ (addr.toNat / 256 ∈ [5, 7, 9, 11]) ∧ (writable l = true) ∧ ((l.any (fun x => x.acc = .rws) = true → s.dev.fnState f.num = 0)) ∧ (s.dev.isSteward sid.val f = true) ∧ (sharedValue addr.toNat l = true) ∧ (s.dev.overruled sid.val addr.toNat = true) :=
  ⟨1, 0x0700, 7, (regsPage7 0x700), .est, (fun s => { s with dev := { s.dev with net := { s.dev.net with wrote := [(0x700, (0, 2))] } } }) (withRegs [(SESS_FUNC.STEWARD 1, 1)] (up .operator)), by decide +kernel⟩

theorem witness_ReadsOfClearingAndWideRegisters_rcRead : ∃ (sid : Sid) (addr : BitVec 16) (l : List Fld) (s : State),
    (Heard sid.val s) ∧ (Settled s) ∧ (regFields addr.toNat = some l) ∧ (wideOf addr.toNat = none) ∧ (measured addr.toNat = false) ∧ (addr.toNat ≠ 0x1404) :=
  ⟨1, 0x1304, [SESS_CNT.AUTH_FAIL, SESS_CNT.REJECTED], up .operator, by decide +kernel⟩

theorem witness_ReadsOfClearingAndWideRegisters_rcReadRecorder : ∃ (sid : Sid) (s : State),
    (Heard sid.val s) ∧ (Settled s) :=
  ⟨1, up .operator, by decide +kernel⟩

theorem witness_ReadsOfClearingAndWideRegisters_wideValueRead : ∃ (sid : Sid) (addr : BitVec 16) (n : Nat) (l : List Fld) (s : State),
    (Heard sid.val s) ∧ (Settled s) ∧ (regFields addr.toNat = some l) ∧ (wideOf addr.toNat = some (addr.toNat, n)) ∧ (measured addr.toNat = false) :=
  ⟨1, 0xF10, 4, regsPageF 0xF10, up .operator, by decide +kernel⟩

theorem witness_ReadsOfClearingAndWideRegisters_snapshotRead : ∃ (sid : Sid) (addr : BitVec 16) (low n v : Nat) (l : List Fld) (s : State),
    (Heard sid.val s) ∧ (Settled s) ∧ (regFields addr.toNat = some l) ∧ (wideOf addr.toNat = some (low, n)) ∧ (addr.toNat ≠ low) ∧ (measured addr.toNat = false) ∧ (look (s.dev.sess sid.val).snaps addr.toNat = some v) :=
  ⟨1, 0xF11, 0xF10, 4, 9, regsPageF 0xF11, (fun s => { s with dev := s.dev.modSess 1 fun x => { x with snaps := [(0xF11, 9)] } }) (up .operator), by decide +kernel⟩

theorem witness_UnlistedCommandsAreRefused_badCommand : ∃ (sid : Sid) (addr : BitVec 16) (value : Word) (f : Func) (cmd reason : Fld) (top : Nat) (s : State),
    (Heard sid.val s) ∧ (Settled s) ∧ (s.dev.pwr.leaving = false) ∧ (s.dev.isSteward sid.val f = true) ∧ ((f, cmd, reason, top) ∈ [(.acq, PORT_SWAP_CTRL.CMD, PORT_SWAP_STATUS.REASON, 2), (.lrn, LRN_CTRL.CMD, LRN_STATUS.REASON, 7),
        (.seq, SEQ_CTRL.CMD, SEQ_RESULT.REASON, 8), (.bal, BAL_CTRL.CMD, BAL_STATUS.REASON, 4),
        (.cue, CUE_CTRL.CMD, CUE_RESULT.REASON, 4), (.cue, CUE_FQ_CTRL.CMD, CUE_RESULT.REASON, 2)]) ∧ (addr.toNat = cmd.addr) ∧ (cmd.of value.toNat = 0 ∨ top < cmd.of value.toNat) :=
  ⟨1, 0xA02, 0, .seq, SEQ_CTRL.CMD, SEQ_RESULT.REASON, 8, withRegs [(SESS_FUNC.STEWARD 4, 1)] (up .operator), by decide +kernel⟩

theorem witness_RequestsAreAnsweredOnce_request : ∃ (msg : RapMsg) (id : BitVec 16) (stop : Bool) (ops : List ReqOp) (s : State),
    (Reaches rapRequest msg (requestBytes id stop ops) s) ∧ (Authentic rapRequest msg (requestBytes id stop ops) s) ∧ ((s.dev.sess msg.session.toNat).kept.find? (·.1 = id.toNat) = none) ∧ (requestFits (s.dev.sess msg.session.toNat).path ops = true) :=
  by
    refine ⟨sealedMsg rapRequest 7 (requestBytes 3 true [.read 0x100 1]) (up .operator), 3, true, [.read 0x100 1], up .operator, ?_⟩
    exact ⟨by decide +kernel, ⟨rfl, rfl, by decide +kernel⟩, by decide +kernel, by decide +kernel⟩

theorem witness_RequestsAreAnsweredOnce_repeated : ∃ (msg : RapMsg) (id : BitVec 16) (stop : Bool) (ops : List ReqOp) (res : List OpRes) (s : State),
    (Settled s) ∧ (Reaches rapRequest msg (requestBytes id stop ops) s) ∧ (Authentic rapRequest msg (requestBytes id stop ops) s) ∧ ((s.dev.sess msg.session.toNat).kept.find? (·.1 = id.toNat) = some (id.toNat, res)) :=
  by
    refine ⟨sealedMsg rapRequest 7 (requestBytes 3 true [.read 0x100 1]) (up .operator), 3, true, [.read 0x100 1], [], (fun s => { s with dev := s.dev.modSess 1 fun x => { x with kept := [(3, [])] } }) (up .operator), ?_⟩
    exact ⟨by decide +kernel, by decide +kernel, ⟨rfl, rfl, by decide +kernel⟩, by decide +kernel⟩

theorem witness_TrainingStepsFollowTheAnswers_statusFrame : ∃ (lc : Lc) (seq len : Byte) (crc : Word) (status : Word) (s : State),
    (Settled s) ∧ (s.dev.linkWorks s.mem = true) ∧ (uplinkGood 0xD 0 seq.toNat len.toNat [] status.toNat crc.toNat = true) ∧ (s.dev.link lc.val = 2) ∧ ((s.dev.port lc.val).awaitsSeq ftPoll seq.toNat = true) ∧ ((s.dev.port lc.val).queue = []) ∧ ((s.dev.port lc.val).step = .poll) :=
  ⟨0, 3, 0, BitVec.ofNat 32 (linkCrc (headerWord 0xD 3 0 false :: ([] ++ [0]))), 0, withPort 0 (fun p => { p with step := .poll, awaits := some ⟨ftPoll, 3, [], false⟩ }) (withRegs [(PORT_STATE.LINK 0, 2)] (wired (up .operator))), by decide +kernel⟩

theorem witness_TrainingStepsFollowTheAnswers_readIdentity : ∃ (lc : Lc) (seq len : Byte) (crc : Word) (values : List (BitVec 16)) (status : Word) (s : State),
    (Settled s) ∧ (s.dev.linkWorks s.mem = true) ∧ (uplinkGood 0xB (4 * (halves (values.map (·.toNat))).length) seq.toNat len.toNat (halves (values.map (·.toNat))) status.toNat crc.toNat = true) ∧ (s.dev.link lc.val = 2) ∧ ((s.dev.port lc.val).awaitsSeq ftRead seq.toNat = true) ∧ (s.dev.flight lc.val = [(0, 3)]) ∧ ((s.dev.port lc.val).queue = []) ∧ ((s.dev.port lc.val).step = .kind) ∧ ((values.getD 0 0).toNat = kindOf lc.val) ∧ (values.length = 3) :=
  ⟨0, 3, 8, BitVec.ofNat 32 (linkCrc (headerWord 0xB 3 8 false :: (halves [0x24, 1, 1000] ++ [0]))), [0x24, 1, 1000], 0, withPort 0 (fun p => { p with step := .kind, awaits := some ⟨ftRead, 3, [(0, 3)], false⟩ }) (withRegs [(PORT_STATE.LINK 0, 2)] (wired (up .operator))), by decide +kernel⟩

theorem witness_TrainingStepsFollowTheAnswers_readCrc : ∃ (lc : Lc) (seq len : Byte) (crc : Word) (values : List (BitVec 16)) (status : Word) (s : State),
    (Settled s) ∧ (s.dev.linkWorks s.mem = true) ∧ (uplinkGood 0xB (4 * (halves (values.map (·.toNat))).length) seq.toNat len.toNat (halves (values.map (·.toNat))) status.toNat crc.toNat = true) ∧ (s.dev.link lc.val = 2) ∧ ((s.dev.port lc.val).awaitsSeq ftRead seq.toNat = true) ∧ (s.dev.flight lc.val = [(8, 1)]) ∧ ((s.dev.port lc.val).queue = []) ∧ ((s.dev.port lc.val).step = .thresholds) ∧ ((values.getD 0 0).toNat = s.dev.threshSum s.mem lc.val) :=
  ⟨0, 3, 4, BitVec.ofNat 32 (linkCrc (headerWord 0xB 3 4 false :: (halves [((withPort 0 (fun p => { p with step := .thresholds, awaits := some ⟨ftRead, 3, [(8, 1)], false⟩ }) (withRegs [(PORT_STATE.LINK 0, 2)] (wired (up .operator)))).dev.threshSum (withPort 0 (fun p => { p with step := .thresholds, awaits := some ⟨ftRead, 3, [(8, 1)], false⟩ }) (withRegs [(PORT_STATE.LINK 0, 2)] (wired (up .operator)))).mem 0)] ++ [0]))), [BitVec.ofNat 16 ((withPort 0 (fun p => { p with step := .thresholds, awaits := some ⟨ftRead, 3, [(8, 1)], false⟩ }) (withRegs [(PORT_STATE.LINK 0, 2)] (wired (up .operator)))).dev.threshSum (withPort 0 (fun p => { p with step := .thresholds, awaits := some ⟨ftRead, 3, [(8, 1)], false⟩ }) (withRegs [(PORT_STATE.LINK 0, 2)] (wired (up .operator)))).mem 0)], 0, withPort 0 (fun p => { p with step := .thresholds, awaits := some ⟨ftRead, 3, [(8, 1)], false⟩ }) (withRegs [(PORT_STATE.LINK 0, 2)] (wired (up .operator))), by decide +kernel⟩

theorem witness_TrainingStepsFollowTheAnswers_writeAck : ∃ (lc : Lc) (seq len : Byte) (crc : Word) (status : Word) (s : State),
    (Settled s) ∧ (s.dev.linkWorks s.mem = true) ∧ (uplinkGood 0xC 0 seq.toNat len.toNat [] status.toNat crc.toNat = true) ∧ ((s.dev.port lc.val).awaitsSeq ftWrite seq.toNat = true) :=
  ⟨0, 3, 0, BitVec.ofNat 32 (linkCrc (headerWord 0xC 3 0 false :: ([] ++ [0]))), 0, withPort 0 (fun p => { p with step := .thresholds, awaits := some ⟨ftWrite, 3, [(3, 200)], false⟩ }) (withRegs [(PORT_STATE.LINK 0, 2)] (wired (up .operator))), by decide +kernel⟩

theorem witness_TrainingStepsFollowTheAnswers_nack : ∃ (lc : Lc) (seq len : Byte) (crc : Word) (reason : Byte) (status : Word) (f : Down) (s : State),
    (Settled s) ∧ (s.dev.linkWorks s.mem = true) ∧ (uplinkGood 0xF 4 seq.toNat len.toNat [reason.toNat * 2 ^ 24] status.toNat crc.toNat = true) ∧ (s.dev.link lc.val = 2) ∧ ((s.dev.port lc.val).awaits = some f) ∧ (f.ftype ≠ ftProbe) ∧ (f.seq = seq.toNat) ∧ ((s.dev.port lc.val).queue = []) ∧ ((s.dev.port lc.val).step = .poll ∨ (s.dev.port lc.val).step = .kind ∨ (s.dev.port lc.val).step = .thresholds) ∧ (1 ≤ reason.toNat) ∧ (reason.toNat ≤ 4) :=
  ⟨0, 3, 4, BitVec.ofNat 32 (linkCrc (headerWord 0xF 3 4 false :: ([2 ^ 24] ++ [0]))), 1, 0, ⟨ftRead, 3, [(8, 1)], false⟩, withPort 0 (fun p => { p with step := .thresholds, awaits := some ⟨ftRead, 3, [(8, 1)], false⟩ }) (withRegs [(PORT_STATE.LINK 0, 2)] (wired (up .operator))), by decide +kernel⟩

theorem witness_DelaysAreMeasuredByProbes_delayProbe : ∃ (lc : Lc) (s : State),
    (Settled s) ∧ (s.dev.linkWorks s.mem = true) ∧ (s.dev.isUp lc.val = true) ∧ ((s.dev.port lc.val).awaits = none) :=
  ⟨0, withRegs [(PORT_STATE.LINK 0, 3)] (wired (up .operator)), by decide +kernel⟩

theorem witness_DelaysAreMeasuredByProbes_echoTraining : ∃ (lc : Lc) (rtt : Nat) (f : Down) (s : State),
    (Settled s) ∧ (s.dev.linkWorks s.mem = true) ∧ ((s.dev.port lc.val).awaits = some f) ∧ (f.ftype = ftProbe) ∧ ((s.dev.port lc.val).queue = []) ∧ ((s.dev.port lc.val).step = .probes) ∧ ((s.dev.port lc.val).probes.length < 7) :=
  ⟨0, 210, ⟨ftProbe, 3, [], false⟩, withPort 0 (fun p => { p with step := .probes, awaits := some ⟨ftProbe, 3, [], false⟩ }) (withRegs [(PORT_STATE.LINK 0, 2)] (wired (up .operator))), by decide +kernel⟩

theorem witness_DelaysAreMeasuredByProbes_echoUp : ∃ (lc : Lc) (rtt : Nat) (f : Down) (s : State),
    (Settled s) ∧ (s.dev.linkWorks s.mem = true) ∧ ((s.dev.port lc.val).awaits = some f) ∧ (f.ftype = ftProbe) ∧ ((s.dev.port lc.val).queue = []) ∧ ((s.dev.port lc.val).step = .idle) ∧ (s.dev.isLive lc.val = true) ∧ ((s.dev.rd (PORT_DELAY.DELAY lc.val) : Int) - 100 ≤ delayOf rtt) ∧ (delayOf rtt ≤ (s.dev.rd (PORT_DELAY.DELAY lc.val) : Int) + 100) ∧ (rtt < 1024) :=
  ⟨0, 210, ⟨ftProbe, 3, [], false⟩, withPort 0 (fun p => { p with step := .idle, awaits := some ⟨ftProbe, 3, [], false⟩ }) (withRegs [(PORT_STATE.LINK 0, 3), (PORT_DELAY.DELAY 0, 60)] (wired (up .operator))), by decide +kernel⟩

theorem witness_DelaysAreMeasuredByProbes_echoDiscarded : ∃ (lc : Lc) (rtt : Nat) (f : Down) (s : State),
    (Settled s) ∧ (s.dev.linkWorks s.mem = true) ∧ ((s.dev.port lc.val).awaits = some f) ∧ (f.ftype = ftProbe) ∧ ((s.dev.port lc.val).queue = []) ∧ ((s.dev.port lc.val).step = .idle) ∧ (s.dev.isLive lc.val = true) ∧ ((s.dev.rd (PORT_DELAY.DELAY lc.val) : Int) + 100 < delayOf rtt) ∧ ((s.dev.port lc.val).discards < 4) :=
  ⟨0, 310, ⟨ftProbe, 3, [], false⟩, withPort 0 (fun p => { p with step := .idle, awaits := some ⟨ftProbe, 3, [], false⟩ }) (withRegs [(PORT_STATE.LINK 0, 3), (PORT_DELAY.DELAY 0, 60)] (wired (up .operator))), by decide +kernel⟩

theorem witness_SampleFramesFillTheirRegisters_cellsFrame : ∃ (port : Mon) (seq len : Byte) (crc : Word) (codes : List (BitVec 16)) (status : Word) (s : State),
    (s.dev.linkWorks s.mem = true) ∧ (uplinkGood 0x8 48 seq.toNat len.toNat (halves (codes.map (·.toNat))) status.toNat crc.toNat = true) ∧ (s.dev.portUsed (lcOfMon port.val) = true) ∧ (s.dev.smpDue (lcOfMon port.val) seq.toNat = true) ∧ (codes.length = 24) :=
  ⟨0, 0, 48, BitVec.ofNat 32 (linkCrc (headerWord 0x8 0 48 false :: (halves (List.replicate 24 37000) ++ [0]))), List.replicate 24 37000, 0, (fun s => { s with dev := s.dev.modPhase fun p => { p with k := 4 } }) (withRegs [(PORT_STATE.LINK 0, 3)] (wired (up .operator))), by decide +kernel⟩

theorem witness_SampleFramesFillTheirRegisters_stringFrame : ∃ (front : Str) (seq len : Byte) (crc : Word) (shunt vstr vbus vpre status : Word) (s : State),
    (s.dev.linkWorks s.mem = true) ∧ (uplinkGood 0x9 16 seq.toNat len.toNat ([shunt, vstr, vbus, vpre].map (·.toNat)) status.toNat crc.toNat = true) ∧ (s.dev.portUsed (lcOfFront front.val) = true) ∧ (s.dev.smpDue (lcOfFront front.val) seq.toNat = true) :=
  ⟨0, 0, 16, BitVec.ofNat 32 (linkCrc (headerWord 0x9 0 16 false :: ([0, 200000, 200000, 0] ++ [0]))), 0, 200000, 200000, 0, 0, (fun s => { s with dev := s.dev.modPhase fun p => { p with k := 4 } }) (withRegs [(PORT_STATE.LINK 8, 3)] (wired (up .operator))), by decide +kernel⟩

theorem witness_SampleFramesFillTheirRegisters_tempsFrame : ∃ (port : Mon) (seq len : Byte) (crc : Word) (codes : List (BitVec 16)) (id0 id1 : BitVec 16) (status : Word) (s : State),
    (s.dev.linkWorks s.mem = true) ∧ (uplinkGood 0xA 36 seq.toNat len.toNat (halves ((codes ++ [id0, id1]).map (·.toNat))) status.toNat crc.toNat = true) ∧ ((s.dev.port (lcOfMon port.val)).tempReq = true) ∧ (s.dev.isLive (lcOfMon port.val) = true) ∧ ((s.dev.port (lcOfMon port.val)).strobes % 256 = seq.toNat) ∧ (codes.length = 16) :=
  ⟨0, 0, 36, BitVec.ofNat 32 (linkCrc (headerWord 0xA 0 36 false :: (halves (List.replicate 16 30000 ++ [7, 8]) ++ [0]))), List.replicate 16 30000, 7, 8, 0, withPort 0 (fun p => { p with tempReq := true }) (withRegs [(PORT_STATE.LINK 0, 3)] (wired (up .operator))), by decide +kernel⟩

theorem witness_SampleFramesFillTheirRegisters_frameDeadline : ∃ (port : Mon) (s : State),
    (Settled s) ∧ (s.dev.linkWorks s.mem = true) ∧ (s.dev.isLive (lcOfMon port.val) = true) ∧ ((s.dev.port (lcOfMon port.val)).got = false) ∧ (0 < s.dev.phase.k) :=
  ⟨0, (fun s => { s with dev := s.dev.modPhase fun p => { p with k := 4 } }) (withRegs [(PORT_STATE.LINK 0, 3)] (wired (up .operator))), by decide +kernel⟩

theorem witness_SampleFramesFillTheirRegisters_frontDeadline : ∃ (front : Str) (s : State),
    (Settled s) ∧ (s.dev.linkWorks s.mem = true) ∧ (s.dev.isLive (lcOfFront front.val) = true) ∧ ((s.dev.port (lcOfFront front.val)).got = false) ∧ (0 < s.dev.phase.k) ∧ (s.dev.lcStr (lcOfFront front.val) < 8) :=
  ⟨0, (fun s => { s with dev := s.dev.modPhase fun p => { p with k := 4 } }) (withRegs [(PORT_STATE.LINK 8, 3)] (wired (up .operator))), by decide +kernel⟩

theorem witness_RetriesAndTrainingAttempts_commandRetry : ∃ (lc : Lc) (f : Down) (s : State),
    (Settled s) ∧ (s.dev.linkWorks s.mem = true) ∧ ((s.dev.port lc.val).awaits = some f) ∧ ((s.dev.port lc.val).step ≠ .poll) ∧ (f.retry = false) ∧ (f.ftype ≠ ftWrite) :=
  ⟨0, ⟨ftRead, 3, [(8, 1)], false⟩, withPort 0 (fun p => { p with awaits := some ⟨ftRead, 3, [(8, 1)], false⟩ }) (withRegs [(PORT_STATE.LINK 0, 3)] (wired (up .operator))), by decide +kernel⟩

theorem witness_RetriesAndTrainingAttempts_commandFails : ∃ (lc : Lc) (f : Down) (s : State),
    (Settled s) ∧ (s.dev.linkWorks s.mem = true) ∧ (s.dev.isLive lc.val = true) ∧ ((s.dev.port lc.val).awaits = some f) ∧ ((s.dev.port lc.val).step = .idle) ∧ (f.retry = true) ∧ ((s.dev.port lc.val).queue = []) :=
  ⟨0, ⟨ftRead, 3, [(8, 1)], true⟩, withPort 0 (fun p => { p with awaits := some ⟨ftRead, 3, [(8, 1)], true⟩ }) (withRegs [(PORT_STATE.LINK 0, 3)] (wired (up .operator))), by decide +kernel⟩

theorem witness_RetriesAndTrainingAttempts_pollTimeout : ∃ (lc : Lc) (s : State),
    (Settled s) ∧ (s.dev.linkWorks s.mem = true) ∧ (s.dev.link lc.val = 2) ∧ ((s.dev.port lc.val).step = .poll) ∧ (s.dev.portUsed lc.val = true) ∧ ((s.dev.port lc.val).single = false) ∧ ((s.dev.port lc.val).fails < 2) :=
  ⟨0, withPort 0 (fun p => { p with step := .poll }) (withRegs [(PORT_STATE.LINK 0, 2)] (wired (up .operator))), by decide +kernel⟩

theorem witness_RetriesAndTrainingAttempts_pollTimeoutDown : ∃ (lc : Lc) (s : State),
    (s.dev.linkWorks s.mem = true) ∧ (s.dev.link lc.val = 2) ∧ ((s.dev.port lc.val).step = .poll) ∧ (2 ≤ (s.dev.port lc.val).fails) :=
  ⟨0, withPort 0 (fun p => { p with step := .poll, fails := 2 }) (withRegs [(PORT_STATE.LINK 0, 2)] (wired (up .operator))), by decide +kernel⟩

theorem witness_RetriesAndTrainingAttempts_trainingTimeout : ∃ (lc : Lc) (s : State),
    (Settled s) ∧ (s.dev.linkWorks s.mem = true) ∧ (s.dev.link lc.val = 2) ∧ (s.dev.strobing lc.val = false) ∧ (s.dev.portUsed lc.val = true) ∧ ((s.dev.port lc.val).single = false) ∧ ((s.dev.port lc.val).fails < 2) :=
  ⟨0, withPort 0 (fun p => { p with step := .probes }) (withRegs [(PORT_STATE.LINK 0, 2)] (wired (up .operator))), by decide +kernel⟩

theorem witness_RetriesAndTrainingAttempts_trainingTimeoutDown : ∃ (lc : Lc) (s : State),
    (s.dev.linkWorks s.mem = true) ∧ (s.dev.link lc.val = 2) ∧ (s.dev.strobing lc.val = false) ∧ (2 ≤ (s.dev.port lc.val).fails) :=
  ⟨0, withPort 0 (fun p => { p with step := .probes, fails := 2 }) (withRegs [(PORT_STATE.LINK 0, 2)] (wired (up .operator))), by decide +kernel⟩

theorem witness_RetriesAndTrainingAttempts_missingTimeout : ∃ (lc : Lc) (s : State),
    (Settled s) ∧ (s.dev.linkWorks s.mem = true) ∧ (s.dev.link lc.val = 4) ∧ (s.dev.portUsed lc.val = true) :=
  ⟨0, withRegs [(PORT_STATE.LINK 0, 4)] (wired (up .operator)), by decide +kernel⟩

theorem witness_RetriesAndTrainingAttempts_retrain : ∃ (lc : Lc) (s : State),
    (Settled s) ∧ (s.dev.linkWorks s.mem = true) ∧ (s.dev.link lc.val = 1) ∧ (s.dev.portUsed lc.val = true) :=
  ⟨0, withRegs [(PORT_STATE.LINK 0, 1), (PORT_SWAP_STATUS.PRESENT, 255)] (wired (up .operator)), by decide +kernel⟩

theorem witness_RetriesAndTrainingAttempts_trainingPoll : ∃ (lc : Lc) (s : State),
    (Settled s) ∧ (s.dev.linkWorks s.mem = true) ∧ (s.dev.link lc.val = 2) ∧ ((s.dev.port lc.val).step = .poll) :=
  ⟨0, withPort 0 (fun p => { p with step := .poll }) (withRegs [(PORT_STATE.LINK 0, 2)] (wired (up .operator))), by decide +kernel⟩

theorem witness_RetriesAndTrainingAttempts_trainingProbe : ∃ (lc : Lc) (s : State),
    (Settled s) ∧ (s.dev.linkWorks s.mem = true) ∧ (s.dev.link lc.val = 2) ∧ ((s.dev.port lc.val).step = .probes) ∧ ((s.dev.port lc.val).awaits = none) :=
  ⟨0, withPort 0 (fun p => { p with step := .probes }) (withRegs [(PORT_STATE.LINK 0, 2)] (wired (up .operator))), by decide +kernel⟩

theorem witness_RetriesAndTrainingAttempts_companionPoll : ∃ (s : State),
    (Settled s) ∧ (s.dev.linkWorks s.mem = true) ∧ (s.dev.fnState 0 = 0) :=
  ⟨withRegs [(PORT_STATE.LINK 0, 3)] (wired (up .operator)), by decide +kernel⟩

theorem witness_CassetteSwapFollowsItsPhases_arm : ∃ (sid : Sid) (k : Fin 8) (s : State),
    (Heard sid.val s) ∧ (Settled s) ∧ (s.dev.isSteward sid.val .acq = true) ∧ (((s.dev.cassetteStrings k.val).any fun x => s.dev.connected x || s.dev.closing x) = false) ∧ (s.dev.on PORT_SWAP_STATUS.ARMED = false) ∧ ((s.dev.rd PORT_SWAP_STATUS.PRESENT).testBit k.val = true) :=
  ⟨1, 0, withRegs [(SESS_FUNC.STEWARD 0, 1), (PORT_SWAP_STATUS.PRESENT, 255)] (wired (up .operator)), by decide +kernel⟩

theorem witness_CassetteSwapFollowsItsPhases_disarm : ∃ (sid : Sid) (s : State),
    (Heard sid.val s) ∧ (Settled s) ∧ (s.dev.isSteward sid.val .acq = true) ∧ (s.dev.on PORT_SWAP_STATUS.ARMED = true) ∧ ((s.dev.rd PORT_SWAP_STATUS.PRESENT).testBit (s.dev.rd PORT_SWAP_STATUS.CASSETTE) = true) :=
  ⟨1, withRegs [(SESS_FUNC.STEWARD 0, 1), (PORT_SWAP_STATUS.PRESENT, 255), (PORT_SWAP_STATUS.ARMED, 1), (PORT_SWAP_STATUS.PHASE, 4), (PORT_STATE.LINK 0, 5), (PORT_STATE.LINK 8, 5)] (wired (up .operator)), by decide +kernel⟩

theorem witness_CassetteSwapFollowsItsPhases_armedCassetteRemoved : ∃ (k : Fin 8) (s : State),
    (Settled s) ∧ (s.dev.alive = true) ∧ (s.dev.on PORT_SWAP_STATUS.ARMED = true) ∧ (s.dev.rd PORT_SWAP_STATUS.CASSETTE = k.val) :=
  ⟨0, withRegs [(SESS_FUNC.STEWARD 0, 1), (PORT_SWAP_STATUS.PRESENT, 255), (PORT_SWAP_STATUS.ARMED, 1), (PORT_SWAP_STATUS.PHASE, 1)] (wired (up .operator)), by decide +kernel⟩

theorem witness_CassetteSwapFollowsItsPhases_presStable : ∃ (k : Fin 8) (s : State),
    (Settled s) ∧ (s.dev.alive = true) ∧ ((s.dev.rd PORT_SWAP_STATUS.PRESENT).testBit k.val = false) :=
  ⟨0, withRegs [(PORT_SWAP_STATUS.PRESENT, 254), (PORT_SWAP_STATUS.ARMED, 1), (PORT_SWAP_STATUS.PHASE, 2)] (wired (up .operator)), by decide +kernel⟩

theorem witness_CassetteSwapFollowsItsPhases_cassetteRemoved : ∃ (k : Fin 8) (s : State),
    (s.dev.alive = true) ∧ (s.dev.on PORT_SWAP_STATUS.ARMED = false) :=
  ⟨0, withRegs [(SESS_FUNC.STEWARD 0, 1), (PORT_SWAP_STATUS.PRESENT, 255), (SEQ_STATE.STATE 0, 6)] (wired (up .operator)), by decide +kernel⟩

theorem witness_FaultLoopsAreWatched_loopLeavesWindow : ∃ (lc : Lc) (current : BitVec 16) (s : State),
    (Settled s) ∧ (s.dev.alive = true) ∧ (s.dev.loopJudged lc.val = true) ∧ (current.toNat < 400 ∨ 1600 < current.toNat) :=
  ⟨0, 300, wired (up .operator), by decide +kernel⟩

theorem witness_FaultLoopsAreWatched_loopReturnsToWindow : ∃ (lc : Lc) (current : BitVec 16) (s : State),
    (Settled s) ∧ (s.dev.alive = true) ∧ (s.dev.loopJudged lc.val = true) ∧ (400 ≤ current.toNat) ∧ (current.toNat ≤ 1600) :=
  ⟨0, 900, withRegs [(PORT_STATE.LOOP_FAULT 0, 1)] (wired (up .operator)), by decide +kernel⟩

theorem witness_FaultLoopsAreWatched_loopDebounceExpiry : ∃ (lc : Lc) (s : State),
    (s.dev.loopJudged lc.val = true) ∧ (tget false s.dev.saf.loopDeb lc.val = true) ∧ (s.dev.on PORT_SWAP_STATUS.ARMED = false) :=
  ⟨0, (fun s => { s with dev := s.dev.modSaf fun x => { x with loopDeb := [(0, true)] } }) (withSec 0x40 600 [(416, 1)] (wired (up .operator))), by decide +kernel⟩

theorem witness_FaultLoopsAreWatched_loopDebounceArmed : ∃ (lc : Lc) (s : State),
    (Settled s) ∧ (s.dev.loopJudged lc.val = true) ∧ (tget false s.dev.saf.loopDeb lc.val = true) ∧ (s.dev.on PORT_SWAP_STATUS.ARMED = true) ∧ (lc.val / 9 = s.dev.rd PORT_SWAP_STATUS.CASSETTE) :=
  ⟨0, (fun s => { s with dev := s.dev.modSaf fun x => { x with loopDeb := [(0, true)] } }) (withRegs [(PORT_SWAP_STATUS.ARMED, 1)] (wired (up .operator))), by decide +kernel⟩

theorem witness_FaultLoopsAreWatched_loopMarginal : ∃ (lc : Lc) (current : BitVec 16) (s : State),
    (s.dev.alive = true) ∧ (s.dev.portUsed lc.val = true) ∧ ((400 ≤ current.toNat ∧ current.toNat ≤ 800) ∨ (1200 ≤ current.toNat ∧ current.toNat ≤ 1600)) :=
  ⟨0, 500, wired (up .operator), by decide +kernel⟩

theorem witness_SafetyInputsAreFilteredAndJudged_safetyInputChange : ∃ (input : Fin 8) (chB closed : Bool) (s : State),
    (Settled s) :=
  ⟨0, false, true, up .operator, by decide +kernel⟩

theorem witness_SafetyInputsAreFilteredAndJudged_estopFiltered : ∃ (input : Fin 8) (chB : Bool) (s : State),
    (s.dev.curtain = true) ∧ (s.mem.img.inFunc input.val = 1) ∧ (s.dev.inDemand input.val = false) ∧ (s.dev.chanShows s.mem input.val chB = .demand) :=
  ⟨0, false, withSec 0x40 600 [(32, 1)] (up .operator), by decide +kernel⟩

theorem witness_SafetyInputsAreFilteredAndJudged_disconnectFiltered : ∃ (input : Fin 8) (chB : Bool) (s : State),
    (s.dev.curtain = true) ∧ (s.mem.img.inFunc input.val = 2) ∧ (s.dev.inDemand input.val = false) ∧ (s.dev.chanShows s.mem input.val chB = .demand) :=
  ⟨0, false, withSec 0x40 600 [(32, 2), (35, 1), (38, 1)] (up .operator), by decide +kernel⟩

theorem witness_SafetyInputsAreFilteredAndJudged_sdrFiltered : ∃ (input : Fin 8) (chB : Bool) (s : State),
    (Settled s) ∧ (s.dev.curtain = true) ∧ (s.mem.img.inFunc input.val = 3 ∨ s.mem.img.inFunc input.val = 4) ∧ (s.dev.inDemand input.val = false) ∧ (s.dev.chanShows s.mem input.val chB = .demand) :=
  ⟨0, false, withSec 0x40 600 [(32, 3), (38, 1)] (up .operator), by decide +kernel⟩

theorem witness_SafetyInputsAreFilteredAndJudged_healthFiltered : ∃ (input : Fin 8) (chB : Bool) (s : State),
    (Settled s) ∧ (s.dev.curtain = true) ∧ (s.mem.img.inFunc input.val ≠ 0) ∧ (s.dev.inDemand input.val = false) ∧ (s.dev.chanShows s.mem input.val chB = .healthy) :=
  ⟨0, false, (fun s : State => ({ s with dev := s.dev.modSaf fun x => { x with term := [(0, true)] } } : State)) (withSec 0x40 600 [(32, 1)] (up .operator)), by decide +kernel⟩

theorem witness_SafetyInputsAreFilteredAndJudged_notConfigured : ∃ (input : Fin 8) (chB : Bool) (s : State),
    (Settled s) ∧ (s.mem.img.inFunc input.val = 0) :=
  ⟨0, false, up .operator, by decide +kernel⟩

theorem witness_SafetyInputsAreFilteredAndJudged_inputDiscrepancy : ∃ (input : Fin 8) (s : State),
    (Settled s) ∧ (s.dev.curtain = true) ∧ (s.mem.img.inFunc input.val ≠ 0) ∧ (tget 0 s.dev.saf.differAt input.val ≠ 0) ∧ (msClk 1 * (97 * s.mem.img.inDiscrep input.val - 100) ≤ 100 * s.dev.differs input.val) :=
  ⟨0, (fun s : State => ({ s with dev := s.dev.modSaf fun x => { x with filt := [(0, .demand)], differAt := [(0, 1)] } } : State)) (withSec 0x40 600 [(32, 1)] (up .operator)), by decide +kernel⟩

theorem witness_SafetyInputsAreFilteredAndJudged_sdrComparatorWrite : ∃ (input : Fin 8) (s : State),
    (Settled s) ∧ (s.dev.alive = true) ∧ (s.dev.inDemand input.val = true) ∧ (s.mem.img.inFunc input.val = 3 ∨ s.mem.img.inFunc input.val = 4) :=
  ⟨0, (fun s : State => ({ s with dev := s.dev.modSaf fun x => { x with filt := [(0, .demand)] } } : State)) (withSec 0x40 600 [(32, 3), (38, 3)] (up .operator)), by decide +kernel⟩

theorem witness_DetectedFaultsLatchAndReact_faults : ∃ (c : Instr) (code : Nat) (group : Fin 9) (count : Nat) (s : State),
    (s.dev.alive = true) ∧ (s.dev.pwr.inTransport = false) ∧ (s.dev.saf.pause = false) ∧ (s.dev.saf.hbLost = false) ∧ (count < 2880 ∨ 3520 < count) ∧ (tget false s.dev.saf.ret.faults code = false) ∧ ((c, code) ∈ [(.curtainSelftest false, 4), (.supSelftest false, 5), (.gateReadback group, 6), (.hbLost, 7),
      (.clockCheck count, 7), (.curtainTemp, 8)]) :=
  ⟨.curtainTemp, 8, 0, 0, up .operator, by decide +kernel⟩

theorem witness_DetectedFaultsLatchAndReact_bedPauseExpired : ∃ (s : State),
    (s.dev.curtain = true) ∧ (s.dev.saf.pause = true) ∧ (s.dev.saf.hbLost = false) ∧ (tget false s.dev.saf.ret.faults 7 = false) :=
  ⟨(fun s : State => ({ s with dev := s.dev.modSaf fun x => { x with pause := true } } : State)) (up .operator), by decide +kernel⟩

theorem witness_DetectedFaultsLatchAndReact_passes : ∃ (c : Instr) (code : Nat) (s : State),
    (Settled s) ∧ (s.dev.alive = true) ∧ (s.dev.pwr.inTransport = false) ∧ ((c, code) ∈ [(.curtainSelftest true, 4), (.supSelftest true, 5)]) :=
  ⟨.supSelftest true, 5, up .operator, by decide +kernel⟩

theorem witness_DetectedFaultsLatchAndReact_clockInBand : ∃ (count : Nat) (s : State),
    (Settled s) ∧ (2880 ≤ count) ∧ (count ≤ 3520) :=
  ⟨3200, up .operator, by decide +kernel⟩

theorem witness_CrossCompareRunsEachMillisecond_crossCompare : ∃ (seq crc : BitVec 16) (loops : List (Lc × BitVec 16)) (inputs : BitVec 18) (s : State),
    (Settled s) ∧ (s.dev.alive = true) ∧ (s.dev.pwr.inTransport = false) ∧ (crc16 ((s.dev.readLoops loops).crossOf s.mem seq.toNat inputs.toNat).bytes = crc.toNat) ∧ (s.dev.saf.xseq = none ∨ s.dev.saf.xseq = some seq.toNat) ∧ (∀ k < 90, (s.dev.readLoops loops).itemDiffers s.mem inputs.toNat k = false) :=
  ⟨7, BitVec.ofNat 16 (crc16 (((up .operator).dev.readLoops [(0, 1000)]).crossOf (up .operator).mem 7 0).bytes), [(0, 1000)], 0, up .operator, by decide +kernel⟩

theorem witness_CrossCompareRunsEachMillisecond_messageMissing : ∃ (seq crc : BitVec 16) (loops : List (Lc × BitVec 16)) (inputs : BitVec 18) (s : State),
    (Settled s) ∧ (s.dev.alive = true) ∧ (s.dev.pwr.inTransport = false) ∧ (crc16 ((s.dev.readLoops loops).crossOf s.mem seq.toNat inputs.toNat).bytes ≠ crc.toNat ∨
        (s.dev.saf.xseq ≠ none ∧ s.dev.saf.xseq ≠ some seq.toNat)) ∧ (s.dev.saf.badRun < 2) ∧ (s.dev.saf.first = false) :=
  ⟨7, 0, [], 0, (fun s : State => ({ s with dev := s.dev.modSaf fun x => { x with first := false, xseq := some 9 } } : State)) (up .operator), by decide +kernel⟩

theorem witness_CrossCompareRunsEachMillisecond_messagesMissing : ∃ (seq crc : BitVec 16) (loops : List (Lc × BitVec 16)) (inputs : BitVec 18) (s : State),
    (s.dev.alive = true) ∧ (s.dev.pwr.inTransport = false) ∧ (crc16 ((s.dev.readLoops loops).crossOf s.mem seq.toNat inputs.toNat).bytes ≠ crc.toNat ∨
        (s.dev.saf.xseq ≠ none ∧ s.dev.saf.xseq ≠ some seq.toNat)) ∧ (s.dev.saf.badRun = 2 ∨ s.dev.saf.first = true) :=
  ⟨7, 0, [], 0, (fun s : State => ({ s with dev := s.dev.modSaf fun x => { x with first := false, xseq := some 9, badRun := 2 } } : State)) (up .operator), by decide +kernel⟩

theorem witness_CrossCompareRunsEachMillisecond_viewsDiffer : ∃ (k : Nat) (seq crc : BitVec 16) (loops : List (Lc × BitVec 16)) (inputs : BitVec 18) (s : State),
    (s.dev.alive = true) ∧ (s.dev.pwr.inTransport = false) ∧ (crc16 ((s.dev.readLoops loops).crossOf s.mem seq.toNat inputs.toNat).bytes = crc.toNat) ∧ (s.dev.saf.xseq = none ∨ s.dev.saf.xseq = some seq.toNat) ∧ (k < 90) ∧ ((s.dev.readLoops loops).itemDiffers s.mem inputs.toNat k = true) ∧ (tget 0 s.dev.saf.runs k = 2) :=
  ⟨88, 7, BitVec.ofNat 16 (crc16 (((((fun s : State => ({ s with dev := s.dev.modSaf fun x => { x with first := false, runs := [(88, 2)] } } : State)) (up .operator))).dev.readLoops []).crossOf (((fun s : State => ({ s with dev := s.dev.modSaf fun x => { x with first := false, runs := [(88, 2)] } } : State)) (up .operator))).mem 7 0x10000).bytes), [], 0x10000, (fun s : State => ({ s with dev := s.dev.modSaf fun x => { x with first := false, runs := [(88, 2)] } } : State)) (up .operator), by decide +kernel⟩

theorem witness_ResetPairIsJudged_resetPressedApart : ∃ (heldC heldS : Nat) (s : State),
    (Settled s) ∧ (s.dev.alive = true) :=
  ⟨0, 0, up .operator, by decide +kernel⟩

theorem witness_ResetPairIsJudged_resetOneContact : ∃ (a : Bool) (heldC heldS : Nat) (apart : Bool) (s : State),
    (Settled s) :=
  ⟨true, 0, 0, true, up .operator, by decide +kernel⟩

theorem witness_ResetPairIsJudged_resetReleasedApart : ∃ (heldC heldS : Nat) (s : State),
    (Settled s) ∧ (s.dev.saf.pressed = true) ∧ (s.dev.alive = true) :=
  ⟨100, 100, (fun s : State => ({ s with dev := s.dev.modSaf fun x => { x with pressed := true, counts := true } } : State)) (up .operator), by decide +kernel⟩

theorem witness_ResetPairIsJudged_resetPressed : ∃ (heldC heldS : Nat) (s : State),
    (Settled s) :=
  ⟨0, 0, up .operator, by decide +kernel⟩

theorem witness_ResetPairIsJudged_resetReleasedValid : ∃ (heldC heldS : Nat) (s : State),
    (Settled s) ∧ (s.dev.alive = true) ∧ (edgeReset s.mem = true) ∧ (s.dev.saf.pressed = true ∧ s.dev.saf.counts = true) ∧ (50 ≤ heldC ∧ heldC ≤ 3000) ∧ (50 ≤ heldS ∧ heldS ≤ 3000) ∧ (s.dev.resetReason s.mem true = 0) ∧ (s.dev.resetReason s.mem false = 0) :=
  ⟨50, 3000, (fun s : State => ({ s with dev := s.dev.modSaf fun x => { x with pressed := true, counts := true } } : State)) (up .operator), by decide +kernel⟩

theorem witness_ResetPairIsJudged_resetReleasedRefused : ∃ (heldC heldS r : Nat) (s : State),
    (Settled s) ∧ (s.dev.alive = true) ∧ (edgeReset s.mem = true) ∧ (s.dev.saf.pressed = true ∧ s.dev.saf.counts = true) ∧ (50 ≤ heldC ∧ heldC ≤ 3000) ∧ (50 ≤ heldS ∧ heldS ≤ 3000) ∧ (r ≠ 0) ∧ (s.dev.resetReason s.mem true = r) ∧ (s.dev.resetReason s.mem false = r) :=
  ⟨50, 3000, 3, (fun s : State => ({ s with dev := s.dev.modSaf fun x => { x with pressed := true, counts := true, recovering := true } } : State)) (up .operator), by decide +kernel⟩

theorem witness_ResetPairIsJudged_resetTooShort : ∃ (heldC heldS : Nat) (s : State),
    (Settled s) ∧ (s.dev.saf.pressed = true) ∧ (heldC < 50 ∨ 3000 < heldC ∨ heldS < 50 ∨ 3000 < heldS) :=
  ⟨49, 3000, (fun s : State => ({ s with dev := s.dev.modSaf fun x => { x with pressed := true, counts := true } } : State)) (up .operator), by decide +kernel⟩

theorem witness_ResetPairIsJudged_levelReset : ∃ (s : State),
    (Settled s) ∧ (s.dev.alive = true) ∧ (edgeReset s.mem = false) ∧ (s.dev.saf.pressed = true ∧ s.dev.saf.counts = true) ∧ (s.dev.on SAF_RESET.ARMED = true) ∧ (s.dev.resetReason s.mem true = 0) ∧ (s.dev.resetReason s.mem false = 0) :=
  ⟨(fun s : State => ({ s with dev := s.dev.modSaf fun x => { x with pressed := true, counts := true } } : State)) (withRegs [(SAF_RESET.ARMED, 1)] (withSec 0x10 64 [] (up .operator))), by decide +kernel⟩

theorem witness_ResetPairIsJudged_resetStuck : ∃ (s : State),
    (Settled s) ∧ (s.dev.alive = true) ∧ (s.dev.saf.pressed = true) ∧ (s.dev.on SAF_RESET.STUCK = false) :=
  ⟨(fun s : State => ({ s with dev := s.dev.modSaf fun x => { x with pressed := true } } : State)) (up .operator), by decide +kernel⟩

theorem witness_ResetPairIsJudged_resetStuckClear : ∃ (s : State),
    (Settled s) ∧ (s.dev.alive = true) ∧ (s.dev.on SAF_RESET.A = false ∧ s.dev.on SAF_RESET.B = false) :=
  ⟨withRegs [(SAF_RESET.STUCK, 1)] (up .operator), by decide +kernel⟩

theorem witness_ResetPairIsJudged_resetClears : ∃ (s : State),
    (s.dev.saf.testing = true) ∧ (s.dev.alive = true) ∧ (s.dev.resetReason s.mem true = 0) ∧ (s.dev.resetReason s.mem false = 0) :=
  ⟨(fun s : State => ({ s with dev := s.dev.modSaf fun x => { x with testing := true } } : State)) ((fun s : State => ({ s with dev := s.dev.modRet fun x => { x with safe := true, latch := [(0, 14)] } } : State)) (up .operator)), by decide +kernel⟩

theorem witness_ResetPairIsJudged_resetRefusedAfterTest : ∃ (pass : Bool) (r : Nat) (s : State),
    (Settled s) ∧ (s.dev.saf.testing = true) ∧ (r ≠ 0) ∧ (s.dev.resetReason s.mem true = r) ∧ (s.dev.resetReason s.mem false = r) :=
  ⟨true, 3, (fun s : State => ({ s with dev := s.dev.modSaf fun x => { x with testing := true, recovering := true } } : State)) ((fun s : State => ({ s with dev := s.dev.modRet fun x => { x with safe := true } } : State)) (up .operator)), by decide +kernel⟩

theorem witness_ResetPairIsJudged_resetTestFails : ∃ (s : State),
    (Settled s) ∧ (s.dev.saf.testing = true) ∧ (s.dev.resetReason s.mem true = 0) ∧ (s.dev.resetReason s.mem false = 0) :=
  ⟨(fun s : State => ({ s with dev := s.dev.modSaf fun x => { x with testing := true } } : State)) ((fun s : State => ({ s with dev := s.dev.modRet fun x => { x with safe := true } } : State)) (up .operator)), by decide +kernel⟩

theorem witness_DegradedAndProofTests_degradedSlcCap : ∃ (s : State),
    (Settled s) ∧ (s.dev.alive = true) ∧ (s.dev.saf.ret.degraded = true) ∧ (s.dev.saf.slcCap = false) :=
  ⟨(fun s : State => ({ s with dev := s.dev.modRet fun x => { x with degraded := true } } : State)) (up .operator), by decide +kernel⟩

theorem witness_DegradedAndProofTests_degradeTimeout : ∃ (s : State),
    (s.dev.alive = true) ∧ (s.dev.saf.ret.degraded = true) ∧ (s.dev.saf.ret.safe = false) ∧ (s.dev.saf.degOut = false) :=
  ⟨(fun s : State => ({ s with dev := s.dev.modRet fun x => { x with degraded := true } } : State)) (up .operator), by decide +kernel⟩

theorem witness_DegradedAndProofTests_recoveryTimeEnd : ∃ (s : State),
    (Settled s) ∧ (s.dev.saf.recovering = true) ∧ (s.dev.saf.ret.degraded = false) ∧ (s.dev.allOpen = true) :=
  ⟨(fun s : State => ({ s with dev := s.dev.modSaf fun x => { x with recovering := true } } : State)) (up .operator), by decide +kernel⟩

theorem witness_DegradedAndProofTests_shuntStuck : ∃ (s : State),
    (Settled s) ∧ (s.dev.curtain = true) ∧ (s.dev.saf.shuntOpen = false) :=
  ⟨up .operator, by decide +kernel⟩

theorem witness_DegradedAndProofTests_shuntGateRearm : ∃ (s : State),
    (Settled s) ∧ (s.dev.seq.firing = false) :=
  ⟨(fun s : State => ({ s with dev := s.dev.modSaf fun x => { x with shuntOpen := true } } : State)) (up .operator), by decide +kernel⟩

theorem witness_DegradedAndProofTests_proofTest : ∃ (sid : Sid) (groups : BitVec 9) (s : State),
    (Settled s) ∧ (Heard sid s) ∧ ((s.dev.sess sid.val).role = .safetySteward) ∧ (∀ x < 8, groups.getLsbD x = true → s.dev.isOpen x = true) ∧ (groups.getLsbD 8 = true → s.dev.allOpen = true) :=
  ⟨1, 3, up .safetySteward, by decide +kernel⟩

theorem witness_DegradedAndProofTests_proofTestRole : ∃ (sid : Sid) (groups : BitVec 9) (s : State),
    (Settled s) ∧ (Heard sid s) ∧ ((s.dev.sess sid.val).role ≠ .safetySteward) :=
  ⟨1, 3, up .operator, by decide +kernel⟩

theorem witness_DegradedAndProofTests_proofTestBusy : ∃ (sid : Sid) (groups : BitVec 9) (s : State),
    (Settled s) ∧ (Heard sid s) ∧ ((s.dev.sess sid.val).role = .safetySteward) ∧ ((∃ x < 8, groups.getLsbD x = true ∧ s.dev.isOpen x = false) ∨ (groups.getLsbD 8 = true ∧ s.dev.allOpen = false)) :=
  ⟨1, 1, withRegs [(SEQ_STATE.STATE 0, 6)] (up .safetySteward), by decide +kernel⟩

theorem witness_DegradedAndProofTests_proofTestPasses : ∃ (loops : Bool) (g : Nat) (s : State),
    (Settled s) ∧ (s.dev.saf.proof = some g) :=
  ⟨false, 3, (fun s : State => ({ s with dev := s.dev.modSaf fun x => { x with proof := some 3 } } : State)) (up .operator), by decide +kernel⟩

theorem witness_DegradedAndProofTests_proofTestFails : ∃ (loops : Bool) (g : Nat) (s : State),
    (s.dev.saf.proof = some g) ∧ (tget false s.dev.saf.ret.faults (if loops then 4 else 6) = false) :=
  ⟨true, 3, (fun s : State => ({ s with dev := s.dev.modSaf fun x => { x with proof := some 3 } } : State)) (up .operator), by decide +kernel⟩

theorem witness_DegradedAndProofTests_proofDue : ∃ (s : State),
    (Settled s) ∧ (s.dev.alive = true) ∧ (s.mem.hasImage = true) ∧ (s.dev.on SAF_STATUS.PROOF_DUE = false) :=
  ⟨withSec 0x10 64 [] (up .operator), by decide +kernel⟩

theorem witness_SupervisorResetsAreHeldThroughAndReclaimed_resets : ∃ (c : Instr) (cause : Nat) (s : State),
    (s.dev.awake = true) ∧ (s.dev.pwr.inTransport = false) ∧ (s.dev.pwr.sup = .running) ∧ ((c, cause) ∈ [(.lockstep, 6), (.watchdog, 7)]) :=
  ⟨.lockstep, 6, up .operator, by decide +kernel⟩

theorem witness_SupervisorResetsAreHeldThroughAndReclaimed_holdThroughExpired : ∃ (s : State),
    (s.dev.pwr.sup = .holdThrough) :=
  ⟨(fun s : State => ({ s with dev := { s.dev with pwr := { s.dev.pwr with sup := .holdThrough } } } : State)) (up .operator), by decide +kernel⟩

theorem witness_SupervisorResetsAreHeldThroughAndReclaimed_reclaim : ∃ (s : State),
    (s.dev.awake = true) ∧ (s.dev.pwr.sup = .holdThrough) ∧ (s.dev.saf.ret.degraded = false) :=
  ⟨(fun s : State => ({ s with dev := { s.dev with pwr := { s.dev.pwr with sup := .holdThrough } } } : State)) (up .operator), by decide +kernel⟩

theorem witness_SupervisorResetsAreHeldThroughAndReclaimed_groundLoss : ∃ (s : State),
    (Settled s) ∧ (s.dev.pwr.boot ≠ .off) :=
  ⟨up .operator, by decide +kernel⟩

theorem witness_SupervisorResetsAreHeldThroughAndReclaimed_brownOut : ∃ (s : State),
    (Settled s) ∧ (s.dev.pwr.boot ≠ .off) ∧ (s.dev.pwr.boot ≠ .asleep) :=
  ⟨up .operator, by decide +kernel⟩

theorem witness_SupervisorResetsAreHeldThroughAndReclaimed_brownOutAsleep : ∃ (torn : Option (List Byte)) (s : State),
    (Settled s) ∧ (s.dev.pwr.boot = .asleep) :=
  ⟨none, (fun s : State => ({ s with dev := { s.dev with pwr := { s.dev.pwr with boot := .asleep, inTransport := true } } } : State)) (up .operator), by decide +kernel⟩

theorem witness_SupervisorResetsAreHeldThroughAndReclaimed_clockFail : ∃ (s : State),
    (s.dev.powered = true) ∧ (s.dev.curtain = true) ∧ (s.dev.saf.hbLost = false) ∧ (tget false s.dev.saf.ret.faults 7 = false) :=
  ⟨up .operator, by decide +kernel⟩

theorem witness_MemoryErrorsAndFunctionChanges_eccSingle : ∃ (site : EccSite) (s : State),
    (Settled s) ∧ (s.dev.awake = true) ∧ (s.dev.pwr.inTransport = false) :=
  ⟨.firmware, up .operator, by decide +kernel⟩

theorem witness_MemoryErrorsAndFunctionChanges_eccCue : ∃ (i : CueIx) (s : State),
    (Settled s) ∧ (s.dev.awake = true) ∧ (s.dev.pwr.inTransport = false) ∧ ((s.dev.cueAt i.val).bytes ≠ []) :=
  ⟨0, (fun s : State => ({ s with dev := { s.dev with cue := { s.dev.cue with list := [(0, { Cue.empty with bytes := [1] })] } } } : State)) (up .operator), by decide +kernel⟩

theorem witness_MemoryErrorsAndFunctionChanges_eccSession : ∃ (k : Sid) (s : State),
    (s.dev.awake = true) ∧ (s.dev.pwr.inTransport = false) ∧ (s.dev.isOpened k.val = true) :=
  ⟨1, up .operator, by decide +kernel⟩

theorem witness_MemoryErrorsAndFunctionChanges_eccFrame : ∃ (p : Path) (k : Fin 64) (s : State),
    (Settled s) ∧ (s.dev.awake = true) ∧ (s.dev.pwr.inTransport = false) :=
  ⟨.eth0, 3, up .operator, by decide +kernel⟩

theorem witness_MemoryErrorsAndFunctionChanges_eccCell : ∃ (c : Cell) (s : State),
    (Settled s) ∧ (s.dev.awake = true) ∧ (s.dev.pwr.inTransport = false) ∧ (s.dev.cellUsed c.val = true) :=
  ⟨3, wired (up .operator), by decide +kernel⟩

theorem witness_MemoryErrorsAndFunctionChanges_eccRing : ∃ (lc : Lc) (k : Fin 64) (s : State),
    (Settled s) ∧ (s.dev.awake = true) ∧ (s.dev.pwr.inTransport = false) :=
  ⟨0, 0, wired (up .operator), by decide +kernel⟩

theorem witness_MemoryErrorsAndFunctionChanges_eccTemp : ∃ (p : Point) (s : State),
    (Settled s) ∧ (s.dev.awake = true) ∧ (s.dev.pwr.inTransport = false) ∧ (s.dev.pointUsed s.mem p.val = true) ∧ ((s.dev.point p.val).ecc = none) :=
  ⟨0, wired (up .operator), by decide +kernel⟩

theorem witness_MemoryErrorsAndFunctionChanges_eccFirmware : ∃ (s : State),
    (s.dev.awake = true) ∧ (s.dev.pwr.inTransport = false) ∧ (s.dev.pwr.sup = .running) :=
  ⟨up .operator, by decide +kernel⟩

theorem witness_MemoryErrorsAndFunctionChanges_scrubPass : ∃ (s : State),
    (Settled s) ∧ (s.dev.awake = true) ∧ (s.dev.pwr.inTransport = false) :=
  ⟨up .operator, by decide +kernel⟩

theorem witness_MemoryErrorsAndFunctionChanges_stopTakesEffect : ∃ (f : Func) (s : State),
    (s.dev.alive = true) ∧ (s.dev.fnState f.num = 2) ∧ (atBoundary f = true → s.dev.boundaryFor (tget 0 s.dev.net.cmdAt f.num) = true) ∧ (f = .acq → s.dev.allOpen = true) :=
  ⟨.chn, withRegs [(SESS_FUNC.STATE Func.chn.num, 2)] (up .operator), by decide +kernel⟩

theorem witness_MemoryErrorsAndFunctionChanges_startTakesEffect : ∃ (f : Func) (s : State),
    (s.dev.alive = true) ∧ (s.dev.fnState f.num = 3) ∧ (atBoundary f = true → s.dev.boundaryFor (tget 0 s.dev.net.cmdAt f.num) = true) :=
  ⟨.lim, (fun s : State => ({ s with dev := { s.dev with clk := 100, phase := { s.dev.phase with k := 0, boundAt := 100 } } } : State)) (withRegs [(SESS_FUNC.STATE Func.lim.num, 3)] (up .operator)), by decide +kernel⟩

theorem witness_MemoryErrorsAndFunctionChanges_acqStopWaits : ∃ (s : State),
    (Settled s) ∧ (s.dev.fnState Func.acq.num = 2) ∧ (s.dev.allOpen = false) :=
  ⟨withRegs [(SESS_FUNC.STATE Func.acq.num, 2), (SEQ_STATE.STATE 0, 6)] (up .operator), by decide +kernel⟩

theorem witness_MemoryErrorsAndFunctionChanges_nothingPending : ∃ (f : Func) (s : State),
    (Settled s) ∧ (s.dev.fnState f.num ≠ 2) ∧ (s.dev.fnState f.num ≠ 3) :=
  ⟨.net, up .operator, by decide +kernel⟩

theorem witness_MemoryErrorsAndFunctionChanges_loadDump : ∃ (s : State),
    (Settled s) :=
  ⟨up .operator, by decide +kernel⟩

theorem witness_LoadContextOpensFillsAndVerifies_openTrl : ∃ (sid : Sid) (s : State),
    (Settled s) ∧ (Heard sid s) ∧ ((s.dev.sess sid.val).role = .maintainer ∨ (s.dev.sess sid.val).role = .safetySteward) ∧ (s.dev.rd IMG_LOAD_STATUS.OWNER = 0 ∨ s.dev.rd IMG_LOAD_STATUS.OWNER = sid.val) ∧ (s.dev.ldState = ldIdle ∨ s.dev.ldState = ldFailed) :=
  ⟨1, up .maintainer, by decide +kernel⟩

theorem witness_LoadContextOpensFillsAndVerifies_openBed : ∃ (sid : Sid) (s : State),
    (Settled s) ∧ (Heard sid s) ∧ ((s.dev.sess sid.val).role = .maintainer ∨ (s.dev.sess sid.val).role = .safetySteward) ∧ (s.dev.rd IMG_LOAD_STATUS.OWNER = 0 ∨ s.dev.rd IMG_LOAD_STATUS.OWNER = sid.val) ∧ (s.dev.ldState = ldIdle ∨ s.dev.ldState = ldFailed) ∧ (s.mem.hasImage = true) ∧ (1 ≤ s.dev.rd IMG_BED_SEL.BED_ID ∧ s.dev.rd IMG_BED_SEL.BED_ID ≤ 12) :=
  ⟨1, withRegs [(IMG_BED_SEL.BED_ID, 5)] (withSec 0x10 64 [] (up .maintainer)), by decide +kernel⟩

theorem witness_LoadContextOpensFillsAndVerifies_imageWindow : ∃ (sid : Sid) (k : Fin 128) (value : Word) (s : State),
    (Settled s) ∧ (Heard sid s) ∧ ((s.dev.sess sid.val).role = .maintainer ∨ (s.dev.sess sid.val).role = .safetySteward) ∧ (s.dev.rd IMG_LOAD_STATUS.OWNER = sid.val) ∧ (s.dev.ldState = ldLoading) ∧ (s.dev.rd IMG_LOAD_OFFSET.OFFSET + 4 * k.val < s.dev.rd IMG_LOAD_LEN.LEN) ∧ (s.dev.load.kind = .image) ∧ (s.dev.rd IMG_LOAD_OFFSET.OFFSET + 4 * k.val + 4 ≤ commitAt) :=
  ⟨1, 2, 0x01020304, withRegs [(IMG_LOAD_STATUS.OWNER, 1), (IMG_LOAD_STATUS.STATE, 1), (IMG_LOAD_LEN.LEN, 100)] (up .maintainer), by decide +kernel⟩

theorem witness_LoadContextOpensFillsAndVerifies_bedWindow : ∃ (sid : Sid) (k : Fin 128) (value : Word) (b : Nat) (s : State),
    (Settled s) ∧ (Heard sid s) ∧ ((s.dev.sess sid.val).role = .maintainer ∨ (s.dev.sess sid.val).role = .safetySteward) ∧ (s.dev.rd IMG_LOAD_STATUS.OWNER = sid.val) ∧ (s.dev.ldState = ldLoading) ∧ (s.dev.rd IMG_LOAD_OFFSET.OFFSET + 4 * k.val < s.dev.rd IMG_LOAD_LEN.LEN) ∧ (s.dev.load.kind = .bed b) ∧ (s.dev.rd IMG_LOAD_OFFSET.OFFSET + 4 * k.val + 4 ≤ bedSize b) :=
  ⟨1, 2, 0x01020304, 5, (fun s : State => ({ s with dev := { s.dev with load := { s.dev.load with kind := .bed 5 } } } : State)) (withRegs [(IMG_LOAD_STATUS.OWNER, 1), (IMG_LOAD_STATUS.STATE, 1), (IMG_LOAD_LEN.LEN, 100)] (up .maintainer)), by decide +kernel⟩

theorem witness_LoadContextOpensFillsAndVerifies_verify : ∃ (sid : Sid) (s : State),
    (Settled s) ∧ (Heard sid s) ∧ ((s.dev.sess sid.val).role = .maintainer ∨ (s.dev.sess sid.val).role = .safetySteward) ∧ (s.dev.rd IMG_LOAD_STATUS.OWNER = sid.val) ∧ (s.dev.ldState = ldLoading ∨ s.dev.ldState = ldVerified) :=
  ⟨1, withRegs [(IMG_LOAD_STATUS.OWNER, 1), (IMG_LOAD_STATUS.STATE, 1), (IMG_LOAD_LEN.LEN, 100)] (up .maintainer), by decide +kernel⟩

theorem witness_LoadContextOpensFillsAndVerifies_verifyImage : ∃ (s : State),
    (Settled s) ∧ (s.dev.alive = true) ∧ (s.dev.ldState = ldVerifying) ∧ (s.dev.load.kind = .image) :=
  ⟨withRegs [(IMG_LOAD_STATUS.OWNER, 1), (IMG_LOAD_STATUS.STATE, 2), (IMG_LOAD_LEN.LEN, 100)] (up .maintainer), by decide +kernel⟩

theorem witness_LoadContextOpensFillsAndVerifies_verifyBed : ∃ (id : Nat) (s : State),
    (Settled s) ∧ (s.dev.alive = true) ∧ (s.dev.ldState = ldVerifying) ∧ (s.dev.load.kind = .bed id) :=
  ⟨5, (fun s : State => ({ s with dev := { s.dev with load := { s.dev.load with kind := .bed 5 } } } : State)) (withRegs [(IMG_LOAD_STATUS.OWNER, 1), (IMG_LOAD_STATUS.STATE, 2), (IMG_LOAD_LEN.LEN, 100)] (up .maintainer)), by decide +kernel⟩

theorem witness_LoadContextOpensFillsAndVerifies_loadAbort : ∃ (sid : Sid) (s : State),
    (Settled s) ∧ (Heard sid s) ∧ ((s.dev.sess sid.val).role = .maintainer ∨ (s.dev.sess sid.val).role = .safetySteward) ∧ (s.dev.rd IMG_LOAD_STATUS.OWNER = sid.val) ∧ (s.dev.ldState ≠ ldMirroring) :=
  ⟨1, withRegs [(IMG_LOAD_STATUS.OWNER, 1), (IMG_LOAD_STATUS.STATE, 3), (IMG_LOAD_LEN.LEN, 100)] (up .maintainer), by decide +kernel⟩

theorem witness_ApplySwitchesAndMirrors_applyImage : ∃ (sid : Sid) (guard : BitVec 16) (s : State),
    (Settled s) ∧ (Heard sid s) ∧ ((s.dev.sess sid.val).role = .maintainer ∨ (s.dev.sess sid.val).role = .safetySteward) ∧ (s.dev.rd IMG_LOAD_STATUS.OWNER = sid.val) ∧ (s.dev.ldState = ldVerified) ∧ (guard.toNat = s.dev.load.serial % 65536) ∧ (s.dev.load.kind = .image) ∧ (s.dev.imageBarred sid.val s.mem = 0) :=
  ⟨1, 0, withRegs [(IMG_LOAD_STATUS.OWNER, 1), (IMG_LOAD_STATUS.STATE, 3), (IMG_LOAD_LEN.LEN, 100)] (up .maintainer), by decide +kernel⟩

theorem witness_ApplySwitchesAndMirrors_applyBed : ∃ (sid : Sid) (guard : BitVec 16) (b : Nat) (s : State),
    (Settled s) ∧ (Heard sid s) ∧ ((s.dev.sess sid.val).role = .maintainer ∨ (s.dev.sess sid.val).role = .safetySteward) ∧ (s.dev.rd IMG_LOAD_STATUS.OWNER = sid.val) ∧ (s.dev.ldState = ldVerified) ∧ (guard.toNat = s.dev.load.serial % 65536) ∧ (s.dev.load.kind = .bed b) ∧ (b ≠ bedSeqn) ∧ (s.dev.bedBarred sid.val b s.mem = 0) :=
  ⟨1, 0, 10, (fun s : State => ({ s with dev := { s.dev with load := { s.dev.load with kind := .bed 10 } } } : State)) (withRegs [(IMG_LOAD_STATUS.OWNER, 1), (IMG_LOAD_STATUS.STATE, 3), (IMG_LOAD_LEN.LEN, 100)] (up .maintainer)), by decide +kernel⟩

theorem witness_ApplySwitchesAndMirrors_imageSwitch : ∃ (s : State),
    (s.dev.switchDue = true) ∧ (s.dev.load.kind = .image) :=
  ⟨(fun s : State => ({ s with dev := { s.dev with clk := 100, phase := { s.dev.phase with k := 0, boundAt := 100 } } } : State)) (withRegs [(IMG_LOAD_STATUS.OWNER, 1), (IMG_LOAD_STATUS.STATE, 4), (IMG_LOAD_LEN.LEN, 100)] (up .maintainer)), by decide +kernel⟩

theorem witness_ApplySwitchesAndMirrors_mirrorImage : ∃ (s : State),
    (Settled s) ∧ (s.dev.awake = true) ∧ (s.dev.pwr.inTransport = false) ∧ (s.mem.redo = some 0) :=
  ⟨(fun s => { s with mem := { s.mem with redo := some 0 } }) (withSec 0x10 64 [] (withRegs [(IMG_LOAD_STATUS.OWNER, 1), (IMG_LOAD_STATUS.STATE, 5), (IMG_LOAD_LEN.LEN, 100)] (up .maintainer))), by decide +kernel⟩

theorem witness_ApplySwitchesAndMirrors_mirrorBed : ∃ (id : Nat) (s : State),
    (Settled s) ∧ (s.dev.awake = true) ∧ (s.dev.pwr.inTransport = false) ∧ (id ≠ 0) ∧ (s.mem.redo = some id) :=
  ⟨5, (fun s => { s with mem := { s.mem with redo := some 5 } }) (withRegs [(IMG_LOAD_STATUS.OWNER, 1), (IMG_LOAD_STATUS.STATE, 5), (IMG_LOAD_LEN.LEN, 100)] (up .maintainer)), by decide +kernel⟩

theorem witness_ApplySwitchesAndMirrors_bedSwitch : ∃ (id : Nat) (s : State),
    (Settled s) ∧ (s.dev.switchDue = true) ∧ (s.dev.load.kind = .bed id) ∧ (id ∈ [3, 4, 5, 7, 10, 11]) :=
  ⟨10, (fun s : State => ({ s with dev := { s.dev with clk := 100, phase := { s.dev.phase with k := 0, boundAt := 100 } } } : State)) ((fun s : State => ({ s with dev := { s.dev with load := { s.dev.load with kind := .bed 10 } } } : State)) (withRegs [(IMG_LOAD_STATUS.OWNER, 1), (IMG_LOAD_STATUS.STATE, 4), (IMG_LOAD_LEN.LEN, 100)] (up .maintainer))), by decide +kernel⟩

theorem witness_ApplySwitchesAndMirrors_kernelSwitch : ∃ (id : Nat) (s : State),
    (s.dev.switchDue = true) ∧ (s.dev.load.kind = .bed id) ∧ (id = 1 ∨ id = 2) ∧ (s.dev.allOpen = true ∧ s.dev.atRest s.mem = true) :=
  ⟨1, (fun s : State => ({ s with dev := { s.dev with clk := 100, phase := { s.dev.phase with k := 0, boundAt := 100 } } } : State)) ((fun s : State => ({ s with dev := { s.dev with load := { s.dev.load with kind := .bed 1 } } } : State)) (withRegs [(IMG_LOAD_STATUS.OWNER, 1), (IMG_LOAD_STATUS.STATE, 4), (IMG_LOAD_LEN.LEN, 100)] (up .maintainer))), by decide +kernel⟩

theorem witness_ApplySwitchesAndMirrors_pauseRefused : ∃ (id : Nat) (s : State),
    (Settled s) ∧ (s.dev.switchDue = true) ∧ (s.dev.load.kind = .bed id) ∧ (id = 1 ∨ id = 2) ∧ (s.dev.allOpen = false) :=
  ⟨1, (fun s : State => ({ s with dev := { s.dev with clk := 100, phase := { s.dev.phase with k := 0, boundAt := 100 } } } : State)) ((fun s : State => ({ s with dev := { s.dev with load := { s.dev.load with kind := .bed 1 } } } : State)) (withRegs [(IMG_LOAD_STATUS.OWNER, 1), (IMG_LOAD_STATUS.STATE, 4), (IMG_LOAD_LEN.LEN, 100), (SEQ_STATE.STATE 0, 6)] (up .maintainer))), by decide +kernel⟩

theorem witness_ApplySwitchesAndMirrors_bedResumption : ∃ (bed : Fin 13) (s : State),
    (s.dev.alive = true) ∧ (s.dev.outage bed.val = true) :=
  ⟨10, (fun s : State => ({ s with dev := { s.dev with load := { s.dev.load with outage := [10] } } } : State)) (up .operator), by decide +kernel⟩

theorem witness_PhaseClockStepsThroughTheSweep_strobe : ∃ (s : State),
    (s.dev.linkWorks s.mem = true) ∧ (s.dev.runs .acq = true) ∧ (s.dev.phase.k < s.dev.phase.n) :=
  ⟨withRegs [(SESS_FUNC.STATE 0, 1), (SESS_FUNC.STATE 1, 1), (SESS_FUNC.STATE 9, 1)] (wired (up .operator)), by decide +kernel⟩

theorem witness_PhaseClockStepsThroughTheSweep_sweepBoundary : ∃ (s : State),
    (s.dev.alive = true) :=
  ⟨withRegs [(SESS_FUNC.STATE 0, 1), (SESS_FUNC.STATE 1, 1), (SESS_FUNC.STATE 9, 1)] (wired (up .operator)), by decide +kernel⟩

theorem witness_PhaseClockStepsThroughTheSweep_sweepEnd : ∃ (s : State),
    (s.dev.linkWorks s.mem = true) ∧ (s.dev.runs .acq = true) ∧ (s.dev.phase.n ≤ s.dev.phase.k) ∧ (s.dev.acq.fill.cycle = s.dev.phase.cycle) ∧ (s.dev.lim.swept ≠ some s.dev.phase.cycle) :=
  ⟨(fun s : State => ({ s with dev := { s.dev with lim := { s.dev.lim with swept := none }, acq := { s.dev.acq with fill := { s.dev.acq.fill with cycle := 7 } } } } : State)) ((fun s => { s with dev := s.dev.modPhase fun p => { p with k := 32, cycle := 7 } }) (withRegs [(SESS_FUNC.STATE 0, 1), (SESS_FUNC.STATE 1, 1), (SESS_FUNC.STATE 9, 1)] (wired (up .operator)))), by decide +kernel⟩

theorem witness_PhaseClockStepsThroughTheSweep_sweepAbandoned : ∃ (w : Sweep) (s : State),
    (Settled s) ∧ (s.dev.alive = true) ∧ (s.dev.works .est = true) ∧ (s.dev.acq.done = some w) ∧ (w.cycle + 2 ≤ s.dev.phase.cycle) :=
  ⟨.blank, (fun s => { s with dev := s.dev.modPhase fun p => { p with cycle := 2 } }) ((fun s : State => ({ s with dev := { s.dev with acq := { s.dev.acq with done := some .blank } } } : State)) (withRegs [(SESS_FUNC.STATE 0, 1), (SESS_FUNC.STATE 1, 1), (SESS_FUNC.STATE 9, 1)] (wired (up .operator)))), by decide +kernel⟩

theorem witness_CrossingsFeedThePhaseClock_crossingAccepted : ∃ (at_ : Nat) (a : Rat) (s : State),
    (Settled s) ∧ (s.dev.awake = true) ∧ (s.dev.pwr.inTransport = false) ∧ (s.dev.rd ACQ_PH_CFG.PH_SRC = 0) ∧ (s.dev.phState ≠ phLocked) ∧ (s.dev.phase.cross = some a) ∧ (mainsIval ((at_ : Rat) - a) = true) :=
  ⟨2000000, 0, (fun s => { s with dev := s.dev.modPhase fun p => { p with cross := some 0 } }) (up .operator), by decide +kernel⟩

theorem witness_CrossingsFeedThePhaseClock_crossingGlitch : ∃ (at_ : Nat) (s : State),
    (Settled s) ∧ (s.dev.awake = true) ∧ (s.dev.pwr.inTransport = false) ∧ (s.dev.rd ACQ_PH_CFG.PH_SRC = 0) ∧ (s.dev.phState = phLocked) ∧ (1 / 8 < mag (s.dev.crossError (at_ : Rat))) :=
  ⟨1000000, withRegs [(ACQ_PH_STATUS.STATE, 2)] (up .operator), by decide +kernel⟩

theorem witness_CrossingsFeedThePhaseClock_crossingLocked : ∃ (at_ : Nat) (s : State),
    (Settled s) ∧ (s.dev.awake = true) ∧ (s.dev.pwr.inTransport = false) ∧ (s.dev.rd ACQ_PH_CFG.PH_SRC = 0) ∧ (s.dev.phState = phLocked) ∧ (mag (s.dev.crossError (at_ : Rat)) ≤ 1 / 8) :=
  ⟨2000000, (fun s => { s with dev := s.dev.modPhase fun p => { p with start := 0, accepted := some 7 } }) (withRegs [(ACQ_PH_STATUS.STATE, 2), (ACQ_PH_CFG.PH_OFFSET, 0), (ACQ_PH_CFG.PH_SRC, 0)] (up .operator)), by decide +kernel⟩

theorem witness_CrossingsFeedThePhaseClock_zcTimestamp : ∃ (sid : Sid) (hi : BitVec 16) (age : Int) (at_ : Rat) (s : State),
    (Settled s) ∧ (Heard sid s) ∧ (s.dev.isSteward sid .time = true) ∧ (s.dev.rd ACQ_PH_CFG.PH_SRC = 1) ∧ (age = ((s.dev.domNs (s.dev.rd ACQ_PH_CFG.ZC_DOMAIN) : Nat) : Int) -
        (((hi.toNat * 2 ^ 32 + s.dev.rd ACQ_ZC_SEC0.SEC_LO) * 1000000000 + s.dev.rd ACQ_ZC_NS.NS : Nat) : Int)) ∧ (age ≤ 1000000000) ∧ (-1000000 ≤ age) ∧ (at_ = (s.dev.clk : Rat) - (age : Rat) * 16777216 / (s.dev.rd (TIME_INCR.INCR (s.dev.domIx (s.dev.rd ACQ_PH_CFG.ZC_DOMAIN))) : Nat)) ∧ (s.dev.phState = phLocked → mag (s.dev.crossError at_) ≤ 1 / 8) ∧ (∀ x ∈ (s.dev.dom (s.dev.rd ACQ_PH_CFG.ZC_DOMAIN)).lastStep, (x : Rat) ≤ at_) ∧ (s.dev.runs .time = true) :=
  ⟨1, 0, 0, 100000, (fun s : State => ({ s with dev := { s.dev with clk := 100000, time := { s.dev.time with doms := [(0, { Domain.start with count := 5000000000 * 16777216 })] } } } : State)) (withRegs [(ACQ_PH_CFG.PH_SRC, 1), (ACQ_ZC_SEC0.SEC_LO, 5), (ACQ_ZC_NS.NS, 0), (ACQ_PH_CFG.ZC_DOMAIN, 0), (TIME_INCR.INCR 0, 167772160), (SESS_FUNC.STATE Func.time.num, 1), (SESS_FUNC.STEWARD Func.time.num, 1), (ACQ_PH_STATUS.STATE, 0)] (up .operator)), by decide +kernel⟩

theorem witness_CrossingsFeedThePhaseClock_zcTimeStopped : ∃ (sid : Sid) (hi : BitVec 16) (age : Int) (at_ : Rat) (s : State),
    (Settled s) ∧ (Heard sid s) ∧ (s.dev.isSteward sid .time = true) ∧ (s.dev.rd ACQ_PH_CFG.PH_SRC = 1) ∧ (age = ((s.dev.domNs (s.dev.rd ACQ_PH_CFG.ZC_DOMAIN) : Nat) : Int) -
        (((hi.toNat * 2 ^ 32 + s.dev.rd ACQ_ZC_SEC0.SEC_LO) * 1000000000 + s.dev.rd ACQ_ZC_NS.NS : Nat) : Int)) ∧ (age ≤ 1000000000) ∧ (-1000000 ≤ age) ∧ (at_ = (s.dev.clk : Rat) - (age : Rat) * 16777216 / (s.dev.rd (TIME_INCR.INCR (s.dev.domIx (s.dev.rd ACQ_PH_CFG.ZC_DOMAIN))) : Nat)) ∧ (s.dev.phState = phLocked → mag (s.dev.crossError at_) ≤ 1 / 8) ∧ (∀ x ∈ (s.dev.dom (s.dev.rd ACQ_PH_CFG.ZC_DOMAIN)).lastStep, (x : Rat) ≤ at_) ∧ (s.dev.runs .time = false) :=
  ⟨1, 0, 0, 100000, (fun s : State => ({ s with dev := { s.dev with clk := 100000, time := { s.dev.time with doms := [(0, { Domain.start with count := 5000000000 * 16777216 })] } } } : State)) (withRegs [(ACQ_PH_CFG.PH_SRC, 1), (ACQ_ZC_SEC0.SEC_LO, 5), (ACQ_ZC_NS.NS, 0), (ACQ_PH_CFG.ZC_DOMAIN, 0), (TIME_INCR.INCR 0, 167772160), (SESS_FUNC.STATE Func.time.num, 1), (SESS_FUNC.STEWARD Func.time.num, 1), (ACQ_PH_STATUS.STATE, 0), (SESS_FUNC.STATE Func.time.num, 0)] (up .operator)), by decide +kernel⟩

theorem witness_CrossingsFeedThePhaseClock_zcNoSource : ∃ (sid : Sid) (hi : BitVec 16) (age : Int) (at_ : Rat) (s : State),
    (Settled s) ∧ (Heard sid s) ∧ (s.dev.isSteward sid .time = true) ∧ (s.dev.rd ACQ_PH_CFG.PH_SRC ≠ 1) :=
  ⟨1, 0, 0, 0, withRegs [(ACQ_PH_CFG.PH_SRC, 1), (ACQ_ZC_SEC0.SEC_LO, 5), (ACQ_ZC_NS.NS, 0), (ACQ_PH_CFG.ZC_DOMAIN, 0), (TIME_INCR.INCR 0, 167772160), (SESS_FUNC.STATE Func.time.num, 1), (SESS_FUNC.STEWARD Func.time.num, 1), (ACQ_PH_CFG.PH_SRC, 2)] (up .operator), by decide +kernel⟩

theorem witness_CrossingsFeedThePhaseClock_zcTooOld : ∃ (sid : Sid) (hi : BitVec 16) (age : Int) (at_ : Rat) (s : State),
    (Settled s) ∧ (Heard sid s) ∧ (s.dev.isSteward sid .time = true) ∧ (s.dev.rd ACQ_PH_CFG.PH_SRC = 1) ∧ (age = ((s.dev.domNs (s.dev.rd ACQ_PH_CFG.ZC_DOMAIN) : Nat) : Int) -
        (((hi.toNat * 2 ^ 32 + s.dev.rd ACQ_ZC_SEC0.SEC_LO) * 1000000000 + s.dev.rd ACQ_ZC_NS.NS : Nat) : Int)) ∧ (1000000000 < age) :=
  ⟨1, 0, 2000000000, 0, (fun s : State => ({ s with dev := { s.dev with clk := 100000, time := { s.dev.time with doms := [(0, { Domain.start with count := 5000000000 * 16777216 })] } } } : State)) (withRegs [(ACQ_PH_CFG.PH_SRC, 1), (ACQ_ZC_SEC0.SEC_LO, 3), (ACQ_ZC_NS.NS, 0), (ACQ_PH_CFG.ZC_DOMAIN, 0), (TIME_INCR.INCR 0, 167772160), (SESS_FUNC.STATE Func.time.num, 1), (SESS_FUNC.STEWARD Func.time.num, 1)] (up .operator)), by decide +kernel⟩

theorem witness_CrossingsFeedThePhaseClock_zcTooFarAhead : ∃ (sid : Sid) (hi : BitVec 16) (age : Int) (at_ : Rat) (s : State),
    (Settled s) ∧ (Heard sid s) ∧ (s.dev.isSteward sid .time = true) ∧ (s.dev.rd ACQ_PH_CFG.PH_SRC = 1) ∧ (age = ((s.dev.domNs (s.dev.rd ACQ_PH_CFG.ZC_DOMAIN) : Nat) : Int) -
        (((hi.toNat * 2 ^ 32 + s.dev.rd ACQ_ZC_SEC0.SEC_LO) * 1000000000 + s.dev.rd ACQ_ZC_NS.NS : Nat) : Int)) ∧ (age < -1000000) :=
  ⟨1, 0, -1000000000, 0, (fun s : State => ({ s with dev := { s.dev with clk := 100000, time := { s.dev.time with doms := [(0, { Domain.start with count := 5000000000 * 16777216 })] } } } : State)) (withRegs [(ACQ_PH_CFG.PH_SRC, 1), (ACQ_ZC_SEC0.SEC_LO, 6), (ACQ_ZC_NS.NS, 0), (ACQ_PH_CFG.ZC_DOMAIN, 0), (TIME_INCR.INCR 0, 167772160), (SESS_FUNC.STATE Func.time.num, 1), (SESS_FUNC.STEWARD Func.time.num, 1)] (up .operator)), by decide +kernel⟩

theorem witness_CrossingsFeedThePhaseClock_zcGlitch : ∃ (sid : Sid) (hi : BitVec 16) (age : Int) (at_ : Rat) (s : State),
    (Settled s) ∧ (Heard sid s) ∧ (s.dev.isSteward sid .time = true) ∧ (s.dev.rd ACQ_PH_CFG.PH_SRC = 1) ∧ (age = ((s.dev.domNs (s.dev.rd ACQ_PH_CFG.ZC_DOMAIN) : Nat) : Int) -
        (((hi.toNat * 2 ^ 32 + s.dev.rd ACQ_ZC_SEC0.SEC_LO) * 1000000000 + s.dev.rd ACQ_ZC_NS.NS : Nat) : Int)) ∧ (age ≤ 1000000000) ∧ (-1000000 ≤ age) ∧ (at_ = (s.dev.clk : Rat) - (age : Rat) * 16777216 / (s.dev.rd (TIME_INCR.INCR (s.dev.domIx (s.dev.rd ACQ_PH_CFG.ZC_DOMAIN))) : Nat)) ∧ (s.dev.phState = phLocked) ∧ (1 / 8 < mag (s.dev.crossError at_)) :=
  ⟨1, 0, 0, 100000, (fun s => { s with dev := s.dev.modPhase fun p => { p with start := 100000 - s.dev.cycleClk / 2 } }) ((fun s : State => ({ s with dev := { s.dev with clk := 100000, time := { s.dev.time with doms := [(0, { Domain.start with count := 5000000000 * 16777216 })] } } } : State)) (withRegs [(ACQ_PH_CFG.PH_SRC, 1), (ACQ_ZC_SEC0.SEC_LO, 5), (ACQ_ZC_NS.NS, 0), (ACQ_PH_CFG.ZC_DOMAIN, 0), (TIME_INCR.INCR 0, 167772160), (SESS_FUNC.STATE Func.time.num, 1), (SESS_FUNC.STEWARD Func.time.num, 1), (ACQ_PH_STATUS.STATE, 2), (ACQ_PH_CFG.PH_OFFSET, 0)] (up .operator))), by decide +kernel⟩

theorem witness_CrossingsFeedThePhaseClock_zcBeforeStep : ∃ (sid : Sid) (hi : BitVec 16) (age : Int) (at_ : Rat) (s : State),
    (Settled s) ∧ (Heard sid s) ∧ (s.dev.isSteward sid .time = true) ∧ (s.dev.rd ACQ_PH_CFG.PH_SRC = 1) ∧ (age = ((s.dev.domNs (s.dev.rd ACQ_PH_CFG.ZC_DOMAIN) : Nat) : Int) -
        (((hi.toNat * 2 ^ 32 + s.dev.rd ACQ_ZC_SEC0.SEC_LO) * 1000000000 + s.dev.rd ACQ_ZC_NS.NS : Nat) : Int)) ∧ (age ≤ 1000000000) ∧ (-1000000 ≤ age) ∧ (at_ = (s.dev.clk : Rat) - (age : Rat) * 16777216 / (s.dev.rd (TIME_INCR.INCR (s.dev.domIx (s.dev.rd ACQ_PH_CFG.ZC_DOMAIN))) : Nat)) ∧ (s.dev.phState = phLocked → mag (s.dev.crossError at_) ≤ 1 / 8) ∧ (∃ x ∈ (s.dev.dom (s.dev.rd ACQ_PH_CFG.ZC_DOMAIN)).lastStep, at_ < (x : Rat)) :=
  ⟨1, 0, 0, 100000, (fun s : State => ({ s with dev := { s.dev with clk := 100000, time := { s.dev.time with doms := [(0, { Domain.start with count := 5000000000 * 16777216, lastStep := some 100001 })] } } } : State)) (withRegs [(ACQ_PH_CFG.PH_SRC, 1), (ACQ_ZC_SEC0.SEC_LO, 5), (ACQ_ZC_NS.NS, 0), (ACQ_PH_CFG.ZC_DOMAIN, 0), (TIME_INCR.INCR 0, 167772160), (SESS_FUNC.STATE Func.time.num, 1), (SESS_FUNC.STEWARD Func.time.num, 1), (ACQ_PH_STATUS.STATE, 0)] (up .operator)), by decide +kernel⟩

theorem witness_CrossingsFeedThePhaseClock_sourceLost : ∃ (s : State),
    (Settled s) ∧ (s.dev.awake = true) ∧ (s.dev.phState = phAcquiring ∨ s.dev.phState = phLocked) :=
  ⟨withRegs [(ACQ_PH_STATUS.STATE, 2)] (up .operator), by decide +kernel⟩

theorem witness_CrossingsFeedThePhaseClock_linkLoss : ∃ (str : Str) (s : State),
    (s.dev.limActs s.mem = true) ∧ (s.dev.strState str.val = 6) ∧ (s.dev.rd PORT_CFG.LINK_MISS_LIMIT ≤ s.dev.missMax str.val) :=
  ⟨0, withRegs [(SEQ_STATE.STATE 0, 6), (PORT_STATE.MISS_COUNT 0, 5), (PORT_CFG.LINK_MISS_LIMIT, 3), (SESS_FUNC.STATE Func.lim.num, 1)] (wired (up .operator)), by decide +kernel⟩

theorem witness_EstimatorPublishesBoundedReports_estPublish : ∃ (w : Sweep) (s : State),
    (s.dev.estActs s.mem = true) ∧ (s.dev.acq.done = some w) ∧ (s.dev.processed w = true) :=
  ⟨.blank, (fun s : State => ({ s with dev := { s.dev with acq := { s.dev.acq with done := some .blank } } } : State)) (withRegs [(SESS_FUNC.STATE 0, 1), (SESS_FUNC.STATE 1, 1), (SESS_FUNC.STATE 9, 1)] (wired (up .operator))), by decide +kernel⟩

theorem witness_EstimatorPublishesBoundedReports_estLeavesOut : ∃ (w : Sweep) (s : State),
    (Settled s) ∧ (s.dev.estActs s.mem = true) ∧ (s.dev.acq.done = some w) ∧ (s.dev.processed w = false) :=
  ⟨{ Sweep.blank with cycle := 1 }, (fun s : State => ({ s with dev := { s.dev with acq := { s.dev.acq with done := some { Sweep.blank with cycle := 1 } }, pwr := { s.dev.pwr with p3 := true } } } : State)) (withRegs [(SESS_FUNC.STATE 0, 1), (SESS_FUNC.STATE 1, 1), (SESS_FUNC.STATE 9, 1)] (wired (up .operator))), by decide +kernel⟩

theorem witness_EstimatorPublishesBoundedReports_dischargeStateChange : ∃ (who : Who) (w : Sweep) (s : State),
    (s.dev.estActs s.mem = true) ∧ (s.dev.acq.done = some w) ∧ (s.dev.processed w = true) ∧ (who.val = 8 ∨ s.dev.configured who.val = true) ∧ (s.dev.disAt w who.val ≠ (s.dev.se who.val).dis) :=
  ⟨0, { Sweep.blank with cycle := 4, ends := [(0, { StrEnd.blank with below := 2 })] }, (fun s : State => ({ s with dev := { s.dev with acq := { s.dev.acq with done := some { Sweep.blank with cycle := 4, ends := [(0, { StrEnd.blank with below := 2 })] } } } } : State)) (withRegs [(SESS_FUNC.STATE 0, 1), (SESS_FUNC.STATE 1, 1), (SESS_FUNC.STATE 9, 1)] (wired (up .operator))), by decide +kernel⟩

theorem witness_EstimatorPublishesBoundedReports_voltEmpty : ∃ (str : Str) (w : Sweep) (s : State),
    (s.dev.estActs s.mem = true) ∧ (s.dev.acq.done = some w) ∧ (s.dev.processed w = true) ∧ (s.dev.est.worked ≠ some w.cycle) ∧ (s.dev.configured str.val = true) ∧ (s.dev.emptyDue s.mem w str.val = true) :=
  ⟨0, { Sweep.blank with cycle := 4, n := 1, cells := [(3, [⟨0, 0, .ok⟩])] }, (fun s : State => ({ s with dev := { s.dev with acq := { s.dev.acq with done := some { Sweep.blank with cycle := 4, n := 1, cells := [(3, [⟨0, 0, .ok⟩])] } }, est := { s.dev.est with cells := [(3, { CellEst.blank with low := 5 })] } } } : State)) (withRegs [(SESS_FUNC.STATE 0, 1), (SESS_FUNC.STATE 1, 1), (SESS_FUNC.STATE 9, 1), (SEQ_STATE.STATE 0, 6), (EST_EMPTY.EMPTY_CYCLES, 5)] (wired (up .operator))), by decide +kernel⟩

theorem witness_EstimatorPublishesBoundedReports_restQualified : ∃ (str : Str) (w : Sweep) (s : State),
    (s.dev.estActs s.mem = true) ∧ (s.dev.acq.done = some w) ∧ (s.dev.processed w = true) ∧ (s.dev.est.worked ≠ some w.cycle) ∧ (s.dev.configured str.val = true) ∧ (s.dev.restDue w str.val = true) :=
  ⟨0, { Sweep.blank with cycle := 4, ends := [(0, { StrEnd.blank with rest := 10, restFrom := 4 })] }, (fun s : State => ({ s with dev := { s.dev with acq := { s.dev.acq with done := some { Sweep.blank with cycle := 4, ends := [(0, { StrEnd.blank with rest := 10, restFrom := 4 })] } } } } : State)) (withRegs [(SESS_FUNC.STATE 0, 1), (SESS_FUNC.STATE 1, 1), (SESS_FUNC.STATE 9, 1), (EST_REST.REST_TIME, 0)] (wired (up .operator))), by decide +kernel⟩

theorem witness_EstimatorPublishesBoundedReports_impedanceAged : ∃ (c : Cell) (slot : Fin 3) (s : State),
    (Settled s) ∧ (s.dev.alive = true) ∧ (s.mem.hasImage = true) ∧ (s.dev.cellUsed c.val = true) ∧ (((s.dev.cell c.val).z slot.val).aged = false) :=
  ⟨0, 0, (fun s : State => ({ s with dev := { s.dev with est := { s.dev.est with cells := [(0, { CellEst.blank with z0 := { ZSt.blank with aged := false } })] } } } : State)) (withRegs [(SESS_FUNC.STATE 0, 1), (SESS_FUNC.STATE 1, 1), (SESS_FUNC.STATE 9, 1)] (wired (up .operator))), by decide +kernel⟩

theorem witness_EstimatorPublishesBoundedReports_probeRequest : ∃ (str : Str) (s : State),
    (Settled s) ∧ (s.dev.estActs s.mem = true) ∧ (s.dev.on EST_PROBE.PROBE_EN = true) ∧ (s.dev.connected str.val = true) ∧ (s.dev.stage = 0) ∧ ((s.dev.se str.val).probe = false) ∧ (∀ c ∈ s.dev.cellsOf str.val, (s.dev.cell c).z0.aged = true) :=
  ⟨0, withRegs [(SESS_FUNC.STATE 0, 1), (SESS_FUNC.STATE 1, 1), (SESS_FUNC.STATE 9, 1), (SEQ_STATE.STATE 0, 6), (EST_PROBE.PROBE_EN, 1)] (wired (up .operator)), by decide +kernel⟩

theorem witness_LimitsArePublishedAndEscalated_limitPublication : ∃ (s : State),
    (s.dev.alive = true) ∧ (s.dev.runs .lim = true) ∧ (s.mem.hasImage = true) :=
  ⟨(fun s : State => ({ s with dev := { s.dev with est := { s.dev.est with any := true, last := 6 }, lim := { s.dev.lim with swept := some 6 }, phase := { s.dev.phase with cycle := 7 } } } : State)) (withRegs [(SESS_FUNC.STATE Func.lim.num, 1), (SESS_FUNC.STATE Func.est.num, 1), (SESS_FUNC.STATE Func.acq.num, 1), (LIM_ESC.CONFIRM, 2), (LIM_PUB.PORTS, 4), (SEQ_STATE.STATE 0, 6)] (wired (up .operator))), by decide +kernel⟩

theorem witness_LimitsArePublishedAndEscalated_hardRequest : ∃ (who : Who) (s : State),
    (Settled s) ∧ (s.dev.limActs s.mem = true) ∧ (s.dev.ladderMoves who.val = true) ∧ ((s.dev.one who.val).stage ≤ 1) ∧ (s.dev.rd LIM_ESC.CONFIRM ≤ (s.dev.one who.val).excess) ∧ (0 < (s.dev.one who.val).excess) :=
  ⟨8, (fun s => { s with dev := s.dev.modOne 8 fun x => { x with excess := 2 } }) (withRegs [(SESS_FUNC.STATE Func.lim.num, 1), (SESS_FUNC.STATE Func.est.num, 1), (SESS_FUNC.STATE Func.acq.num, 1), (LIM_ESC.CONFIRM, 2)] (wired (up .operator))), by decide +kernel⟩

theorem witness_LimitsArePublishedAndEscalated_stringEscalates : ∃ (k : Str) (s : State),
    (Settled s) ∧ (s.dev.limActs s.mem = true) ∧ (s.dev.ladderMoves k.val = true) ∧ (s.dev.strState k.val = 6) ∧ ((s.dev.latchOf k.val).1 = 0) ∧ ((s.dev.one k.val).stage = 2) ∧ ((s.dev.one k.val).stageAt + s.dev.graceClk ≤ s.dev.clk) :=
  ⟨0, (fun s => { s with dev := { s.dev with clk := 1000000000 } }) ((fun s => { s with dev := s.dev.modOne 0 fun x => { x with stage := 2 } }) (withRegs [(SESS_FUNC.STATE Func.lim.num, 1), (SESS_FUNC.STATE Func.est.num, 1), (SESS_FUNC.STATE Func.acq.num, 1), (LIM_ESC.CONFIRM, 2), (SEQ_STATE.STATE 0, 6)] (wired (up .operator)))), by decide +kernel⟩

theorem witness_LimitsArePublishedAndEscalated_bankEscalates : ∃ (k : Str) (s : State),
    (Settled s) ∧ (s.dev.limActs s.mem = true) ∧ ((s.dev.one 8).stage = 2) ∧ ((s.dev.one 8).stageAt + s.dev.graceClk ≤ s.dev.clk) ∧ (s.dev.firstShed = some k.val) ∧ (s.dev.strState k.val = 6) ∧ ((s.dev.latchOf k.val).1 = 0) :=
  ⟨0, (fun s => { s with dev := { s.dev with clk := 1000000000 } }) ((fun s => { s with dev := s.dev.modOne 8 fun x => { x with stage := 2 } }) (withRegs [(SESS_FUNC.STATE Func.lim.num, 1), (SESS_FUNC.STATE Func.est.num, 1), (SESS_FUNC.STATE Func.acq.num, 1), (LIM_ESC.CONFIRM, 2), (SEQ_STATE.STATE 0, 6)] (wired (up .operator)))), by decide +kernel⟩

theorem witness_LimitsArePublishedAndEscalated_ladderStep : ∃ (k : Str) (s : State),
    (Settled s) ∧ (s.dev.limActs s.mem = true) ∧ ((s.dev.one 8).stage = 3) ∧ (0 < (s.dev.one 8).excess) ∧ ((s.dev.one 8).stageAt + msClk (100 * s.dev.rd LIM_ESC.STEP) ≤ s.dev.clk) ∧ (s.dev.firstShed = some k.val) ∧ (s.dev.strState k.val = 6) ∧ ((s.dev.latchOf k.val).1 = 0) :=
  ⟨0, (fun s => { s with dev := { s.dev with clk := 1000000000 } }) ((fun s => { s with dev := s.dev.modOne 8 fun x => { x with stage := 3, excess := 1 } }) (withRegs [(SESS_FUNC.STATE Func.lim.num, 1), (SESS_FUNC.STATE Func.est.num, 1), (SESS_FUNC.STATE Func.acq.num, 1), (LIM_ESC.CONFIRM, 2), (SEQ_STATE.STATE 0, 6)] (wired (up .operator)))), by decide +kernel⟩

theorem witness_LimitsArePublishedAndEscalated_supplyPrune : ∃ (s : State),
    (Settled s) ∧ (s.dev.alive = true) ∧ (s.dev.pwr.p4 = true) ∧ (s.mem.hasImage = true) ∧ (s.dev.bankClosing = false) ∧ (∀ k < 8, s.dev.closing k = false) ∧ (∃ k < 8, s.dev.connected k = true) :=
  ⟨(fun s => { s with dev := s.dev.modPwr fun p => { p with p4 := true } }) (withRegs [(SESS_FUNC.STATE Func.lim.num, 1), (SESS_FUNC.STATE Func.est.num, 1), (SESS_FUNC.STATE Func.acq.num, 1), (LIM_ESC.CONFIRM, 2), (SEQ_STATE.STATE 0, 6)] (wired (up .operator))), by decide +kernel⟩

theorem witness_LearnedDataIsExportedAndRestored_snapshot : ∃ (sid : Sid) (s : State),
    (Settled s) ∧ (Heard sid s) ∧ (s.dev.isSteward sid .lrn = true) ∧ (s.dev.lrnState = 0) :=
  ⟨1, withRegs [(SESS_FUNC.STATE Func.lrn.num, 1), (SESS_FUNC.STATE 0, 1), (SESS_FUNC.STATE 1, 1), (SESS_FUNC.STEWARD Func.lrn.num, 1)] (wired (up .operator)), by decide +kernel⟩

theorem witness_LearnedDataIsExportedAndRestored_snapshotCopyDone : ∃ (s : State),
    (Settled s) ∧ (s.dev.alive = true) ∧ (s.dev.lrnState = 1) ∧ (s.dev.lrn.copied = true) :=
  ⟨(fun s : State => ({ s with dev := { s.dev with lrn := { s.dev.lrn with copied := true } } } : State)) (withRegs [(SESS_FUNC.STATE Func.lrn.num, 1), (SESS_FUNC.STATE 0, 1), (SESS_FUNC.STATE 1, 1), (SESS_FUNC.STEWARD Func.lrn.num, 1), (LRN_STATUS.STATE, 1)] (wired (up .operator))), by decide +kernel⟩

theorem witness_LearnedDataIsExportedAndRestored_lrnRelease : ∃ (sid : Sid) (s : State),
    (Settled s) ∧ (Heard sid s) ∧ (s.dev.isSteward sid .lrn = true) ∧ (s.dev.rd LRN_STATUS.OWNER = sid.val) ∧ (s.dev.lrnState = 1 ∨ s.dev.lrnState = 2) :=
  ⟨1, withRegs [(SESS_FUNC.STATE Func.lrn.num, 1), (SESS_FUNC.STATE 0, 1), (SESS_FUNC.STATE 1, 1), (SESS_FUNC.STEWARD Func.lrn.num, 1), (LRN_STATUS.STATE, 2), (LRN_STATUS.OWNER, 1)] (wired (up .operator)), by decide +kernel⟩

theorem witness_LearnedDataIsExportedAndRestored_openStage : ∃ (sid : Sid) (s : State),
    (Settled s) ∧ (Heard sid s) ∧ (s.dev.isSteward sid .lrn = true) ∧ (s.dev.lrnState = 0 ∨ (s.dev.lrnState = 6 ∧ s.dev.rd LRN_STATUS.OWNER = sid.val)) :=
  ⟨1, withRegs [(SESS_FUNC.STATE Func.lrn.num, 1), (SESS_FUNC.STATE 0, 1), (SESS_FUNC.STATE 1, 1), (SESS_FUNC.STEWARD Func.lrn.num, 1), (LRN_STATUS.STATE, 6), (LRN_STATUS.OWNER, 1)] (wired (up .operator)), by decide +kernel⟩

theorem witness_LearnedDataIsExportedAndRestored_lrnWinWrite : ∃ (sid : Sid) (k : Fin 2048) (value : Word) (s : State),
    (Settled s) ∧ (Heard sid s) ∧ (s.dev.isSteward sid .lrn = true) ∧ (s.dev.rd LRN_STATUS.OWNER = sid.val) ∧ (s.dev.lrnState = 3) ∧ (8192 * (s.dev.sess sid).lrnPage + 4 * k.val < recordLen) :=
  ⟨1, 5, 0x01020304, withRegs [(SESS_FUNC.STATE Func.lrn.num, 1), (SESS_FUNC.STATE 0, 1), (SESS_FUNC.STATE 1, 1), (SESS_FUNC.STEWARD Func.lrn.num, 1), (LRN_STATUS.STATE, 3), (LRN_STATUS.OWNER, 1)] (wired (up .operator)), by decide +kernel⟩

theorem witness_LearnedDataIsExportedAndRestored_lrnCommit : ∃ (sid : Sid) (value : Word) (s : State),
    (Settled s) ∧ (Heard sid s) ∧ (s.dev.isSteward sid .lrn = true) ∧ (s.dev.rd LRN_STATUS.OWNER = sid.val) ∧ (s.dev.lrnState = 3) :=
  ⟨1, 5, withRegs [(SESS_FUNC.STATE Func.lrn.num, 1), (SESS_FUNC.STATE 0, 1), (SESS_FUNC.STATE 1, 1), (SESS_FUNC.STEWARD Func.lrn.num, 1), (LRN_STATUS.STATE, 3), (LRN_STATUS.OWNER, 1)] (wired (up .operator)), by decide +kernel⟩

theorem witness_LearnedDataIsExportedAndRestored_lrnCheckFails : ∃ (s : State),
    (s.dev.linkWorks s.mem = true) ∧ (s.dev.runs .acq = true) ∧ (s.dev.phase.k < s.dev.phase.n) ∧ (s.dev.lrnState = 4) ∧ (headerOk s.dev.lrn.buf = false ∨ Img.u32 s.dev.lrn.buf 51840 ≠ crc32Ref (Img.slice s.dev.lrn.buf 0 51840) ∨ s.dev.lrn.word ≠ crc32Ref (Img.slice s.dev.lrn.buf 0 51840)) :=
  ⟨(fun s : State => ({ s with dev := { s.dev with phase := { s.dev.phase with k := 0 } } } : State)) (withRegs [(SESS_FUNC.STATE Func.lrn.num, 1), (SESS_FUNC.STATE 0, 1), (SESS_FUNC.STATE 1, 1), (SESS_FUNC.STEWARD Func.lrn.num, 1), (LRN_STATUS.STATE, 4), (LRN_STATUS.OWNER, 1)] (wired (up .operator))), by decide +kernel⟩

theorem witness_LearnedDataIsExportedAndRestored_lrnCheckPasses : ∃ (s : State),
    (s.dev.linkWorks s.mem = true) ∧ (s.dev.runs .acq = true) ∧ (s.dev.phase.k < s.dev.phase.n) ∧ (s.dev.lrnState = 4) ∧ (headerOk s.dev.lrn.buf = true) ∧ (Img.u32 s.dev.lrn.buf 51840 = crc32Ref (Img.slice s.dev.lrn.buf 0 51840)) ∧ (s.dev.lrn.word = crc32Ref (Img.slice s.dev.lrn.buf 0 51840)) :=
  by
  refine ⟨withWord (crc32Ref (Img.slice recBuf 0 51840)) (withBuf recBuf (withRegs [(SESS_FUNC.STATE Func.lrn.num, 1), (SESS_FUNC.STATE 0, 1), (SESS_FUNC.STATE 1, 1), (SESS_FUNC.STEWARD Func.lrn.num, 1), (LRN_STATUS.STATE, 4), (LRN_STATUS.OWNER, 1)] (wired (up .operator)))), by decide +kernel, by decide +kernel,
    by decide +kernel, by decide +kernel, recBuf_header, ?_, ?_⟩
  · exact recBuf_crc
  · exact withWord_word _ _

theorem witness_LearnedDataIsExportedAndRestored_lrnAbort : ∃ (sid : Sid) (s : State),
    (Settled s) ∧ (Heard sid s) ∧ (s.dev.isSteward sid .lrn = true) ∧ (s.dev.rd LRN_STATUS.OWNER = sid.val) ∧ (3 ≤ s.dev.lrnState) :=
  ⟨1, withRegs [(SESS_FUNC.STATE Func.lrn.num, 1), (SESS_FUNC.STATE 0, 1), (SESS_FUNC.STATE 1, 1), (SESS_FUNC.STEWARD Func.lrn.num, 1), (LRN_STATUS.STATE, 5), (LRN_STATUS.OWNER, 1)] (wired (up .operator)), by decide +kernel⟩

theorem witness_LearnedDataIsExportedAndRestored_restoreSwap : ∃ (s : State),
    (s.dev.alive = true) ∧ (s.dev.lrnState = 5) ∧ (s.dev.outage bedEstm = false) ∧ (s.dev.boundaryFor s.dev.lrn.checkedAt = true) :=
  ⟨(fun s : State => ({ s with dev := { s.dev with clk := 100, phase := { s.dev.phase with k := 0, boundAt := 100 } } } : State)) (withRegs [(SESS_FUNC.STATE Func.lrn.num, 1), (SESS_FUNC.STATE 0, 1), (SESS_FUNC.STATE 1, 1), (SESS_FUNC.STEWARD Func.lrn.num, 1), (LRN_STATUS.STATE, 5), (LRN_STATUS.OWNER, 1)] (wired (up .operator))), by decide +kernel⟩

theorem witness_CapacityTestsAndReplacedBlocks_captest : ∃ (sid : Sid) (target : BitVec 7) (s : State),
    (Settled s) ∧ (Heard sid s) ∧ (s.dev.isSteward sid .lrn = true) ∧ (target.toNat < 8) ∧ (s.dev.configured target.toNat = true) ∧ (s.dev.fnState Func.lrn.num = 1) ∧ (s.dev.capActive target.toNat = false) :=
  ⟨1, 0, withRegs [(SESS_FUNC.STATE Func.lrn.num, 1), (SESS_FUNC.STATE 0, 1), (SESS_FUNC.STATE 1, 1), (SESS_FUNC.STEWARD Func.lrn.num, 1)] (wired (up .operator)), by decide +kernel⟩

theorem witness_CapacityTestsAndReplacedBlocks_captestCancel : ∃ (sid : Sid) (target : BitVec 7) (s : State),
    (Settled s) ∧ (Heard sid s) ∧ (s.dev.isSteward sid .lrn = true) ∧ (target.toNat < 8) ∧ (s.dev.configured target.toNat = true) :=
  ⟨1, 0, withRegs [(SESS_FUNC.STATE Func.lrn.num, 1), (SESS_FUNC.STATE 0, 1), (SESS_FUNC.STATE 1, 1), (SESS_FUNC.STEWARD Func.lrn.num, 1), (LRN_CAPTEST.PHASE 0, 2)] (wired (up .operator)), by decide +kernel⟩

theorem witness_CapacityTestsAndReplacedBlocks_captestSpanExpired : ∃ (str : Str) (s : State),
    (Settled s) ∧ (s.dev.alive = true) ∧ (s.dev.rd (LRN_CAPTEST.PHASE str.val) = 3 ∨ s.dev.rd (LRN_CAPTEST.PHASE str.val) = 4) :=
  ⟨0, withRegs [(SESS_FUNC.STATE Func.lrn.num, 1), (SESS_FUNC.STATE 0, 1), (SESS_FUNC.STATE 1, 1), (SESS_FUNC.STEWARD Func.lrn.num, 1), (LRN_CAPTEST.PHASE 0, 3)] (wired (up .operator)), by decide +kernel⟩

theorem witness_CapacityTestsAndReplacedBlocks_declareNew : ∃ (sid : Sid) (target : BitVec 7) (s : State),
    (Settled s) ∧ (Heard sid s) ∧ (s.dev.isSteward sid .lrn = true) ∧ (target.toNat < 64) ∧ (s.dev.monUsed target.toNat = true) :=
  ⟨1, 0, withRegs [(SESS_FUNC.STATE Func.lrn.num, 1), (SESS_FUNC.STATE 0, 1), (SESS_FUNC.STATE 1, 1), (SESS_FUNC.STEWARD Func.lrn.num, 1)] (wired (up .operator)), by decide +kernel⟩

theorem witness_CapacityTestsAndReplacedBlocks_blockReplaced : ∃ (port : Mon) (s : State),
    (Settled s) ∧ (s.dev.alive = true) ∧ (s.dev.runs .acq = true) ∧ (s.dev.runs .est = true) ∧ (s.dev.monUsed port.val = true) ∧ ((s.dev.block port.val).declared = true) :=
  ⟨0, (fun s : State => ({ s with dev := { s.dev with lrn := { s.dev.lrn with blocks := [(0, { BlockSt.blank with declared := true })] } } } : State)) (withRegs [(SESS_FUNC.STATE Func.lrn.num, 1), (SESS_FUNC.STATE 0, 1), (SESS_FUNC.STATE 1, 1), (SESS_FUNC.STEWARD Func.lrn.num, 1)] (wired (up .operator))), by decide +kernel⟩

theorem witness_CapacityTestsAndReplacedBlocks_newBlockHoldEnd : ∃ (str : Str) (k : Mon) (s : State),
    (Settled s) ∧ (s.dev.alive = true) ∧ (s.dev.works .est = true) ∧ (k.val ∈ s.dev.blocksOf str.val) ∧ (s.dev.holdDue k.val = true) :=
  ⟨0, 0, (fun s : State => ({ s with dev := { s.dev with lrn := { s.dev.lrn with blocks := [(0, { BlockSt.blank with hold := true, rest := 1000000 })] } } } : State)) (withRegs [(SESS_FUNC.STATE Func.lrn.num, 1), (SESS_FUNC.STATE 0, 1), (SESS_FUNC.STATE 1, 1), (SESS_FUNC.STEWARD Func.lrn.num, 1), (LRN_CFG2.NEW_REST, 1)] (wired (up .operator))), by decide +kernel⟩

theorem witness_SequencerCommandsActAsWritten_closeQueues : ∃ (sid : Sid) (mask : Byte) (k : Str) (s : State),
    (Settled s) ∧ (Heard sid s) ∧ (s.dev.isSteward sid .seq = true) ∧ (mask.toNat = 2 ^ k.val) ∧ (s.dev.judgeClose s.mem k.val = (0, 0)) ∧ (strings.any s.dev.connected = true) :=
  ⟨1, 1, 0, withRegs ((List.range 15).map (fun k => (SESS_FUNC.STATE k, 1)) ++ [(SESS_FUNC.STEWARD Func.seq.num, 1), (PORT_STATE.LINK 0, 3), (PORT_STATE.LINK 8, 3), (SEQ_STATE.POS 0, 0), (SEQ_STATE.NEG 0, 0), (SEQ_STATE.PRE 0, 0), (SEQ_STATE.STATE 0, 1), (SEQ_STATE.STATE 1, 6)]) (wired (up .operator)), by decide +kernel⟩

theorem witness_SequencerCommandsActAsWritten_closeBegins : ∃ (sid : Sid) (mask : Byte) (k : Str) (s : State),
    (Settled s) ∧ (Heard sid s) ∧ (s.dev.isSteward sid .seq = true) ∧ (mask.toNat = 2 ^ k.val) ∧ (s.dev.judgeClose s.mem k.val = (0, 0)) ∧ (strings.any s.dev.connected = false) ∧ (strings.any s.dev.inSequence = false) ∧ (s.dev.seq.queue = []) ∧ (s.dev.seq.bank = .idle) ∧ (s.mem.img.bankPresent = false ∨ s.dev.rd SEQ_BANK.STATE = 3) ∧ (s.dev.outage bedSeqn = false) ∧ (∀ c ∈ consOf k.val, s.dev.con c = 0) ∧ (s.dev.vbus k.val ≤ s.dev.vstr k.val * (1 + s.mem.img.match_ k.val)) :=
  ⟨1, 1, 0, withRegs ((List.range 15).map (fun k => (SESS_FUNC.STATE k, 1)) ++ [(SESS_FUNC.STEWARD Func.seq.num, 1), (PORT_STATE.LINK 0, 3), (PORT_STATE.LINK 8, 3), (SEQ_STATE.POS 0, 0), (SEQ_STATE.NEG 0, 0), (SEQ_STATE.PRE 0, 0), (SEQ_STATE.STATE 0, 1)]) (wired (up .operator)), by decide +kernel⟩

theorem witness_SequencerCommandsActAsWritten_closeRefused : ∃ (sid : Sid) (mask : Byte) (k : Str) (s : State),
    (Settled s) ∧ (Heard sid s) ∧ (s.dev.isSteward sid .seq = true) ∧ (mask.toNat = 2 ^ k.val) ∧ ((s.dev.judgeClose s.mem k.val).1 ≠ 0) :=
  ⟨1, 2, 1, withRegs ((List.range 15).map (fun k => (SESS_FUNC.STATE k, 1)) ++ [(SESS_FUNC.STEWARD Func.seq.num, 1), (PORT_STATE.LINK 0, 3), (PORT_STATE.LINK 8, 3), (SEQ_STATE.POS 0, 0), (SEQ_STATE.NEG 0, 0), (SEQ_STATE.PRE 0, 0), (SEQ_STATE.STATE 0, 1)]) (wired (up .operator)), by decide +kernel⟩

theorem witness_SequencerCommandsActAsWritten_openStrings : ∃ (sid : Sid) (mask : Byte) (s : State),
    (Settled s) ∧ (Heard sid s) ∧ (s.dev.isSteward sid .seq = true) ∧ (s.dev.bankClosing = false) ∧ (s.dev.saf.degOut = false) :=
  ⟨1, 3, (fun s : State => ({ s with dev := { s.dev with seq := { s.dev.seq with bank := .idle, queue := [1] } } } : State)) (withRegs ((List.range 15).map (fun k => (SESS_FUNC.STATE k, 1)) ++ [(SESS_FUNC.STEWARD Func.seq.num, 1), (PORT_STATE.LINK 0, 3), (PORT_STATE.LINK 8, 3), (SEQ_STATE.POS 0, 0), (SEQ_STATE.NEG 0, 0), (SEQ_STATE.PRE 0, 0), (SEQ_STATE.STATE 0, 6), (SEQ_STATE.STATE 1, 2)]) (wired (up .operator))), by decide +kernel⟩

theorem witness_SequencerCommandsActAsWritten_openBank : ∃ (sid : Sid) (s : State),
    (Settled s) ∧ (Heard sid s) ∧ (s.dev.isSteward sid .seq = true) ∧ (strings.any s.dev.inSequence = false) ∧ (s.dev.bankClosing = false) ∧ (s.dev.seq.bank = .idle) ∧ (s.dev.rd SEQ_BANK.LATCH = 0) ∧ ((s.dev.latchOf 8).1 = 0) :=
  ⟨1, withRegs ((List.range 15).map (fun k => (SESS_FUNC.STATE k, 1)) ++ [(SESS_FUNC.STEWARD Func.seq.num, 1), (PORT_STATE.LINK 0, 3), (PORT_STATE.LINK 8, 3), (SEQ_STATE.POS 0, 0), (SEQ_STATE.NEG 0, 0), (SEQ_STATE.PRE 0, 0), (SEQ_STATE.STATE 0, 6)]) (wired (up .operator)), by decide +kernel⟩

theorem witness_SequencerCommandsActAsWritten_lockout : ∃ (sid : Sid) (mask : Byte) (s : State),
    (Settled s) ∧ (Heard sid s) ∧ (s.dev.isSteward sid .seq = true) ∧ (s.dev.bankClosing = false) ∧ (s.dev.saf.degOut = false) :=
  ⟨1, 3, (fun s : State => ({ s with dev := { s.dev with seq := { s.dev.seq with bank := .idle, queue := [1] } } } : State)) (withRegs ((List.range 15).map (fun k => (SESS_FUNC.STATE k, 1)) ++ [(SESS_FUNC.STEWARD Func.seq.num, 1), (PORT_STATE.LINK 0, 3), (PORT_STATE.LINK 8, 3), (SEQ_STATE.POS 0, 0), (SEQ_STATE.NEG 0, 0), (SEQ_STATE.PRE 0, 0), (SEQ_STATE.STATE 0, 6), (SEQ_STATE.STATE 1, 2)]) (wired (up .operator))), by decide +kernel⟩

theorem witness_SequencerCommandsActAsWritten_unlock : ∃ (sid : Sid) (mask : Byte) (s : State),
    (Settled s) ∧ (Heard sid s) ∧ (s.dev.isSteward sid .seq = true) :=
  ⟨1, 5, withRegs ((List.range 15).map (fun k => (SESS_FUNC.STATE k, 1)) ++ [(SESS_FUNC.STEWARD Func.seq.num, 1), (PORT_STATE.LINK 0, 3), (PORT_STATE.LINK 8, 3), (SEQ_STATE.POS 0, 0), (SEQ_STATE.NEG 0, 0), (SEQ_STATE.PRE 0, 0), (SEQ_STATE.LOCKED_OUT 0, 1)]) (wired (up .operator)), by decide +kernel⟩

theorem witness_SequencerCommandsActAsWritten_clearLatch : ∃ (sid : Sid) (mask : Byte) (s : State),
    (Settled s) ∧ (Heard sid s) ∧ (s.dev.isSteward sid .seq = true) ∧ ((s.dev.sess sid).role = .maintainer) ∧ (mask ≠ 0) ∧ (∀ k < 8, mask.toNat.testBit k = true → ∀ c ∈ consOf k, s.dev.con c = 0) :=
  ⟨1, 1, (fun s : State => ({ s with dev := { s.dev with nv := { s.dev.nv with maint := [(0, 0x0B)] } } } : State)) (withRegs ((List.range 15).map (fun k => (SESS_FUNC.STATE k, 1)) ++ [(SESS_FUNC.STEWARD Func.seq.num, 1), (PORT_STATE.LINK 0, 3), (PORT_STATE.LINK 8, 3), (SEQ_STATE.POS 0, 0), (SEQ_STATE.NEG 0, 0), (SEQ_STATE.PRE 0, 0), (SEQ_STATE.STATE 0, 10)]) (wired (up .maintainer))), by decide +kernel⟩

theorem witness_SequencerCommandsActAsWritten_clearLatchRole : ∃ (sid : Sid) (mask : Byte) (s : State),
    (Settled s) ∧ (Heard sid s) ∧ (s.dev.isSteward sid .seq = false ∨ (s.dev.sess sid).role ≠ .maintainer) :=
  ⟨1, 1, withRegs ((List.range 15).map (fun k => (SESS_FUNC.STATE k, 1)) ++ [(SESS_FUNC.STEWARD Func.seq.num, 1), (PORT_STATE.LINK 0, 3), (PORT_STATE.LINK 8, 3), (SEQ_STATE.POS 0, 0), (SEQ_STATE.NEG 0, 0), (SEQ_STATE.PRE 0, 0)]) (wired (up .operator)), by decide +kernel⟩

theorem witness_SequencerCommandsActAsWritten_resetWearRole : ∃ (sid : Sid) (index : Fin 32) (s : State),
    (Settled s) ∧ (Heard sid s) ∧ (s.dev.isSteward sid .seq = false ∨ (s.dev.sess sid).role ≠ .maintainer) :=
  ⟨1, 3, withRegs ((List.range 15).map (fun k => (SESS_FUNC.STATE k, 1)) ++ [(SESS_FUNC.STEWARD Func.seq.num, 1), (PORT_STATE.LINK 0, 3), (PORT_STATE.LINK 8, 3), (SEQ_STATE.POS 0, 0), (SEQ_STATE.NEG 0, 0), (SEQ_STATE.PRE 0, 0)]) (wired (up .operator)), by decide +kernel⟩

theorem witness_SequencerCommandsActAsWritten_resetWear : ∃ (sid : Sid) (index : Fin 32) (s : State),
    (Settled s) ∧ (Heard sid s) ∧ (s.dev.isSteward sid .seq = true) ∧ ((s.dev.sess sid).role = .maintainer) ∧ (index.val ≤ 26) :=
  ⟨1, 3, (fun s : State => ({ s with dev := { s.dev with nv := { s.dev.nv with wear := [(3, { Wear.zero with ops := 7 })] } } } : State)) (withRegs ((List.range 15).map (fun k => (SESS_FUNC.STATE k, 1)) ++ [(SESS_FUNC.STEWARD Func.seq.num, 1), (PORT_STATE.LINK 0, 3), (PORT_STATE.LINK 8, 3), (SEQ_STATE.POS 0, 0), (SEQ_STATE.NEG 0, 0), (SEQ_STATE.PRE 0, 0)]) (wired (up .maintainer))), by decide +kernel⟩

theorem witness_SequencerCommandsActAsWritten_resetWearIndex : ∃ (sid : Sid) (index : Fin 32) (s : State),
    (Settled s) ∧ (Heard sid s) ∧ (s.dev.isSteward sid .seq = true) ∧ ((s.dev.sess sid).role = .maintainer) ∧ (26 < index.val) :=
  ⟨1, 27, withRegs ((List.range 15).map (fun k => (SESS_FUNC.STATE k, 1)) ++ [(SESS_FUNC.STEWARD Func.seq.num, 1), (PORT_STATE.LINK 0, 3), (PORT_STATE.LINK 8, 3), (SEQ_STATE.POS 0, 0), (SEQ_STATE.NEG 0, 0), (SEQ_STATE.PRE 0, 0)]) (wired (up .maintainer)), by decide +kernel⟩

theorem witness_SequencerCommandsActAsWritten_cancelJoin : ∃ (sid : Sid) (mask : Byte) (s : State),
    (Settled s) ∧ (Heard sid s) ∧ (s.dev.isSteward sid .seq = true) :=
  ⟨1, 1, (fun s : State => ({ s with dev := { s.dev with seq := { s.dev.seq with queue := [1, 0] } } } : State)) (withRegs ((List.range 15).map (fun k => (SESS_FUNC.STATE k, 1)) ++ [(SESS_FUNC.STEWARD Func.seq.num, 1), (PORT_STATE.LINK 0, 3), (PORT_STATE.LINK 8, 3), (SEQ_STATE.POS 0, 0), (SEQ_STATE.NEG 0, 0), (SEQ_STATE.PRE 0, 0), (SEQ_STATE.STATE 0, 2)]) (wired (up .operator))), by decide +kernel⟩

theorem witness_SequencerCommandsActAsWritten_seqShed : ∃ (sid : Sid) (value : Word) (s : State),
    (Settled s) ∧ (Heard sid s) ∧ (s.dev.isSteward sid .seq = true) ∧ (isPerm value.toNat = true) :=
  ⟨1, 0x76543210, withRegs ((List.range 15).map (fun k => (SESS_FUNC.STATE k, 1)) ++ [(SESS_FUNC.STEWARD Func.seq.num, 1), (PORT_STATE.LINK 0, 3), (PORT_STATE.LINK 8, 3), (SEQ_STATE.POS 0, 0), (SEQ_STATE.NEG 0, 0), (SEQ_STATE.PRE 0, 0)]) (wired (up .operator)), by decide +kernel⟩

theorem witness_SequencerCommandsActAsWritten_seqShedRefused : ∃ (sid : Sid) (value : Word) (s : State),
    (Settled s) ∧ (Heard sid s) ∧ (s.dev.isSteward sid .seq = true) ∧ (isPerm value.toNat = false) :=
  ⟨1, 0, withRegs ((List.range 15).map (fun k => (SESS_FUNC.STATE k, 1)) ++ [(SESS_FUNC.STEWARD Func.seq.num, 1), (PORT_STATE.LINK 0, 3), (PORT_STATE.LINK 8, 3), (SEQ_STATE.POS 0, 0), (SEQ_STATE.NEG 0, 0), (SEQ_STATE.PRE 0, 0)]) (wired (up .operator)), by decide +kernel⟩

theorem witness_ContactorFeedbackAdvancesACloseSequence_auxCloses : ∃ (con : Con) (s : State),
    (Settled s) ∧ (s.dev.seqActs = true) ∧ (s.dev.auxClosed con.val = false) ∧ (s.dev.con con.val = 1) :=
  ⟨0, withRegs [(SEQ_STATE.POS 0, 0), (SEQ_STATE.NEG 0, 0), (SEQ_STATE.PRE 0, 0), (SEQ_STATE.POS 0, 1)] (wired (up .operator)), by decide +kernel⟩

theorem witness_ContactorFeedbackAdvancesACloseSequence_auxOpens : ∃ (con : Con) (s : State),
    (Settled s) ∧ (s.dev.seqActs = true) ∧ (s.dev.auxClosed con.val = true) ∧ (s.dev.con con.val = 3) ∧ (s.dev.seq.queue = []) ∧ (s.dev.saf.degOut = false) :=
  ⟨0, (fun s : State => ({ s with dev := { s.dev with seq := { s.dev.seq with aux := [(0, true)] } } } : State)) (withRegs [(SEQ_STATE.POS 0, 0), (SEQ_STATE.NEG 0, 0), (SEQ_STATE.PRE 0, 0), (SEQ_STATE.POS 0, 3)] (wired (up .operator))), by decide +kernel⟩

theorem witness_ContactorFeedbackAdvancesACloseSequence_auxHeld : ∃ (con : Con) (closed : Bool) (s : State),
    (Settled s) ∧ (s.dev.seqActs = false) ∧ (s.dev.con con.val ≠ 7) ∧ (s.dev.auxClosed con.val ≠ closed) :=
  ⟨0, true, (fun s : State => ({ s with dev := { s.dev with load := { s.dev.load with outage := [6] } } } : State)) (withRegs [(SEQ_STATE.POS 0, 0), (SEQ_STATE.NEG 0, 0), (SEQ_STATE.PRE 0, 0)] (wired (up .operator))), by decide +kernel⟩

theorem witness_ContactorFeedbackAdvancesACloseSequence_noCloseInSequence : ∃ (con : Con) (s : State),
    (Settled s) ∧ (s.dev.seqActs = true) ∧ (s.dev.con con.val = 1) ∧ (ownerOf con.val < 8) ∧ (s.dev.inSequence (ownerOf con.val) = true) ∧ (s.dev.saf.degOut = false) :=
  ⟨2, (fun s : State => ({ s with dev := { s.dev with seq := { s.dev.seq with coil := [(2, true)] } } } : State)) (withRegs [(SEQ_STATE.POS 0, 0), (SEQ_STATE.NEG 0, 0), (SEQ_STATE.PRE 0, 0), (SEQ_STATE.PRE 0, 1), (SEQ_STATE.STATE 0, 3)] (wired (up .operator))), by decide +kernel⟩

theorem witness_ContactorFeedbackAdvancesACloseSequence_noCloseConnected : ∃ (con : Con) (s : State),
    (Settled s) ∧ (s.dev.seqActs = true) ∧ (s.dev.con con.val = 1) ∧ (ownerOf con.val < 8) ∧ (s.dev.connected (ownerOf con.val) = true) ∧ (s.dev.saf.degOut = false) :=
  ⟨2, (fun s : State => ({ s with dev := { s.dev with seq := { s.dev.seq with coil := [(2, true)] } } } : State)) (withRegs [(SEQ_STATE.POS 0, 0), (SEQ_STATE.NEG 0, 0), (SEQ_STATE.PRE 0, 0), (SEQ_STATE.PRE 0, 1), (SEQ_STATE.STATE 0, 6)] (wired (up .operator))), by decide +kernel⟩

theorem witness_ContactorFeedbackAdvancesACloseSequence_noCloseBank : ∃ (con : Con) (s : State),
    (Settled s) ∧ (s.dev.seqActs = true) ∧ (s.dev.con con.val = 1) ∧ (ownerOf con.val = 8) ∧ (s.mem.img.bankPresent = true) :=
  ⟨24, (fun s : State => ({ s with dev := { s.dev with seq := { s.dev.seq with coil := [(24, true)] } } } : State)) (withRegs [(SEQ_BANK.BPOS, 1), (SEQ_BANK.STATE, 2)] (withSec 0x31 512 [(451, 1)] (up .operator))), by decide +kernel⟩

theorem witness_ContactorFeedbackAdvancesACloseSequence_negWeldWatchEnd : ∃ (str : Str) (s : State),
    (Settled s) ∧ (s.dev.seqActs = true) ∧ (s.dev.inSequence str.val = true) ∧ ((s.dev.sq str.val).close = .watch) ∧ (s.dev.mayClose = true) :=
  ⟨0, (fun s => { s with dev := s.dev.modSq 0 fun x => { x with close := .watch } }) (withRegs [(SEQ_STATE.POS 0, 0), (SEQ_STATE.NEG 0, 0), (SEQ_STATE.PRE 0, 0), (SEQ_STATE.STATE 0, 3), (SESS_FUNC.STATE 0, 1), (SESS_FUNC.STATE 1, 1), (SESS_FUNC.STATE 2, 1), (SESS_FUNC.STATE 3, 1), (SESS_FUNC.STATE 4, 1), (SESS_FUNC.STATE 5, 1), (SESS_FUNC.STATE 6, 1), (SESS_FUNC.STATE 7, 1), (SESS_FUNC.STATE 8, 1), (SESS_FUNC.STATE 9, 1), (SESS_FUNC.STATE 10, 1), (SESS_FUNC.STATE 11, 1), (SESS_FUNC.STATE 12, 1), (SESS_FUNC.STATE 13, 1), (SESS_FUNC.STATE 14, 1)] (wired (up .operator))), by decide +kernel⟩

theorem witness_ContactorFeedbackAdvancesACloseSequence_negWeldWatchHeld : ∃ (str : Str) (s : State),
    (Settled s) ∧ (s.dev.seqActs = true) ∧ (s.dev.inSequence str.val = true) ∧ ((s.dev.sq str.val).close = .watch) ∧ (s.dev.mayClose = false) ∧ (s.dev.saf.degOut = false) :=
  ⟨0, (fun s => { s with dev := s.dev.modSq 0 fun x => { x with close := .watch } }) (withRegs [(SEQ_STATE.POS 0, 0), (SEQ_STATE.NEG 0, 0), (SEQ_STATE.PRE 0, 0), (SEQ_STATE.STATE 0, 3)] (wired (up .operator))), by decide +kernel⟩

theorem witness_ContactorFeedbackAdvancesACloseSequence_fitWaived : ∃ (str : Str) (s : State),
    (Settled s) ∧ (s.dev.seqActs = true) ∧ (s.dev.inSequence str.val = true) ∧ ((s.dev.sq str.val).close = .waived) :=
  ⟨0, (fun s => { s with dev := s.dev.modSq 0 fun x => { x with close := .waived } }) (withRegs [(SEQ_STATE.POS 0, 0), (SEQ_STATE.NEG 0, 0), (SEQ_STATE.PRE 0, 0), (SEQ_STATE.STATE 0, 4)] (wired (up .operator))), by decide +kernel⟩

theorem witness_ContactorFeedbackAdvancesACloseSequence_timeouts : ∃ (c : Instr) (str : Str) (code : Nat) (s : State),
    (Settled s) ∧ (s.dev.seqActs = true) ∧ (s.dev.inSequence str.val = true) ∧ (s.dev.saf.degOut = false) ∧ ((c = .t90Timeout str ∧ ((s.dev.sq str.val).close = .charge ∨ (s.dev.sq str.val).close = .negOn) ∧
        (s.dev.sq str.val).fit.t0.isSome = true ∧ (s.dev.sq str.val).fit.t90 = none ∧ code = 6 ∨
      c = .matchTimeout str ∧ ((s.dev.sq str.val).close = .matchWait ∨
        ((s.dev.sq str.val).close = .charge ∨ (s.dev.sq str.val).close = .negOn) ∧ (s.dev.sq str.val).fit.t90.isSome = true) ∧ code = 9)) :=
  ⟨.t90Timeout 0, 0, 6, (fun s => { s with dev := s.dev.modSq 0 fun x => { x with close := .charge, fit := { Fit.start with t0 := some 0 } } }) (withRegs [(SEQ_STATE.POS 0, 0), (SEQ_STATE.NEG 0, 0), (SEQ_STATE.PRE 0, 0), (SEQ_STATE.STATE 0, 4)] (wired (up .operator))), by decide +kernel⟩

theorem witness_ContactorFeedbackAdvancesACloseSequence_overlapEnd : ∃ (k : Str) (s : State),
    (Settled s) ∧ (s.dev.seqActs = true) ∧ (s.dev.strState k.val = 5) ∧ ((s.dev.sq k.val).close = .overlap) :=
  ⟨0, (fun s => { s with dev := s.dev.modSq 0 fun x => { x with close := .overlap } }) (withRegs [(SEQ_STATE.POS 0, 0), (SEQ_STATE.NEG 0, 0), (SEQ_STATE.PRE 0, 0), (SEQ_STATE.STATE 0, 5), (SEQ_STATE.POS 0, 2), (SEQ_STATE.PRE 0, 2)] (wired (up .operator))), by decide +kernel⟩

theorem witness_ContactorFeedbackAdvancesACloseSequence_bankOverlapEnd : ∃ (s : State),
    (Settled s) ∧ (s.dev.seqActs = true) ∧ (s.dev.seq.bank = .overlap) ∧ (s.dev.auxClosed 26 = true) :=
  ⟨(fun s : State => ({ s with dev := { s.dev with seq := { s.dev.seq with bank := .overlap, aux := [(26, true)], coil := [(26, true)] } } } : State)) (withRegs [(SEQ_STATE.POS 0, 0), (SEQ_STATE.NEG 0, 0), (SEQ_STATE.PRE 0, 0)] (wired (up .operator))), by decide +kernel⟩

theorem witness_ContactorFeedbackAdvancesACloseSequence_busSettled : ∃ (s : State),
    (Settled s) ∧ (s.dev.seqActs = true) ∧ (s.dev.seq.bank = .settle) ∧ (s.dev.mayClose = true) :=
  ⟨(fun s : State => ({ s with dev := { s.dev with seq := { s.dev.seq with bank := .settle } } } : State)) (withRegs [(SEQ_STATE.POS 0, 0), (SEQ_STATE.NEG 0, 0), (SEQ_STATE.PRE 0, 0), (SESS_FUNC.STATE 0, 1), (SESS_FUNC.STATE 1, 1), (SESS_FUNC.STATE 2, 1), (SESS_FUNC.STATE 3, 1), (SESS_FUNC.STATE 4, 1), (SESS_FUNC.STATE 5, 1), (SESS_FUNC.STATE 6, 1), (SESS_FUNC.STATE 7, 1), (SESS_FUNC.STATE 8, 1), (SESS_FUNC.STATE 9, 1), (SESS_FUNC.STATE 10, 1), (SESS_FUNC.STATE 11, 1), (SESS_FUNC.STATE 12, 1), (SESS_FUNC.STATE 13, 1), (SESS_FUNC.STATE 14, 1)] (wired (up .operator))), by decide +kernel⟩

theorem witness_ContactorFeedbackAdvancesACloseSequence_busSettledHeld : ∃ (s : State),
    (Settled s) ∧ (s.dev.seqActs = true) ∧ (s.dev.seq.bank = .settle) ∧ (s.dev.mayClose = false) ∧ (s.mem.img.bankPresent = true) :=
  ⟨(fun s : State => ({ s with dev := { s.dev with seq := { s.dev.seq with bank := .settle } } } : State)) (withSec 0x31 512 [(451, 1)] (withRegs [(SEQ_STATE.POS 0, 0), (SEQ_STATE.NEG 0, 0), (SEQ_STATE.PRE 0, 0)] (wired (up .operator)))), by decide +kernel⟩

theorem witness_ContactorFeedbackAdvancesACloseSequence_bankSettleTimeout : ∃ (s : State),
    (Settled s) ∧ (s.dev.seqActs = true) ∧ (s.dev.seq.bank = .settle) ∧ (s.dev.rd SEQ_BANK.LATCH = 0) ∧ ((s.dev.latchOf 8).1 = 0) ∧ (s.mem.img.bankPresent = true) :=
  ⟨(fun s : State => ({ s with dev := { s.dev with seq := { s.dev.seq with bank := .settle } } } : State)) (withRegs [(SEQ_BANK.STATE, 2)] (withSec 0x31 512 [(451, 1)] (up .operator))), by decide +kernel⟩

theorem witness_OpeningsEndAndWeldsAreJudged_verdictOpen : ∃ (con : Con) (current : WeldCurrent) (s : State),
    (Settled s) ∧ (s.dev.seqActs = true) ∧ (s.dev.coil con.val = false) ∧ (tget false s.dev.seq.judge con.val = true) ∧ (s.dev.verdict s.mem con.val current = 0) ∧ (s.dev.saf.degOut = false) :=
  ⟨0, .low, (fun s : State => ({ s with dev := { s.dev with seq := { s.dev.seq with judge := [(0, true)] } } } : State)) (withRegs [(SEQ_STATE.POS 0, 0), (SEQ_STATE.NEG 0, 0), (SEQ_STATE.PRE 0, 0), (SEQ_STATE.POS 0, 6)] (wired (up .operator))), by decide +kernel⟩

theorem witness_OpeningsEndAndWeldsAreJudged_verdictWelded : ∃ (con : Con) (current : WeldCurrent) (s : State),
    (Settled s) ∧ (s.dev.seqActs = true) ∧ (s.dev.coil con.val = false) ∧ (tget false s.dev.seq.judge con.val = true) ∧ (s.dev.verdict s.mem con.val current ≠ 0) ∧ (s.dev.con con.val ≠ 4 ∧ s.dev.con con.val ≠ 5) ∧ (ownerOf con.val < 8) ∧ (s.dev.saf.degOut = false) :=
  ⟨0, .persists, (fun s : State => ({ s with dev := { s.dev with seq := { s.dev.seq with judge := [(0, true)], aux := [(0, true)] } } } : State)) (withRegs [(SEQ_STATE.POS 0, 0), (SEQ_STATE.NEG 0, 0), (SEQ_STATE.PRE 0, 0), (SEQ_STATE.POS 0, 3), (SEQ_STATE.STATE 0, 8)] (wired (up .operator))), by decide +kernel⟩

theorem witness_OpeningsEndAndWeldsAreJudged_verdictBank : ∃ (con : Con) (current : WeldCurrent) (s : State),
    (Settled s) ∧ (s.dev.seqActs = true) ∧ (s.dev.coil con.val = false) ∧ (tget false s.dev.seq.judge con.val = true) ∧ (s.dev.verdict s.mem con.val current ≠ 0) ∧ (s.dev.con con.val ≠ 4 ∧ s.dev.con con.val ≠ 5) ∧ (ownerOf con.val = 8) ∧ (s.dev.saf.degOut = false) :=
  ⟨24, .persists, (fun s : State => ({ s with dev := { s.dev with seq := { s.dev.seq with judge := [(24, true)], aux := [(24, true)] } } } : State)) (withRegs [(SEQ_BANK.BPOS, 3), (SEQ_BANK.STATE, 4)] (withSec 0x31 512 [(451, 1)] (up .operator))), by decide +kernel⟩

theorem witness_OpeningsEndAndWeldsAreJudged_shuntFires : ∃ (c : Instr) (w : Who) (k : Str) (code : Nat) (s : State),
    (s.dev.seqActs = true) ∧ ((c = .weldUnisolated w ∧ s.dev.coil (3 * w.val) = false ∧ s.dev.coil (3 * w.val + 1) = false ∧
        s.dev.con (3 * w.val) ≠ 7 ∧ code = 0x0C ∨
      c = .breakWaitExpired k ∧ s.dev.strState k.val = 7 ∧ (s.dev.sq k.val).opn = .breakWait ∧ code = 0x0D)) :=
  ⟨.breakWaitExpired 0, 8, 0, 0x0D, (fun s => { s with dev := s.dev.modSq 0 fun x => { x with opn := .breakWait } }) (withRegs [(SEQ_STATE.POS 0, 0), (SEQ_STATE.NEG 0, 0), (SEQ_STATE.PRE 0, 0), (SEQ_STATE.STATE 0, 7)] (wired (up .operator))), by decide +kernel⟩

theorem witness_OpeningsEndAndWeldsAreJudged_coolEnd : ∃ (str : Str) (s : State),
    (Settled s) ∧ (s.dev.seqActs = true) ∧ (s.dev.strState str.val = 9) ∧ (s.dev.seq.queue = []) :=
  ⟨0, withRegs [(SEQ_STATE.POS 0, 0), (SEQ_STATE.NEG 0, 0), (SEQ_STATE.PRE 0, 0), (SEQ_STATE.STATE 0, 9)] (wired (up .operator)), by decide +kernel⟩

theorem witness_OpeningsEndAndWeldsAreJudged_joinTimeout : ∃ (str : Str) (s : State),
    (Settled s) ∧ (s.dev.seqActs = true) ∧ (s.dev.strState str.val = 2) ∧ ((s.dev.latchOf str.val).1 = 0) :=
  ⟨0, (fun s : State => ({ s with dev := { s.dev with seq := { s.dev.seq with queue := [0] } } } : State)) (withRegs [(SEQ_STATE.POS 0, 0), (SEQ_STATE.NEG 0, 0), (SEQ_STATE.PRE 0, 0), (SEQ_STATE.STATE 0, 2)] (wired (up .operator))), by decide +kernel⟩

theorem witness_OpeningsEndAndWeldsAreJudged_orderWaitEnd : ∃ (str : Str) (s : State),
    (Settled s) ∧ (s.dev.seqActs = true) ∧ (s.dev.strState str.val = 7) ∧ ((s.dev.sq str.val).opn = .drain) :=
  ⟨0, (fun s => { s with dev := s.dev.modSq 0 fun x => { x with opn := .drain } }) (withRegs [(SEQ_STATE.POS 0, 0), (SEQ_STATE.NEG 0, 0), (SEQ_STATE.PRE 0, 0), (SEQ_STATE.STATE 0, 7)] (wired (up .operator))), by decide +kernel⟩

theorem witness_OpeningsEndAndWeldsAreJudged_currentLowQualified : ∃ (str : Str) (s : State),
    (Settled s) ∧ (s.dev.seqActs = true) ∧ (s.dev.strState str.val = 8) ∧ ((s.dev.sq str.val).opn = .lowWait) :=
  ⟨0, (fun s => { s with dev := s.dev.modSq 0 fun x => { x with opn := .lowWait } }) (withRegs [(SEQ_STATE.POS 0, 0), (SEQ_STATE.NEG 0, 0), (SEQ_STATE.PRE 0, 0), (SEQ_STATE.STATE 0, 8)] (wired (up .operator))), by decide +kernel⟩

theorem witness_OpeningsEndAndWeldsAreJudged_negCoilDelayEnd : ∃ (str : Str) (s : State),
    (Settled s) ∧ (s.dev.seqActs = true) ∧ (s.dev.strState str.val = 8) ∧ ((s.dev.sq str.val).opn = .negDelay) ∧ (s.dev.saf.degOut = false) :=
  ⟨0, (fun s => { s with dev := s.dev.modSq 0 fun x => { x with opn := .negDelay } }) (withRegs [(SEQ_STATE.POS 0, 0), (SEQ_STATE.NEG 0, 0), (SEQ_STATE.PRE 0, 0), (SEQ_STATE.STATE 0, 8)] (wired (up .operator))), by decide +kernel⟩

theorem witness_OpeningsEndAndWeldsAreJudged_bnegDelayEnd : ∃ (s : State),
    (Settled s) ∧ (s.dev.seqActs = true) ∧ (s.dev.seq.bank = .bnegDelay) :=
  ⟨(fun s : State => ({ s with dev := { s.dev with seq := { s.dev.seq with bank := .bnegDelay, coil := [(25, true)] } } } : State)) (withRegs [(SEQ_STATE.POS 0, 0), (SEQ_STATE.NEG 0, 0), (SEQ_STATE.PRE 0, 0)] (wired (up .operator))), by decide +kernel⟩

theorem witness_OpeningsEndAndWeldsAreJudged_recloseHoldEnd : ∃ (str : Str) (s : State),
    (Settled s) ∧ (s.dev.seqActs = true) ∧ (s.dev.isOpen str.val = true) ∧ ((s.dev.sq str.val).hold = true) :=
  ⟨0, (fun s => { s with dev := s.dev.modSq 0 fun x => { x with hold := true } }) (withRegs [(SEQ_STATE.POS 0, 0), (SEQ_STATE.NEG 0, 0), (SEQ_STATE.PRE 0, 0), (SEQ_STATE.STATE 0, 1)] (wired (up .operator))), by decide +kernel⟩

theorem witness_OpeningsEndAndWeldsAreJudged_tripPulseEnd : ∃ (s : State),
    (Settled s) ∧ (s.dev.seq.firing = true) :=
  ⟨(fun s : State => ({ s with dev := { s.dev with seq := { s.dev.seq with firing := true } } } : State)) (withRegs [(SEQ_STATE.POS 0, 0), (SEQ_STATE.NEG 0, 0), (SEQ_STATE.PRE 0, 0)] (wired (up .operator))), by decide +kernel⟩

theorem witness_ZonesAreEvaluatedAndJudged_zoneWithValue : ∃ (z : Nat) (b : Cand) (s : State),
    (s.dev.alive = true) ∧ (s.dev.runs .thw = true) ∧ (Settled s) ∧ (s.mem.hasImage = true) ∧ (s.dev.outage bedThrm = false) ∧ (z ∈ s.mem.img.zones) ∧ (highest (s.dev.asEnded.candidates s.mem z) = some b) ∧ (∃ p ∈ s.dev.asEnded.zonePoints s.mem z, (s.dev.asEnded.pointValue s.mem p).isSome = true) :=
  ⟨0, (50, 0, 0), (fun s : State => ({ s with dev := { s.dev with thw := { s.dev.thw with points := [(0, { PointSt.blank with any := true, temp := 50 })], ended := [(0, ⟨{ PointSt.blank with any := true, temp := 50 }, 0, 0⟩)], zones := [(0, ZoneSt.blank)] } } } : State)) (withRegs [(SESS_FUNC.STATE Func.thw.num, 1)] (wired (withSec 0x12 60 [(0, 1), (2, 0x40), (3, 0x1F), (4, 0x10), (5, 0x27), (34, 100), (36, 100), (38, 200), (40, 0xA0), (41, 0x0F), (42, 0x94), (43, 0x11), (44, 0x7C), (45, 0x15), (46, 0x70), (47, 0x17), (48, 0x88), (49, 0x13), (50, 200), (54, 100)] (up .operator)))), by decide +kernel⟩

theorem witness_ZonesAreEvaluatedAndJudged_zoneBlind : ∃ (z : Nat) (s : State),
    (s.dev.alive = true) ∧ (s.dev.runs .thw = true) ∧ (Settled s) ∧ (s.mem.hasImage = true) ∧ (s.dev.outage bedThrm = false) ∧ (z ∈ s.mem.img.zones) ∧ (∀ p ∈ s.dev.asEnded.zonePoints s.mem z, s.dev.asEnded.pointValue s.mem p = none) :=
  ⟨0, withRegs [(SESS_FUNC.STATE Func.thw.num, 1)] (wired (withSec 0x12 60 [(0, 1), (2, 0x40), (3, 0x1F), (4, 0x10), (5, 0x27), (34, 100), (36, 100), (38, 200), (40, 0xA0), (41, 0x0F), (42, 0x94), (43, 0x11), (44, 0x7C), (45, 0x15), (46, 0x70), (47, 0x17), (48, 0x88), (49, 0x13), (50, 200), (54, 100)] (up .operator))), by decide +kernel⟩

theorem witness_ZonesAreEvaluatedAndJudged_stringFactor : ∃ (k : Nat) (s : State),
    (s.dev.alive = true) ∧ (s.dev.runs .thw = true) ∧ (Settled s) ∧ (s.mem.hasImage = true) ∧ (s.dev.outage bedThrm = false) ∧ (k < 8) :=
  ⟨0, (fun s : State => ({ s with dev := { s.dev with thw := { s.dev.thw with points := [(0, { PointSt.blank with any := true, temp := 50 })], ended := [(0, ⟨{ PointSt.blank with any := true, temp := 50 }, 0, 0⟩)], zones := [(0, ZoneSt.blank)] } } } : State)) (withRegs [(SESS_FUNC.STATE Func.thw.num, 1)] (wired (withSec 0x12 60 [(0, 1), (2, 0x40), (3, 0x1F), (4, 0x10), (5, 0x27), (34, 100), (36, 100), (38, 200), (40, 0xA0), (41, 0x0F), (42, 0x94), (43, 0x11), (44, 0x7C), (45, 0x15), (46, 0x70), (47, 0x17), (48, 0x88), (49, 0x13), (50, 200), (54, 100)] (up .operator)))), by decide +kernel⟩

theorem witness_ZonesAreEvaluatedAndJudged_shutdownByLevel : ∃ (z p : Nat) (v : Rat) (s : State),
    (s.dev.alive = true) ∧ (s.dev.runs .thw = true) ∧ (Settled s) ∧ (s.mem.hasImage = true) ∧ (s.dev.outage bedThrm = false) ∧ (z ∈ s.mem.img.zones) ∧ (s.dev.on (SESS_FUNC.IDLE Func.thw.num) = false) ∧ (s.dev.thw.latch = false) ∧ (p ∈ s.dev.asEnded.zonePoints s.mem z) ∧ (s.dev.asEnded.pointValid p = true) ∧ (s.dev.asEnded.pointValue s.mem p = some v) ∧ (s.mem.img.tShut z ≤ v) ∧ (s.dev.thw.declared = false) ∧ ((s.dev.zone z).level = true) :=
  ⟨0, 0, 60, (fun s : State => ({ s with dev := { s.dev with thw := { s.dev.thw with points := [(0, { PointSt.blank with any := true, temp := 60 })], ended := [(0, ⟨{ PointSt.blank with any := true, temp := 60 }, 0, 0⟩)], zones := [(0, { ZoneSt.blank with level := true })] } } } : State)) (withRegs [(SESS_FUNC.STATE Func.thw.num, 1), (SEQ_STATE.STATE 0, 6)] (wired (withSec 0x12 60 [(0, 1), (2, 0x40), (3, 0x1F), (4, 0x10), (5, 0x27), (34, 100), (36, 100), (38, 200), (40, 0xA0), (41, 0x0F), (42, 0x94), (43, 0x11), (44, 0x7C), (45, 0x15), (46, 0x70), (47, 0x17), (48, 0x88), (49, 0x13), (50, 200), (54, 100)] (up .operator)))), by decide +kernel⟩

theorem witness_PointsHoldsAndTheLatchEnd_internalReading : ∃ (temps : List Int) (s : State),
    (s.dev.alive = true) ∧ (s.dev.runs .thw = true) ∧ (Settled s) ∧ (s.mem.hasImage = true) ∧ (s.dev.outage bedThrm = false) ∧ (temps.length = 12) ∧ (∀ x ∈ temps, x < s.mem.img.intShut) :=
  ⟨[8000, 1, 2, 3, 4, 5, 6, 7, 8, 9, 10, -1], withRegs [(SESS_FUNC.STATE Func.thw.num, 1)] (wired (withSec 0x12 60 [(0, 1), (2, 0x40), (3, 0x1F), (4, 0x10), (5, 0x27), (34, 100), (36, 100), (38, 200), (40, 0xA0), (41, 0x0F), (42, 0x94), (43, 0x11), (44, 0x7C), (45, 0x15), (46, 0x70), (47, 0x17), (48, 0x88), (49, 0x13), (50, 200), (54, 100)] (up .operator))), by decide +kernel⟩

theorem witness_PointsHoldsAndTheLatchEnd_internalShutdown : ∃ (temps : List Int) (k : Nat) (s : State),
    (s.dev.alive = true) ∧ (s.dev.runs .thw = true) ∧ (Settled s) ∧ (s.mem.hasImage = true) ∧ (s.dev.outage bedThrm = false) ∧ (temps.length = 12) ∧ (k < 12) ∧ (s.mem.img.intShut ≤ temps.getD k 0) ∧ (1 ≤ tget 0 s.dev.thw.intRun k) ∧ (s.dev.thw.latch = false) ∧ (s.dev.thw.declared = false) ∧ (∀ j < k, tget 0 s.dev.thw.intRun j = 0 ∨ temps.getD j 0 < s.mem.img.intShut) :=
  ⟨[0, 1, 10000, 3, 4, 5, 6, 7, 8, 9, 10, -1], 2, (fun s : State => ({ s with dev := { s.dev with thw := { s.dev.thw with intRun := [(2, 1)] } } } : State)) (withRegs [(SESS_FUNC.STATE Func.thw.num, 1), (SEQ_STATE.STATE 0, 6)] (wired (withSec 0x12 60 [(0, 1), (2, 0x40), (3, 0x1F), (4, 0x10), (5, 0x27), (34, 100), (36, 100), (38, 200), (40, 0xA0), (41, 0x0F), (42, 0x94), (43, 0x11), (44, 0x7C), (45, 0x15), (46, 0x70), (47, 0x17), (48, 0x88), (49, 0x13), (50, 200), (54, 100)] (up .operator)))), by decide +kernel⟩

theorem witness_PointsHoldsAndTheLatchEnd_internalBuffered : ∃ (temps : List Int) (s : State),
    (s.dev.alive = true) ∧ (s.dev.runs .thw = true) ∧ (Settled s) ∧ (s.mem.hasImage = true) ∧ (s.dev.outage bedThrm = true) :=
  ⟨[8000, 1], (fun s : State => ({ s with dev := { s.dev with load := { s.dev.load with outage := [bedThrm] } } } : State)) (withRegs [(SESS_FUNC.STATE Func.thw.num, 1)] (wired (withSec 0x12 60 [(0, 1), (2, 0x40), (3, 0x1F), (4, 0x10), (5, 0x27), (34, 100), (36, 100), (38, 200), (40, 0xA0), (41, 0x0F), (42, 0x94), (43, 0x11), (44, 0x7C), (45, 0x15), (46, 0x70), (47, 0x17), (48, 0x88), (49, 0x13), (50, 200), (54, 100)] (up .operator)))), by decide +kernel⟩

theorem witness_PointsHoldsAndTheLatchEnd_pointStaleFailed : ∃ (p : Point) (s : State),
    (s.dev.alive = true) ∧ (s.dev.runs .thw = true) ∧ (Settled s) ∧ (s.dev.pointUsed s.mem p.val = true) ∧ (s.dev.tempValid p.val = 3) ∧ (s.dev.rd (TEMP_VAL.STANDING p.val) ≠ 3) ∧ ((s.dev.point p.val).ecc = none) :=
  ⟨0, (fun s : State => ({ s with dev := { s.dev with thw := { s.dev.thw with points := [(0, { PointSt.blank with any := true, temp := 50 })], ended := [(0, ⟨{ PointSt.blank with any := true, temp := 50 }, 0, 0⟩)], zones := [(0, ZoneSt.blank)] } } } : State)) (withRegs [(SESS_FUNC.STATE Func.thw.num, 1)] (wired (withSec 0x12 60 [(0, 1), (2, 0x40), (3, 0x1F), (4, 0x10), (5, 0x27), (34, 100), (36, 100), (38, 200), (40, 0xA0), (41, 0x0F), (42, 0x94), (43, 0x11), (44, 0x7C), (45, 0x15), (46, 0x70), (47, 0x17), (48, 0x88), (49, 0x13), (50, 200), (54, 100)] (up .operator)))), by decide +kernel⟩

theorem witness_PointsHoldsAndTheLatchEnd_fastModeEnd : ∃ (p : Point) (s : State),
    (s.dev.alive = true) ∧ (s.dev.runs .thw = true) ∧ (Settled s) ∧ (s.dev.on (TEMP_VAL.FAST p.val) = true) ∧ (s.dev.fastCond s.mem p.val = false) :=
  ⟨0, withRegs [(SESS_FUNC.STATE Func.thw.num, 1), (TEMP_VAL.FAST 0, 1)] (wired (withSec 0x12 60 [(0, 1), (2, 0x40), (3, 0x1F), (4, 0x10), (5, 0x27), (34, 100), (36, 100), (38, 200), (40, 0xA0), (41, 0x0F), (42, 0x94), (43, 0x11), (44, 0x7C), (45, 0x15), (46, 0x70), (47, 0x17), (48, 0x88), (49, 0x13), (50, 200), (54, 100)] (up .operator))), by decide +kernel⟩

theorem witness_PointsHoldsAndTheLatchEnd_rateHighEnd : ∃ (z : Zone) (s : State),
    (s.dev.alive = true) ∧ (s.dev.runs .thw = true) ∧ (Settled s) ∧ ((s.dev.zone z.val).rateHigh = true) ∧ (exceeds (greatest ((s.dev.zonePoints s.mem z.val).map s.dev.pointRate10)) (s.mem.img.rate10 z.val) = false) ∧ (exceeds (greatest ((s.dev.zonePoints s.mem z.val).map s.dev.pointRate60)) (s.mem.img.rate60 z.val) = false) :=
  ⟨0, (fun s : State => ({ s with dev := { s.dev with thw := { s.dev.thw with points := [(0, { PointSt.blank with any := true, temp := 50 })], ended := [(0, ⟨{ PointSt.blank with any := true, temp := 50 }, 0, 0⟩)], zones := [(0, { ZoneSt.blank with rateHigh := true })] } } } : State)) (withRegs [(SESS_FUNC.STATE Func.thw.num, 1)] (wired (withSec 0x12 60 [(0, 1), (2, 0x40), (3, 0x1F), (4, 0x10), (5, 0x27), (34, 100), (36, 100), (38, 200), (40, 0xA0), (41, 0x0F), (42, 0x94), (43, 0x11), (44, 0x7C), (45, 0x15), (46, 0x70), (47, 0x17), (48, 0x88), (49, 0x13), (50, 200), (54, 100)] (up .operator)))), by decide +kernel⟩

theorem witness_PointsHoldsAndTheLatchEnd_holdEnd : ∃ (z : Zone) (s : State),
    (s.dev.alive = true) ∧ (s.dev.runs .thw = true) ∧ (Settled s) ∧ ((s.dev.zone z.val).hold = true) :=
  ⟨0, (fun s : State => ({ s with dev := { s.dev with thw := { s.dev.thw with points := [(0, { PointSt.blank with any := true, temp := 50 })], ended := [(0, ⟨{ PointSt.blank with any := true, temp := 50 }, 0, 0⟩)], zones := [(0, { ZoneSt.blank with hold := true })] } } } : State)) (withRegs [(SESS_FUNC.STATE Func.thw.num, 1)] (wired (withSec 0x12 60 [(0, 1), (2, 0x40), (3, 0x1F), (4, 0x10), (5, 0x27), (34, 100), (36, 100), (38, 200), (40, 0xA0), (41, 0x0F), (42, 0x94), (43, 0x11), (44, 0x7C), (45, 0x15), (46, 0x70), (47, 0x17), (48, 0x88), (49, 0x13), (50, 200), (54, 100)] (up .operator)))), by decide +kernel⟩

theorem witness_PointsHoldsAndTheLatchEnd_thermalLatchClear : ∃ (s : State),
    (Settled s) ∧ (s.dev.thw.latch = true) :=
  ⟨(fun s : State => ({ s with dev := { s.dev with thw := { s.dev.thw with latch := true } } } : State)) (withRegs [(SESS_FUNC.STATE Func.thw.num, 1)] (wired (withSec 0x12 60 [(0, 1), (2, 0x40), (3, 0x1F), (4, 0x10), (5, 0x27), (34, 100), (36, 100), (38, 200), (40, 0xA0), (41, 0x0F), (42, 0x94), (43, 0x11), (44, 0x7C), (45, 0x15), (46, 0x70), (47, 0x17), (48, 0x88), (49, 0x13), (50, 200), (54, 100)] (up .operator)))), by decide +kernel⟩

theorem witness_ForcingAndSwitchTests_force : ∃ (sid : Sid) (port : Mon) (s : State),
    (Settled s) ∧ (Heard sid s) ∧ (s.dev.isSteward sid .bal = true) ∧ ((s.dev.sess sid.val).role = .maintainer) ∧ (s.dev.monUsed port.val = true) ∧ (¬(s.dev.on BAL_FORCE.CONTINUOUS = true ∧ (s.dev.connected (s.dev.monStr port.val) = true ∨ s.dev.closing (s.dev.monStr port.val) = true))) ∧ (s.dev.balSuspended s.mem = false) :=
  ⟨1, 0, withRegs [(SESS_FUNC.STATE Func.bal.num, 1), (SESS_FUNC.STATE Func.acq.num, 1), (SESS_FUNC.STATE Func.est.num, 1), (SESS_FUNC.STEWARD Func.bal.num, 1), (BAL_FORCE.MASK, 0x2001), (BAL_FORCE.MINUTES, 5), (BAL_FORCE.CONTINUOUS, 1), (PORT_STATE.LINK 0, 3)] (wired (up .maintainer)), by decide +kernel⟩

theorem witness_ForcingAndSwitchTests_forceRefused : ∃ (sid : Sid) (port : Mon) (r : Nat) (s : State),
    (Settled s) ∧ (Heard sid s) ∧ (s.dev.isSteward sid .bal = true) ∧ (r = (if (s.dev.sess sid.val).role ≠ .maintainer then 1
      else if s.dev.monUsed port.val = false then 2
      else if s.dev.on BAL_FORCE.CONTINUOUS = true ∧
        (s.dev.connected (s.dev.monStr port.val) = true ∨ s.dev.closing (s.dev.monStr port.val) = true) then 3
      else if s.dev.balSuspended s.mem = true then 4 else 0)) ∧ (r ≠ 0) :=
  ⟨1, 0, 3, withRegs [(SESS_FUNC.STATE Func.bal.num, 1), (SESS_FUNC.STATE Func.acq.num, 1), (SESS_FUNC.STATE Func.est.num, 1), (SESS_FUNC.STEWARD Func.bal.num, 1), (BAL_FORCE.CONTINUOUS, 1), (SEQ_STATE.STATE 0, 6)] (wired (up .maintainer)), by decide +kernel⟩

theorem witness_ForcingAndSwitchTests_unforce : ∃ (sid : Sid) (port : Mon) (s : State),
    (Settled s) ∧ (Heard sid s) ∧ (s.dev.isSteward sid .bal = true) :=
  ⟨1, 0, (fun s : State => ({ s with dev := { s.dev with bal := { s.dev.bal with ports := [(0, { BalPort.blank with forced := some 1 })] } } } : State)) (withRegs [(SESS_FUNC.STATE Func.bal.num, 1), (SESS_FUNC.STATE Func.acq.num, 1), (SESS_FUNC.STATE Func.est.num, 1), (SESS_FUNC.STEWARD Func.bal.num, 1)] (wired (up .maintainer))), by decide +kernel⟩

theorem witness_ForcingAndSwitchTests_forceExpiry : ∃ (port : Mon) (s : State),
    (Settled s) ∧ (s.dev.alive = true) ∧ ((s.dev.balPort port.val).forced.isSome = true) :=
  ⟨0, (fun s : State => ({ s with dev := { s.dev with bal := { s.dev.bal with ports := [(0, { BalPort.blank with forced := some 1, cont := true })] } } } : State)) (withPort 0 (fun p => { p with awaits := none }) (withRegs [(SESS_FUNC.STATE Func.bal.num, 1), (SESS_FUNC.STATE Func.acq.num, 1), (SESS_FUNC.STATE Func.est.num, 1), (SESS_FUNC.STEWARD Func.bal.num, 1), (PORT_STATE.LINK 0, 4)] (wired (up .maintainer)))), by decide +kernel⟩

theorem witness_ForcingAndSwitchTests_test : ∃ (sid : Sid) (port : Mon) (input : Fin 32) (s : State),
    (Settled s) ∧ (Heard sid s) ∧ (s.dev.isSteward sid .bal = true) ∧ (s.dev.bal.pass = false) ∧ (s.dev.monUsed port.val = true) ∧ (input.val < (s.dev.portRec (lcOfMon port.val)).inputs) :=
  ⟨1, 0, 13, withRegs [(SESS_FUNC.STATE Func.bal.num, 1), (SESS_FUNC.STATE Func.acq.num, 1), (SESS_FUNC.STATE Func.est.num, 1), (SESS_FUNC.STEWARD Func.bal.num, 1)] (wired (up .maintainer)), by decide +kernel⟩

theorem witness_ForcingAndSwitchTests_testRefused : ∃ (sid : Sid) (port : Mon) (input : Fin 32) (s : State),
    (Settled s) ∧ (Heard sid s) ∧ (s.dev.isSteward sid .bal = true) ∧ (s.dev.bal.pass = true ∨ ¬(s.dev.monUsed port.val = true ∧ input.val < (s.dev.portRec (lcOfMon port.val)).inputs)) :=
  ⟨1, 0, 24, withRegs [(SESS_FUNC.STATE Func.bal.num, 1), (SESS_FUNC.STATE Func.acq.num, 1), (SESS_FUNC.STATE Func.est.num, 1), (SESS_FUNC.STEWARD Func.bal.num, 1)] (wired (up .maintainer)), by decide +kernel⟩

theorem witness_ForcingAndSwitchTests_testAll : ∃ (sid : Sid) (s : State),
    (Settled s) ∧ (Heard sid s) ∧ (s.dev.isSteward sid .bal = true) ∧ (s.dev.bal.pass = false) :=
  ⟨1, withRegs [(SESS_FUNC.STATE Func.bal.num, 1), (SESS_FUNC.STATE Func.acq.num, 1), (SESS_FUNC.STATE Func.est.num, 1), (SESS_FUNC.STEWARD Func.bal.num, 1)] (wired (up .maintainer)), by decide +kernel⟩

theorem witness_ForcingAndSwitchTests_testPassDue : ∃ (s : State),
    (Settled s) ∧ (s.dev.alive = true) ∧ (s.mem.hasImage = true) ∧ (s.dev.works .bal = true) ∧ (s.dev.bal.pass = false) :=
  ⟨withRegs [(SESS_FUNC.STATE Func.bal.num, 1), (SESS_FUNC.STATE Func.acq.num, 1), (SESS_FUNC.STATE Func.est.num, 1), (SESS_FUNC.STEWARD Func.bal.num, 1), (BAL_TEST.PERIOD, 7)] (wired (up .maintainer)), by decide +kernel⟩

theorem witness_ChannelCommandsAndProtection_chnSet : ∃ (sid : Sid) (mask : Word) (s : State),
    (Settled s) ∧ (Heard sid s) ∧ (s.dev.isSteward sid .chn = true) ∧ (∀ n < 32, mask.getLsbD n = true → s.mem.img.chanRole n ≠ 0 ∧ s.mem.img.chanRole n ≠ 1) ∧ (∀ n < 32, (s.dev.chan n).last.1 = s.dev.clk + 1 → (s.dev.chan n).last.2 ≤ 1024 + sid.val) :=
  ⟨1, 0x30, withRegs [(SESS_FUNC.STATE Func.chn.num, 1), (SESS_FUNC.STATE Func.saf.num, 1), (SESS_FUNC.STATE Func.seq.num, 1), (SESS_FUNC.STATE Func.thw.num, 1), (SESS_FUNC.STEWARD Func.chn.num, 1)] (wired (withSec 0x30 528 [(64, 2), (80, 2), (67, 255), (83, 255)] (up .operator))), by decide +kernel⟩

theorem witness_ChannelCommandsAndProtection_chnClr : ∃ (sid : Sid) (mask : Word) (s : State),
    (Settled s) ∧ (Heard sid s) ∧ (s.dev.isSteward sid .chn = true) ∧ (∀ n < 32, mask.getLsbD n = true → s.mem.img.chanRole n ≠ 0 ∧ s.mem.img.chanRole n ≠ 1) ∧ (∀ n < 32, (s.dev.chan n).last.1 = s.dev.clk + 1 → (s.dev.chan n).last.2 ≤ 1024 + sid.val) :=
  ⟨1, 0x30, (fun s : State => ({ s with dev := { s.dev with chn := { s.dev.chn with chans := [(4, { Chan.rest with cmd := true })] } } } : State)) (withRegs [(SESS_FUNC.STATE Func.chn.num, 1), (SESS_FUNC.STATE Func.saf.num, 1), (SESS_FUNC.STATE Func.seq.num, 1), (SESS_FUNC.STATE Func.thw.num, 1), (SESS_FUNC.STEWARD Func.chn.num, 1)] (wired (withSec 0x30 528 [(64, 2), (80, 3), (67, 255), (83, 255)] (up .operator)))), by decide +kernel⟩

theorem witness_ChannelCommandsAndProtection_commandsRefused : ∃ (c : Instr) (sid : Sid) (mask : Word) (a n : Nat) (s : State),
    (Settled s) ∧ (Heard sid s) ∧ (s.dev.isSteward sid .chn = true) ∧ (n < 32) ∧ (mask.getLsbD n = true) ∧ (s.mem.img.chanRole n = 0 ∨ s.mem.img.chanRole n = 1) ∧ ((c = .chnSet sid mask ∧ a = CHN_SET.MASK.addr ∨ c = .chnClr sid mask ∧ a = CHN_CLR.MASK.addr)) :=
  ⟨.chnClr 1 3, 1, 3, CHN_CLR.MASK.addr, 0, withRegs [(SESS_FUNC.STATE Func.chn.num, 1), (SESS_FUNC.STATE Func.saf.num, 1), (SESS_FUNC.STATE Func.seq.num, 1), (SESS_FUNC.STATE Func.thw.num, 1), (SESS_FUNC.STEWARD Func.chn.num, 1)] (wired (withSec 0x30 528 [(16, 2), (19, 255)] (up .operator))), by decide +kernel⟩

theorem witness_ChannelCommandsAndProtection_chnFclr : ∃ (sid : Sid) (mask : Word) (s : State),
    (Settled s) ∧ (Heard sid s) ∧ (s.dev.isSteward sid .chn = true) :=
  ⟨1, 0x20, (fun s : State => ({ s with dev := { s.dev with chn := { s.dev.chn with chans := [(5, { Chan.rest with cmd := true, short := true })] } } } : State)) (withRegs [(SESS_FUNC.STATE Func.chn.num, 1), (SESS_FUNC.STATE Func.saf.num, 1), (SESS_FUNC.STATE Func.seq.num, 1), (SESS_FUNC.STATE Func.thw.num, 1), (SESS_FUNC.STEWARD Func.chn.num, 1)] (wired (withSec 0x30 528 [(80, 2), (83, 255)] (up .operator)))), by decide +kernel⟩

theorem witness_ChannelCommandsAndProtection_inrushWindowEnd : ∃ (n : Chn) (s : State),
    (Settled s) :=
  ⟨4, (fun s : State => ({ s with dev := { s.dev with chn := { s.dev.chn with chans := [(4, { Chan.rest with cmd := true, inrush := true })] } } } : State)) (withRegs [(SESS_FUNC.STATE Func.chn.num, 1), (SESS_FUNC.STATE Func.saf.num, 1), (SESS_FUNC.STATE Func.seq.num, 1), (SESS_FUNC.STATE Func.thw.num, 1), (SESS_FUNC.STEWARD Func.chn.num, 1)] (wired (withSec 0x30 528 [(64, 2), (67, 255)] (up .operator)))), by decide +kernel⟩

theorem witness_ChannelCommandsAndProtection_short : ∃ (n : Chn) (s : State),
    (Settled s) ∧ (s.dev.conducts s.mem n.val = true) ∧ (coilOf s.mem n.val = none) :=
  ⟨4, (fun s : State => ({ s with dev := { s.dev with chn := { s.dev.chn with chans := [(4, { Chan.rest with cmd := true })] } } } : State)) (withRegs [(SESS_FUNC.STATE Func.chn.num, 1), (SESS_FUNC.STATE Func.saf.num, 1), (SESS_FUNC.STATE Func.seq.num, 1), (SESS_FUNC.STATE Func.thw.num, 1), (SESS_FUNC.STEWARD Func.chn.num, 1)] (wired (withSec 0x30 528 [(64, 2), (67, 255)] (up .operator)))), by decide +kernel⟩

theorem witness_ChannelCommandsAndProtection_overload : ∃ (n : Chn) (s : State),
    (Settled s) ∧ (s.dev.conducts s.mem n.val = true) ∧ (coilOf s.mem n.val = none) ∧ ((s.dev.chan n.val).inrush = false) :=
  ⟨4, (fun s : State => ({ s with dev := { s.dev with chn := { s.dev.chn with chans := [(4, { Chan.rest with cmd := true })] } } } : State)) (withRegs [(SESS_FUNC.STATE Func.chn.num, 1), (SESS_FUNC.STATE Func.saf.num, 1), (SESS_FUNC.STATE Func.seq.num, 1), (SESS_FUNC.STATE Func.thw.num, 1), (SESS_FUNC.STEWARD Func.chn.num, 1)] (wired (withSec 0x30 528 [(64, 2), (67, 255)] (up .operator)))), by decide +kernel⟩

theorem witness_ChannelCommandsAndProtection_contactorFault : ∃ (c : Instr) (n : Chn) (k : Con) (s : State),
    (Settled s) ∧ (s.dev.conducts s.mem n.val = true) ∧ (coilOf s.mem n.val = some k.val) ∧ (s.dev.coil k.val = true) ∧ (ownerOf k.val < 8) ∧ (s.dev.connected (ownerOf k.val) = true ∨ s.dev.inSequence (ownerOf k.val) = true ∨ s.dev.strState (ownerOf k.val) = 8) ∧ ((c = .chnShort n ∨ c = .chnOverload n ∧ (s.dev.chan n.val).inrush = false ∨
      ∃ g temp limited low currents, c = .otShedStep g temp limited low currents ∧ 15000 ≤ temp ∧
        firstBy (otOrder s.mem limited.toNat low.toNat fun k => (currents.getD k 0).toNat)
          ((outs.filter fun k => groupOfChan k = g.val).filter (s.dev.conducts s.mem)) = some n.val)) ∧ (s.dev.saf.degOut = false) ∧ (s.dev.seq.queue = []) :=
  by
  refine ⟨.chnShort 8, 8, 0, (fun s : State => ({ s with dev := { s.dev with seq := { s.dev.seq with coil := [(0, true)] } } } : State)) (withSec2 0x31 512 [(0, 8), (1, 9), (2, 10), (3, 1)] (withRegs [(SESS_FUNC.STATE Func.chn.num, 1), (SESS_FUNC.STATE Func.saf.num, 1), (SESS_FUNC.STATE Func.seq.num, 1), (SESS_FUNC.STATE Func.thw.num, 1), (SESS_FUNC.STEWARD Func.chn.num, 1), (SEQ_STATE.POS 0, 2), (SEQ_STATE.STATE 0, 6)] (wired (withSec 0x30 528 [(128, 1), (144, 1), (160, 1), (131, 255), (147, 255), (163, 255)] (up .operator))))), by decide +kernel, by decide +kernel, by decide +kernel, by decide +kernel, by decide +kernel, by decide +kernel, Or.inl rfl, by decide +kernel, by decide +kernel⟩

theorem witness_ChannelCommandsAndProtection_openLoad : ∃ (n : Chn) (s : State),
    (Settled s) ∧ (s.dev.conducts s.mem n.val = true) ∧ (s.mem.img.chanOpenDiag n.val = true) ∧ (s.dev.on (CHN_STATE.OPEN_LOAD n.val) = false) :=
  ⟨4, (fun s : State => ({ s with dev := { s.dev with chn := { s.dev.chn with chans := [(4, { Chan.rest with cmd := true })] } } } : State)) (withRegs [(SESS_FUNC.STATE Func.chn.num, 1), (SESS_FUNC.STATE Func.saf.num, 1), (SESS_FUNC.STATE Func.seq.num, 1), (SESS_FUNC.STATE Func.thw.num, 1), (SESS_FUNC.STEWARD Func.chn.num, 1)] (wired (withSec 0x30 528 [(64, 2), (66, 4), (67, 255)] (up .operator)))), by decide +kernel⟩

theorem witness_ShedsRestorationAndSensors_otShedStep : ∃ (group : Fin 9) (n : Chn) (temp : Int) (limited low : BitVec 32) (currents : List (BitVec 16)) (s : State),
    (Settled s) ∧ (15000 ≤ temp) ∧ (firstBy (otOrder s.mem limited.toNat low.toNat fun k => (currents.getD k 0).toNat)
      ((outs.filter fun k => groupOfChan k = group.val).filter (s.dev.conducts s.mem)) = some n.val) ∧ (coilOf s.mem n.val = none) :=
  ⟨1, 5, 15000, 0, 0, [0, 0, 0, 0, 100, 200], (fun s : State => ({ s with dev := { s.dev with chn := { s.dev.chn with chans := [(4, { Chan.rest with cmd := true }), (5, { Chan.rest with cmd := true })] } } } : State)) (withRegs [(SESS_FUNC.STATE Func.chn.num, 1), (SESS_FUNC.STATE Func.saf.num, 1), (SESS_FUNC.STATE Func.seq.num, 1), (SESS_FUNC.STATE Func.thw.num, 1), (SESS_FUNC.STEWARD Func.chn.num, 1)] (wired (withSec 0x30 528 [(64, 2), (80, 2), (67, 255), (83, 255)] (up .operator)))), by decide +kernel⟩

theorem witness_ShedsRestorationAndSensors_groupOff : ∃ (group : Fin 9) (temp : Int) (s : State),
    (Settled s) ∧ (17500 ≤ temp) ∧ (tget false s.dev.chn.hot group.val = false) ∧ (∀ n < 32, groupOfChan n = group.val → coilOf s.mem n = none) :=
  ⟨1, 17500, (fun s : State => ({ s with dev := { s.dev with chn := { s.dev.chn with chans := [(4, { Chan.rest with cmd := true })] } } } : State)) (withRegs [(SESS_FUNC.STATE Func.chn.num, 1), (SESS_FUNC.STATE Func.saf.num, 1), (SESS_FUNC.STATE Func.seq.num, 1), (SESS_FUNC.STATE Func.thw.num, 1), (SESS_FUNC.STEWARD Func.chn.num, 1)] (wired (withSec 0x30 528 [(64, 2), (80, 2), (67, 255), (83, 255)] (up .operator)))), by decide +kernel⟩

theorem witness_ShedsRestorationAndSensors_groupOffContactors : ∃ (group : Fin 9) (temp : Int) (s : State),
    (Settled s) ∧ (17500 ≤ temp) ∧ (tget false s.dev.chn.hot group.val = false) ∧ (s.dev.saf.degOut = false) ∧ (s.dev.seq.queue = []) ∧ (∀ k < 27, s.dev.coil k = true → ownerOf k < 8 ∧ (s.dev.connected (ownerOf k) = true ∨ s.dev.inSequence (ownerOf k) = true ∨
      s.dev.strState (ownerOf k) = 8)) :=
  ⟨2, 17500, (fun s : State => ({ s with dev := { s.dev with seq := { s.dev.seq with coil := [(0, true)] } } } : State)) (withSec2 0x31 512 [(0, 8), (1, 9), (2, 10), (3, 1)] (withRegs [(SESS_FUNC.STATE Func.chn.num, 1), (SESS_FUNC.STATE Func.saf.num, 1), (SESS_FUNC.STATE Func.seq.num, 1), (SESS_FUNC.STATE Func.thw.num, 1), (SESS_FUNC.STEWARD Func.chn.num, 1), (SEQ_STATE.POS 0, 2), (SEQ_STATE.STATE 0, 6)] (wired (withSec 0x30 528 [(128, 1), (144, 1), (160, 1), (131, 255), (147, 255), (163, 255)] (up .operator))))), by decide +kernel⟩

theorem witness_ShedsRestorationAndSensors_groupCooled : ∃ (group : Fin 9) (s : State),
    (Settled s) :=
  ⟨1, (fun s : State => ({ s with dev := { s.dev with chn := { s.dev.chn with chans := [(4, { Chan.rest with cmd := true, ot := true, wait := true })] } } } : State)) (withRegs [(SESS_FUNC.STATE Func.chn.num, 1), (SESS_FUNC.STATE Func.saf.num, 1), (SESS_FUNC.STATE Func.seq.num, 1), (SESS_FUNC.STATE Func.thw.num, 1), (SESS_FUNC.STEWARD Func.chn.num, 1)] (wired (withSec 0x30 528 [(64, 2), (80, 2), (67, 255), (83, 255)] (up .operator)))), by decide +kernel⟩

theorem witness_ShedsRestorationAndSensors_totalShed : ∃ (mean : BitVec 16) (n : Nat) (s : State),
    (Settled s) ∧ (s.dev.alive = true) ∧ (s.dev.works .chn = true) ∧ (40000 < mean.toNat ∨ s.dev.chn.episode = true ∧ 38000 ≤ mean.toNat) ∧ (s.dev.nextShed s.mem = some n) :=
  ⟨40001, 4, (fun s : State => ({ s with dev := { s.dev with chn := { s.dev.chn with chans := [(4, { Chan.rest with cmd := true })] } } } : State)) (withRegs [(SESS_FUNC.STATE Func.chn.num, 1), (SESS_FUNC.STATE Func.saf.num, 1), (SESS_FUNC.STATE Func.seq.num, 1), (SESS_FUNC.STATE Func.thw.num, 1), (SESS_FUNC.STEWARD Func.chn.num, 1)] (wired (withSec 0x30 528 [(64, 2), (65, 1), (67, 255)] (up .operator)))), by decide +kernel⟩

theorem witness_ShedsRestorationAndSensors_totalShedOver : ∃ (mean : BitVec 16) (s : State),
    (Settled s) ∧ (mean.toNat < 38000) :=
  ⟨37999, (fun s : State => ({ s with dev := { s.dev with chn := { s.dev.chn with episode := true } } } : State)) (withRegs [(SESS_FUNC.STATE Func.chn.num, 1), (SESS_FUNC.STATE Func.saf.num, 1), (SESS_FUNC.STATE Func.seq.num, 1), (SESS_FUNC.STATE Func.thw.num, 1), (SESS_FUNC.STEWARD Func.chn.num, 1)] (wired (withSec 0x30 528 [(64, 2), (65, 1), (67, 255)] (up .operator)))), by decide +kernel⟩

theorem witness_ShedsRestorationAndSensors_totalShedReturn : ∃ (s : State),
    (Settled s) :=
  ⟨(fun s : State => ({ s with dev := { s.dev with chn := { s.dev.chn with chans := [(4, { Chan.rest with cmd := true, total := true, wait := true })] } } } : State)) (withRegs [(SESS_FUNC.STATE Func.chn.num, 1), (SESS_FUNC.STATE Func.saf.num, 1), (SESS_FUNC.STATE Func.seq.num, 1), (SESS_FUNC.STATE Func.thw.num, 1), (SESS_FUNC.STEWARD Func.chn.num, 1)] (wired (withSec 0x30 528 [(64, 2), (67, 255)] (up .operator)))), by decide +kernel⟩

theorem witness_ShedsRestorationAndSensors_restoreStagger : ∃ (n : Nat) (s : State),
    (Settled s) ∧ (s.dev.outputsOn = true) ∧ (s.dev.pwr.sup = .running) ∧ ((outs.find? fun k => (s.dev.chan k).wait && !(s.dev.chan k).held && s.dev.demand s.mem k && !s.dev.blocked s.mem k) = some n) :=
  ⟨5, (fun s : State => ({ s with dev := { s.dev with chn := { s.dev.chn with chans := [(4, { Chan.rest with cmd := true, wait := true, ot := true }), (5, { Chan.rest with cmd := true, wait := true })] } } } : State)) (withRegs [(SESS_FUNC.STATE Func.chn.num, 1), (SESS_FUNC.STATE Func.saf.num, 1), (SESS_FUNC.STATE Func.seq.num, 1), (SESS_FUNC.STATE Func.thw.num, 1), (SESS_FUNC.STEWARD Func.chn.num, 1)] (wired (withSec 0x30 528 [(64, 2), (67, 255), (80, 2), (83, 255)] (up .operator)))), by decide +kernel⟩

theorem witness_ShedsRestorationAndSensors_pwminEdge : ∃ (pin : Fin 4) (high : Bool) (s : State),
    (Settled s) :=
  ⟨2, true, withRegs [(SESS_FUNC.STATE Func.chn.num, 1), (SESS_FUNC.STATE Func.saf.num, 1), (SESS_FUNC.STATE Func.seq.num, 1), (SESS_FUNC.STATE Func.thw.num, 1), (SESS_FUNC.STEWARD Func.chn.num, 1)] (wired (withSec 0x30 528 [(64, 2), (67, 2)] (up .operator))), by decide +kernel⟩

theorem witness_ShedsRestorationAndSensors_envSensorPoll : ∃ (tcase dew rh : BitVec 16) (s : State),
    (Settled s) ∧ (s.dev.alive = true) :=
  ⟨2500, 2300, 5000, withRegs [(SESS_FUNC.STATE Func.chn.num, 1), (SESS_FUNC.STATE Func.saf.num, 1), (SESS_FUNC.STATE Func.seq.num, 1), (SESS_FUNC.STATE Func.thw.num, 1), (SESS_FUNC.STEWARD Func.chn.num, 1), (CHN_CFG.DEW_ON, 30), (CHN_CFG.DEW_OFF, 50)] (wired (withSec 0x30 528 [(64, 3), (67, 255)] (up .operator))), by decide +kernel⟩

theorem witness_ShedsRestorationAndSensors_envSensorTimeout : ∃ (s : State),
    (Settled s) ∧ (s.dev.alive = true) :=
  ⟨withRegs [(SESS_FUNC.STATE Func.chn.num, 1), (SESS_FUNC.STATE Func.saf.num, 1), (SESS_FUNC.STATE Func.seq.num, 1), (SESS_FUNC.STATE Func.thw.num, 1), (SESS_FUNC.STEWARD Func.chn.num, 1)] (wired (withSec 0x30 528 [(64, 3), (67, 255)] (up .operator))), by decide +kernel⟩

theorem witness_ShedsRestorationAndSensors_continuityPasses : ∃ (s : State),
    (Settled s) ∧ (s.dev.seq.firing = false) :=
  ⟨withRegs [(SESS_FUNC.STATE Func.chn.num, 1), (SESS_FUNC.STATE Func.saf.num, 1), (SESS_FUNC.STATE Func.seq.num, 1), (SESS_FUNC.STATE Func.thw.num, 1), (SESS_FUNC.STEWARD Func.chn.num, 1), (CHN_SHUNT.OPEN, 1)] (wired (withSec 0x30 528 [(64, 3), (67, 255)] (up .operator))), by decide +kernel⟩

theorem witness_ShedsRestorationAndSensors_continuityFails : ∃ (s : State),
    (Settled s) ∧ (s.dev.seq.firing = false) :=
  ⟨(fun s : State => ({ s with dev := { s.dev with chn := { s.dev.chn with contFails := 1 } } } : State)) (withRegs [(SESS_FUNC.STATE Func.chn.num, 1), (SESS_FUNC.STATE Func.saf.num, 1), (SESS_FUNC.STATE Func.seq.num, 1), (SESS_FUNC.STATE Func.thw.num, 1), (SESS_FUNC.STEWARD Func.chn.num, 1)] (wired (withSec 0x30 528 [(64, 3), (67, 255)] (up .operator)))), by decide +kernel⟩

theorem witness_ShedsRestorationAndSensors_compensationPeriod : ∃ (n : Chn) (vaux : BitVec 16) (s : State),
    (Settled s) ∧ (s.dev.pwr.sup ≠ .holdThrough) ∧ (s.dev.compActive = true) ∧ (s.mem.img.chanComp n.val = true) ∧ (s.dev.demand s.mem n.val = true) ∧ ((s.dev.chan n.val).held = false) ∧ (vaux ≠ 0) :=
  ⟨4, 27600, (fun s : State => ({ s with dev := { s.dev with chn := { s.dev.chn with chans := [(4, { Chan.rest with cmd := true })] } } } : State)) (withRegs [(SESS_FUNC.STATE Func.chn.num, 1), (SESS_FUNC.STATE Func.saf.num, 1), (SESS_FUNC.STATE Func.seq.num, 1), (SESS_FUNC.STATE Func.thw.num, 1), (SESS_FUNC.STEWARD Func.chn.num, 1), (PWR_STATUS.CAL_ACTIVE, 1)] (wired (withSec 0x30 528 [(64, 2), (66, 2), (68, 200), (67, 255)] (up .operator)))), by decide +kernel⟩

theorem witness_ShedsRestorationAndSensors_compensationEnds : ∃ (n : Chn) (vaux : BitVec 16) (s : State),
    (Settled s) ∧ (s.dev.pwr.sup ≠ .holdThrough) ∧ (s.dev.compActive = false ∨ s.mem.img.chanComp n.val = false ∨ s.dev.demand s.mem n.val = false ∨ (s.dev.chan n.val).held = true) :=
  ⟨4, 27600, (fun s : State => ({ s with dev := { s.dev with chn := { s.dev.chn with chans := [(4, { Chan.rest with cmd := true, pulsed := true, held := true })] } } } : State)) (withRegs [(SESS_FUNC.STATE Func.chn.num, 1), (SESS_FUNC.STATE Func.saf.num, 1), (SESS_FUNC.STATE Func.seq.num, 1), (SESS_FUNC.STATE Func.thw.num, 1), (SESS_FUNC.STEWARD Func.chn.num, 1), (PWR_STATUS.CAL_ACTIVE, 1)] (wired (withSec 0x30 528 [(64, 2), (66, 2), (68, 200), (67, 255)] (up .operator)))), by decide +kernel⟩

theorem witness_ShedsRestorationAndSensors_compensationHolds : ∃ (n : Chn) (vaux : BitVec 16) (s : State),
    (Settled s) ∧ (s.dev.pwr.sup = .holdThrough) :=
  ⟨4, 27600, (fun s : State => ({ s with dev := { s.dev with pwr := { s.dev.pwr with sup := .holdThrough } } } : State)) (withRegs [(SESS_FUNC.STATE Func.chn.num, 1), (SESS_FUNC.STATE Func.saf.num, 1), (SESS_FUNC.STATE Func.seq.num, 1), (SESS_FUNC.STATE Func.thw.num, 1), (SESS_FUNC.STEWARD Func.chn.num, 1)] (wired (withSec 0x30 528 [(64, 2), (67, 255)] (up .operator)))), by decide +kernel⟩

theorem witness_TimeCommandsAndTheServoSteerDomains_step : ∃ (sid : Sid) (k : Dom) (s : State),
    (Settled s) ∧ (Heard sid s) ∧ (s.dev.isSteward sid .time = true) ∧ (s.dev.source k.val = srcHost) ∧ (s.dev.redundant k.val = false) ∧ ((s.dev.dom k.val).stepped = false ∨ 2 ≤ k.val ∧ mag (s.dev.stagedStep : Rat) ≤ s.dev.jumpThresh k.val) ∧ (s.dev.cue.list = []) :=
  ⟨1, 2, (fun s : State => ({ s with dev := { s.dev with time := { s.dev.time with doms := [(2, { Domain.start with stepped := true, count := 2 ^ 54 })] } } } : State)) (withRegs [(SESS_FUNC.STATE Func.time.num, 1), (SESS_FUNC.STATE Func.net.num, 1), (SESS_FUNC.STEWARD Func.time.num, 1), (TIME_JUMP.JUMP_THRESH 0, 1000000), (TIME_JUMP.JUMP_THRESH 1, 1000000), (TIME_DCFG.SOURCE 2, 2), (TIME_STEP_NS.NS, 1000), (TIME_STEP_SEC1.NEG, 1)] (withSec 0x50 160 [(0, 1), (32, 1)] (up .operator))), by decide +kernel⟩

theorem witness_TimeCommandsAndTheServoSteerDomains_commandsRefused : ∃ (c : Instr) (sid : Sid) (k : Dom) (v : Word) (r a : Nat) (s : State),
    (Settled s) ∧ (Heard sid s) ∧ (s.dev.isSteward sid .time = true) ∧ (r ≠ 0) ∧ (c = .timeIncr sid k v ∧ a = (TIME_INCR.INCR k.val).addr ∧ r = (if s.dev.source k.val = srcPtp then 4
        else if v.toNat < 0x09FFBE77 ∨ 0x0A004189 < v.toNat then 3 else 0)) :=
  ⟨.timeIncr 1 1 0x0A00418A, 1, 1, 0x0A00418A, 3, (TIME_INCR.INCR 1).addr, withRegs [(SESS_FUNC.STATE Func.time.num, 1), (SESS_FUNC.STATE Func.net.num, 1), (SESS_FUNC.STEWARD Func.time.num, 1), (TIME_JUMP.JUMP_THRESH 0, 1000000), (TIME_JUMP.JUMP_THRESH 1, 1000000), (TIME_DCFG.SOURCE 1, 2)] (withSec 0x50 160 [(0, 1), (32, 1)] (up .operator)), by decide +kernel⟩

theorem witness_TimeCommandsAndTheServoSteerDomains_commandsRefusedStep : ∃ (sid : Sid) (s : State),
    (Settled s) ∧ (Heard sid s) ∧ (s.dev.isSteward sid .time = true) ∧ (s.dev.source 0 = srcNone) :=
  ⟨1, withRegs [(SESS_FUNC.STATE Func.time.num, 1), (SESS_FUNC.STATE Func.net.num, 1), (SESS_FUNC.STEWARD Func.time.num, 1), (TIME_JUMP.JUMP_THRESH 0, 1000000), (TIME_JUMP.JUMP_THRESH 1, 1000000)] (withSec 0x50 160 [(0, 1), (32, 1)] (up .operator)), by decide +kernel⟩

theorem witness_TimeCommandsAndTheServoSteerDomains_resync : ∃ (sid : Sid) (k : Dom) (s : State),
    (Settled s) ∧ (Heard sid s) ∧ (s.dev.isSteward sid .time = true) ∧ (2 ≤ k.val) ∧ (s.dev.source k.val = srcPtp) :=
  ⟨1, 3, withRegs [(SESS_FUNC.STATE Func.time.num, 1), (SESS_FUNC.STATE Func.net.num, 1), (SESS_FUNC.STEWARD Func.time.num, 1), (TIME_JUMP.JUMP_THRESH 0, 1000000), (TIME_JUMP.JUMP_THRESH 1, 1000000), (TIME_DCFG.SOURCE 3, 1)] (withSec 0x50 160 [(0, 1), (32, 1)] (up .operator)), by decide +kernel⟩

theorem witness_TimeCommandsAndTheServoSteerDomains_timeIncr : ∃ (sid : Sid) (k : Dom) (value : Word) (s : State),
    (Settled s) ∧ (Heard sid s) ∧ (s.dev.isSteward sid .time = true) ∧ (s.dev.source k.val ≠ srcPtp) ∧ (0x09FFBE77 ≤ value.toNat ∧ value.toNat ≤ 0x0A004189) :=
  ⟨1, 1, 0x0A004189, withRegs [(SESS_FUNC.STATE Func.time.num, 1), (SESS_FUNC.STATE Func.net.num, 1), (SESS_FUNC.STEWARD Func.time.num, 1), (TIME_JUMP.JUMP_THRESH 0, 1000000), (TIME_JUMP.JUMP_THRESH 1, 1000000), (TIME_DCFG.SOURCE 1, 2)] (withSec 0x50 160 [(0, 1), (32, 1)] (up .operator)), by decide +kernel⟩

theorem witness_TimeCommandsAndTheServoSteerDomains_firstMeasurement : ∃ (eth : Eth) (dom : Byte) (id : BitVec 16) (origin corr : Int) (k : Dom) (o : Rat) (s : State),
    (Settled s) ∧ (s.mem.img.tcEn = false) ∧ (s.dev.slavePort s.mem eth.val = true) ∧ (s.dev.runs .time = true) ∧ (s.dev.redundant k.val = false) ∧ (∀ j < 4, s.dev.servedBy j eth.val dom.toNat = true ↔ j = k.val) ∧ (o = ((origin + corr + (s.dev.ptp eth.val).delay : Int) : Rat) - ((s.dev.dom k.val).count : Rat) / 16777216) ∧ ((s.dev.dom k.val).stepped = false) ∧ (s.dev.cue.list = []) :=
  ⟨0, 0, 7, 1000000000000, 0, 0, 1000000000000, withRegs [(SESS_FUNC.STATE Func.time.num, 1), (SESS_FUNC.STATE Func.net.num, 1), (SESS_FUNC.STEWARD Func.time.num, 1), (TIME_JUMP.JUMP_THRESH 0, 1000000), (TIME_JUMP.JUMP_THRESH 1, 1000000), (TIME_DCFG.SOURCE 0, 1)] (withSec 0x50 160 [(0, 1), (32, 1)] (up .operator)), by decide +kernel⟩

theorem witness_TimeCommandsAndTheServoSteerDomains_tracked : ∃ (eth : Eth) (dom : Byte) (id : BitVec 16) (origin corr : Int) (k : Dom) (o tm : Rat) (s : State),
    (Settled s) ∧ (s.mem.img.tcEn = false) ∧ (s.dev.slavePort s.mem eth.val = true) ∧ (s.dev.runs .time = true) ∧ (s.dev.redundant k.val = false) ∧ (∀ j < 4, s.dev.servedBy j eth.val dom.toNat = true ↔ j = k.val) ∧ (o = ((origin + corr + (s.dev.ptp eth.val).delay : Int) : Rat) - ((s.dev.dom k.val).count : Rat) / 16777216) ∧ ((s.dev.dom k.val).stepped = true) ∧ ((s.dev.dom k.val).resync = false) ∧ ((s.dev.dom k.val).slewTo = none) ∧ ((s.dev.trk k.val).jump = false ∧ (s.dev.trk k.val).restart = false) ∧ (tm = ((s.dev.clk - (s.dev.trk k.val).last : Nat) : Rat) / 100000000) ∧ (0 < tm) ∧ (mag (o - ((s.dev.trk k.val).prev - ((s.dev.dom k.val).ppb - (s.dev.trk k.val).y) * tm)) ≤ s.dev.jumpThresh k.val) ∧ (k.val < 2 ∨ mag o ≤ 10000) :=
  ⟨0, 0, 7, 640, 0, 0, 640, 1, (fun s => { s with dev := { s.dev with clk := 100000001 } }) ((fun s : State => ({ s with dev := { s.dev with time := { s.dev.time with doms := [(0, { Domain.start with stepped := true, state := 2 })], trk := [(0, { Tracker.start with last := 1 })] } } } : State)) (withRegs [(SESS_FUNC.STATE Func.time.num, 1), (SESS_FUNC.STATE Func.net.num, 1), (SESS_FUNC.STEWARD Func.time.num, 1), (TIME_JUMP.JUMP_THRESH 0, 1000000), (TIME_JUMP.JUMP_THRESH 1, 1000000), (TIME_DCFG.SOURCE 0, 1), (TIME_INCR.INCR 0, 0x0A000000)] (withSec 0x50 160 [(0, 1), (32, 1)] (up .operator)))), by decide +kernel⟩

theorem witness_TimeCommandsAndTheServoSteerDomains_generalStepped : ∃ (eth : Eth) (dom : Byte) (id : BitVec 16) (origin corr : Int) (k : Dom) (o tm : Rat) (s : State),
    (Settled s) ∧ (s.mem.img.tcEn = false) ∧ (s.dev.slavePort s.mem eth.val = true) ∧ (s.dev.runs .time = true) ∧ (s.dev.redundant k.val = false) ∧ (∀ j < 4, s.dev.servedBy j eth.val dom.toNat = true ↔ j = k.val) ∧ (o = ((origin + corr + (s.dev.ptp eth.val).delay : Int) : Rat) - ((s.dev.dom k.val).count : Rat) / 16777216) ∧ ((s.dev.dom k.val).stepped = true) ∧ ((s.dev.dom k.val).resync = false) ∧ ((s.dev.dom k.val).slewTo = none) ∧ ((s.dev.trk k.val).jump = false ∧ (s.dev.trk k.val).restart = false) ∧ (tm = ((s.dev.clk - (s.dev.trk k.val).last : Nat) : Rat) / 100000000) ∧ (0 < tm) ∧ (mag (o - ((s.dev.trk k.val).prev - ((s.dev.dom k.val).ppb - (s.dev.trk k.val).y) * tm)) ≤ s.dev.jumpThresh k.val) ∧ (2 ≤ k.val) ∧ (10000 < mag o) ∧ (s.dev.cue.list = []) :=
  ⟨0, 0, 7, 20000, 0, 2, 20000, 1, (fun s => { s with dev := { s.dev with clk := 100000001 } }) ((fun s : State => ({ s with dev := { s.dev with time := { s.dev.time with doms := [(2, { Domain.start with stepped := true, state := 2 })], trk := [(2, { Tracker.start with last := 1 })] } } } : State)) (withRegs [(SESS_FUNC.STATE Func.time.num, 1), (SESS_FUNC.STATE Func.net.num, 1), (SESS_FUNC.STEWARD Func.time.num, 1), (TIME_JUMP.JUMP_THRESH 0, 1000000), (TIME_JUMP.JUMP_THRESH 1, 1000000), (TIME_DCFG.SOURCE 2, 1), (TIME_INCR.INCR 0, 0x0A000000)] (withSec 0x50 160 [(0, 1), (32, 1)] (up .operator)))), by decide +kernel⟩

theorem witness_TimeCommandsAndTheServoSteerDomains_jumped : ∃ (eth : Eth) (dom : Byte) (id : BitVec 16) (origin corr : Int) (k : Dom) (o tm : Rat) (s : State),
    (Settled s) ∧ (s.mem.img.tcEn = false) ∧ (s.dev.slavePort s.mem eth.val = true) ∧ (s.dev.runs .time = true) ∧ (s.dev.redundant k.val = false) ∧ (∀ j < 4, s.dev.servedBy j eth.val dom.toNat = true ↔ j = k.val) ∧ (o = ((origin + corr + (s.dev.ptp eth.val).delay : Int) : Rat) - ((s.dev.dom k.val).count : Rat) / 16777216) ∧ ((s.dev.dom k.val).stepped = true) ∧ ((s.dev.dom k.val).resync = false) ∧ ((s.dev.dom k.val).slewTo = none) ∧ ((s.dev.trk k.val).jump = false ∧ (s.dev.trk k.val).restart = false) ∧ (tm = ((s.dev.clk - (s.dev.trk k.val).last : Nat) : Rat) / 100000000) ∧ (0 < tm) ∧ (s.dev.jumpThresh k.val < mag (o - ((s.dev.trk k.val).prev - ((s.dev.dom k.val).ppb - (s.dev.trk k.val).y) * tm))) :=
  ⟨0, 0, 7, 2000000, 0, 0, 2000000, 1, (fun s => { s with dev := { s.dev with clk := 100000001 } }) ((fun s : State => ({ s with dev := { s.dev with time := { s.dev.time with doms := [(0, { Domain.start with stepped := true, state := 2 })], trk := [(0, { Tracker.start with last := 1 })] } } } : State)) (withRegs [(SESS_FUNC.STATE Func.time.num, 1), (SESS_FUNC.STATE Func.net.num, 1), (SESS_FUNC.STEWARD Func.time.num, 1), (TIME_JUMP.JUMP_THRESH 0, 1000000), (TIME_JUMP.JUMP_THRESH 1, 1000000), (TIME_DCFG.SOURCE 0, 1), (TIME_INCR.INCR 0, 0x0A000000)] (withSec 0x50 160 [(0, 1), (32, 1)] (up .operator)))), by decide +kernel⟩

theorem witness_TimeCommandsAndTheServoSteerDomains_twoStepSync : ∃ (eth : Eth) (dom : Byte) (id : BitVec 16) (origin corr : Int) (s : State),
    (Settled s) ∧ (s.mem.img.tcEn = false) ∧ (s.dev.slavePort s.mem eth.val = true) ∧ (s.dev.servesAny eth.val dom.toNat = true) :=
  ⟨0, 0, 7, 640, 5, (fun s => { s with dev := { s.dev with clk := 100000001 } }) ((fun s : State => ({ s with dev := { s.dev with time := { s.dev.time with doms := [(0, { Domain.start with stepped := true, state := 2 })], trk := [(0, { Tracker.start with last := 1 })] } } } : State)) (withRegs [(SESS_FUNC.STATE Func.time.num, 1), (SESS_FUNC.STATE Func.net.num, 1), (SESS_FUNC.STEWARD Func.time.num, 1), (TIME_JUMP.JUMP_THRESH 0, 1000000), (TIME_JUMP.JUMP_THRESH 1, 1000000), (TIME_DCFG.SOURCE 0, 1), (TIME_INCR.INCR 0, 0x0A000000)] (withSec 0x50 160 [(0, 1), (32, 1)] (up .operator)))), by decide +kernel⟩

theorem witness_TimeCommandsAndTheServoSteerDomains_followUp : ∃ (eth : Eth) (dom : Byte) (id : BitVec 16) (origin corr c : Int) (at_ : List Rat) (k : Dom) (o : Rat) (s : State),
    (Settled s) ∧ (s.mem.img.tcEn = false) ∧ (s.dev.slavePort s.mem eth.val = true) ∧ (s.dev.runs .time = true) ∧ (s.dev.redundant k.val = false) ∧ (∀ j < 4, s.dev.servedBy j eth.val dom.toNat = true ↔ j = k.val) ∧ ((s.dev.ptp eth.val).sync = some (dom.toNat, id.toNat, c, at_)) ∧ (at_.length = 5) ∧ (o = ((origin + c + corr + (s.dev.ptp eth.val).delay : Int) : Rat) - at_.getD k.val 0) ∧ ((s.dev.dom k.val).stepped = false) ∧ (s.dev.cue.list = []) :=
  ⟨0, 0, 7, 1000, 5, 3, [8, 0, 0, 0, 0], 0, 1000, (fun s : State => ({ s with dev := { s.dev with time := { s.dev.time with ptp := [(0, { PtpSt.start with sync := some (0, 7, 3, [8, 0, 0, 0, 0]) })] } } } : State)) (withRegs [(SESS_FUNC.STATE Func.time.num, 1), (SESS_FUNC.STATE Func.net.num, 1), (SESS_FUNC.STEWARD Func.time.num, 1), (TIME_JUMP.JUMP_THRESH 0, 1000000), (TIME_JUMP.JUMP_THRESH 1, 1000000), (TIME_DCFG.SOURCE 0, 1)] (withSec 0x50 160 [(0, 1), (32, 1)] (up .operator))), by decide +kernel⟩

theorem witness_TimeCommandsAndTheServoSteerDomains_masterLost : ∃ (k : Dom) (s : State),
    (Settled s) ∧ (s.dev.alive = true) ∧ (s.dev.works .time = true) ∧ (s.dev.source k.val = srcPtp) ∧ ((s.dev.trk k.val).lost = false) ∧ (s.dev.redundant k.val = false) :=
  ⟨0, (fun s => { s with dev := { s.dev with clk := 100000001 } }) ((fun s : State => ({ s with dev := { s.dev with time := { s.dev.time with doms := [(0, { Domain.start with stepped := true, state := 2 })], trk := [(0, { Tracker.start with last := 1 })] } } } : State)) (withRegs [(SESS_FUNC.STATE Func.time.num, 1), (SESS_FUNC.STATE Func.net.num, 1), (SESS_FUNC.STEWARD Func.time.num, 1), (TIME_JUMP.JUMP_THRESH 0, 1000000), (TIME_JUMP.JUMP_THRESH 1, 1000000), (TIME_DCFG.SOURCE 0, 1), (TIME_INCR.INCR 0, 0x0A000000)] (withSec 0x50 160 [(0, 1), (32, 1)] (up .operator)))), by decide +kernel⟩

theorem witness_PtpMessagesAreServedAndForwarded_announce : ∃ (eth : Eth) (dom : Byte) (s : State),
    (Settled s) ∧ (s.mem.img.tcEn = false) ∧ (s.dev.slavePort s.mem eth.val = true) ∧ (s.dev.servesAny eth.val dom.toNat = true) ∧ (s.dev.rd (TIME_PTP.STATE eth.val) = 4) :=
  ⟨0, 0, withRegs [(SESS_FUNC.STATE Func.time.num, 1), (SESS_FUNC.STATE Func.net.num, 1), (SESS_FUNC.STEWARD Func.time.num, 1), (TIME_JUMP.JUMP_THRESH 0, 1000000), (TIME_JUMP.JUMP_THRESH 1, 1000000), (TIME_DCFG.SOURCE 0, 1), (TIME_PTP.STATE 0, 4)] (withSec 0x50 160 [(0, 1), (32, 1)] (up .operator)), by decide +kernel⟩

theorem witness_PtpMessagesAreServedAndForwarded_delayReq : ∃ (eth : Eth) (dom : Byte) (id : BitVec 16) (corr : Int) (s : State),
    (Settled s) ∧ (s.mem.img.tcEn = false) ∧ (s.dev.ptpOn s.mem eth.val = true) ∧ (1 ≤ s.mem.img.ptpRole eth.val) ∧ (peerToPeer s.mem eth.val = false) ∧ (s.dev.rd (TIME_DCFG.PTP_DOMAIN (s.mem.img.ptpRole eth.val - 1)) = dom.toNat) :=
  ⟨0, 0, 7, 5, (fun s : State => ({ s with dev := { s.dev with time := { s.dev.time with doms := [(0, { Domain.start with count := 2 ^ 54 })] } } } : State)) (withRegs [(SESS_FUNC.STATE Func.time.num, 1), (SESS_FUNC.STATE Func.net.num, 1), (SESS_FUNC.STEWARD Func.time.num, 1), (TIME_JUMP.JUMP_THRESH 0, 1000000), (TIME_JUMP.JUMP_THRESH 1, 1000000)] (withSec 0x50 160 [(0, 1), (32, 1), (34, 1), (41, 6), (42, 7)] (up .operator))), by decide +kernel⟩

theorem witness_PtpMessagesAreServedAndForwarded_delayResp : ∃ (eth : Eth) (dom : Byte) (id : BitVec 16) (received corr : Int) (diff t3 : List Rat) (v : Rat) (s : State),
    (Settled s) ∧ (s.mem.img.tcEn = false) ∧ (s.dev.slavePort s.mem eth.val = true) ∧ (peerToPeer s.mem eth.val = false) ∧ (s.dev.servesAny eth.val dom.toNat = true) ∧ ((s.dev.ptp eth.val).req = some (id.toNat, t3)) ∧ ((s.dev.ptp eth.val).diff = some diff) ∧ (v = (diff.getD (s.dev.msgClock eth.val dom.toNat) 0 + ((received - corr : Int) - t3.getD (s.dev.msgClock eth.val dom.toNat) 0)) / 2) :=
  ⟨0, 0, 7, 1400, 0, [400, 1, 1, 1, 1], [100, 2, 2, 2, 2], 850, (fun s : State => ({ s with dev := { s.dev with time := { s.dev.time with ptp := [(0, { PtpSt.start with req := some (7, [100, 2, 2, 2, 2]), diff := some [400, 1, 1, 1, 1] })] } } } : State)) (withRegs [(SESS_FUNC.STATE Func.time.num, 1), (SESS_FUNC.STATE Func.net.num, 1), (SESS_FUNC.STEWARD Func.time.num, 1), (TIME_JUMP.JUMP_THRESH 0, 1000000), (TIME_JUMP.JUMP_THRESH 1, 1000000), (TIME_DCFG.SOURCE 0, 1)] (withSec 0x50 160 [(0, 1), (32, 1)] (up .operator))), by decide +kernel⟩

theorem witness_PtpMessagesAreServedAndForwarded_pdelayReq : ∃ (eth : Eth) (dom : Byte) (id : BitVec 16) (s : State),
    (Settled s) ∧ (s.dev.ptpOn s.mem eth.val = true) ∧ (peerToPeer s.mem eth.val = true) :=
  ⟨0, 0, 7, withRegs [(SESS_FUNC.STATE Func.time.num, 1), (SESS_FUNC.STATE Func.net.num, 1), (SESS_FUNC.STEWARD Func.time.num, 1), (TIME_JUMP.JUMP_THRESH 0, 1000000), (TIME_JUMP.JUMP_THRESH 1, 1000000)] (withSec 0x50 160 [(0, 1), (32, 2)] (up .operator)), by decide +kernel⟩

theorem witness_PtpMessagesAreServedAndForwarded_pdelayResp : ∃ (eth : Eth) (dom : Byte) (twoStep : Bool) (id : BitVec 16) (turnaround : Int) (t1 : List Rat) (v : Rat) (s : State),
    (Settled s) ∧ (s.dev.ptpOn s.mem eth.val = true) ∧ (peerToPeer s.mem eth.val = true) ∧ ((s.dev.ptp eth.val).preq = some (id.toNat, t1)) ∧ (v = s.dev.stamp.getD (s.dev.portClock s.mem eth.val) 0 - t1.getD (s.dev.portClock s.mem eth.val) 0 - turnaround) :=
  ⟨0, 0, false, 7, 100, [9, 9, 9, 9, 500], 400, (fun s : State => ({ s with dev := { s.dev with clk := 100, time := { s.dev.time with ptp := [(0, { PtpSt.start with preq := some (7, [9, 9, 9, 9, 500]) })] } } } : State)) (withRegs [(SESS_FUNC.STATE Func.time.num, 1), (SESS_FUNC.STATE Func.net.num, 1), (SESS_FUNC.STEWARD Func.time.num, 1), (TIME_JUMP.JUMP_THRESH 0, 1000000), (TIME_JUMP.JUMP_THRESH 1, 1000000)] (withSec 0x50 160 [(0, 1), (32, 2)] (up .operator))), by decide +kernel⟩

theorem witness_PtpMessagesAreServedAndForwarded_pdelayRespFollowUp : ∃ (eth : Eth) (dom : Byte) (id : BitVec 16) (turnaround : Int) (v : Rat) (s : State),
    (Settled s) ∧ (s.dev.ptpOn s.mem eth.val = true) ∧ (peerToPeer s.mem eth.val = true) ∧ ((s.dev.ptp eth.val).presp = some (id.toNat, v)) :=
  ⟨0, 0, 7, 100, 500, (fun s : State => ({ s with dev := { s.dev with time := { s.dev.time with ptp := [(0, { PtpSt.start with presp := some (7, 500) })] } } } : State)) (withRegs [(SESS_FUNC.STATE Func.time.num, 1), (SESS_FUNC.STATE Func.net.num, 1), (SESS_FUNC.STEWARD Func.time.num, 1), (TIME_JUMP.JUMP_THRESH 0, 1000000), (TIME_JUMP.JUMP_THRESH 1, 1000000)] (withSec 0x50 160 [(0, 1), (32, 2)] (up .operator))), by decide +kernel⟩

theorem witness_PtpMessagesAreServedAndForwarded_syncSent : ∃ (eth : Eth) (s : State),
    (Settled s) ∧ (s.dev.ptpOn s.mem eth.val = true) ∧ (1 ≤ s.mem.img.ptpRole eth.val) :=
  ⟨0, (fun s : State => ({ s with dev := { s.dev with time := { s.dev.time with doms := [(0, { Domain.start with count := 2 ^ 54 + 300 })] } } } : State)) (withRegs [(SESS_FUNC.STATE Func.time.num, 1), (SESS_FUNC.STATE Func.net.num, 1), (SESS_FUNC.STEWARD Func.time.num, 1), (TIME_JUMP.JUMP_THRESH 0, 1000000), (TIME_JUMP.JUMP_THRESH 1, 1000000)] (withSec 0x50 160 [(0, 1), (32, 1), (34, 1), (41, 6), (42, 7)] (up .operator))), by decide +kernel⟩

theorem witness_PtpMessagesAreServedAndForwarded_announceSent : ∃ (eth : Eth) (s : State),
    (Settled s) ∧ (s.dev.ptpOn s.mem eth.val = true) ∧ (1 ≤ s.mem.img.ptpRole eth.val) :=
  ⟨0, (fun s : State => ({ s with dev := { s.dev with time := { s.dev.time with doms := [(0, { Domain.start with state := 4 })] } } } : State)) (withRegs [(SESS_FUNC.STATE Func.time.num, 1), (SESS_FUNC.STATE Func.net.num, 1), (SESS_FUNC.STEWARD Func.time.num, 1), (TIME_JUMP.JUMP_THRESH 0, 1000000), (TIME_JUMP.JUMP_THRESH 1, 1000000)] (withSec 0x50 160 [(0, 1), (32, 1), (34, 1), (41, 6), (42, 7)] (up .operator))), by decide +kernel⟩

theorem witness_PtpMessagesAreServedAndForwarded_delayReqSent : ∃ (eth : Eth) (s : State),
    (Settled s) ∧ (s.dev.ptpOn s.mem eth.val = true) ∧ (s.mem.img.ptpRole eth.val = 0) ∧ (peerToPeer s.mem eth.val = false) ∧ (s.dev.portClock s.mem eth.val < 4) :=
  ⟨0, withRegs [(SESS_FUNC.STATE Func.time.num, 1), (SESS_FUNC.STATE Func.net.num, 1), (SESS_FUNC.STEWARD Func.time.num, 1), (TIME_JUMP.JUMP_THRESH 0, 1000000), (TIME_JUMP.JUMP_THRESH 1, 1000000), (TIME_DCFG.SOURCE 2, 1), (TIME_DCFG.PTP_DOMAIN 2, 9)] (withSec 0x50 160 [(0, 1), (32, 1)] (up .operator)), by decide +kernel⟩

theorem witness_PtpMessagesAreServedAndForwarded_pdelayReqSent : ∃ (eth : Eth) (s : State),
    (Settled s) ∧ (s.dev.ptpOn s.mem eth.val = true) ∧ (peerToPeer s.mem eth.val = true) ∧ (s.dev.portClock s.mem eth.val < 4) :=
  ⟨0, withRegs [(SESS_FUNC.STATE Func.time.num, 1), (SESS_FUNC.STATE Func.net.num, 1), (SESS_FUNC.STEWARD Func.time.num, 1), (TIME_JUMP.JUMP_THRESH 0, 1000000), (TIME_JUMP.JUMP_THRESH 1, 1000000), (TIME_DCFG.SOURCE 2, 1), (TIME_DCFG.PTP_DOMAIN 2, 9)] (withSec 0x50 160 [(0, 1), (32, 2)] (up .operator)), by decide +kernel⟩

theorem witness_PtpMessagesAreServedAndForwarded_management : ∃ (eth : Eth) (s : State),
    (Settled s) :=
  ⟨0, withRegs [(SESS_FUNC.STATE Func.time.num, 1), (SESS_FUNC.STATE Func.net.num, 1), (SESS_FUNC.STEWARD Func.time.num, 1), (TIME_JUMP.JUMP_THRESH 0, 1000000), (TIME_JUMP.JUMP_THRESH 1, 1000000)] (withSec 0x50 160 [(0, 1), (3, 1), (32, 1)] (up .operator)), by decide +kernel⟩

theorem witness_PtpMessagesAreServedAndForwarded_syncForwarded : ∃ (eth : Eth) (dom : Byte) (twoStep : Bool) (id : BitVec 16) (origin corr : Int) (s : State),
    (Settled s) ∧ (s.dev.forwards s.mem eth.val = true) ∧ (s.mem.img.ptpProfile eth.val = 0) :=
  ⟨0, 0, true, 7, 0, 0, withRegs [(SESS_FUNC.STATE Func.time.num, 1), (SESS_FUNC.STATE Func.net.num, 1), (SESS_FUNC.STEWARD Func.time.num, 1), (TIME_JUMP.JUMP_THRESH 0, 1000000), (TIME_JUMP.JUMP_THRESH 1, 1000000)] (withSec 0x50 160 [(0, 1), (3, 1)] (up .operator)), by decide +kernel⟩

theorem witness_CueEntriesAndFrameSlots_cueWrite : ∃ (sid : Sid) (index : CueIx) (s : State),
    (Settled s) ∧ (Heard sid s) ∧ (s.dev.isSteward sid .cue = true) ∧ (s.dev.cueFault s.mem sid index.val (s.dev.stagedCue sid) = none) ∧ (s.dev.cueAhead (s.dev.stagedCue sid) ≤ ((s.dev.stagedCue sid)).start) :=
  ⟨1, 3, (fun s : State => ({ s with dev := { s.dev with time := { s.dev.time with doms := [(0, { Domain.start with state := 1 })] } } } : State)) (withRegs [(SESS_FUNC.STATE Func.cue.num, 1), (SESS_FUNC.STATE Func.chn.num, 1), (SESS_FUNC.STATE Func.net.num, 1), (SESS_FUNC.STATE Func.acq.num, 1), (SESS_FUNC.STATE Func.time.num, 1), (SESS_FUNC.STEWARD Func.cue.num, 1), (SESS_FUNC.STEWARD Func.chn.num, 1), (TIME_INCR.INCR 0, 0x0A000000), (NET_STATUS.ETH0_LINK, 1), (LIM_PUB.PORTS, 15), (CUE_E.BYTES 0, 459013), (CUE_E.BYTES 3, 2000), (CUE_E.BYTES 6, 0)] (wired (withSec 0x30 528 [(64, 2), (67, 255)] (up .operator)))), by decide +kernel⟩

theorem witness_CueEntriesAndFrameSlots_cueWriteRefused : ∃ (sid : Sid) (index : CueIx) (r : Nat) (s : State),
    (Settled s) ∧ (Heard sid s) ∧ (s.dev.isSteward sid .cue = true) ∧ (s.dev.cueFault s.mem sid index.val (s.dev.stagedCue sid) = some r) :=
  ⟨1, 3, 1, withRegs [(SESS_FUNC.STATE Func.cue.num, 1), (SESS_FUNC.STATE Func.chn.num, 1), (SESS_FUNC.STATE Func.net.num, 1), (SESS_FUNC.STATE Func.acq.num, 1), (SESS_FUNC.STATE Func.time.num, 1), (SESS_FUNC.STEWARD Func.cue.num, 1), (SESS_FUNC.STEWARD Func.chn.num, 1), (TIME_INCR.INCR 0, 0x0A000000), (NET_STATUS.ETH0_LINK, 1), (LIM_PUB.PORTS, 15), (CUE_E.BYTES 0, 262), (CUE_E.BYTES 3, 2000), (CUE_E.BYTES 6, 0)] (wired (withSec 0x30 528 [(64, 2), (67, 255)] (up .operator))), by decide +kernel⟩

theorem witness_CueEntriesAndFrameSlots_cueWritePast : ∃ (sid : Sid) (index : CueIx) (s : State),
    (Settled s) ∧ (Heard sid s) ∧ (s.dev.isSteward sid .cue = true) ∧ (s.dev.cueFault s.mem sid index.val (s.dev.stagedCue sid) = none) ∧ (((s.dev.stagedCue sid)).start < s.dev.cueAhead (s.dev.stagedCue sid)) ∧ (s.dev.mayRunLate (s.dev.stagedCue sid) = false) :=
  ⟨1, 3, (fun s : State => ({ s with dev := { s.dev with time := { s.dev.time with doms := [(0, { Domain.start with state := 1, count := 2 ^ 54 })] } } } : State)) (withRegs [(SESS_FUNC.STATE Func.cue.num, 1), (SESS_FUNC.STATE Func.chn.num, 1), (SESS_FUNC.STATE Func.net.num, 1), (SESS_FUNC.STATE Func.acq.num, 1), (SESS_FUNC.STATE Func.time.num, 1), (SESS_FUNC.STEWARD Func.cue.num, 1), (SESS_FUNC.STEWARD Func.chn.num, 1), (TIME_INCR.INCR 0, 0x0A000000), (NET_STATUS.ETH0_LINK, 1), (LIM_PUB.PORTS, 15), (CUE_E.BYTES 0, 459013), (CUE_E.BYTES 3, 2000), (CUE_E.BYTES 6, 0)] (wired (withSec 0x30 528 [(64, 2), (67, 255)] (up .operator)))), by decide +kernel⟩

theorem witness_CueEntriesAndFrameSlots_cueWriteLate : ∃ (sid : Sid) (index : CueIx) (s : State),
    (Settled s) ∧ (Heard sid s) ∧ (s.dev.isSteward sid .cue = true) ∧ (s.dev.cueFault s.mem sid index.val (s.dev.stagedCue sid) = none) ∧ (((s.dev.stagedCue sid)).start < s.dev.cueAhead (s.dev.stagedCue sid)) ∧ (s.dev.mayRunLate (s.dev.stagedCue sid) = true) ∧ (((s.dev.stagedCue sid)).action = 2) ∧ (s.dev.cue.capBy = none) ∧ (s.dev.works .cue = true) :=
  ⟨1, 3, (fun s : State => ({ s with dev := { s.dev with time := { s.dev.time with doms := [(0, { Domain.start with state := 1, count := 3000 * 2 ^ 24 })] } } } : State)) (withRegs [(SESS_FUNC.STATE Func.cue.num, 1), (SESS_FUNC.STATE Func.chn.num, 1), (SESS_FUNC.STATE Func.net.num, 1), (SESS_FUNC.STATE Func.acq.num, 1), (SESS_FUNC.STATE Func.time.num, 1), (SESS_FUNC.STEWARD Func.cue.num, 1), (SESS_FUNC.STEWARD Func.chn.num, 1), (TIME_INCR.INCR 0, 0x0A000000), (NET_STATUS.ETH0_LINK, 1), (LIM_PUB.PORTS, 15), (CUE_E.BYTES 0, 6402), (CUE_E.BYTES 3, 2000), (CUE_E.BYTES 6, 5000)] (wired (withSec 0x30 528 [(64, 2), (67, 255)] (up .operator)))), by decide +kernel⟩

theorem witness_CueEntriesAndFrameSlots_cueWriteLateFrame : ∃ (sid : Sid) (index : CueIx) (s : State),
    (Settled s) ∧ (Heard sid s) ∧ (s.dev.isSteward sid .cue = true) ∧ (s.dev.cueFault s.mem sid index.val (s.dev.stagedCue sid) = none) ∧ (((s.dev.stagedCue sid)).start < s.dev.cueAhead (s.dev.stagedCue sid)) ∧ (((s.dev.stagedCue sid)).lateRun = true ∧ ((s.dev.stagedCue sid)).action = 1) ∧ (s.dev.works .cue = true) ∧ (s.dev.works .net = true ∧ s.dev.portLinked (((s.dev.stagedCue sid)).target / 64) = true) ∧ (2 ≤ ((s.dev.stagedCue sid)).target / 64 ∨ tget 0 s.dev.cue.busy (((s.dev.stagedCue sid)).target / 64) ≤ s.dev.clk ∧ s.dev.outrun s.mem (((s.dev.stagedCue sid)).target / 64) index.val = false) :=
  ⟨1, 3, (fun s : State => ({ s with dev := { s.dev with time := { s.dev.time with doms := [(0, { Domain.start with state := 1, count := 3000 * 2 ^ 24 })] }, cue := { s.dev.cue with slots := [(5, { Slot.empty with bytes := [1] })] } } } : State)) (withRegs [(SESS_FUNC.STATE Func.cue.num, 1), (SESS_FUNC.STATE Func.chn.num, 1), (SESS_FUNC.STATE Func.net.num, 1), (SESS_FUNC.STATE Func.acq.num, 1), (SESS_FUNC.STATE Func.time.num, 1), (SESS_FUNC.STEWARD Func.cue.num, 1), (SESS_FUNC.STEWARD Func.chn.num, 1), (TIME_INCR.INCR 0, 0x0A000000), (NET_STATUS.ETH0_LINK, 1), (LIM_PUB.PORTS, 15), (CUE_E.BYTES 0, 329985), (CUE_E.BYTES 3, 2000), (CUE_E.BYTES 6, 0)] (wired (withSec 0x30 528 [(64, 2), (67, 255)] (up .operator)))), by decide +kernel⟩

theorem witness_CueEntriesAndFrameSlots_cueWriteLateHeld : ∃ (sid : Sid) (index : CueIx) (s : State),
    (Settled s) ∧ (Heard sid s) ∧ (s.dev.isSteward sid .cue = true) ∧ (s.dev.cueFault s.mem sid index.val (s.dev.stagedCue sid) = none) ∧ (((s.dev.stagedCue sid)).start < s.dev.cueAhead (s.dev.stagedCue sid)) ∧ (s.dev.mayRunLate (s.dev.stagedCue sid) = true) ∧ (s.dev.works .cue = false) :=
  ⟨1, 3, (fun s : State => ({ s with dev := { s.dev with time := { s.dev.time with doms := [(0, { Domain.start with state := 1, count := 3000 * 2 ^ 24 })] } } } : State)) (withRegs [(SESS_FUNC.STATE Func.cue.num, 1), (SESS_FUNC.STATE Func.chn.num, 1), (SESS_FUNC.STATE Func.net.num, 1), (SESS_FUNC.STATE Func.acq.num, 1), (SESS_FUNC.STATE Func.time.num, 1), (SESS_FUNC.STEWARD Func.cue.num, 1), (SESS_FUNC.STEWARD Func.chn.num, 1), (TIME_INCR.INCR 0, 0x0A000000), (NET_STATUS.ETH0_LINK, 1), (LIM_PUB.PORTS, 15), (CUE_E.BYTES 0, 6402), (CUE_E.BYTES 3, 2000), (CUE_E.BYTES 6, 5000), (SESS_FUNC.STATE Func.cue.num, 0)] (wired (withSec 0x30 528 [(64, 2), (67, 255)] (up .operator)))), by decide +kernel⟩

theorem witness_CueEntriesAndFrameSlots_cueRead : ∃ (sid : Sid) (index : CueIx) (s : State),
    (Settled s) ∧ (Heard sid s) ∧ (s.dev.isSteward sid .cue = true) :=
  ⟨1, 3, (fun s : State => ({ s with dev := { s.dev with cue := { s.dev.cue with list := [(3, { Cue.empty with bytes := [5, 1, 7, 0, 0, 0, 0, 0, 0, 0, 0, 0, 208, 7, 0, 0, 0, 0, 0, 0, 0, 0, 0, 0, 0, 0, 0, 0, 0, 0, 0, 0], owner := 1 })] } } } : State)) (withRegs [(SESS_FUNC.STATE Func.cue.num, 1), (SESS_FUNC.STATE Func.chn.num, 1), (SESS_FUNC.STATE Func.net.num, 1), (SESS_FUNC.STATE Func.acq.num, 1), (SESS_FUNC.STATE Func.time.num, 1), (SESS_FUNC.STEWARD Func.cue.num, 1), (SESS_FUNC.STEWARD Func.chn.num, 1), (TIME_INCR.INCR 0, 0x0A000000), (NET_STATUS.ETH0_LINK, 1), (LIM_PUB.PORTS, 15)] (wired (withSec 0x30 528 [(64, 2), (67, 255)] (up .operator)))), by decide +kernel⟩

theorem witness_CueEntriesAndFrameSlots_cueDelete : ∃ (sid : Sid) (index : CueIx) (s : State),
    (Settled s) ∧ (Heard sid s) ∧ (s.dev.isSteward sid .cue = true) ∧ ((s.dev.cueAt index.val).committed = false ∧ (s.dev.cueAt index.val).open_ = false) :=
  ⟨1, 3, (fun s : State => ({ s with dev := { s.dev with cue := { s.dev.cue with list := [(3, { Cue.empty with bytes := [5, 1, 7, 0, 0, 0, 0, 0, 0, 0, 0, 0, 208, 7, 0, 0, 0, 0, 0, 0, 0, 0, 0, 0, 0, 0, 0, 0, 0, 0, 0, 0], owner := 1 })] } } } : State)) (withRegs [(SESS_FUNC.STATE Func.cue.num, 1), (SESS_FUNC.STATE Func.chn.num, 1), (SESS_FUNC.STATE Func.net.num, 1), (SESS_FUNC.STATE Func.acq.num, 1), (SESS_FUNC.STATE Func.time.num, 1), (SESS_FUNC.STEWARD Func.cue.num, 1), (SESS_FUNC.STEWARD Func.chn.num, 1), (TIME_INCR.INCR 0, 0x0A000000), (NET_STATUS.ETH0_LINK, 1), (LIM_PUB.PORTS, 15)] (wired (withSec 0x30 528 [(64, 2), (67, 255)] (up .operator)))), by decide +kernel⟩

theorem witness_CueEntriesAndFrameSlots_cueDeleteCommitted : ∃ (sid : Sid) (index : CueIx) (s : State),
    (Settled s) ∧ (Heard sid s) ∧ (s.dev.isSteward sid .cue = true) ∧ ((s.dev.cueAt index.val).bytes ≠ []) ∧ ((s.dev.cueAt index.val).committed = true ∨ (s.dev.cueAt index.val).open_ = true) :=
  ⟨1, 3, (fun s : State => ({ s with dev := { s.dev with cue := { s.dev.cue with list := [(3, { Cue.empty with bytes := [5, 1, 7, 0, 0, 0, 0, 0, 0, 0, 0, 0, 208, 7, 0, 0, 0, 0, 0, 0, 0, 0, 0, 0, 0, 0, 0, 0, 0, 0, 0, 0], owner := 1, committed := true })] } } } : State)) (withRegs [(SESS_FUNC.STATE Func.cue.num, 1), (SESS_FUNC.STATE Func.chn.num, 1), (SESS_FUNC.STATE Func.net.num, 1), (SESS_FUNC.STATE Func.acq.num, 1), (SESS_FUNC.STATE Func.time.num, 1), (SESS_FUNC.STEWARD Func.cue.num, 1), (SESS_FUNC.STEWARD Func.chn.num, 1), (TIME_INCR.INCR 0, 0x0A000000), (NET_STATUS.ETH0_LINK, 1), (LIM_PUB.PORTS, 15)] (wired (withSec 0x30 528 [(64, 2), (67, 255)] (up .operator)))), by decide +kernel⟩

theorem witness_CueEntriesAndFrameSlots_cueDeleteNotOwner : ∃ (sid : Sid) (index : CueIx) (s : State),
    (Settled s) ∧ (Heard sid s) ∧ (s.dev.isSteward sid .cue = false) ∧ ((s.dev.sess sid).key ≠ 0) ∧ (roleGranted (s.dev.sess sid).role CUE_CTRL.CMD.addr = true) ∧ ((s.dev.cueAt index.val).bytes ≠ []) ∧ ((s.dev.cueAt index.val).owner ≠ sid.val) :=
  ⟨1, 3, (fun s : State => ({ s with dev := { s.dev with cue := { s.dev.cue with list := [(3, { Cue.empty with bytes := [5, 1, 7, 0, 0, 0, 0, 0, 0, 0, 0, 0, 208, 7, 0, 0, 0, 0, 0, 0, 0, 0, 0, 0, 0, 0, 0, 0, 0, 0, 0, 0], owner := 2 })] } } } : State)) (withRegs [(SESS_FUNC.STATE Func.cue.num, 1), (SESS_FUNC.STATE Func.chn.num, 1), (SESS_FUNC.STATE Func.net.num, 1), (SESS_FUNC.STATE Func.acq.num, 1), (SESS_FUNC.STATE Func.time.num, 1), (SESS_FUNC.STEWARD Func.cue.num, 1), (SESS_FUNC.STEWARD Func.chn.num, 1), (TIME_INCR.INCR 0, 0x0A000000), (NET_STATUS.ETH0_LINK, 1), (LIM_PUB.PORTS, 15), (SESS_FUNC.STEWARD Func.cue.num, 2)] (wired (withSec 0x30 528 [(64, 2), (67, 255)] (up .operator)))), by decide +kernel⟩

theorem witness_CueEntriesAndFrameSlots_capClear : ∃ (sid : Sid) (s : State),
    (Settled s) ∧ (Heard sid s) ∧ (s.dev.isSteward sid .cue = true) :=
  ⟨1, (fun s : State => ({ s with dev := { s.dev with cue := { s.dev.cue with cap := [[1, 2]] } } } : State)) (withRegs [(SESS_FUNC.STATE Func.cue.num, 1), (SESS_FUNC.STATE Func.chn.num, 1), (SESS_FUNC.STATE Func.net.num, 1), (SESS_FUNC.STATE Func.acq.num, 1), (SESS_FUNC.STATE Func.time.num, 1), (SESS_FUNC.STEWARD Func.cue.num, 1), (SESS_FUNC.STEWARD Func.chn.num, 1), (TIME_INCR.INCR 0, 0x0A000000), (NET_STATUS.ETH0_LINK, 1), (LIM_PUB.PORTS, 15), (CUE_CAP_STATUS.COUNT, 1)] (wired (withSec 0x30 528 [(64, 2), (67, 255)] (up .operator)))), by decide +kernel⟩

theorem witness_CueEntriesAndFrameSlots_loadSlot : ∃ (sid : Sid) (port : Path) (slot : Fin 64) (len : BitVec 11) (s : State),
    (Settled s) ∧ (Heard sid s) ∧ (s.dev.isSteward sid .cue = true) ∧ (frameOk port.num len.toNat (((List.range 256).flatMap fun j => leBytes 4 (s.dev.rd (CUE_FQ_WIN.BYTES j))).take len.toNat) = true) ∧ (s.dev.slotCommitted (64 * port.num + slot.val) = false) :=
  ⟨1, .eth1, 63, 60, withRegs [(SESS_FUNC.STATE Func.cue.num, 1), (SESS_FUNC.STATE Func.chn.num, 1), (SESS_FUNC.STATE Func.net.num, 1), (SESS_FUNC.STATE Func.acq.num, 1), (SESS_FUNC.STATE Func.time.num, 1), (SESS_FUNC.STEWARD Func.cue.num, 1), (SESS_FUNC.STEWARD Func.chn.num, 1), (TIME_INCR.INCR 0, 0x0A000000), (NET_STATUS.ETH0_LINK, 1), (LIM_PUB.PORTS, 15), (CUE_FQ_WIN.BYTES 0, 0x01020304)] (wired (withSec 0x30 528 [(64, 2), (67, 255)] (up .operator))), by decide +kernel⟩

theorem witness_CueEntriesAndFrameSlots_loadSlotRefused : ∃ (sid : Sid) (port : Path) (slot : Fin 64) (len : BitVec 11) (s : State),
    (Settled s) ∧ (Heard sid s) ∧ (s.dev.isSteward sid .cue = true) ∧ (frameOk port.num len.toNat (((List.range 256).flatMap fun j => leBytes 4 (s.dev.rd (CUE_FQ_WIN.BYTES j))).take len.toNat) = false ∨ s.dev.slotCommitted (64 * port.num + slot.val) = true) :=
  ⟨1, .eth1, 63, 59, withRegs [(SESS_FUNC.STATE Func.cue.num, 1), (SESS_FUNC.STATE Func.chn.num, 1), (SESS_FUNC.STATE Func.net.num, 1), (SESS_FUNC.STATE Func.acq.num, 1), (SESS_FUNC.STATE Func.time.num, 1), (SESS_FUNC.STEWARD Func.cue.num, 1), (SESS_FUNC.STEWARD Func.chn.num, 1), (TIME_INCR.INCR 0, 0x0A000000), (NET_STATUS.ETH0_LINK, 1), (LIM_PUB.PORTS, 15)] (wired (withSec 0x30 528 [(64, 2), (67, 255)] (up .operator))), by decide +kernel⟩

theorem witness_CueEntriesAndFrameSlots_clearSlot : ∃ (sid : Sid) (port : Path) (slot : Fin 64) (s : State),
    (Settled s) ∧ (Heard sid s) ∧ (s.dev.isSteward sid .cue = true) ∧ (s.dev.slotCommitted (64 * port.num + slot.val) = false) ∧ (s.dev.slotNamed (64 * port.num + slot.val) = false) :=
  ⟨1, .can1, 63, withRegs [(SESS_FUNC.STATE Func.cue.num, 1), (SESS_FUNC.STATE Func.chn.num, 1), (SESS_FUNC.STATE Func.net.num, 1), (SESS_FUNC.STATE Func.acq.num, 1), (SESS_FUNC.STATE Func.time.num, 1), (SESS_FUNC.STEWARD Func.cue.num, 1), (SESS_FUNC.STEWARD Func.chn.num, 1), (TIME_INCR.INCR 0, 0x0A000000), (NET_STATUS.ETH0_LINK, 1), (LIM_PUB.PORTS, 15)] (wired (withSec 0x30 528 [(64, 2), (67, 255)] (up .operator))), by decide +kernel⟩

theorem witness_CueEntriesAndFrameSlots_clearSlotBusy : ∃ (sid : Sid) (port : Path) (slot : Fin 64) (s : State),
    (Settled s) ∧ (Heard sid s) ∧ (s.dev.isSteward sid .cue = true) ∧ (s.dev.slotCommitted (64 * port.num + slot.val) = true ∨ s.dev.slotNamed (64 * port.num + slot.val) = true) :=
  ⟨1, .eth0, 5, (fun s : State => ({ s with dev := { s.dev with cue := { s.dev.cue with list := [(3, { Cue.empty with bytes := [1, 1, 5, 0, 0, 0, 0, 0, 0, 0, 0, 0, 208, 7, 0, 0, 0, 0, 0, 0, 0, 0, 0, 0, 0, 0, 0, 0, 0, 0, 0, 0], owner := 1 })] } } } : State)) (withRegs [(SESS_FUNC.STATE Func.cue.num, 1), (SESS_FUNC.STATE Func.chn.num, 1), (SESS_FUNC.STATE Func.net.num, 1), (SESS_FUNC.STATE Func.acq.num, 1), (SESS_FUNC.STATE Func.time.num, 1), (SESS_FUNC.STEWARD Func.cue.num, 1), (SESS_FUNC.STEWARD Func.chn.num, 1), (TIME_INCR.INCR 0, 0x0A000000), (NET_STATUS.ETH0_LINK, 1), (LIM_PUB.PORTS, 15)] (wired (withSec 0x30 528 [(64, 2), (67, 255)] (up .operator)))), by decide +kernel⟩

theorem witness_CueOccurrencesRun_cueCommit : ∃ (index : CueIx) (s : State),
    (Settled s) ∧ (s.dev.awake = true) ∧ (s.dev.works .cue = true) ∧ ((s.dev.cueAt index.val).live = true) ∧ ((s.dev.cueAt index.val).committed = false) ∧ (s.dev.inReach (s.dev.cueAt index.val) ((s.dev.cueAt index.val).startAt (s.dev.cueAt index.val).ran) 96 = true) :=
  ⟨3, (fun s : State => ({ s with dev := { s.dev with cue := { s.dev.cue with list := [(3, { Cue.empty with bytes := [5, 1, 7, 0, 0, 0, 0, 0, 0, 0, 0, 0, 208, 7, 0, 0, 0, 0, 0, 0, 0, 0, 0, 0, 0, 0, 0, 0, 0, 0, 0, 0], owner := 1 })] } } } : State)) (withRegs [(SESS_FUNC.STATE Func.cue.num, 1), (SESS_FUNC.STATE Func.chn.num, 1), (SESS_FUNC.STATE Func.net.num, 1), (SESS_FUNC.STATE Func.acq.num, 1), (SESS_FUNC.STATE Func.time.num, 1), (SESS_FUNC.STEWARD Func.cue.num, 1), (SESS_FUNC.STEWARD Func.chn.num, 1), (TIME_INCR.INCR 0, 0x0A000000), (NET_STATUS.ETH0_LINK, 1), (LIM_PUB.PORTS, 15)] (wired (withSec 0x30 528 [(64, 2), (67, 255)] (up .operator)))), by decide +kernel⟩

theorem witness_CueOccurrencesRun_cueCommitWaits : ∃ (index : CueIx) (s : State),
    (Settled s) ∧ (s.dev.inReach (s.dev.cueAt index.val) ((s.dev.cueAt index.val).startAt (s.dev.cueAt index.val).ran) 96 = false) :=
  ⟨3, (fun s : State => ({ s with dev := { s.dev with cue := { s.dev.cue with list := [(3, { Cue.empty with bytes := [5, 0, 7, 0, 0, 0, 0, 0, 9, 0, 0, 0, 0, 0, 0, 0, 0, 0, 0, 0, 0, 0, 0, 0, 0, 0, 0, 0, 0, 0, 0, 0], owner := 1 })] } } } : State)) (withRegs [(SESS_FUNC.STATE Func.cue.num, 1), (SESS_FUNC.STATE Func.chn.num, 1), (SESS_FUNC.STATE Func.net.num, 1), (SESS_FUNC.STATE Func.acq.num, 1), (SESS_FUNC.STATE Func.time.num, 1), (SESS_FUNC.STEWARD Func.cue.num, 1), (SESS_FUNC.STEWARD Func.chn.num, 1), (TIME_INCR.INCR 0, 0x0A000000), (NET_STATUS.ETH0_LINK, 1), (LIM_PUB.PORTS, 15)] (wired (withSec 0x30 528 [(64, 2), (67, 255)] (up .operator)))), by decide +kernel⟩

theorem witness_CueOccurrencesRun_channelTriggers : ∃ (index : CueIx) (u s : State),
    (Settled s) ∧ (s.dev.awake = true) ∧ (s.dev.works .cue = true) ∧ ((s.dev.cueAt index.val).live = true) ∧ ((s.dev.cueAt index.val).committed = true ∧ (s.dev.cueAt index.val).open_ = false) ∧ ((s.dev.cueAt index.val).inDomain = true ∨ (s.dev.cueAt index.val).startAt (s.dev.cueAt index.val).ran / 65536 ≤ s.dev.phase.cycle) ∧ (u = { s with dev := s.dev.toInstant (s.dev.cueAt index.val) ((s.dev.cueAt index.val).startAt (s.dev.cueAt index.val).ran) 0 }) ∧ ((s.dev.cueAt index.val).action = 3 ∨ (s.dev.cueAt index.val).action = 4) ∧ ((s.dev.cueAt index.val).target < 32) ∧ (s.dev.channelsTake = true) ∧ (2 ≤ s.mem.img.chanRole (s.dev.cueAt index.val).target ∧ s.mem.img.chanRole (s.dev.cueAt index.val).target ≤ 4) ∧ ((u.dev.chan (s.dev.cueAt index.val).target).last.1 = u.dev.clk + 1 → (u.dev.chan (s.dev.cueAt index.val).target).last.2 ≤ index.val) :=
  ⟨3, cueAtStart 3 ((fun s : State => ({ s with dev := { s.dev with cue := { s.dev.cue with list := [(3, { Cue.empty with bytes := [3, 1, 4, 0, 0, 0, 0, 0, 0, 0, 0, 0, 208, 7, 0, 0, 0, 0, 0, 0, 0, 0, 0, 0, 0, 0, 0, 0, 0, 0, 0, 0], owner := 1, committed := true })] } } } : State)) (withRegs [(SESS_FUNC.STATE Func.cue.num, 1), (SESS_FUNC.STATE Func.chn.num, 1), (SESS_FUNC.STATE Func.net.num, 1), (SESS_FUNC.STATE Func.acq.num, 1), (SESS_FUNC.STATE Func.time.num, 1), (SESS_FUNC.STEWARD Func.cue.num, 1), (SESS_FUNC.STEWARD Func.chn.num, 1), (TIME_INCR.INCR 0, 0x0A000000), (NET_STATUS.ETH0_LINK, 1), (LIM_PUB.PORTS, 15)] (wired (withSec 0x30 528 [(64, 2), (67, 255)] (up .operator))))), (fun s : State => ({ s with dev := { s.dev with cue := { s.dev.cue with list := [(3, { Cue.empty with bytes := [3, 1, 4, 0, 0, 0, 0, 0, 0, 0, 0, 0, 208, 7, 0, 0, 0, 0, 0, 0, 0, 0, 0, 0, 0, 0, 0, 0, 0, 0, 0, 0], owner := 1, committed := true })] } } } : State)) (withRegs [(SESS_FUNC.STATE Func.cue.num, 1), (SESS_FUNC.STATE Func.chn.num, 1), (SESS_FUNC.STATE Func.net.num, 1), (SESS_FUNC.STATE Func.acq.num, 1), (SESS_FUNC.STATE Func.time.num, 1), (SESS_FUNC.STEWARD Func.cue.num, 1), (SESS_FUNC.STEWARD Func.chn.num, 1), (TIME_INCR.INCR 0, 0x0A000000), (NET_STATUS.ETH0_LINK, 1), (LIM_PUB.PORTS, 15)] (wired (withSec 0x30 528 [(64, 2), (67, 255)] (up .operator)))), by decide +kernel⟩

theorem witness_CueOccurrencesRun_channelDiscarded : ∃ (index : CueIx) (u s : State),
    (Settled s) ∧ (s.dev.awake = true) ∧ (s.dev.works .cue = true) ∧ ((s.dev.cueAt index.val).live = true) ∧ ((s.dev.cueAt index.val).committed = true ∧ (s.dev.cueAt index.val).open_ = false) ∧ ((s.dev.cueAt index.val).inDomain = true ∨ (s.dev.cueAt index.val).startAt (s.dev.cueAt index.val).ran / 65536 ≤ s.dev.phase.cycle) ∧ (u = { s with dev := s.dev.toInstant (s.dev.cueAt index.val) ((s.dev.cueAt index.val).startAt (s.dev.cueAt index.val).ran) 0 }) ∧ ((s.dev.cueAt index.val).action = 3 ∨ (s.dev.cueAt index.val).action = 4) ∧ (s.dev.channelsTake = false) :=
  ⟨3, cueAtStart 3 ((fun s : State => ({ s with dev := { s.dev with cue := { s.dev.cue with list := [(3, { Cue.empty with bytes := [3, 1, 4, 0, 0, 0, 0, 0, 0, 0, 0, 0, 208, 7, 0, 0, 0, 0, 0, 0, 0, 0, 0, 0, 0, 0, 0, 0, 0, 0, 0, 0], owner := 1, committed := true })] } } } : State)) (withRegs [(SESS_FUNC.STATE Func.cue.num, 1), (SESS_FUNC.STATE Func.chn.num, 1), (SESS_FUNC.STATE Func.net.num, 1), (SESS_FUNC.STATE Func.acq.num, 1), (SESS_FUNC.STATE Func.time.num, 1), (SESS_FUNC.STEWARD Func.cue.num, 1), (SESS_FUNC.STEWARD Func.chn.num, 1), (TIME_INCR.INCR 0, 0x0A000000), (NET_STATUS.ETH0_LINK, 1), (LIM_PUB.PORTS, 15), (SESS_FUNC.STATE Func.chn.num, 0)] (wired (withSec 0x30 528 [(64, 2), (67, 255)] (up .operator))))), (fun s : State => ({ s with dev := { s.dev with cue := { s.dev.cue with list := [(3, { Cue.empty with bytes := [3, 1, 4, 0, 0, 0, 0, 0, 0, 0, 0, 0, 208, 7, 0, 0, 0, 0, 0, 0, 0, 0, 0, 0, 0, 0, 0, 0, 0, 0, 0, 0], owner := 1, committed := true })] } } } : State)) (withRegs [(SESS_FUNC.STATE Func.cue.num, 1), (SESS_FUNC.STATE Func.chn.num, 1), (SESS_FUNC.STATE Func.net.num, 1), (SESS_FUNC.STATE Func.acq.num, 1), (SESS_FUNC.STATE Func.time.num, 1), (SESS_FUNC.STEWARD Func.cue.num, 1), (SESS_FUNC.STEWARD Func.chn.num, 1), (TIME_INCR.INCR 0, 0x0A000000), (NET_STATUS.ETH0_LINK, 1), (LIM_PUB.PORTS, 15), (SESS_FUNC.STATE Func.chn.num, 0)] (wired (withSec 0x30 528 [(64, 2), (67, 255)] (up .operator)))), by decide +kernel⟩

theorem witness_CueOccurrencesRun_markTriggers : ∃ (index : CueIx) (u s : State),
    (Settled s) ∧ (s.dev.awake = true) ∧ (s.dev.works .cue = true) ∧ ((s.dev.cueAt index.val).live = true) ∧ ((s.dev.cueAt index.val).committed = true ∧ (s.dev.cueAt index.val).open_ = false) ∧ ((s.dev.cueAt index.val).inDomain = true ∨ (s.dev.cueAt index.val).startAt (s.dev.cueAt index.val).ran / 65536 ≤ s.dev.phase.cycle) ∧ (u = { s with dev := s.dev.toInstant (s.dev.cueAt index.val) ((s.dev.cueAt index.val).startAt (s.dev.cueAt index.val).ran) 0 }) ∧ ((s.dev.cueAt index.val).action = 5) :=
  ⟨3, cueAtStart 3 ((fun s : State => ({ s with dev := { s.dev with cue := { s.dev.cue with list := [(3, { Cue.empty with bytes := [5, 1, 7, 0, 0, 0, 0, 0, 0, 0, 0, 0, 208, 7, 0, 0, 0, 0, 0, 0, 0, 0, 0, 0, 0, 0, 0, 0, 0, 0, 0, 0], owner := 1, committed := true })] } } } : State)) (withRegs [(SESS_FUNC.STATE Func.cue.num, 1), (SESS_FUNC.STATE Func.chn.num, 1), (SESS_FUNC.STATE Func.net.num, 1), (SESS_FUNC.STATE Func.acq.num, 1), (SESS_FUNC.STATE Func.time.num, 1), (SESS_FUNC.STEWARD Func.cue.num, 1), (SESS_FUNC.STEWARD Func.chn.num, 1), (TIME_INCR.INCR 0, 0x0A000000), (NET_STATUS.ETH0_LINK, 1), (LIM_PUB.PORTS, 15)] (wired (withSec 0x30 528 [(64, 2), (67, 255)] (up .operator))))), (fun s : State => ({ s with dev := { s.dev with cue := { s.dev.cue with list := [(3, { Cue.empty with bytes := [5, 1, 7, 0, 0, 0, 0, 0, 0, 0, 0, 0, 208, 7, 0, 0, 0, 0, 0, 0, 0, 0, 0, 0, 0, 0, 0, 0, 0, 0, 0, 0], owner := 1, committed := true })] } } } : State)) (withRegs [(SESS_FUNC.STATE Func.cue.num, 1), (SESS_FUNC.STATE Func.chn.num, 1), (SESS_FUNC.STATE Func.net.num, 1), (SESS_FUNC.STATE Func.acq.num, 1), (SESS_FUNC.STATE Func.time.num, 1), (SESS_FUNC.STEWARD Func.cue.num, 1), (SESS_FUNC.STEWARD Func.chn.num, 1), (TIME_INCR.INCR 0, 0x0A000000), (NET_STATUS.ETH0_LINK, 1), (LIM_PUB.PORTS, 15)] (wired (withSec 0x30 528 [(64, 2), (67, 255)] (up .operator)))), by decide +kernel⟩

theorem witness_CueOccurrencesRun_burstTriggers : ∃ (index : CueIx) (u s : State),
    (Settled s) ∧ (s.dev.awake = true) ∧ (s.dev.works .cue = true) ∧ ((s.dev.cueAt index.val).live = true) ∧ ((s.dev.cueAt index.val).committed = true ∧ (s.dev.cueAt index.val).open_ = false) ∧ ((s.dev.cueAt index.val).inDomain = true ∨ (s.dev.cueAt index.val).startAt (s.dev.cueAt index.val).ran / 65536 ≤ s.dev.phase.cycle) ∧ (u = { s with dev := s.dev.toInstant (s.dev.cueAt index.val) ((s.dev.cueAt index.val).startAt (s.dev.cueAt index.val).ran) 0 }) ∧ ((s.dev.cueAt index.val).action = 2) ∧ (s.dev.cue.capBy = none) :=
  ⟨3, cueAtStart 3 ((fun s : State => ({ s with dev := { s.dev with cue := { s.dev.cue with list := [(3, { Cue.empty with bytes := [2, 1, 7, 0, 0, 0, 0, 0, 0, 0, 0, 0, 208, 7, 0, 0, 0, 0, 0, 0, 0, 0, 0, 0, 0, 0, 0, 0, 0, 0, 0, 0], owner := 1, committed := true })] } } } : State)) (withRegs [(SESS_FUNC.STATE Func.cue.num, 1), (SESS_FUNC.STATE Func.chn.num, 1), (SESS_FUNC.STATE Func.net.num, 1), (SESS_FUNC.STATE Func.acq.num, 1), (SESS_FUNC.STATE Func.time.num, 1), (SESS_FUNC.STEWARD Func.cue.num, 1), (SESS_FUNC.STEWARD Func.chn.num, 1), (TIME_INCR.INCR 0, 0x0A000000), (NET_STATUS.ETH0_LINK, 1), (LIM_PUB.PORTS, 15)] (wired (withSec 0x30 528 [(64, 2), (67, 255)] (up .operator))))), (fun s : State => ({ s with dev := { s.dev with cue := { s.dev.cue with list := [(3, { Cue.empty with bytes := [2, 1, 7, 0, 0, 0, 0, 0, 0, 0, 0, 0, 208, 7, 0, 0, 0, 0, 0, 0, 0, 0, 0, 0, 0, 0, 0, 0, 0, 0, 0, 0], owner := 1, committed := true })] } } } : State)) (withRegs [(SESS_FUNC.STATE Func.cue.num, 1), (SESS_FUNC.STATE Func.chn.num, 1), (SESS_FUNC.STATE Func.net.num, 1), (SESS_FUNC.STATE Func.acq.num, 1), (SESS_FUNC.STATE Func.time.num, 1), (SESS_FUNC.STEWARD Func.cue.num, 1), (SESS_FUNC.STEWARD Func.chn.num, 1), (TIME_INCR.INCR 0, 0x0A000000), (NET_STATUS.ETH0_LINK, 1), (LIM_PUB.PORTS, 15)] (wired (withSec 0x30 528 [(64, 2), (67, 255)] (up .operator)))), by decide +kernel⟩

theorem witness_CueOccurrencesRun_burstSkipped : ∃ (index : CueIx) (u s : State),
    (Settled s) ∧ (s.dev.awake = true) ∧ (s.dev.works .cue = true) ∧ ((s.dev.cueAt index.val).live = true) ∧ ((s.dev.cueAt index.val).committed = true ∧ (s.dev.cueAt index.val).open_ = false) ∧ ((s.dev.cueAt index.val).inDomain = true ∨ (s.dev.cueAt index.val).startAt (s.dev.cueAt index.val).ran / 65536 ≤ s.dev.phase.cycle) ∧ (u = { s with dev := s.dev.toInstant (s.dev.cueAt index.val) ((s.dev.cueAt index.val).startAt (s.dev.cueAt index.val).ran) 0 }) ∧ ((s.dev.cueAt index.val).action = 2) ∧ (s.dev.cue.capBy.isSome = true) :=
  ⟨3, cueAtStart 3 ((fun s : State => ({ s with dev := { s.dev with cue := { s.dev.cue with capBy := some 9,  list := [(3, { Cue.empty with bytes := [2, 1, 7, 0, 0, 0, 0, 0, 0, 0, 0, 0, 208, 7, 0, 0, 0, 0, 0, 0, 0, 0, 0, 0, 0, 0, 0, 0, 0, 0, 0, 0], owner := 1, committed := true })] } } } : State)) (withRegs [(SESS_FUNC.STATE Func.cue.num, 1), (SESS_FUNC.STATE Func.chn.num, 1), (SESS_FUNC.STATE Func.net.num, 1), (SESS_FUNC.STATE Func.acq.num, 1), (SESS_FUNC.STATE Func.time.num, 1), (SESS_FUNC.STEWARD Func.cue.num, 1), (SESS_FUNC.STEWARD Func.chn.num, 1), (TIME_INCR.INCR 0, 0x0A000000), (NET_STATUS.ETH0_LINK, 1), (LIM_PUB.PORTS, 15)] (wired (withSec 0x30 528 [(64, 2), (67, 255)] (up .operator))))), (fun s : State => ({ s with dev := { s.dev with cue := { s.dev.cue with capBy := some 9,  list := [(3, { Cue.empty with bytes := [2, 1, 7, 0, 0, 0, 0, 0, 0, 0, 0, 0, 208, 7, 0, 0, 0, 0, 0, 0, 0, 0, 0, 0, 0, 0, 0, 0, 0, 0, 0, 0], owner := 1, committed := true })] } } } : State)) (withRegs [(SESS_FUNC.STATE Func.cue.num, 1), (SESS_FUNC.STATE Func.chn.num, 1), (SESS_FUNC.STATE Func.net.num, 1), (SESS_FUNC.STATE Func.acq.num, 1), (SESS_FUNC.STATE Func.time.num, 1), (SESS_FUNC.STEWARD Func.cue.num, 1), (SESS_FUNC.STEWARD Func.chn.num, 1), (TIME_INCR.INCR 0, 0x0A000000), (NET_STATUS.ETH0_LINK, 1), (LIM_PUB.PORTS, 15)] (wired (withSec 0x30 528 [(64, 2), (67, 255)] (up .operator)))), by decide +kernel⟩

theorem witness_CueOccurrencesRun_frameLaunched : ∃ (index : CueIx) (u s : State),
    (Settled s) ∧ (s.dev.awake = true) ∧ (s.dev.works .cue = true) ∧ ((s.dev.cueAt index.val).live = true) ∧ ((s.dev.cueAt index.val).committed = true ∧ (s.dev.cueAt index.val).open_ = false) ∧ ((s.dev.cueAt index.val).inDomain = true ∨ (s.dev.cueAt index.val).startAt (s.dev.cueAt index.val).ran / 65536 ≤ s.dev.phase.cycle) ∧ (u = { s with dev := s.dev.toInstant (s.dev.cueAt index.val) ((s.dev.cueAt index.val).startAt (s.dev.cueAt index.val).ran) 0 }) ∧ ((s.dev.cueAt index.val).action = 1) ∧ (s.dev.outage bedNets = false) ∧ (s.dev.works .net = true ∧ s.dev.portLinked ((s.dev.cueAt index.val).target / 64) = true) ∧ (2 ≤ (s.dev.cueAt index.val).target / 64 ∨ tget 0 u.dev.cue.busy ((s.dev.cueAt index.val).target / 64) ≤ u.dev.clk ∧ u.dev.outrun s.mem ((s.dev.cueAt index.val).target / 64) index.val = false) :=
  ⟨3, cueAtStart 3 ((fun s : State => ({ s with dev := { s.dev with cue := { s.dev.cue with list := [(3, { Cue.empty with bytes := [1, 1, 5, 0, 0, 0, 0, 0, 0, 0, 0, 0, 208, 7, 0, 0, 0, 0, 0, 0, 0, 0, 0, 0, 0, 0, 0, 0, 0, 0, 0, 0], owner := 1, committed := true })] } } } : State)) (withRegs [(SESS_FUNC.STATE Func.cue.num, 1), (SESS_FUNC.STATE Func.chn.num, 1), (SESS_FUNC.STATE Func.net.num, 1), (SESS_FUNC.STATE Func.acq.num, 1), (SESS_FUNC.STATE Func.time.num, 1), (SESS_FUNC.STEWARD Func.cue.num, 1), (SESS_FUNC.STEWARD Func.chn.num, 1), (TIME_INCR.INCR 0, 0x0A000000), (NET_STATUS.ETH0_LINK, 1), (LIM_PUB.PORTS, 15)] (wired (withSec 0x30 528 [(64, 2), (67, 255)] (up .operator))))), (fun s : State => ({ s with dev := { s.dev with cue := { s.dev.cue with list := [(3, { Cue.empty with bytes := [1, 1, 5, 0, 0, 0, 0, 0, 0, 0, 0, 0, 208, 7, 0, 0, 0, 0, 0, 0, 0, 0, 0, 0, 0, 0, 0, 0, 0, 0, 0, 0], owner := 1, committed := true })] } } } : State)) (withRegs [(SESS_FUNC.STATE Func.cue.num, 1), (SESS_FUNC.STATE Func.chn.num, 1), (SESS_FUNC.STATE Func.net.num, 1), (SESS_FUNC.STATE Func.acq.num, 1), (SESS_FUNC.STATE Func.time.num, 1), (SESS_FUNC.STEWARD Func.cue.num, 1), (SESS_FUNC.STEWARD Func.chn.num, 1), (TIME_INCR.INCR 0, 0x0A000000), (NET_STATUS.ETH0_LINK, 1), (LIM_PUB.PORTS, 15)] (wired (withSec 0x30 528 [(64, 2), (67, 255)] (up .operator)))), by decide +kernel⟩

theorem witness_CueOccurrencesRun_frameFails : ∃ (index : CueIx) (u s : State),
    (Settled s) ∧ (s.dev.awake = true) ∧ (s.dev.works .cue = true) ∧ ((s.dev.cueAt index.val).live = true) ∧ ((s.dev.cueAt index.val).committed = true ∧ (s.dev.cueAt index.val).open_ = false) ∧ ((s.dev.cueAt index.val).inDomain = true ∨ (s.dev.cueAt index.val).startAt (s.dev.cueAt index.val).ran / 65536 ≤ s.dev.phase.cycle) ∧ (u = { s with dev := s.dev.toInstant (s.dev.cueAt index.val) ((s.dev.cueAt index.val).startAt (s.dev.cueAt index.val).ran) 0 }) ∧ ((s.dev.cueAt index.val).action = 1) ∧ (s.dev.outage bedNets = false) ∧ (¬(s.dev.works .net = true ∧ s.dev.portLinked ((s.dev.cueAt index.val).target / 64) = true)) :=
  ⟨3, cueAtStart 3 ((fun s : State => ({ s with dev := { s.dev with cue := { s.dev.cue with list := [(3, { Cue.empty with bytes := [1, 1, 69, 0, 0, 0, 0, 0, 0, 0, 0, 0, 208, 7, 0, 0, 0, 0, 0, 0, 0, 0, 0, 0, 0, 0, 0, 0, 0, 0, 0, 0], owner := 1, committed := true })] } } } : State)) (withRegs [(SESS_FUNC.STATE Func.cue.num, 1), (SESS_FUNC.STATE Func.chn.num, 1), (SESS_FUNC.STATE Func.net.num, 1), (SESS_FUNC.STATE Func.acq.num, 1), (SESS_FUNC.STATE Func.time.num, 1), (SESS_FUNC.STEWARD Func.cue.num, 1), (SESS_FUNC.STEWARD Func.chn.num, 1), (TIME_INCR.INCR 0, 0x0A000000), (NET_STATUS.ETH0_LINK, 1), (LIM_PUB.PORTS, 15)] (wired (withSec 0x30 528 [(64, 2), (67, 255)] (up .operator))))), (fun s : State => ({ s with dev := { s.dev with cue := { s.dev.cue with list := [(3, { Cue.empty with bytes := [1, 1, 69, 0, 0, 0, 0, 0, 0, 0, 0, 0, 208, 7, 0, 0, 0, 0, 0, 0, 0, 0, 0, 0, 0, 0, 0, 0, 0, 0, 0, 0], owner := 1, committed := true })] } } } : State)) (withRegs [(SESS_FUNC.STATE Func.cue.num, 1), (SESS_FUNC.STATE Func.chn.num, 1), (SESS_FUNC.STATE Func.net.num, 1), (SESS_FUNC.STATE Func.acq.num, 1), (SESS_FUNC.STATE Func.time.num, 1), (SESS_FUNC.STEWARD Func.cue.num, 1), (SESS_FUNC.STEWARD Func.chn.num, 1), (TIME_INCR.INCR 0, 0x0A000000), (NET_STATUS.ETH0_LINK, 1), (LIM_PUB.PORTS, 15)] (wired (withSec 0x30 528 [(64, 2), (67, 255)] (up .operator)))), by decide +kernel⟩

theorem witness_CueOccurrencesRun_frameWaits : ∃ (index : CueIx) (u s : State),
    (Settled s) ∧ (s.dev.awake = true) ∧ (s.dev.works .cue = true) ∧ ((s.dev.cueAt index.val).live = true) ∧ ((s.dev.cueAt index.val).committed = true ∧ (s.dev.cueAt index.val).open_ = false) ∧ ((s.dev.cueAt index.val).inDomain = true ∨ (s.dev.cueAt index.val).startAt (s.dev.cueAt index.val).ran / 65536 ≤ s.dev.phase.cycle) ∧ (u = { s with dev := s.dev.toInstant (s.dev.cueAt index.val) ((s.dev.cueAt index.val).startAt (s.dev.cueAt index.val).ran) 0 }) ∧ ((s.dev.cueAt index.val).action = 1) ∧ (s.dev.outage bedNets = false) ∧ (s.dev.works .net = true ∧ s.dev.portLinked ((s.dev.cueAt index.val).target / 64) = true) ∧ ((s.dev.cueAt index.val).target / 64 < 2 ∧ (u.dev.clk < tget 0 u.dev.cue.busy ((s.dev.cueAt index.val).target / 64) ∨ u.dev.outrun s.mem ((s.dev.cueAt index.val).target / 64) index.val = true)) :=
  ⟨3, cueAtStart 3 ((fun s : State => ({ s with dev := { s.dev with cue := { s.dev.cue with busy := [(0, 1000)],  list := [(3, { Cue.empty with bytes := [1, 1, 5, 0, 0, 0, 0, 0, 0, 0, 0, 0, 208, 7, 0, 0, 0, 0, 0, 0, 0, 0, 0, 0, 0, 0, 0, 0, 0, 0, 0, 0], owner := 1, committed := true })] } } } : State)) (withRegs [(SESS_FUNC.STATE Func.cue.num, 1), (SESS_FUNC.STATE Func.chn.num, 1), (SESS_FUNC.STATE Func.net.num, 1), (SESS_FUNC.STATE Func.acq.num, 1), (SESS_FUNC.STATE Func.time.num, 1), (SESS_FUNC.STEWARD Func.cue.num, 1), (SESS_FUNC.STEWARD Func.chn.num, 1), (TIME_INCR.INCR 0, 0x0A000000), (NET_STATUS.ETH0_LINK, 1), (LIM_PUB.PORTS, 15)] (wired (withSec 0x30 528 [(64, 2), (67, 255)] (up .operator))))), (fun s : State => ({ s with dev := { s.dev with cue := { s.dev.cue with busy := [(0, 1000)],  list := [(3, { Cue.empty with bytes := [1, 1, 5, 0, 0, 0, 0, 0, 0, 0, 0, 0, 208, 7, 0, 0, 0, 0, 0, 0, 0, 0, 0, 0, 0, 0, 0, 0, 0, 0, 0, 0], owner := 1, committed := true })] } } } : State)) (withRegs [(SESS_FUNC.STATE Func.cue.num, 1), (SESS_FUNC.STATE Func.chn.num, 1), (SESS_FUNC.STATE Func.net.num, 1), (SESS_FUNC.STATE Func.acq.num, 1), (SESS_FUNC.STATE Func.time.num, 1), (SESS_FUNC.STEWARD Func.cue.num, 1), (SESS_FUNC.STEWARD Func.chn.num, 1), (TIME_INCR.INCR 0, 0x0A000000), (NET_STATUS.ETH0_LINK, 1), (LIM_PUB.PORTS, 15)] (wired (withSec 0x30 528 [(64, 2), (67, 255)] (up .operator)))), by decide +kernel⟩

theorem witness_CueOccurrencesRun_frameHeld : ∃ (index : CueIx) (u s : State),
    (Settled s) ∧ (s.dev.awake = true) ∧ (s.dev.works .cue = true) ∧ ((s.dev.cueAt index.val).live = true) ∧ ((s.dev.cueAt index.val).committed = true ∧ (s.dev.cueAt index.val).open_ = false) ∧ ((s.dev.cueAt index.val).inDomain = true ∨ (s.dev.cueAt index.val).startAt (s.dev.cueAt index.val).ran / 65536 ≤ s.dev.phase.cycle) ∧ (u = { s with dev := s.dev.toInstant (s.dev.cueAt index.val) ((s.dev.cueAt index.val).startAt (s.dev.cueAt index.val).ran) 0 }) ∧ ((s.dev.cueAt index.val).action = 1) ∧ (s.dev.outage bedNets = true) :=
  ⟨3, cueAtStart 3 ((fun s : State => ({ s with dev := { s.dev with load := { s.dev.load with outage := [bedNets] } } } : State)) ((fun s : State => ({ s with dev := { s.dev with cue := { s.dev.cue with list := [(3, { Cue.empty with bytes := [1, 1, 5, 0, 0, 0, 0, 0, 0, 0, 0, 0, 208, 7, 0, 0, 0, 0, 0, 0, 0, 0, 0, 0, 0, 0, 0, 0, 0, 0, 0, 0], owner := 1, committed := true })] } } } : State)) (withRegs [(SESS_FUNC.STATE Func.cue.num, 1), (SESS_FUNC.STATE Func.chn.num, 1), (SESS_FUNC.STATE Func.net.num, 1), (SESS_FUNC.STATE Func.acq.num, 1), (SESS_FUNC.STATE Func.time.num, 1), (SESS_FUNC.STEWARD Func.cue.num, 1), (SESS_FUNC.STEWARD Func.chn.num, 1), (TIME_INCR.INCR 0, 0x0A000000), (NET_STATUS.ETH0_LINK, 1), (LIM_PUB.PORTS, 15)] (wired (withSec 0x30 528 [(64, 2), (67, 255)] (up .operator)))))), (fun s : State => ({ s with dev := { s.dev with load := { s.dev.load with outage := [bedNets] } } } : State)) ((fun s : State => ({ s with dev := { s.dev with cue := { s.dev.cue with list := [(3, { Cue.empty with bytes := [1, 1, 5, 0, 0, 0, 0, 0, 0, 0, 0, 0, 208, 7, 0, 0, 0, 0, 0, 0, 0, 0, 0, 0, 0, 0, 0, 0, 0, 0, 0, 0], owner := 1, committed := true })] } } } : State)) (withRegs [(SESS_FUNC.STATE Func.cue.num, 1), (SESS_FUNC.STATE Func.chn.num, 1), (SESS_FUNC.STATE Func.net.num, 1), (SESS_FUNC.STATE Func.acq.num, 1), (SESS_FUNC.STATE Func.time.num, 1), (SESS_FUNC.STEWARD Func.cue.num, 1), (SESS_FUNC.STEWARD Func.chn.num, 1), (TIME_INCR.INCR 0, 0x0A000000), (NET_STATUS.ETH0_LINK, 1), (LIM_PUB.PORTS, 15)] (wired (withSec 0x30 528 [(64, 2), (67, 255)] (up .operator))))), by decide +kernel⟩

theorem witness_CueOccurrencesRun_markEnds : ∃ (index : CueIx) (u s : State),
    (Settled s) ∧ (s.dev.awake = true) ∧ ((s.dev.cueAt index.val).open_ = true) ∧ ((s.dev.cueAt index.val).inDomain = true ∨ (s.dev.cueAt index.val).stopAt ((s.dev.cueAt index.val).ran - 1) / 65536 ≤ s.dev.phase.cycle) ∧ (u = { s with dev := s.dev.toInstant (s.dev.cueAt index.val) ((s.dev.cueAt index.val).stopAt ((s.dev.cueAt index.val).ran - 1)) 0 }) ∧ ((s.dev.cueAt index.val).action = 5) :=
  ⟨3, cueAtStop 3 ((fun s : State => ({ s with dev := { s.dev with cue := { s.dev.cue with list := [(3, { Cue.empty with bytes := [5, 17, 7, 0, 0, 0, 0, 0, 0, 0, 0, 0, 208, 7, 0, 0, 0, 0, 0, 0, 0, 0, 0, 0, 184, 11, 0, 0, 0, 0, 0, 0], owner := 1, ran := 1, open_ := true })] } } } : State)) (withRegs [(SESS_FUNC.STATE Func.cue.num, 1), (SESS_FUNC.STATE Func.chn.num, 1), (SESS_FUNC.STATE Func.net.num, 1), (SESS_FUNC.STATE Func.acq.num, 1), (SESS_FUNC.STATE Func.time.num, 1), (SESS_FUNC.STEWARD Func.cue.num, 1), (SESS_FUNC.STEWARD Func.chn.num, 1), (TIME_INCR.INCR 0, 0x0A000000), (NET_STATUS.ETH0_LINK, 1), (LIM_PUB.PORTS, 15)] (wired (withSec 0x30 528 [(64, 2), (67, 255)] (up .operator))))), (fun s : State => ({ s with dev := { s.dev with cue := { s.dev.cue with list := [(3, { Cue.empty with bytes := [5, 17, 7, 0, 0, 0, 0, 0, 0, 0, 0, 0, 208, 7, 0, 0, 0, 0, 0, 0, 0, 0, 0, 0, 184, 11, 0, 0, 0, 0, 0, 0], owner := 1, ran := 1, open_ := true })] } } } : State)) (withRegs [(SESS_FUNC.STATE Func.cue.num, 1), (SESS_FUNC.STATE Func.chn.num, 1), (SESS_FUNC.STATE Func.net.num, 1), (SESS_FUNC.STATE Func.acq.num, 1), (SESS_FUNC.STATE Func.time.num, 1), (SESS_FUNC.STEWARD Func.cue.num, 1), (SESS_FUNC.STEWARD Func.chn.num, 1), (TIME_INCR.INCR 0, 0x0A000000), (NET_STATUS.ETH0_LINK, 1), (LIM_PUB.PORTS, 15)] (wired (withSec 0x30 528 [(64, 2), (67, 255)] (up .operator)))), by decide +kernel⟩

theorem witness_CueOccurrencesRun_captureEnds : ∃ (index : CueIx) (u s : State),
    (Settled s) ∧ (s.dev.awake = true) ∧ ((s.dev.cueAt index.val).open_ = true) ∧ ((s.dev.cueAt index.val).inDomain = true ∨ (s.dev.cueAt index.val).stopAt ((s.dev.cueAt index.val).ran - 1) / 65536 ≤ s.dev.phase.cycle) ∧ (u = { s with dev := s.dev.toInstant (s.dev.cueAt index.val) ((s.dev.cueAt index.val).stopAt ((s.dev.cueAt index.val).ran - 1)) 0 }) ∧ ((s.dev.cueAt index.val).action = 2) ∧ (s.dev.cue.capBy = some index.val) :=
  ⟨3, cueAtStop 3 ((fun s : State => ({ s with dev := { s.dev with cue := { s.dev.cue with capBy := some 3,  list := [(3, { Cue.empty with bytes := [2, 17, 7, 0, 0, 0, 0, 0, 0, 0, 0, 0, 208, 7, 0, 0, 0, 0, 0, 0, 0, 0, 0, 0, 184, 11, 0, 0, 0, 0, 0, 0], owner := 1, ran := 1, open_ := true })] } } } : State)) (withRegs [(SESS_FUNC.STATE Func.cue.num, 1), (SESS_FUNC.STATE Func.chn.num, 1), (SESS_FUNC.STATE Func.net.num, 1), (SESS_FUNC.STATE Func.acq.num, 1), (SESS_FUNC.STATE Func.time.num, 1), (SESS_FUNC.STEWARD Func.cue.num, 1), (SESS_FUNC.STEWARD Func.chn.num, 1), (TIME_INCR.INCR 0, 0x0A000000), (NET_STATUS.ETH0_LINK, 1), (LIM_PUB.PORTS, 15)] (wired (withSec 0x30 528 [(64, 2), (67, 255)] (up .operator))))), (fun s : State => ({ s with dev := { s.dev with cue := { s.dev.cue with capBy := some 3,  list := [(3, { Cue.empty with bytes := [2, 17, 7, 0, 0, 0, 0, 0, 0, 0, 0, 0, 208, 7, 0, 0, 0, 0, 0, 0, 0, 0, 0, 0, 184, 11, 0, 0, 0, 0, 0, 0], owner := 1, ran := 1, open_ := true })] } } } : State)) (withRegs [(SESS_FUNC.STATE Func.cue.num, 1), (SESS_FUNC.STATE Func.chn.num, 1), (SESS_FUNC.STATE Func.net.num, 1), (SESS_FUNC.STATE Func.acq.num, 1), (SESS_FUNC.STATE Func.time.num, 1), (SESS_FUNC.STEWARD Func.cue.num, 1), (SESS_FUNC.STEWARD Func.chn.num, 1), (TIME_INCR.INCR 0, 0x0A000000), (NET_STATUS.ETH0_LINK, 1), (LIM_PUB.PORTS, 15)] (wired (withSec 0x30 528 [(64, 2), (67, 255)] (up .operator)))), by decide +kernel⟩

theorem witness_CueOccurrencesRun_channelEnds : ∃ (index : CueIx) (u s : State),
    (Settled s) ∧ (s.dev.awake = true) ∧ ((s.dev.cueAt index.val).open_ = true) ∧ ((s.dev.cueAt index.val).inDomain = true ∨ (s.dev.cueAt index.val).stopAt ((s.dev.cueAt index.val).ran - 1) / 65536 ≤ s.dev.phase.cycle) ∧ (u = { s with dev := s.dev.toInstant (s.dev.cueAt index.val) ((s.dev.cueAt index.val).stopAt ((s.dev.cueAt index.val).ran - 1)) 0 }) ∧ ((s.dev.cueAt index.val).action = 3) ∧ ((s.dev.cueAt index.val).target < 32) ∧ (s.dev.channelsTake = true) ∧ (2 ≤ s.mem.img.chanRole (s.dev.cueAt index.val).target ∧ s.mem.img.chanRole (s.dev.cueAt index.val).target ≤ 4) ∧ ((u.dev.chan (s.dev.cueAt index.val).target).last.1 = u.dev.clk + 1 → (u.dev.chan (s.dev.cueAt index.val).target).last.2 ≤ index.val) :=
  ⟨3, cueAtStop 3 ((fun s : State => ({ s with dev := { s.dev with cue := { s.dev.cue with list := [(3, { Cue.empty with bytes := [3, 17, 4, 0, 0, 0, 0, 0, 0, 0, 0, 0, 208, 7, 0, 0, 0, 0, 0, 0, 0, 0, 0, 0, 184, 11, 0, 0, 0, 0, 0, 0], owner := 1, ran := 1, open_ := true })] } } } : State)) (withRegs [(SESS_FUNC.STATE Func.cue.num, 1), (SESS_FUNC.STATE Func.chn.num, 1), (SESS_FUNC.STATE Func.net.num, 1), (SESS_FUNC.STATE Func.acq.num, 1), (SESS_FUNC.STATE Func.time.num, 1), (SESS_FUNC.STEWARD Func.cue.num, 1), (SESS_FUNC.STEWARD Func.chn.num, 1), (TIME_INCR.INCR 0, 0x0A000000), (NET_STATUS.ETH0_LINK, 1), (LIM_PUB.PORTS, 15)] (wired (withSec 0x30 528 [(64, 2), (67, 255)] (up .operator))))), (fun s : State => ({ s with dev := { s.dev with cue := { s.dev.cue with list := [(3, { Cue.empty with bytes := [3, 17, 4, 0, 0, 0, 0, 0, 0, 0, 0, 0, 208, 7, 0, 0, 0, 0, 0, 0, 0, 0, 0, 0, 184, 11, 0, 0, 0, 0, 0, 0], owner := 1, ran := 1, open_ := true })] } } } : State)) (withRegs [(SESS_FUNC.STATE Func.cue.num, 1), (SESS_FUNC.STATE Func.chn.num, 1), (SESS_FUNC.STATE Func.net.num, 1), (SESS_FUNC.STATE Func.acq.num, 1), (SESS_FUNC.STATE Func.time.num, 1), (SESS_FUNC.STEWARD Func.cue.num, 1), (SESS_FUNC.STEWARD Func.chn.num, 1), (TIME_INCR.INCR 0, 0x0A000000), (NET_STATUS.ETH0_LINK, 1), (LIM_PUB.PORTS, 15)] (wired (withSec 0x30 528 [(64, 2), (67, 255)] (up .operator)))), by decide +kernel⟩

theorem witness_CueOccurrencesRun_cueLate : ∃ (port : Path) (slot : Fin 64) (i dom : Nat) (l : List (Nat × Nat)) (u s : State),
    (Settled s) ∧ (s.dev.awake = true) ∧ ((s.dev.slot (64 * port.num + slot.val)).waiting = (i, dom) :: l) ∧ (s.dev.works .net = true) ∧ (s.dev.outage bedNets = false) ∧ (u = { s with dev := s.dev.advanceTo (tget 0 s.dev.cue.busy port.num) }) ∧ (u.dev.portLinked port.num = true) ∧ (u.dev.fitsAhead s.mem port.num (s.dev.slot (64 * port.num + slot.val)).bytes.length = true) :=
  ⟨.eth0, 5, 3, 0, [], portFreed 0 ((fun s : State => ({ s with dev := { s.dev with cue := { s.dev.cue with slots := [(5, { Slot.empty with waiting := [(3, 0)] })], busy := [(0, 500)] } } } : State)) (withRegs [(SESS_FUNC.STATE Func.cue.num, 1), (SESS_FUNC.STATE Func.chn.num, 1), (SESS_FUNC.STATE Func.net.num, 1), (SESS_FUNC.STATE Func.acq.num, 1), (SESS_FUNC.STATE Func.time.num, 1), (SESS_FUNC.STEWARD Func.cue.num, 1), (SESS_FUNC.STEWARD Func.chn.num, 1), (TIME_INCR.INCR 0, 0x0A000000), (NET_STATUS.ETH0_LINK, 1), (LIM_PUB.PORTS, 15), (LIM_PUB.PHASE, 0x8000)] (wired (withSec 0x30 528 [(64, 2), (67, 255)] (up .operator))))), (fun s : State => ({ s with dev := { s.dev with cue := { s.dev.cue with slots := [(5, { Slot.empty with waiting := [(3, 0)] })], busy := [(0, 500)] } } } : State)) (withRegs [(SESS_FUNC.STATE Func.cue.num, 1), (SESS_FUNC.STATE Func.chn.num, 1), (SESS_FUNC.STATE Func.net.num, 1), (SESS_FUNC.STATE Func.acq.num, 1), (SESS_FUNC.STATE Func.time.num, 1), (SESS_FUNC.STEWARD Func.cue.num, 1), (SESS_FUNC.STEWARD Func.chn.num, 1), (TIME_INCR.INCR 0, 0x0A000000), (NET_STATUS.ETH0_LINK, 1), (LIM_PUB.PORTS, 15), (LIM_PUB.PHASE, 0x8000)] (wired (withSec 0x30 528 [(64, 2), (67, 255)] (up .operator)))), by decide +kernel⟩

theorem witness_CueOccurrencesRun_cueLateUnlinked : ∃ (port : Path) (slot : Fin 64) (i dom : Nat) (l : List (Nat × Nat)) (u s : State),
    (Settled s) ∧ (s.dev.awake = true) ∧ ((s.dev.slot (64 * port.num + slot.val)).waiting = (i, dom) :: l) ∧ (s.dev.works .net = true) ∧ (s.dev.outage bedNets = false) ∧ (u = { s with dev := s.dev.advanceTo (tget 0 s.dev.cue.busy port.num) }) ∧ (u.dev.portLinked port.num = false) :=
  ⟨.eth0, 5, 3, 0, [], portFreed 0 ((fun s : State => ({ s with dev := { s.dev with cue := { s.dev.cue with slots := [(5, { Slot.empty with waiting := [(3, 0)] })], busy := [(0, 500)] } } } : State)) (withRegs [(NET_STATUS.CAN1_IDLE, 0), (SESS_FUNC.STATE Func.cue.num, 1), (SESS_FUNC.STATE Func.chn.num, 1), (SESS_FUNC.STATE Func.net.num, 1), (SESS_FUNC.STATE Func.acq.num, 1), (SESS_FUNC.STATE Func.time.num, 1), (SESS_FUNC.STEWARD Func.cue.num, 1), (SESS_FUNC.STEWARD Func.chn.num, 1), (TIME_INCR.INCR 0, 0x0A000000), (LIM_PUB.PORTS, 15), (LIM_PUB.PHASE, 0x8000)] (wired (withSec 0x30 528 [(64, 2), (67, 255)] (up .operator))))), (fun s : State => ({ s with dev := { s.dev with cue := { s.dev.cue with slots := [(5, { Slot.empty with waiting := [(3, 0)] })], busy := [(0, 500)] } } } : State)) (withRegs [(NET_STATUS.CAN1_IDLE, 0), (SESS_FUNC.STATE Func.cue.num, 1), (SESS_FUNC.STATE Func.chn.num, 1), (SESS_FUNC.STATE Func.net.num, 1), (SESS_FUNC.STATE Func.acq.num, 1), (SESS_FUNC.STATE Func.time.num, 1), (SESS_FUNC.STEWARD Func.cue.num, 1), (SESS_FUNC.STEWARD Func.chn.num, 1), (TIME_INCR.INCR 0, 0x0A000000), (LIM_PUB.PORTS, 15), (LIM_PUB.PHASE, 0x8000)] (wired (withSec 0x30 528 [(64, 2), (67, 255)] (up .operator)))), by decide +kernel⟩

theorem witness_CueOccurrencesRun_cueLateKept : ∃ (port : Path) (slot : Fin 64) (i dom : Nat) (l : List (Nat × Nat)) (u s : State),
    (Settled s) ∧ (s.dev.awake = true) ∧ ((s.dev.slot (64 * port.num + slot.val)).waiting = (i, dom) :: l) ∧ (s.dev.works .net = true) ∧ (s.dev.outage bedNets = false) ∧ (u = { s with dev := s.dev.advanceTo (tget 0 s.dev.cue.busy port.num) }) ∧ (u.dev.portLinked port.num = true) ∧ (u.dev.fitsAhead s.mem port.num (s.dev.slot (64 * port.num + slot.val)).bytes.length = false) :=
  ⟨.eth0, 5, 3, 0, [], portFreed 0 ((fun s : State => ({ s with dev := { s.dev with cue := { s.dev.cue with list := [(7, { Cue.empty with bytes := [1, 1, 9, 0, 0, 0, 0, 0, 0, 0, 0, 0, 208, 7, 0, 0, 0, 0, 0, 0, 0, 0, 0, 0, 0, 0, 0, 0, 0, 0, 0, 0], owner := 1, committed := true })], slots := [(5, { Slot.empty with waiting := [(3, 0)] })], busy := [(0, 500)] } } } : State)) (withRegs [(SESS_FUNC.STATE Func.cue.num, 1), (SESS_FUNC.STATE Func.chn.num, 1), (SESS_FUNC.STATE Func.net.num, 1), (SESS_FUNC.STATE Func.acq.num, 1), (SESS_FUNC.STATE Func.time.num, 1), (SESS_FUNC.STEWARD Func.cue.num, 1), (SESS_FUNC.STEWARD Func.chn.num, 1), (TIME_INCR.INCR 0, 0x0A000000), (NET_STATUS.ETH0_LINK, 1), (LIM_PUB.PORTS, 15), (LIM_PUB.PHASE, 0x8000)] (wired (withSec 0x30 528 [(64, 2), (67, 255)] (up .operator))))), (fun s : State => ({ s with dev := { s.dev with cue := { s.dev.cue with list := [(7, { Cue.empty with bytes := [1, 1, 9, 0, 0, 0, 0, 0, 0, 0, 0, 0, 208, 7, 0, 0, 0, 0, 0, 0, 0, 0, 0, 0, 0, 0, 0, 0, 0, 0, 0, 0], owner := 1, committed := true })], slots := [(5, { Slot.empty with waiting := [(3, 0)] })], busy := [(0, 500)] } } } : State)) (withRegs [(SESS_FUNC.STATE Func.cue.num, 1), (SESS_FUNC.STATE Func.chn.num, 1), (SESS_FUNC.STATE Func.net.num, 1), (SESS_FUNC.STATE Func.acq.num, 1), (SESS_FUNC.STATE Func.time.num, 1), (SESS_FUNC.STEWARD Func.cue.num, 1), (SESS_FUNC.STEWARD Func.chn.num, 1), (TIME_INCR.INCR 0, 0x0A000000), (NET_STATUS.ETH0_LINK, 1), (LIM_PUB.PORTS, 15), (LIM_PUB.PHASE, 0x8000)] (wired (withSec 0x30 528 [(64, 2), (67, 255)] (up .operator)))), by decide +kernel⟩

theorem witness_NetworkFramesAndErrorsAreHandled_answered : ∃ (c : Instr) (eth : Eth) (addr : List Byte) (kind : Nat) (s : State),
    (Settled s) ∧ (s.dev.awake = true) ∧ ((c = .arp eth addr ∧ kind = 0 ∨ c = .neighbourDiscovery eth addr ∧ kind = 1 ∨ c = .icmpEcho eth addr ∧ kind = 2)) ∧ (s.dev.hears s.mem eth.val addr = true) :=
  ⟨.icmpEcho 0 [192, 168, 0, 7], 0, [192, 168, 0, 7], 2, withSec 0x51 176 [(0, 1), (24, 192), (25, 168), (27, 7), (29, 7), (30, 0xD4), (31, 0x12), (146, 3)] (up .operator), by decide +kernel⟩

theorem witness_NetworkFramesAndErrorsAreHandled_dropped : ∃ (c : Instr) (eth : Eth) (addr : List Byte) (kind : Nat) (s : State),
    (Settled s) ∧ (s.dev.awake = true) ∧ (((c = .arp eth addr ∧ kind = 0 ∨ c = .neighbourDiscovery eth addr ∧ kind = 1 ∨ c = .icmpEcho eth addr ∧ kind = 2) ∧ s.dev.hears s.mem eth.val addr = false ∨ c = .rxDrop eth)) :=
  ⟨.arp 0 [1, 2, 3, 4], 0, [1, 2, 3, 4], 0, withSec 0x51 176 [(0, 1), (24, 192), (25, 168), (27, 7), (29, 7), (30, 0xD4), (31, 0x12), (146, 3)] (up .operator), by decide +kernel⟩

theorem witness_NetworkFramesAndErrorsAreHandled_rxErr : ∃ (eth : Eth) (s : State),
    (Settled s) ∧ (s.dev.awake = true) :=
  ⟨1, withRegs [(NET_ETH.RX_ERR 1, 0xFFFF)] (withSec 0x51 176 [(0, 1), (24, 192), (25, 168), (27, 7), (29, 7), (30, 0xD4), (31, 0x12), (146, 3)] (up .operator)), by decide +kernel⟩

theorem witness_NetworkFramesAndErrorsAreHandled_linkChange : ∃ (eth : Eth) (up : Bool) (s : State),
    (Settled s) :=
  ⟨1, true, withSec 0x51 176 [(0, 1), (24, 192), (25, 168), (27, 7), (29, 7), (30, 0xD4), (31, 0x12), (146, 3)] (up .operator), by decide +kernel⟩

theorem witness_NetworkFramesAndErrorsAreHandled_canError : ∃ (upper : Bool) (tec rxc : Nat) (s : State),
    (Settled s) ∧ (s.dev.rd (NET_CAN.STATE upper.toNat) ≠ 3) :=
  ⟨true, 256, 3, withSec 0x51 176 [(0, 1), (24, 192), (25, 168), (27, 7), (29, 7), (30, 0xD4), (31, 0x12), (146, 3)] (up .operator), by decide +kernel⟩

theorem witness_NetworkFramesAndErrorsAreHandled_canDisabled : ∃ (upper : Bool) (tec rxc : Nat) (s : State),
    (Settled s) ∧ (s.dev.rd (NET_CAN.STATE upper.toNat) = 3) :=
  ⟨true, 256, 3, withRegs [(NET_CAN.STATE 1, 3)] (withSec 0x51 176 [(0, 1), (24, 192), (25, 168), (27, 7), (29, 7), (30, 0xD4), (31, 0x12), (146, 3)] (up .operator)), by decide +kernel⟩

theorem witness_NetworkFramesAndErrorsAreHandled_busOffRecovery : ∃ (upper : Bool) (s : State),
    (Settled s) ∧ (s.dev.rd (NET_CAN.STATE upper.toNat) = 2) :=
  ⟨false, withRegs [(NET_CAN.STATE 0, 2), (NET_CAN.TEC 0, 255)] (withSec 0x51 176 [(0, 1), (24, 192), (25, 168), (27, 7), (29, 7), (30, 0xD4), (31, 0x12), (146, 3)] (up .operator)), by decide +kernel⟩

theorem witness_NetworkFramesAndErrorsAreHandled_fragmentKept : ∃ (upper : Bool) (session : Sid) (typ : Byte) (index count : Fin 8) (seq : Word) (bytes : List Byte) (old : List Byte) (s : State),
    (Settled s) ∧ (s.dev.rapOn s.mem (if upper = true then Path.can1 else Path.can0) = true) ∧ (1 ≤ bytes.length ∧ bytes.length ≤ 56) ∧ (index.val < count.val) ∧ (index.val = 0 ∧ old = [] ∨ 0 < index.val ∧ s.dev.canRx (64 * (if upper = true then Path.can1 else Path.can0).num + session.val) = some ⟨typ.toNat, count.val, index.val, seq.toNat, old⟩) ∧ ((old ++ bytes).length ≤ canLongest typ.toNat) ∧ (index.val + 1 < count.val) :=
  ⟨false, 1, 0x10, 0, 2, 1, [1, 2], [], withSec 0x51 176 [(0, 1), (24, 192), (25, 168), (27, 7), (29, 7), (30, 0xD4), (31, 0x12), (146, 3)] (up .operator), by decide +kernel⟩

theorem witness_NetworkFramesAndErrorsAreHandled_fragmentCompletes : ∃ (upper : Bool) (session : Sid) (typ : Byte) (index count : Fin 8) (seq : Word) (bytes : List Byte) (old : List Byte) (s : State),
    (Settled s) ∧ (s.dev.rapOn s.mem (if upper = true then Path.can1 else Path.can0) = true) ∧ (1 ≤ bytes.length ∧ bytes.length ≤ 56) ∧ (index.val < count.val) ∧ (index.val = 0 ∧ old = [] ∨ 0 < index.val ∧ s.dev.canRx (64 * (if upper = true then Path.can1 else Path.can0).num + session.val) = some ⟨typ.toNat, count.val, index.val, seq.toNat, old⟩) ∧ ((old ++ bytes).length ≤ canLongest typ.toNat) ∧ (index.val + 1 = count.val) :=
  ⟨false, 1, 0x10, 1, 2, 1, [3], [1, 2], (fun s : State => ({ s with dev := { s.dev with net := { s.dev.net with canRx := [(129, ⟨16, 2, 1, 1, [1, 2]⟩)] } } } : State)) (withSec 0x51 176 [(0, 1), (24, 192), (25, 168), (27, 7), (29, 7), (30, 0xD4), (31, 0x12), (146, 3)] (up .operator)), by decide +kernel⟩

theorem witness_NetworkFramesAndErrorsAreHandled_fragmentOutOfOrder : ∃ (upper : Bool) (session : Sid) (typ : Byte) (index count : Fin 8) (seq : Word) (bytes : List Byte) (x : CanRx) (s : State),
    (Settled s) ∧ (s.dev.rapOn s.mem (if upper = true then Path.can1 else Path.can0) = true) ∧ (0 < index.val) ∧ (s.dev.canRx (64 * (if upper = true then Path.can1 else Path.can0).num + session.val) = some x) ∧ (x.typ ≠ typ.toNat ∨ x.count ≠ count.val ∨ x.seq ≠ seq.toNat ∨ x.next ≠ index.val) :=
  ⟨false, 1, 0x10, 2, 3, 1, [3], ⟨16, 3, 1, 1, [1, 2]⟩, (fun s : State => ({ s with dev := { s.dev with net := { s.dev.net with canRx := [(129, ⟨16, 3, 1, 1, [1, 2]⟩)] } } } : State)) (withSec 0x51 176 [(0, 1), (24, 192), (25, 168), (27, 7), (29, 7), (30, 0xD4), (31, 0x12), (146, 3)] (up .operator)), by decide +kernel⟩

theorem witness_NetworkFramesAndErrorsAreHandled_fragmentBad : ∃ (upper : Bool) (session : Sid) (typ : Byte) (index count : Fin 8) (seq : Word) (bytes : List Byte) (s : State),
    (Settled s) ∧ (s.dev.rapOn s.mem (if upper = true then Path.can1 else Path.can0) = true) ∧ (bytes = [] ∨ 56 < bytes.length ∨ count.val ≤ index.val) :=
  ⟨false, 1, 0x10, 3, 3, 1, [3], (fun s : State => ({ s with dev := { s.dev with net := { s.dev.net with canRx := [(129, ⟨16, 3, 1, 1, [1, 2]⟩)] } } } : State)) (withSec 0x51 176 [(0, 1), (24, 192), (25, 168), (27, 7), (29, 7), (30, 0xD4), (31, 0x12), (146, 3)] (up .operator)), by decide +kernel⟩

theorem witness_NetworkFramesAndErrorsAreHandled_fragmentTimeout : ∃ (upper : Bool) (session : Sid) (s : State),
    (Settled s) :=
  ⟨false, 1, (fun s : State => ({ s with dev := { s.dev with net := { s.dev.net with canRx := [(129, ⟨16, 3, 1, 1, [1, 2]⟩)] } } } : State)) (withSec 0x51 176 [(0, 1), (24, 192), (25, 168), (27, 7), (29, 7), (30, 0xD4), (31, 0x12), (146, 3)] (up .operator)), by decide +kernel⟩

theorem witness_RecordsReachMramAndAreExported_recordWrite : ∃ (result : WriteResult) (x : Rec) (l : List Rec) (s : State),
    (Settled s) ∧ (s.dev.recWrites = true) ∧ (s.dev.rcd.urgent = []) ∧ (s.dev.rcd.staging = x :: l) ∧ ((x.src, x.code) ≠ recThermalShutdown) ∧ (s.dev.on REC_STATUS.MAIN_FAILED = false) ∧ (result ≠ .failed) :=
  ⟨.retried, ⟨5, 12, 2, 0, 0, 0, 0, 0, 0, 0, [1, 2]⟩, [], (fun s : State => ({ s with dev := { s.dev with rcd := { s.dev.rcd with staging := [⟨5, 12, 2, 0, 0, 0, 0, 0, 0, 0, [1, 2]⟩] } } } : State)) (withRegs [(SESS_FUNC.STATE 12, 1), (SESS_FUNC.STATE 13, 1)] (up .auditor)), by decide +kernel⟩

theorem witness_RecordsReachMramAndAreExported_recordUnderstudy : ∃ (result : WriteResult) (x : Rec) (l : List Rec) (s : State),
    (Settled s) ∧ (s.dev.recWrites = true) ∧ (s.dev.rcd.urgent = []) ∧ (s.dev.rcd.staging = x :: l) ∧ ((x.src, x.code) ≠ recThermalShutdown) ∧ (s.dev.on REC_STATUS.MAIN_FAILED = true) ∧ (result ≠ .failed) ∧ (x.src ≠ 12) :=
  ⟨.good, ⟨5, 4, 2, 0, 0, 0, 0, 0, 0, 0, [1, 2]⟩, [], (fun s : State => ({ s with dev := { s.dev with rcd := { s.dev.rcd with staging := [⟨5, 4, 2, 0, 0, 0, 0, 0, 0, 0, [1, 2]⟩], usB := 23, toCopy := [31] } } } : State)) (withRegs [(SESS_FUNC.STATE 12, 1), (SESS_FUNC.STATE 13, 1), (REC_STATUS.MAIN_FAILED, 1)] (up .auditor)), by decide +kernel⟩

theorem witness_RecordsReachMramAndAreExported_thermalRecord : ∃ (x : Rec) (l : List Rec) (result : WriteResult) (s : State),
    (Settled s) ∧ (s.dev.alive = true) ∧ (s.dev.rcd.urgent = x :: l) ∧ ((x.src, x.code) = recThermalShutdown) ∧ (s.dev.on REC_STATUS.MAIN_FAILED = false) ∧ (result ≠ .failed) :=
  ⟨{ seq := 9, src := recThermalShutdown.1, code := recThermalShutdown.2, rep := 0, dq := 0, domSec := 0, domNs := 0, mono := 0, phase := 0, cycle := 0, data := [1] }, [], .good, (fun s : State => ({ s with dev := { s.dev with rcd := { s.dev.rcd with urgent := [{ seq := 9, src := recThermalShutdown.1, code := recThermalShutdown.2, rep := 0, dq := 0, domSec := 0, domNs := 0, mono := 0, phase := 0, cycle := 0, data := [1] }] } } } : State)) (withRegs [(SESS_FUNC.STATE 12, 1), (SESS_FUNC.STATE 13, 1)] (up .auditor)), by decide +kernel⟩

theorem witness_RecordsReachMramAndAreExported_recordFails : ∃ (x : Rec) (l : List Rec) (s : State),
    (Settled s) ∧ (s.dev.recWrites = true) ∧ (s.dev.rcd.urgent = []) ∧ (s.dev.rcd.staging = x :: l) ∧ ((x.src, x.code) ≠ recThermalShutdown) ∧ (s.dev.on REC_STATUS.MAIN_FAILED = false) ∧ (l.length < 1024) ∧ (∀ z ∈ l, z.mono ≠ s.dev.rcd.monoBase + 10 * s.dev.clk) :=
  ⟨⟨5, 4, 2, 0, 0, 0, 0, 0, 0, 0, [1, 2]⟩, [], (fun s : State => ({ s with dev := { s.dev with rcd := { s.dev.rcd with staging := [⟨5, 4, 2, 0, 0, 0, 0, 0, 0, 0, [1, 2]⟩] } } } : State)) (withRegs [(SESS_FUNC.STATE 12, 1), (SESS_FUNC.STATE 13, 1)] (up .auditor)), by decide +kernel⟩

theorem witness_RecordsReachMramAndAreExported_recStagingOverflow : ∃ (s : State),
    (Settled s) ∧ (s.dev.recWrites = true) ∧ (0 < s.dev.rcd.lost) ∧ (s.dev.rcd.staging.length + s.dev.rcd.urgent.length < 1024) ∧ (∀ z ∈ s.dev.rcd.urgent ++ s.dev.rcd.staging, z.mono ≠ s.dev.rcd.monoBase + 10 * s.dev.clk) :=
  ⟨(fun s : State => ({ s with dev := { s.dev with rcd := { s.dev.rcd with lost := 7 } } } : State)) (withRegs [(SESS_FUNC.STATE 12, 1), (SESS_FUNC.STATE 13, 1)] (up .auditor)), by decide +kernel⟩

theorem witness_RecordsReachMramAndAreExported_mainRewrite : ∃ (s : State),
    (Settled s) ∧ (s.dev.recWrites = true) ∧ (s.dev.on REC_STATUS.MAIN_FAILED = true) ∧ (s.dev.rcd.failEntry ≠ []) ∧ (∀ z ∈ s.dev.rcd.urgent ++ s.dev.rcd.staging, z.mono ≠ s.dev.rcd.monoBase + 10 * s.dev.clk) :=
  ⟨(fun s : State => ({ s with dev := { s.dev with rcd := { s.dev.rcd with us := [(8, (⟨5, 4, 2, 0, 0, 0, 0, 0, 0, 0, [1, 2]⟩ : Rec).bytes)], toCopy := [8], failPos := 6, failEntry := (⟨5, 3, 2, 0, 0, 0, 0, 0, 0, 0, [1, 2]⟩ : Rec).bytes } } } : State)) (withRegs [(SESS_FUNC.STATE 12, 1), (SESS_FUNC.STATE 13, 1), (REC_STATUS.MAIN_FAILED, 1)] (up .auditor)), by decide +kernel⟩

theorem witness_RecordsReachMramAndAreExported_mainRewriteFails : ∃ (s : State),
    (Settled s) :=
  ⟨withRegs [(SESS_FUNC.STATE 12, 1), (SESS_FUNC.STATE 13, 1), (REC_STATUS.MAIN_FAILED, 1)] (up .auditor), by decide +kernel⟩

theorem witness_RecordsReachMramAndAreExported_readSeq : ∃ (sid : Sid) (s : State),
    (Settled s) ∧ (Heard sid s) ∧ (s.dev.isSteward sid .recorder = true ∨ (s.dev.sess sid.val).role = .auditor ∧ (s.dev.sess sid.val).key ≠ 0) :=
  ⟨1, (fun s : State => ({ s with dev := { s.dev with rcd := { s.dev.rcd with main := [(2, (⟨5, 4, 2, 0, 0, 0, 0, 0, 0, 0, [1, 2]⟩ : Rec).bytes)] } } } : State)) (withRegs [(SESS_FUNC.STATE 12, 1), (SESS_FUNC.STATE 13, 1)] (up .auditor)), by decide +kernel⟩

theorem witness_RecordsReachMramAndAreExported_readRaw : ∃ (sid : Sid) (understudy : Bool) (pos : BitVec 12) (s : State),
    (Settled s) ∧ (Heard sid s) ∧ (s.dev.isSteward sid .recorder = true ∨ (s.dev.sess sid.val).role = .auditor ∧ (s.dev.sess sid.val).key ≠ 0) ∧ (pos.toNat ≤ (if understudy = true then 28 else 4092)) :=
  ⟨1, true, 28, (fun s : State => ({ s with dev := { s.dev with rcd := { s.dev.rcd with us := [(31, (⟨5, 4, 2, 0, 0, 0, 0, 0, 0, 0, [1, 2]⟩ : Rec).bytes)] } } } : State)) (withRegs [(SESS_FUNC.STATE 12, 1), (SESS_FUNC.STATE 13, 1)] (up .auditor)), by decide +kernel⟩

theorem witness_RecordsReachMramAndAreExported_readRawRefused : ∃ (sid : Sid) (understudy : Bool) (pos : BitVec 12) (s : State),
    (Settled s) ∧ (Heard sid s) ∧ (s.dev.isSteward sid .recorder = true ∨ (s.dev.sess sid.val).role = .auditor ∧ (s.dev.sess sid.val).key ≠ 0) ∧ ((if understudy = true then 28 else 4092) < pos.toNat) :=
  ⟨1, true, 29, withRegs [(SESS_FUNC.STATE 12, 1), (SESS_FUNC.STATE 13, 1)] (up .auditor), by decide +kernel⟩

theorem witness_TheLedgerIsStoredAndSigned_ledgerStore : ∃ (s : State),
    (Settled s) ∧ (s.dev.alive = true) ∧ (s.dev.outage bedRecl = false) :=
  ⟨(fun s : State => ({ s with dev := { s.dev with lgr := { s.dev.lgr with chg := [(3, (5 : Rat) / 2)] } } } : State)) (withRegs [(SESS_FUNC.STATE 12, 1), (SESS_FUNC.STATE 13, 1)] (up .auditor)), by decide +kernel⟩

theorem witness_TheLedgerIsStoredAndSigned_checkpointDue : ∃ (s : State),
    (Settled s) ∧ (s.dev.alive = true) ∧ (s.dev.outage bedRecl = false) ∧ (s.dev.phase.k = 0) ∧ (s.dev.clk = s.dev.phase.boundAt) ∧ (s.dev.lgr.mult < s.dev.ledgerSec / 900) ∧ (s.dev.works .lgr = true) :=
  ⟨(fun s : State => ({ s with dev := { s.dev with clk := 90000000000 } } : State)) ((fun s : State => ({ s with dev := { s.dev with phase := { s.dev.phase with k := 0, boundAt := 90000000000 } } } : State)) (withRegs [(SESS_FUNC.STATE 12, 1), (SESS_FUNC.STATE 13, 1), (SESS_FUNC.STATE 0, 1)] (up .auditor))), by decide +kernel⟩

theorem witness_TheLedgerIsStoredAndSigned_checkpointMissed : ∃ (s : State),
    (Settled s) ∧ (s.dev.alive = true) ∧ (s.dev.outage bedRecl = false) ∧ (s.dev.phase.k = 0) ∧ (s.dev.clk = s.dev.phase.boundAt) ∧ (s.dev.lgr.mult < s.dev.ledgerSec / 900) ∧ (s.dev.works .lgr = false) :=
  ⟨(fun s : State => ({ s with dev := { s.dev with clk := 90000000000 } } : State)) ((fun s : State => ({ s with dev := { s.dev with phase := { s.dev.phase with k := 0, boundAt := 90000000000 } } } : State)) (up .operator)), by decide +kernel⟩

theorem witness_TheLedgerIsStoredAndSigned_checkpointWritten : ∃ (result : WriteResult) (b : CpBody) (l : List CpBody) (s : State),
    (Settled s) ∧ (s.dev.alive = true) ∧ (s.dev.outage bedRecl = false) ∧ (s.dev.works .lgr = true) ∧ (s.dev.lgr.bodies = b :: l) ∧ (∀ x ∈ s.dev.rcd.urgent ++ s.dev.rcd.staging, b.xseq < x.seq) ∧ (result ≠ .failed) :=
  ⟨.good, ⟨7, 900, 0, 0, 1, 2, 4, 1⟩, [], (fun s : State => ({ s with dev := { s.dev with rcd := { s.dev.rcd with staging := [⟨5, 4, 2, 0, 0, 0, 0, 0, 0, 0, [1, 2]⟩] } } } : State)) ((fun s : State => ({ s with dev := { s.dev with lgr := { s.dev.lgr with bodies := [⟨7, 900, 0, 0, 1, 2, 4, 1⟩], torn := [7] } } } : State)) (withRegs [(SESS_FUNC.STATE 12, 1), (SESS_FUNC.STATE 13, 1)] (up .auditor))), by decide +kernel⟩

theorem witness_TheLedgerIsStoredAndSigned_checkpointFails : ∃ (b : CpBody) (l : List CpBody) (s : State),
    (Settled s) ∧ (s.dev.alive = true) ∧ (s.dev.outage bedRecl = false) ∧ (s.dev.works .lgr = true) ∧ (s.dev.lgr.bodies = b :: l) ∧ (∀ x ∈ s.dev.rcd.urgent ++ s.dev.rcd.staging, b.xseq < x.seq) :=
  ⟨⟨7, 900, 0, 0, 1, 2, 4, 1⟩, [], (fun s : State => ({ s with dev := { s.dev with rcd := { s.dev.rcd with staging := [⟨5, 4, 2, 0, 0, 0, 0, 0, 0, 0, [1, 2]⟩] } } } : State)) ((fun s : State => ({ s with dev := { s.dev with lgr := { s.dev.lgr with bodies := [⟨7, 900, 0, 0, 1, 2, 4, 1⟩], torn := [7] } } } : State)) (withRegs [(SESS_FUNC.STATE 12, 1), (SESS_FUNC.STATE 13, 1)] (up .auditor))), by decide +kernel⟩

theorem witness_TheLedgerIsStoredAndSigned_readCp : ∃ (sid : Sid) (s : State),
    (Settled s) ∧ (Heard sid s) ∧ (s.dev.isSteward sid .lgr = true ∨ (s.dev.sess sid.val).role = .auditor ∧ (s.dev.sess sid.val).key ≠ 0) :=
  ⟨1, (fun s : State => ({ s with dev := { s.dev with lgr := { s.dev.lgr with ring := [(0, (⟨0, 900, 0, 0, 1, 2, 4, 1⟩ : CpBody).bytes)] } } } : State)) (withRegs [(SESS_FUNC.STATE 12, 1), (SESS_FUNC.STATE 13, 1)] (up .auditor)), by decide +kernel⟩

theorem witness_SupplyInputsAndHoldupAreJudged_auxInputLost : ∃ (b : Bool) (s : State),
    (Settled s) ∧ (s.dev.powered = true) ∧ (s.dev.pwr.lost b = false) ∧ (s.dev.pwr.lost (!b) = false) :=
  ⟨true, up .maintainer, by decide +kernel⟩

theorem witness_SupplyInputsAndHoldupAreJudged_auxInputRestored : ∃ (b : Bool) (s : State),
    (Settled s) ∧ (s.dev.powered = true) ∧ (s.dev.pwr.lost b = true) :=
  ⟨true, (fun s : State => ({ s with dev := { s.dev with pwr := { s.dev.pwr with lostB := true } } } : State)) (up .maintainer), by decide +kernel⟩

theorem witness_SupplyInputsAndHoldupAreJudged_auxReversed : ∃ (b : Bool) (s : State),
    (Settled s) ∧ (s.dev.powered = true) ∧ (s.dev.on (revFld b) = false) :=
  ⟨true, up .maintainer, by decide +kernel⟩

theorem witness_SupplyInputsAndHoldupAreJudged_auxReversedAgain : ∃ (b : Bool) (s : State),
    (Settled s) ∧ (s.dev.powered = true) ∧ (s.dev.on (revFld b) = true) :=
  ⟨false, withRegs [(PWR_STATUS.AUX_A_REV, 1)] (up .maintainer), by decide +kernel⟩

theorem witness_SupplyInputsAndHoldupAreJudged_auxReverseClear : ∃ (b : Bool) (s : State),
    (Settled s) ∧ (s.dev.powered = true) :=
  ⟨false, withRegs [(PWR_STATUS.AUX_A_REV, 1)] (up .maintainer), by decide +kernel⟩

theorem witness_SupplyInputsAndHoldupAreJudged_holdupStart : ∃ (s : State),
    (Settled s) ∧ (s.dev.powered = true) ∧ (s.dev.on PWR_STATUS.HOLDUP = false) :=
  ⟨up .maintainer, by decide +kernel⟩

theorem witness_SupplyInputsAndHoldupAreJudged_holdupEnd : ∃ (s : State),
    (Settled s) ∧ (s.dev.powered = true) ∧ (s.dev.on PWR_STATUS.HOLDUP = true) :=
  ⟨withRegs [(PWR_STATUS.HOLDUP, 1)] (up .maintainer), by decide +kernel⟩

theorem witness_SupplyInputsAndHoldupAreJudged_recoveryPhaseEnd : ∃ (s : State),
    (Settled s) :=
  ⟨(fun s : State => ({ s with dev := { s.dev with pwr := { s.dev.pwr with recovEnd := some 9 } } } : State)) (up .maintainer), by decide +kernel⟩

theorem witness_SupplyInputsAndHoldupAreJudged_holdCharged : ∃ (c : BitVec 16) (s : State),
    (Settled s) ∧ (s.dev.powered = true) ∧ (s.dev.stage < 4) ∧ (s.dev.on PWR_STATUS.HOLDUP = false) ∧ (10 * s.dev.rd PWR_CFG.HOLD_MIN ≤ c.toNat) ∧ (s.dev.pwr.slow = false) :=
  ⟨470, withRegs [(PWR_STATUS.HOLD_LOW, 1), (PWR_CFG.HOLD_MIN, 47)] (up .maintainer), by decide +kernel⟩

theorem witness_SupplyInputsAndHoldupAreJudged_holdTooSmall : ∃ (c : BitVec 16) (s : State),
    (Settled s) ∧ (s.dev.powered = true) ∧ (s.dev.stage < 4) ∧ (s.dev.on PWR_STATUS.HOLDUP = false) ∧ (c.toNat < 10 * s.dev.rd PWR_CFG.HOLD_MIN) :=
  ⟨469, withRegs [(PWR_CFG.HOLD_MIN, 47)] (up .maintainer), by decide +kernel⟩

theorem witness_SupplyInputsAndHoldupAreJudged_noCharger : ∃ (c : BitVec 16) (s : State),
    (Settled s) ∧ (s.dev.powered = true) ∧ (s.dev.stage = 4 ∨ s.dev.on PWR_STATUS.HOLDUP = true) :=
  ⟨470, (fun s : State => ({ s with dev := { s.dev with pwr := { s.dev.pwr with p4 := true } } } : State)) (up .maintainer), by decide +kernel⟩

theorem witness_SupplyInputsAndHoldupAreJudged_holdLow : ∃ (s : State),
    (Settled s) ∧ (s.dev.powered = true) ∧ (s.dev.stage < 4) ∧ (s.dev.on PWR_STATUS.HOLDUP = false) ∧ (s.dev.on PWR_STATUS.HOLD_LOW = false) :=
  ⟨up .maintainer, by decide +kernel⟩

theorem witness_SupplyStagesShedAndReturn_pruneEnter : ∃ (stage : Fin 4) (s : State),
    (Settled s) ∧ (s.dev.powered = true) ∧ (s.dev.alive = true) ∧ (s.dev.pwr.staged (stage.val + 1) = false) :=
  ⟨3, up .maintainer, by decide +kernel⟩

theorem witness_SupplyStagesShedAndReturn_pruneOne : ∃ (s : State),
    (Settled s) ∧ (s.dev.powered = true) ∧ (s.dev.pwr.p1 = false) ∧ (∀ z ∈ s.dev.rcd.urgent ++ s.dev.rcd.staging, z.mono ≠ s.dev.rcd.monoBase + 10 * s.dev.clk) :=
  ⟨up .maintainer, by decide +kernel⟩

theorem witness_SupplyStagesShedAndReturn_pruneTwo : ∃ (s : State),
    (Settled s) ∧ (s.dev.powered = true) ∧ (s.dev.alive = true) ∧ (s.dev.pwr.p2 = false) :=
  ⟨(fun s : State => ({ s with dev := { s.dev with net := ⟨[(1, { Sess.free with life := .opened, key := 5, path := .eth0 }), (2, { Sess.free with life := .opened, key := 5, path := .can1 })], [], [], [], []⟩ } } : State)) (up .maintainer), by decide +kernel⟩

theorem witness_SupplyStagesShedAndReturn_pruneThree : ∃ (s : State),
    (Settled s) ∧ (s.dev.powered = true) ∧ (s.dev.alive = true) ∧ (s.dev.pwr.p3 = false) ∧ (s.dev.pwr.p4 = false) :=
  ⟨withRegs [(SEQ_STATE.STATE 0, 2), (SEQ_STATE.STATE 1, 6)] (up .maintainer), by decide +kernel⟩

theorem witness_SupplyStagesShedAndReturn_pruneFour : ∃ (s : State),
    (Settled s) ∧ (s.dev.powered = true) ∧ (s.dev.alive = true) ∧ (s.dev.pwr.p4 = false) :=
  ⟨up .maintainer, by decide +kernel⟩

theorem witness_SupplyStagesShedAndReturn_pruneExit : ∃ (stage : Fin 4) (s : State),
    (Settled s) ∧ (s.dev.powered = true) ∧ (s.dev.pwr.staged (stage.val + 1) = true) ∧ (s.dev.pwr.calWait = false) :=
  ⟨3, (fun s : State => ({ s with dev := { s.dev with pwr := { s.dev.pwr with p1 := true, p4 := true } } } : State)) (up .maintainer), by decide +kernel⟩

theorem witness_StartsRunInTheirOrder_startUp : ∃ (supply : Supply) (bankA bankB : Bool) (s : State),
    (Settled s) ∧ (s.dev.pwr.boot = .off) ∧ (s.dev.nv.transport = false) :=
  ⟨⟨24000, 24000, 30000, true, 0xFF, 5⟩, true, true, State.reset, by decide +kernel⟩

theorem witness_StartsRunInTheirOrder_startUpSleeps : ∃ (supply : Supply) (bankA bankB : Bool) (s : State),
    (Settled s) ∧ (s.dev.pwr.boot = .off) ∧ (s.dev.nv.transport = true) ∧ (supply.chgPresent = false ∨ (supply.auxA < 18000 ∧ supply.auxB < 18000)) :=
  ⟨⟨17999, 17999, 30000, true, 0xFF, 5⟩, true, true, (fun s : State => ({ s with dev := { s.dev with nv := { s.dev.nv with transport := true } } } : State)) (State.reset), by decide +kernel⟩

theorem witness_StartsRunInTheirOrder_pllRelock : ∃ (supply : Supply) (bankA bankB : Bool) (s : State),
    (Settled s) ∧ (s.dev.pwr.boot = .clockHold) ∧ (s.dev.nv.transport = false) :=
  ⟨⟨24000, 24000, 30000, true, 0xFF, 5⟩, true, true, (fun s : State => ({ s with dev := { s.dev with pwr := { s.dev.pwr with boot := .clockHold } } } : State)) (State.reset), by decide +kernel⟩

theorem witness_StartsRunInTheirOrder_transportExit : ∃ (supply : Supply) (bankA bankB : Bool) (s : State),
    (Settled s) ∧ (s.dev.pwr.boot = .asleep) ∧ (supply.chgPresent = true) ∧ (18000 ≤ supply.auxA ∨ 18000 ≤ supply.auxB) :=
  ⟨⟨18000, 0, 30000, true, 0xFF, 5⟩, true, true, (fun s : State => ({ s with dev := { s.dev with pwr := { s.dev.pwr with boot := .asleep, inTransport := true } } } : State)) ((fun s : State => ({ s with dev := { s.dev with nv := { s.dev.nv with transport := true } } } : State)) (State.reset)), by decide +kernel⟩

theorem witness_StartsRunInTheirOrder_channelRelease : ∃ (s : State),
    (Settled s) ∧ (s.dev.pwr.boot = .started) :=
  ⟨(fun s : State => ({ s with dev := { s.dev with pwr := { s.dev.pwr with boot := .started } } } : State)) (State.reset), by decide +kernel⟩

theorem witness_StartsRunInTheirOrder_startUpEnd : ∃ (s : State),
    (Settled s) ∧ (s.dev.pwr.boot = .released) ∧ (s.dev.pwr.sup = .running) ∧ (s.dev.pwr.calWait = false) :=
  ⟨(fun s : State => ({ s with dev := { s.dev with pwr := { s.dev.pwr with boot := .released } } } : State)) (State.reset), by decide +kernel⟩

theorem witness_CommissioningIsEnteredAndLeft_enterCommission : ∃ (sid : Sid) (s : State),
    (Settled s) ∧ (Heard sid s) ∧ (s.mem.hasImage = true) ∧ ((s.dev.sess sid.val).role = .maintainer ∨ (s.dev.sess sid.val).role = .safetySteward) ∧ (s.dev.mode s.mem ∉ [.transport, .thermalLatch, .safe]) ∧ (s.dev.allOpen = true) ∧ (s.dev.nv.commission = false) ∧ (s.dev.mode s.mem ≠ .degraded) :=
  ⟨1, (fun s : State => ({ s with dev := { s.dev with nv := { s.dev.nv with commission := false } } } : State)) (withSec 0 0 [] (up .maintainer)), by decide +kernel⟩

theorem witness_CommissioningIsEnteredAndLeft_enterStands : ∃ (sid : Sid) (s : State),
    (Settled s) ∧ (Heard sid s) ∧ (s.mem.hasImage = true) ∧ ((s.dev.sess sid.val).role = .maintainer ∨ (s.dev.sess sid.val).role = .safetySteward) ∧ (s.dev.mode s.mem ∉ [.transport, .thermalLatch, .safe]) ∧ (s.dev.allOpen = true) ∧ (s.dev.nv.commission = true) :=
  ⟨1, withSec 0 0 [] (up .maintainer), by decide +kernel⟩

theorem witness_CommissioningIsEnteredAndLeft_leaveCommission : ∃ (sid : Sid) (s : State),
    (Settled s) ∧ (Heard sid s) ∧ (s.mem.hasImage = true) ∧ ((s.dev.sess sid.val).role = .maintainer ∨ (s.dev.sess sid.val).role = .safetySteward) ∧ (s.dev.mode s.mem ∉ [.transport, .thermalLatch, .safe]) ∧ (s.dev.allOpen = true) ∧ (s.dev.nv.commission = true) ∧ (s.dev.fnState Func.saf.num = 1 ∧ s.dev.fnState Func.recorder.num = 1) ∧ (s.dev.saf.ret.degraded = false) :=
  ⟨1, withRegs [(SESS_FUNC.STATE Func.saf.num, 1), (SESS_FUNC.STATE Func.recorder.num, 1)] (withSec 0 0 [] (up .maintainer)), by decide +kernel⟩

theorem witness_CommissioningIsEnteredAndLeft_enterWrongRole : ∃ (sid : Sid) (s : State),
    (Settled s) ∧ (Heard sid s) ∧ (s.mem.hasImage = true) ∧ (¬ ((s.dev.sess sid.val).role = .maintainer ∨ (s.dev.sess sid.val).role = .safetySteward)) :=
  ⟨1, withSec 0 0 [] (up .operator), by decide +kernel⟩

theorem witness_CommissioningIsEnteredAndLeft_leaveWrongRole : ∃ (sid : Sid) (s : State),
    (Settled s) ∧ (Heard sid s) ∧ (¬ ((s.dev.sess sid.val).role = .maintainer ∨ (s.dev.sess sid.val).role = .safetySteward)) :=
  ⟨1, up .operator, by decide +kernel⟩

theorem witness_CommissioningIsEnteredAndLeft_enterWrongMode : ∃ (sid : Sid) (s : State),
    (Settled s) ∧ (Heard sid s) ∧ (s.mem.hasImage = true) ∧ ((s.dev.sess sid.val).role = .maintainer ∨ (s.dev.sess sid.val).role = .safetySteward) ∧ (s.dev.mode s.mem ∈ [.transport, .thermalLatch, .safe]) :=
  ⟨1, (fun s : State => ({ s with dev := { s.dev with pwr := { s.dev.pwr with inTransport := true } } } : State)) (withSec 0 0 [] (up .maintainer)), by decide +kernel⟩

theorem witness_CommissioningIsEnteredAndLeft_leaveWrongMode : ∃ (sid : Sid) (s : State),
    (Settled s) ∧ (Heard sid s) ∧ ((s.dev.sess sid.val).role = .maintainer ∨ (s.dev.sess sid.val).role = .safetySteward) ∧ (s.dev.mode s.mem ∈ [.transport, .thermalLatch, .safe] ∨ s.mem.hasImage = false) :=
  ⟨1, up .maintainer, by decide +kernel⟩

theorem witness_CommissioningIsEnteredAndLeft_enterConnected : ∃ (sid : Sid) (s : State),
    (Settled s) ∧ (Heard sid s) ∧ (s.mem.hasImage = true) ∧ ((s.dev.sess sid.val).role = .maintainer ∨ (s.dev.sess sid.val).role = .safetySteward) ∧ (s.dev.mode s.mem ∉ [.transport, .thermalLatch, .safe]) ∧ (s.dev.allOpen = false) :=
  ⟨1, withRegs [(SEQ_STATE.STATE 7, 6)] (withSec 0 0 [] (up .maintainer)), by decide +kernel⟩

theorem witness_CommissioningIsEnteredAndLeft_leaveConnected : ∃ (sid : Sid) (s : State),
    (Settled s) ∧ (Heard sid s) ∧ (s.mem.hasImage = true) ∧ ((s.dev.sess sid.val).role = .maintainer ∨ (s.dev.sess sid.val).role = .safetySteward) ∧ (s.dev.mode s.mem ∉ [.transport, .thermalLatch, .safe]) ∧ (s.dev.allOpen = false) :=
  ⟨1, withRegs [(SEQ_STATE.STATE 7, 6)] (withSec 0 0 [] (up .maintainer)), by decide +kernel⟩

theorem witness_CommissioningIsEnteredAndLeft_leaveFuncStopped : ∃ (sid : Sid) (s : State),
    (Settled s) ∧ (Heard sid s) ∧ (s.mem.hasImage = true) ∧ ((s.dev.sess sid.val).role = .maintainer ∨ (s.dev.sess sid.val).role = .safetySteward) ∧ (s.dev.mode s.mem ∉ [.transport, .thermalLatch, .safe]) ∧ (s.dev.allOpen = true) ∧ (s.dev.fnState Func.saf.num = 0 ∨ s.dev.fnState Func.recorder.num = 0) :=
  ⟨1, withRegs [(SESS_FUNC.STATE Func.saf.num, 1)] (withSec 0 0 [] (up .maintainer)), by decide +kernel⟩

theorem witness_CalibrationAndRefreshRun_calibrate : ∃ (sid : Sid) (s : State),
    (Settled s) ∧ (Heard sid s) ∧ (s.mem.hasImage = true) ∧ ((s.dev.sess sid.val).role = .maintainer) ∧ (s.dev.on PWR_STATUS.CAL_ACTIVE = false) ∧ (s.dev.stage ≤ 1) ∧ (s.dev.outage bedPwrm = false) :=
  ⟨1, (fun s : State => ({ s with dev := { s.dev with pwr := { s.dev.pwr with p1 := true } } } : State)) (withSec 0 0 [] (up .maintainer)), by decide +kernel⟩

theorem witness_CalibrationAndRefreshRun_calibrateWrongRole : ∃ (sid : Sid) (s : State),
    (Settled s) ∧ (Heard sid s) ∧ (s.mem.hasImage = false ∨ (s.dev.sess sid.val).role ≠ .maintainer) :=
  ⟨1, withSec 0 0 [] (up .safetySteward), by decide +kernel⟩

theorem witness_CalibrationAndRefreshRun_calibrateBusy : ∃ (sid : Sid) (s : State),
    (Settled s) ∧ (Heard sid s) ∧ (s.mem.hasImage = true) ∧ ((s.dev.sess sid.val).role = .maintainer) ∧ (s.dev.on PWR_STATUS.CAL_ACTIVE = true) :=
  ⟨1, withRegs [(PWR_STATUS.CAL_ACTIVE, 1)] (withSec 0 0 [] (up .maintainer)), by decide +kernel⟩

theorem witness_CalibrationAndRefreshRun_calibratePruned : ∃ (sid : Sid) (s : State),
    (Settled s) ∧ (Heard sid s) ∧ (s.mem.hasImage = true) ∧ ((s.dev.sess sid.val).role = .maintainer) ∧ (s.dev.on PWR_STATUS.CAL_ACTIVE = false) ∧ (2 ≤ s.dev.stage) :=
  ⟨1, (fun s : State => ({ s with dev := { s.dev with pwr := { s.dev.pwr with p2 := true } } } : State)) (withSec 0 0 [] (up .maintainer)), by decide +kernel⟩

theorem witness_CalibrationAndRefreshRun_calibrationDue : ∃ (s : State),
    (Settled s) ∧ (s.dev.alive = true) ∧ (s.dev.pwr.inTransport = false) ∧ (s.dev.on PWR_STATUS.CAL_ACTIVE = false) ∧ (s.dev.stage ≤ 1) ∧ (s.dev.outage bedPwrm = false) :=
  ⟨withSec 0 0 [] (up .maintainer), by decide +kernel⟩

theorem witness_CalibrationAndRefreshRun_calDone : ∃ (s : State),
    (Settled s) ∧ (s.dev.alive = true) ∧ (s.dev.on PWR_STATUS.CAL_ACTIVE = true) :=
  ⟨(fun s : State => ({ s with dev := { s.dev with clk := 100000000 } } : State)) (withRegs [(PWR_STATUS.CAL_ACTIVE, 1)] (withSec 0 0 [] (up .maintainer))), by decide +kernel⟩

theorem witness_CalibrationAndRefreshRun_calFails : ∃ (item : Byte) (s : State),
    (Settled s) ∧ (s.dev.alive = true) ∧ (s.dev.on PWR_STATUS.CAL_ACTIVE = true) :=
  ⟨3, withRegs [(PWR_STATUS.CAL_ACTIVE, 1)] (withSec 0 0 [] (up .maintainer)), by decide +kernel⟩

theorem witness_CalibrationAndRefreshRun_refresh : ∃ (sid : Sid) (s : State),
    (Settled s) ∧ (Heard sid s) ∧ (s.mem.hasImage = true) ∧ ((s.dev.sess sid.val).role = .maintainer) ∧ (s.dev.on PWR_STATUS.REFRESH_ACTIVE = false) :=
  ⟨1, withSec 0 0 [] (up .maintainer), by decide +kernel⟩

theorem witness_CalibrationAndRefreshRun_refreshWrongRole : ∃ (sid : Sid) (s : State),
    (Settled s) ∧ (Heard sid s) ∧ (s.mem.hasImage = false ∨ (s.dev.sess sid.val).role ≠ .maintainer) :=
  ⟨1, up .maintainer, by decide +kernel⟩

theorem witness_CalibrationAndRefreshRun_refreshBusy : ∃ (sid : Sid) (s : State),
    (Settled s) ∧ (Heard sid s) ∧ (s.mem.hasImage = true) ∧ ((s.dev.sess sid.val).role = .maintainer) ∧ (s.dev.on PWR_STATUS.REFRESH_ACTIVE = true) :=
  ⟨1, withRegs [(PWR_STATUS.REFRESH_ACTIVE, 1)] (withSec 0 0 [] (up .maintainer)), by decide +kernel⟩

theorem witness_CalibrationAndRefreshRun_refreshDue : ∃ (s : State),
    (Settled s) ∧ (s.dev.alive = true) ∧ (s.dev.pwr.inTransport = false) :=
  ⟨withSec 0 0 [] (up .maintainer), by decide +kernel⟩

theorem witness_CalibrationAndRefreshRun_mramRefresh : ∃ (s : State),
    (Settled s) ∧ (s.dev.alive = true) ∧ (s.dev.on PWR_STATUS.REFRESH_ACTIVE = true) ∧ (s.dev.stage ≤ 1 ∧ s.mem.redo = none ∧ (s.dev.ldState = ldIdle ∨ s.dev.ldState = ldFailed)) :=
  ⟨withRegs [(PWR_STATUS.REFRESH_ACTIVE, 1)] (withSec 0 0 [] (up .maintainer)), by decide +kernel⟩

theorem witness_CalibrationAndRefreshRun_mramRefreshFails : ∃ (failed : Nat) (s : State),
    (Settled s) ∧ (s.dev.alive = true) ∧ (s.dev.on PWR_STATUS.REFRESH_ACTIVE = true) ∧ (s.dev.stage ≤ 1 ∧ s.mem.redo = none ∧ (s.dev.ldState = ldIdle ∨ s.dev.ldState = ldFailed)) ∧ (0 < failed) ∧ (s.dev.on REC_STATUS.MAIN_FAILED = true) :=
  ⟨7, withRegs [(PWR_STATUS.REFRESH_ACTIVE, 1), (REC_STATUS.MAIN_FAILED, 1)] (withSec 0 0 [] (up .maintainer)), by decide +kernel⟩

theorem witness_CalibrationAndRefreshRun_mramRefreshPaused : ∃ (failed : Nat) (s : State),
    (Settled s) ∧ (¬ (s.dev.stage ≤ 1 ∧ s.mem.redo = none ∧ (s.dev.ldState = ldIdle ∨ s.dev.ldState = ldFailed))) :=
  ⟨7, (fun s : State => ({ s with dev := { s.dev with pwr := { s.dev.pwr with p2 := true } } } : State)) (withRegs [(PWR_STATUS.REFRESH_ACTIVE, 1)] (withSec 0 0 [] (up .maintainer))), by decide +kernel⟩

theorem witness_TransportIsEnteredAndSleeps_transport : ∃ (sid : Sid) (s : State),
    (Settled s) ∧ (Heard sid s) ∧ (s.dev.pwr.leaving = false) ∧ (s.mem.hasImage = true) ∧ ((s.dev.sess sid.val).role = .maintainer) ∧ (strings.any (fun w => decide (1 < s.dev.strState w)) = false) ∧ (s.dev.rd IMG_LOAD_STATUS.OWNER = 0 ∧ s.dev.ldState = ldIdle ∧ s.mem.redo = none) ∧ (s.dev.stage ≤ 1) :=
  ⟨1, withRegs [(SESS_FUNC.STATE 12, 1)] (withSec 0 0 [] (up .maintainer)), by decide +kernel⟩

theorem witness_TransportIsEnteredAndSleeps_transportWrongRole : ∃ (sid : Sid) (s : State),
    (Settled s) ∧ (Heard sid s) ∧ (s.dev.pwr.leaving = false) ∧ (s.mem.hasImage = false ∨ (s.dev.sess sid.val).role ≠ .maintainer) :=
  ⟨1, withSec 0 0 [] (up .operator), by decide +kernel⟩

theorem witness_TransportIsEnteredAndSleeps_transportRefused : ∃ (sid : Sid) (reason : Nat) (s : State),
    (Settled s) ∧ (Heard sid s) ∧ (s.dev.pwr.leaving = false) ∧ (s.mem.hasImage = true) ∧ ((s.dev.sess sid.val).role = .maintainer) ∧ ((strings.any (fun w => decide (1 < s.dev.strState w)) = true ∧ reason = 3 ∨ strings.any (fun w => decide (1 < s.dev.strState w)) = false ∧ ¬ (s.dev.rd IMG_LOAD_STATUS.OWNER = 0 ∧ s.dev.ldState = ldIdle ∧ s.mem.redo = none) ∧ reason = 4 ∨ strings.any (fun w => decide (1 < s.dev.strState w)) = false ∧ (s.dev.rd IMG_LOAD_STATUS.OWNER = 0 ∧ s.dev.ldState = ldIdle ∧ s.mem.redo = none) ∧ 2 ≤ s.dev.stage ∧ reason = 6)) :=
  ⟨1, 6, (fun s : State => ({ s with dev := { s.dev with pwr := { s.dev.pwr with p2 := true } } } : State)) (withSec 0 0 [] (up .maintainer)), by decide +kernel⟩

theorem witness_TransportIsEnteredAndSleeps_transportSleep : ∃ (s : State),
    (Settled s) ∧ (s.dev.awake = true) ∧ (s.dev.pwr.inTransport = true) :=
  ⟨(fun s : State => ({ s with dev := { s.dev with pwr := { s.dev.pwr with inTransport := true } } } : State)) (withSec 0 0 [] (up .maintainer)), by decide +kernel⟩

theorem witness_AnEmptyQueueLetsOneClkPass_idle : ∃ s : State,
    (s.pending = []) :=
  ⟨up .maintainer, by decide +kernel⟩

theorem witness_EveryStepKeepsRecordsNumberedAndMramCanonical_inv : ∃ s : State,
    (Inv s) :=
  ⟨up .maintainer, by decide +kernel⟩

theorem witness_EveryStepKeepsSequenceNumbersApart_seq : ∃ s : State,
    (Settled s) ∧ (SeqOrdered s) :=
  ⟨(fun s => { s with dev := { s.dev with rcd := { s.dev.rcd with staging := [⟨5, 2, 2, 0, 0, 0, 0, 0, 0, 0, []⟩, ⟨7, 2, 2, 0, 0, 0, 0, 0, 0, 0, []⟩], urgent := [⟨6, 6, 8, 0, 0, 0, 0, 0, 0, 0, []⟩], next := 8 } } }) (up .maintainer), by decide +kernel⟩

theorem witness_ReservedBitsReadZeroAndAreIgnored_ignored : ∃ (sid : Sid) (addr : BitVec 16) (value other : Word) (l : List Fld) (s : State),
    (regFields addr.toNat = some l) ∧ (∀ b < 32, ¬ Reserved l b → value.getLsbD b = other.getLsbD b) :=
  ⟨1, 0x1602, 0xABCDEF01, 0x00000001, [PWR_CTRL.CMD], up .operator, by decide +kernel⟩

theorem witness_ReservedBitsReadZeroAndAreIgnored_readZero : ∃ (c : Instr) (sid : Sid) (addr : BitVec 16) (l : List Fld) (s : State),
    (c = .rcRead sid addr ∨ c = .wideValueRead sid addr) ∧ (Settled s) ∧ (Heard sid s) ∧ (regFields addr.toNat = some l) ∧ (KeptWords sid s) :=
  by
  refine ⟨.wideValueRead 1 0x607, 1, 0x607, ACQ_SWEEP0.fields, up .operator, Or.inr rfl, by decide +kernel, by decide +kernel, by decide +kernel, ?_⟩
  intro a l b w _ _ h
  change none = some w at h
  exact nomatch h

theorem witness_SupplyLossOpensEverything_brownOut : ∃ (torn : Option (List Byte)) (s : State),
    (Settled s) ∧ (s.dev.pwr.boot ≠ .off) :=
  ⟨some (leBytes 64 7), up .maintainer, by decide +kernel⟩

theorem witness_SupplyLossOpensEverything_startFollows : ∃ (supply : Supply) (bankA bankB : Bool) (s : State),
    (Settled s) ∧ (s.dev.pwr.boot = .off) ∧ (s.dev.nv.transport = false) :=
  ⟨⟨24000, 24000, 30000, true, 0xFF, 5⟩, true, false, State.reset, by decide +kernel⟩

end Sys2Proof.Tests
end

section
/-! PROOF. The layout of the registers: the fields of a register lie apart in its 32 bits, a word read has 0 in every
bit of no field, and what a field takes of a written word rests on the field's own bits (R8). -/

namespace Sys2Proof.Machine

/-- The fields of a register lie apart, each inside the register's 32 bits. -/
def placed : List Fld → Bool
  | [] => true
  | f :: l => decide (0 < f.wid) && decide (f.lo + f.wid ≤ 32) &&
      (l.all fun g => decide (f.lo + f.wid ≤ g.lo) || decide (g.lo + g.wid ≤ f.lo)) && placed l

theorem placed_cons (f : Fld) (l : List Fld) : placed (f :: l) = true ↔ 0 < f.wid ∧ f.lo + f.wid ≤ 32 ∧
    (∀ g ∈ l, f.lo + f.wid ≤ g.lo ∨ g.lo + g.wid ≤ f.lo) ∧ placed l = true := by
  simp [placed, and_assoc]

/-- A check that holds of both branches: it goes down a page of the register map by this. -/
theorem holds_ite (check : List Fld → Bool) {c : Prop} [Decidable c] {l r : List Fld} (hl : check l = true)
    (hr : check r = true) : check (if c then l else r) = true := by
  split <;> assumption

theorem placed_blkstate (i : Nat) : placed (LRN_BLKSTATE.fields i) = true := by
  simp [placed, LRN_BLKSTATE.fields, List.range, List.range.loop]

theorem placed_regsPage8 (a : Nat) : placed (regsPage8 a) = true := by
  unfold regsPage8
  iterate 9 refine holds_ite placed rfl ?_
  exact holds_ite placed (placed_blkstate _) (holds_ite placed rfl rfl)

/-- Every register of the map is laid out so. -/
theorem placed_regFields {a : Nat} {l : List Fld} (h : regFields a = some l) : placed l = true := by
  unfold regFields at h
  split at h
  case h_9 => -- page 8
    exact Option.some.inj h ▸ placed_regsPage8 a
  case h_24 => -- the cell, temperature and learning windows
    by_cases hcell : 0x40 ≤ a / 256 ∧ a / 256 < 0x70
    · rw [if_pos hcell] at h
      obtain rfl := Option.some.inj h
      unfold regsPage40
      repeat refine holds_ite placed rfl ?_
      rfl
    rw [if_neg hcell] at h
    by_cases htemp : 0x70 ≤ a / 256 ∧ a / 256 < 0x78
    · rw [if_pos htemp] at h
      obtain rfl := Option.some.inj h
      exact holds_ite placed rfl (holds_ite placed rfl rfl)
    rw [if_neg htemp] at h
    by_cases hlrn : 0x78 ≤ a / 256 ∧ a / 256 < 0x80
    · rw [if_pos hlrn] at h
      obtain rfl := Option.some.inj h
      exact holds_ite placed rfl rfl
    · rw [if_neg hlrn] at h
      cases h
  all_goals
    obtain rfl := Option.some.inj h
    simp only [regsPage0, regsPage1, regsPage2, regsPage3, regsPage4, regsPage5, regsPage6, regsPage7, regsPage9,
      regsPageA, regsPageB, regsPageC, regsPageD, regsPageE, regsPageF, regsPage10, regsPage11, regsPage12, regsPage13,
      regsPage14, regsPage15, regsPage16]
    repeat refine holds_ite placed rfl ?_
    rfl

theorem placed_fits {l : List Fld} (h : placed l = true) : ∀ f ∈ l, 0 < f.wid ∧ f.lo + f.wid ≤ 32 := by
  induction l with
  | nil => simp
  | cons f l ih =>
    obtain ⟨hpos, hfit, -, hl⟩ := (placed_cons f l).1 h
    simpa using ⟨⟨hpos, hfit⟩, ih hl⟩

/-- Two fields of a register never share a home in the register file. -/
theorem placed_keys {l : List Fld} (h : placed l = true) : l.Pairwise fun f g => g.key ≠ f.key := by
  induction l with
  | nil => exact .nil
  | cons f l ih =>
    obtain ⟨hpos, hfit, hapart, hl⟩ := (placed_cons f l).1 h
    refine .cons (fun g hg => ?_) (ih hl)
    have hgfit := placed_fits hl g hg
    have hlo := hapart g hg
    unfold Fld.key
    omega

/-- Where no bit is set in both numbers, their sum has the bits of both. -/
theorem testBit_add_of_apart {x y : Nat} (h : ∀ i, x.testBit i = false ∨ y.testBit i = false) (i : Nat) :
    (x + y).testBit i = (x.testBit i || y.testBit i) := by
  have hlow : x % 2 = 0 ∨ y % 2 = 0 := by simpa [Nat.testBit_zero] using h 0
  induction i generalizing x y with
  | zero => rcases hlow with e | e <;> simp [Nat.testBit_zero, Nat.add_mod, e]
  | succ i ih =>
    have hhalf : (x + y) / 2 = x / 2 + y / 2 := by omega
    have hrest : ∀ j, (x / 2).testBit j = false ∨ (y / 2).testBit j = false := fun j => by
      simpa [Nat.testBit_succ] using h (j + 1)
    simp only [Nat.testBit_succ, hhalf]
    exact ih hrest (by simpa [Nat.testBit_zero] using hrest 0)

/-- A register reads 0 in every bit of no field. -/
theorem wordOf_reserved (v : View) (d : Dev) {l : List Fld} (hl : placed l = true) {b : Nat} (hb : Reserved l b) :
    (wordOf v d l).testBit b = false := by
  induction l generalizing b with
  | nil => simp [wordOf]
  | cons f l ih =>
    obtain ⟨-, -, hapart, hrest⟩ := (placed_cons f l).1 hl
    have hpart : ∀ y i, ¬ (f.lo ≤ i ∧ i < f.lo + f.wid) →
        (if f.acc = Acc.wo then 0 else y % 2 ^ f.wid * 2 ^ f.lo).testBit i = false := by
      intro y i hi
      split
      · simp
      · simp only [Nat.testBit_mul_two_pow, Nat.testBit_mod_two_pow]
        by_cases hlo : f.lo ≤ i
        · simp [show ¬ i - f.lo < f.wid by omega]
        · simp [hlo]
    unfold wordOf
    rw [testBit_add_of_apart, hpart _ b (by have := hb f (by simp); omega), ih hrest fun g hg => hb g (by simp [hg])]
    · rfl
    · intro i
      by_cases hi : f.lo ≤ i ∧ i < f.lo + f.wid
      · exact .inr (ih hrest fun g hg => by have := hapart g hg; omega)
      · exact .inl (hpart _ i hi)

theorem word_reserved (m : Mem) (sid x : Nat) (d : Dev) {a b : Nat} {l : List Fld} (hl : regFields a = some l)
    (hb : Reserved l b) : (d.word m sid a x).testBit b = false := by
  unfold Dev.word
  rw [hl]
  exact wordOf_reserved _ d (placed_regFields hl) hb

end Sys2Proof.Machine
end

section
/-! PROOF. What a plain write and a clearing read do to the fields of a register (R6), and that they touch nothing
else. -/

namespace Sys2Proof.Machine

/-- A device without its register fields. -/
def Dev.sansRegs (d : Dev) : Dev := { d with regs := [] }

theorem Dev.eq_of_sansRegs {d e : Dev} (h : e.sansRegs = d.sansRegs) : e = { d with regs := e.regs } :=
  calc e = { e.sansRegs with regs := e.regs } := rfl
    _ = { d with regs := e.regs } := by rw [h]; rfl

/-- What a write of `v` leaves in a field that held `old` (R6). -/
def Fld.stored (f : Fld) (v old : Nat) : Nat :=
  match f.acc with
  | .rw | .rws | .wo => f.of v % 2 ^ f.wid
  | .w1c => maskOf f.wid (fun k => old.testBit k && !(f.of v).testBit k) % 2 ^ f.wid
  | .ro | .rc => old

/-- One field's part in a write of its register. -/
def Dev.storeField (v : Nat) (d : Dev) (f : Fld) : Dev :=
  match f.acc with
  | .rw | .rws | .wo => d.wr f (f.of v)
  | .w1c => d.wr f (maskOf f.wid fun k => (d.rd f).testBit k && !(f.of v).testBit k)
  | .ro | .rc => d

theorem store_eq_foldl (l : List Fld) (v : Nat) (d : Dev) : d.store l v = l.foldl (Dev.storeField v) d := rfl

theorem storeField_rd_same (v : Nat) (d : Dev) (f : Fld) : (d.storeField v f).rd f = f.stored v (d.rd f) := by
  unfold Dev.storeField Fld.stored
  split <;> simp

theorem storeField_rd_other (v : Nat) (d : Dev) {f g : Fld} (h : g.key ≠ f.key) :
    (d.storeField v f).rd g = d.rd g := by
  unfold Dev.storeField
  split <;> simp [h]

theorem storeField_sansRegs (v : Nat) (d : Dev) (f : Fld) : (d.storeField v f).sansRegs = d.sansRegs := by
  unfold Dev.storeField
  split <;> rfl

/-- Field by field, a register ends with what each turn leaves in its own field. -/
theorem foldl_rd_mem {turn : Dev → Fld → Dev} {left : Fld → Nat → Nat}
    (hsame : ∀ d f, (turn d f).rd f = left f (d.rd f))
    (hother : ∀ d f g, g.key ≠ f.key → (turn d f).rd g = d.rd g) {l : List Fld}
    (hl : l.Pairwise fun f g => g.key ≠ f.key) {x : Fld} (hx : x ∈ l) (d : Dev) :
    (l.foldl turn d).rd x = left x (d.rd x) := by
  induction l generalizing d with
  | nil => simp at hx
  | cons y l ih =>
    obtain ⟨hy, hrest⟩ := List.pairwise_cons.1 hl
    rw [List.foldl_cons]
    rcases List.mem_cons.1 hx with rfl | hx
    · rw [foldl_keep_mem (·.rd x) turn l fun d f hf => hother d f x (hy f hf).symm, hsame]
    · rw [ih hrest hx, hother d y x (hy x hx)]

theorem store_rd_mem {l : List Fld} (hl : placed l = true) {x : Fld} (hx : x ∈ l) (v : Nat) (d : Dev) :
    (d.store l v).rd x = x.stored v (d.rd x) :=
  foldl_rd_mem (storeField_rd_same v) (fun d _ _ h => storeField_rd_other v d h) (placed_keys hl) hx d

theorem store_rd_other {l : List Fld} {g : Fld} (v : Nat) (d : Dev)
    (hg : ∀ f ∈ l, f.acc ≠ .ro → f.acc ≠ .rc → g.key ≠ f.key) : (d.store l v).rd g = d.rd g := by
  refine foldl_keep_mem (·.rd g) (Dev.storeField v) l (fun d f hf => ?_) d
  by_cases hro : f.acc = .ro
  · simp [Dev.storeField, hro]
  by_cases hrc : f.acc = .rc
  · simp [Dev.storeField, hrc]
  · exact storeField_rd_other v d (hg f hf hro hrc)

/-- A write of a register touches its fields alone. -/
theorem store_eq (l : List Fld) (v : Nat) (d : Dev) : d.store l v = { d with regs := (d.store l v).regs } :=
  Dev.eq_of_sansRegs (foldl_keep Dev.sansRegs (Dev.storeField v) (storeField_sansRegs v) l d)

theorem Fld.of_lt (f : Fld) (v : Nat) : f.of v < 2 ^ f.wid := Nat.mod_lt _ (Nat.two_pow_pos _)

theorem stored_of_rw {x : Fld} (hx : x.acc = .rw ∨ x.acc = .rws) (v old : Nat) : x.stored v old = x.of v := by
  have hmod := Nat.mod_eq_of_lt (x.of_lt v)
  unfold Fld.stored
  rcases hx with hx | hx <;> simp only [hx, hmod]

theorem maskOf_succ (n : Nat) (p : Nat → Bool) :
    maskOf (n + 1) p = if p n then maskOf n p + 2 ^ n else maskOf n p := by
  simp only [maskOf, List.range_succ, List.foldl_append, List.foldl_cons, List.foldl_nil]

theorem maskOf_lt (n : Nat) (p : Nat → Bool) : maskOf n p < 2 ^ n := by
  induction n with
  | zero => simp [maskOf]
  | succ n ih =>
    rw [maskOf_succ, Nat.pow_succ]
    split <;> omega

theorem testBit_maskOf (n : Nat) (p : Nat → Bool) {k : Nat} (hk : k < n) : (maskOf n p).testBit k = p k := by
  induction n with
  | zero => omega
  | succ n ih =>
    have hlt := maskOf_lt n p
    rw [maskOf_succ]
    rcases Nat.lt_succ_iff_lt_or_eq.1 hk with hk | rfl
    · split
      · rw [Nat.add_comm, Nat.testBit_two_pow_add_gt hk, ih hk]
      · exact ih hk
    · split
      · rw [Nat.add_comm, Nat.testBit_two_pow_add_eq, Nat.testBit_lt_two_pow hlt]
        simp [*]
      · rw [Nat.testBit_lt_two_pow hlt]
        simp [*]

/-- A written 1 clears a W1C flag, a written 0 leaves it. -/
theorem stored_of_w1c {x : Fld} (hx : x.acc = .w1c) (v old : Nat) {k : Nat} (hk : k < x.wid) :
    (x.stored v old).testBit k = (old.testBit k && !(x.of v).testBit k) := by
  simp only [Fld.stored, hx, Nat.mod_eq_of_lt (maskOf_lt _ _), testBit_maskOf _ _ hk]

/-- The clearing of the RC fields among those of a register. -/
def Dev.zeroRc (l : List Fld) (d : Dev) : Dev := (l.filter fun f => f.acc = .rc).foldl (fun d f => d.wr f 0) d

theorem clearRead_eq {a : Nat} (ha : a ≠ 0x1404) (l : List Fld) (d : Dev) : d.clearRead a l = d.zeroRc l := if_neg ha

theorem clearRead_rec_cnt (l : List Fld) (d : Dev) :
    d.clearRead 0x1404 l = (d.zeroRc l).modRcd fun r => { r with stageLost := 0 } := rfl

theorem zeroRc_rd_mem {l : List Fld} (hl : placed l = true) {x : Fld} (hx : x ∈ l) (hrc : x.acc = .rc) (d : Dev) :
    (d.zeroRc l).rd x = 0 :=
  foldl_rd_mem (left := fun _ _ => 0) (fun d f => by simp) (fun d f g h => by simp [h]) ((placed_keys hl).filter _)
    (by simp [hx, hrc]) d

theorem zeroRc_rd_other {l : List Fld} {g : Fld} (d : Dev) (hg : ∀ f ∈ l.filter fun f => f.acc = .rc, g.key ≠ f.key) :
    (d.zeroRc l).rd g = d.rd g :=
  foldl_keep_mem (·.rd g) _ _ (fun d f hf => Dev.rd_wr_other d 0 (hg f hf)) d

theorem zeroRc_eq (l : List Fld) (d : Dev) : d.zeroRc l = { d with regs := (d.zeroRc l).regs } :=
  Dev.eq_of_sansRegs (foldl_keep Dev.sansRegs (fun d f => d.wr f 0) (fun _ _ => rfl) _ d)

end Sys2Proof.Machine
end

section
/-! PROOF. What one clk on an empty queue changes (R4, R290, R291). -/

namespace Sys2Proof.Machine

/-- A device without its register fields and its domains. -/
def Dev.sansTime (d : Dev) : Dev := { d with regs := [], time := .start }

theorem domElapse_sansTime (n k : Nat) (d : Dev) : (d.domElapse n k).sansTime = d.sansTime := by
  unfold Dev.domElapse
  dsimp only
  split
  · split <;> rfl
  · rfl

/-- Time passing moves the clock and the domains and, beside register fields, nothing else. -/
theorem elapse_eq (n : Nat) (d : Dev) : ∃ r x,
    d.elapse n = { d with regs := r, time := x, clk := if d.awake = true then d.clk + n else d.clk } := by
  unfold Dev.elapse
  split
  · have hrest := each_keep Dev.sansTime (Dev.domElapse n) (domElapse_sansTime n) [0, 1, 2, 3] d
    generalize d.each [0, 1, 2, 3] (Dev.domElapse n) = e at hrest
    refine ⟨e.regs, e.time, ?_⟩
    calc { e with clk := e.clk + n }
      _ = { e.sansTime with regs := e.regs, time := e.time, clk := e.sansTime.clk + n } := rfl
      _ = { d with regs := e.regs, time := e.time, clk := d.clk + n } := by rw [hrest]; rfl
  · exact ⟨d.regs, d.time, rfl⟩

/-- Settles O54: a step on an empty queue is `elapse 1`, which moves the clock and the domains alone. -/
theorem anEmptyQueueLetsOneClkPass : Obligations.AnEmptyQueueLetsOneClkPass := by
  intro s hq
  have hstep : step s = .next { s with dev := s.dev.elapse 1 } := by simp [step, hq]
  obtain ⟨r, x, hx⟩ := elapse_eq 1 s.dev
  rw [hx] at hstep
  refine ⟨_, hstep, hq, rfl, rfl, fun hoff => ?_, fun p hp => ?_⟩
  · rw [← hx]
    simp [Dev.elapse, hoff]
  · cases p with
    | clk => simp at hp
    | time => simp at hp
    | _ => rfl

end Sys2Proof.Machine
end

section
/-! PROOF. What the writes of single registers do (R6, R7, R11, R329, R332). -/

namespace Sys2Proof.Machine

/-! ### What a register access may change -/

/-- The register fields, the sessions and what is sent are all a register access changes. -/
theorem same_of_access (s : State) (r : RegFile) (n : NetSt) (o : List Msg) {p : Part} (hp : p ∉ [.net, .out]) :
    p.same s { s with dev := { s.dev with regs := r, net := n, out := o } } := by
  cases p with
  | net => simp at hp
  | out => simp at hp
  | _ => rfl

theorem answer_heard {sid : Nat} {d : Dev} {w : Wr} (h : d.isOpened sid = true) : Dev.answer sid (d, w) =
    (d.modSess sid fun y => { y with heard := d.clk }).emit (.answer sid w.status w.code w.addr) := by
  simp [Dev.answer, h]

/-- An answered access of the module `d` with other registers and other times of writing. -/
theorem answered_answer {sid : Nat} {s : State} (h : s.dev.isOpened sid = true) (r : RegFile)
    (x : List (Nat × Nat × Nat)) (w : Wr) :
    Answered sid w id s
      { s with dev := Dev.answer sid ({ s.dev with regs := r, net := { s.dev.net with wrote := x } }, w) } := by
  refine ⟨answer_out sid _, ?_, fun k hk => answer_sess_other _ hk⟩
  exact answer_sess_same (x := ({ s.dev with regs := r, net := { s.dev.net with wrote := x } }, w)) h

theorem frame_answer {sid : Nat} {s : State} {fs : List Fld} (h : s.dev.isOpened sid = true) (r : RegFile)
    (x : List (Nat × Nat × Nat)) (w : Wr) (hr : ∀ g : Fld, (∀ f ∈ fs, g.key ≠ f.key) → r.get g = s.dev.rd g) :
    Frame fs [.net, .out] s
      { s with dev := Dev.answer sid ({ s.dev with regs := r, net := { s.dev.net with wrote := x } }, w) } := by
  refine ⟨rfl, fun g hg => by simpa [Dev.rd] using hr g hg, fun p hp => ?_⟩
  rw [answer_heard (d := { s.dev with regs := r, net := { s.dev.net with wrote := x } }) h]
  exact same_of_access s _ _ _ hp

/-! ### Running a write -/

/-- A heard write that does not enter TRANSPORT and leaves the recorder alone is answered with its result. -/
theorem registerWrite_next {sid : Sid} {addr : BitVec 16} {value : Word} {s : State} {d : Dev} {w : Wr}
    (hh : Heard sid.val s) (hs : Settled s) (hl : s.dev.pwr.leaving = false)
    (hw : writeReg sid.val addr.toNat value.toNat s.mem s.dev = (s.mem, d, w)) (hp : d.pwr = s.dev.pwr)
    (hr : d.rcd = s.dev.rcd) :
    exec (.registerWrite sid addr value) s = .next { s with dev := Dev.answer sid.val (d, w) } := by
  have hwrite : hostWrite sid.val addr.toNat value.toNat s.mem s.dev = (s.mem, Dev.answer sid.val (d, w)) := by
    simp [hostWrite, memHost, hh.1, hh.2, hw, Dev.transportEnters, hp, hl]
  change s.runMem (hostWrite sid.val addr.toNat value.toNat) = _
  rw [runMem_next, hwrite, commit_none (by simpa [hr] using hs)]

/-- A write that changes nothing but what it is answered with. -/
theorem registerWrite_answered {sid : Sid} {addr : BitVec 16} {value : Word} {s : State} {w : Wr}
    (hh : Heard sid.val s) (hs : Settled s) (hl : s.dev.pwr.leaving = false)
    (hw : writeReg sid.val addr.toNat value.toNat s.mem s.dev = (s.mem, s.dev, w)) :
    ∃ t, exec (.registerWrite sid addr value) s = .next t ∧ Answered sid.val w id s t ∧ Frame [] [.net, .out] s t :=
  ⟨_, registerWrite_next hh hs hl hw rfl rfl, answered_answer hh.1 s.dev.regs s.dev.net.wrote w,
    frame_answer hh.1 s.dev.regs s.dev.net.wrote w fun _ _ => rfl⟩

/-! ### The checks of a write, in order -/

theorem writeReg_unmapped {sid a v : Nat} {m : Mem} {d : Dev} (hl : regFields a = none) :
    writeReg sid a v m d = (m, d, wrBadAddress a) := by
  simp [writeReg, hl]

theorem writeReg_denied {sid a v : Nat} {m : Mem} {d : Dev} {l : List Fld} (hl : regFields a = some l)
    (hw : writable l = false) : writeReg sid a v m d = (m, d, wrDenied a) := by
  simp [writeReg, hl, hw]

/-- The image page and the kernel's have no owner. -/
theorem regOwner_page {a : Nat} {f : Func} (h : regOwner a = some f) : a / 256 ≠ 3 ∧ a / 256 ≠ 19 := by
  constructor <;> intro hp <;> simp [regOwner, hp] at h

/-- A write of a register that a function owns and no rule of its own serves goes by stewardship and role. -/
theorem writeReg_owned {sid a v : Nat} {m : Mem} {d : Dev} {l : List Fld} {f : Func} (hl : regFields a = some l)
    (hw : writable l = true) (hf : regOwner a = some f)
    (ha : a ∉ [LRN_WIN_BASE.PAGE.addr, SAF_CTRL.CMD.addr, PWR_CTRL.CMD.addr])
    (hq : a = SEQ_CTRL.CMD.addr → SEQ_CTRL.CMD.of v ≠ 6 ∧ SEQ_CTRL.CMD.of v ≠ 7) :
    writeReg sid a v m d =
      (m, d.inOrder sid a l fun d => d.asGranted sid f a fun d => d.writeOwned m sid a f l v) := by
  obtain ⟨himg, hkernel⟩ := regOwner_page hf
  have hsess : a ≠ SESS_CTRL.CMD.addr := by rintro rfl; exact hkernel rfl
  obtain ⟨hlrn, hsaf, hpwr⟩ : a ≠ LRN_WIN_BASE.PAGE.addr ∧ a ≠ SAF_CTRL.CMD.addr ∧ a ≠ pwrCtrl := by
    simpa [pwrCtrl] using ha
  have hseq : ¬ (a = SEQ_CTRL.CMD.addr && (SEQ_CTRL.CMD.of v = 6 || SEQ_CTRL.CMD.of v = 7)) = true := by
    simpa using hq
  unfold writeReg
  rw [hl]
  dsimp only
  rw [if_neg (by simp [hw]), if_neg himg, if_neg hsess, if_neg (by simp [hlrn]), if_neg hsaf, if_neg hpwr, if_neg hseq,
    hf]

/-- A refused write takes no turn among the writes of the clk. -/
theorem inOrder_refused {sid a : Nat} {l : List Fld} {go : Dev → Did} {d : Dev} (h : (go d).2 ≠ wrOk) :
    d.inOrder sid a l go = go d := by
  simp [Dev.inOrder, h]

theorem asGranted_steward {sid a : Nat} {f : Func} {d : Dev} (go : Dev → Did) (h : d.isSteward sid f = true) :
    d.asGranted sid f a go = go d := by
  simp [Dev.asGranted, h]

theorem asGranted_other {sid a : Nat} {f : Func} {d : Dev} (go : Dev → Did) (hs : d.isSteward sid f = false)
    (hr : roleGranted (d.sess sid).role a = false) (hk : (d.sess sid).key ≠ 0) :
    d.asGranted sid f a go = (d, wrNotSteward f a) := by
  simp [Dev.asGranted, Dev.notGranted, hs, hr, hk]

theorem writeOwned_running {m : Mem} {sid a v : Nat} {f : Func} {l : List Fld} {d : Dev} (hx : ∃ x ∈ l, x.acc = .rws)
    (hf : d.fnState f.num ≠ 0) : d.writeOwned m sid a f l v = (d, wrRunning f a) := by
  obtain ⟨x, hx, hacc⟩ := hx
  unfold Dev.writeOwned
  rw [if_pos]
  simpa [hf] using ⟨x, hx, hacc⟩

/-- The registers with an RWS field are none that a rule of their own serves. -/
theorem not_served_of_rws {a : Nat} {l : List Fld} (hl : regFields a = some l) (hx : ∃ x ∈ l, x.acc = .rws) :
    a ∉ [LRN_WIN_BASE.PAGE.addr, SAF_CTRL.CMD.addr, PWR_CTRL.CMD.addr, SEQ_CTRL.CMD.addr] := by
  intro ha
  have hnone : ∀ b ∈ [LRN_WIN_BASE.PAGE.addr, SAF_CTRL.CMD.addr, PWR_CTRL.CMD.addr, SEQ_CTRL.CMD.addr],
      ∀ x ∈ (regFields b).getD [], x.acc ≠ .rws := by decide
  obtain ⟨x, hx, hacc⟩ := hx
  exact hnone a ha x (by simpa [hl] using hx) hacc

/-- Settles O6: the checks of `writeReg` in their order, each refusing before anything is changed. -/
theorem writesAnAddressRefuses : Obligations.WritesAnAddressRefuses := by
  refine ⟨fun sid addr value s hh hs hlv hl => ?_, fun sid addr value l s hh hs hlv hl hro => ?_,
    fun sid addr value l f s hh hs hlv hl hw hf ha hst hrole hkey hq => ?_,
    fun sid addr value l f s hh hs hlv hl hf hx hrun hst => ?_⟩
  · exact registerWrite_answered hh hs hlv (writeReg_unmapped hl)
  · have hw : writable l = false := by
      simp only [writable, List.any_eq_false]
      intro x hx
      rcases hro x hx with h | h <;> simp [h]
    exact registerWrite_answered hh hs hlv (writeReg_denied hl hw)
  · refine registerWrite_answered hh hs hlv ?_
    have hgo := asGranted_other (fun d => d.writeOwned s.mem sid.val addr.toNat f l value.toNat) hst hrole hkey
    rw [writeReg_owned hl hw hf ha hq, inOrder_refused, hgo]
    rw [hgo]
    simp [wrNotSteward, wrOk]
  · refine registerWrite_answered hh hs hlv ?_
    have hother := not_served_of_rws hl hx
    have hw : writable l = true := by
      obtain ⟨x, hx, hacc⟩ := hx
      exact List.any_eq_true.2 ⟨x, hx, by simp [hacc]⟩
    have hgo := (asGranted_steward (a := addr.toNat)
      (fun d => d.writeOwned s.mem sid.val addr.toNat f l value.toNat) hst).trans (writeOwned_running hx hrun)
    rw [writeReg_owned hl hw hf (by simp_all) fun h => absurd h (by simp_all), inOrder_refused, hgo]
    rw [hgo]
    simp [wrRunning, wrOk]

/-! ### Plain writes -/

/-- On a page without commands a permitted write is plain storage. -/
theorem writeOwned_plain {m : Mem} {sid a v : Nat} {f : Func} {l : List Fld} {d : Dev} (ha : a / 256 ∈ [5, 7, 9, 11])
    (hrun : l.any (fun x => x.acc = .rws) = true → d.fnState f.num = 0) :
    d.writeOwned m sid a f l v = (d.store l v, wrOk) := by
  have hstop : ¬ ((l.any fun x => x.acc = .rws) && d.fnState f.num ≠ 0) = true := by simpa using hrun
  have hwin : ¬ 0x7800 ≤ a := fun h => by simp at ha; omega
  unfold Dev.writeOwned
  rw [if_neg hstop]
  simp only [List.mem_cons, List.not_mem_nil, or_false] at ha
  rcases ha with h | h | h | h <;> simp [h, hwin, Dev.plain]

/-- No field of the register is write-only. -/
def noWo (l : List Fld) : Bool := l.all fun x => decide (x.acc ≠ .wo)

/-- No field of these pages is write-only. -/
theorem no_wo_of_plain_page {a : Nat} {l : List Fld} (ha : a / 256 ∈ [5, 7, 9, 11]) (hl : regFields a = some l) :
    ∀ x ∈ l, x.acc ≠ .wo := by
  have hcheck : noWo l = true := by
    simp only [List.mem_cons, List.not_mem_nil, or_false] at ha
    rcases ha with h | h | h | h <;> simp only [regFields, h, Option.some.injEq] at hl <;> subst hl
    all_goals
      simp only [regsPage5, regsPage7, regsPage9, regsPageB]
      repeat refine holds_ite noWo rfl ?_
      rfl
  simpa [noWo] using hcheck

theorem writeReg_plain {sid a v : Nat} {m : Mem} {d : Dev} {l : List Fld} {f : Func} (hl : regFields a = some l)
    (hw : writable l = true) (hf : regOwner a = some f) (ha : a / 256 ∈ [5, 7, 9, 11])
    (hrun : l.any (fun x => x.acc = .rws) = true → d.fnState f.num = 0) (hst : d.isSteward sid f = true) :
    ∃ go, writeReg sid a v m d = (m, d.inOrder sid a l go) ∧ go d = (d.store l v, wrOk) := by
  have hpage : ∀ b, b / 256 ∉ [5, 7, 9, 11] → a ≠ b := fun b hb h => hb (h ▸ ha)
  refine ⟨_, writeReg_owned hl hw hf ?_ fun h => absurd h (hpage _ (by decide)), ?_⟩
  · simp only [List.mem_cons, List.not_mem_nil, or_false, not_or]
    exact ⟨hpage _ (by decide), hpage _ (by decide), hpage _ (by decide)⟩
  · rw [asGranted_steward _ hst, writeOwned_plain ha hrun]

/-- A permitted write that no higher session overrules stores its value, and is remembered where it is shared. -/
theorem inOrder_stored {sid a v : Nat} {l : List Fld} {go : Dev → Did} {d : Dev} (hgo : go d = (d.store l v, wrOk))
    (ho : d.overruled sid a = false) : ∃ x, d.inOrder sid a l go =
      ({ d with regs := (d.store l v).regs, net := { d.net with wrote := x } }, wrOk) := by
  unfold Dev.inOrder
  rw [hgo, store_eq]
  dsimp only
  split
  · exact ⟨d.net.wrote, rfl⟩
  · rw [if_neg (by simp [ho])]
    exact ⟨_, rfl⟩

theorem inOrder_overruled {sid a : Nat} {l : List Fld} {go : Dev → Did} {d : Dev} (hgo : (go d).2 = wrOk)
    (hs : sharedValue a l = true) (ho : d.overruled sid a = true) : d.inOrder sid a l go = (d, wrOk) := by
  simp [Dev.inOrder, hgo, hs, ho]

/-- Settles O7: on pages without commands a permitted write is `Dev.store`, whose effect on each field is
`Fld.stored`. -/
theorem plainWritesStore : Obligations.PlainWritesStore := by
  refine ⟨fun sid addr value l f s hh hs hlv hl hf ha hw hrun hst ho => ?_,
    fun sid addr value l f s hh hs hlv hl hf ha hw hrun hst hsh ho => ?_⟩
  · obtain ⟨go, hwrite, hgo⟩ := writeReg_plain (v := value.toNat) (m := s.mem) hl hw hf ha hrun hst
    obtain ⟨x, hx⟩ := inOrder_stored hgo ho
    rw [hx] at hwrite
    have hrd : ∀ g ∈ l, (s.dev.store l value.toNat).regs.get g = g.stored value.toNat (s.dev.rd g) := fun g hg =>
      store_rd_mem (placed_regFields hl) hg value.toNat s.dev
    refine ⟨_, registerWrite_next hh hs hlv hwrite rfl rfl, fun g hg hacc => ?_, fun g hg hacc k hk => ?_,
      answered_answer hh.1 _ x wrOk, frame_answer hh.1 _ x wrOk fun g hg => ?_⟩
    · rw [answer_rd]
      exact (hrd g hg).trans (stored_of_rw hacc _ _)
    · rw [answer_rd]
      exact (congrArg (·.testBit k) (hrd g hg)).trans (stored_of_w1c hacc _ _ hk)
    · refine store_rd_other value.toNat s.dev fun f hf hro hrc => hg f ?_
      have hwo := no_wo_of_plain_page ha hl f hf
      cases hacc : f.acc <;> simp_all
  · obtain ⟨go, hwrite, hgo⟩ := writeReg_plain (v := value.toNat) (m := s.mem) hl hw hf ha hrun hst
    rw [inOrder_overruled (by rw [hgo]) hsh ho] at hwrite
    exact registerWrite_answered hh hs hlv hwrite

end Sys2Proof.Machine
end

section
/-! PROOF. What a read of a register answers and leaves (R6, R10). -/

namespace Sys2Proof.Machine

/-- The module after a read that found `v`: the session's idle timer restarts and the value is answered. -/
def Dev.answerRead (sid a v : Nat) (d : Dev) : Dev :=
  (d.modSess sid fun y => { y with heard := d.clk }).emit (.value sid a (BitVec.ofNat 32 v))

@[simp] theorem answerRead_snaps (sid a v : Nat) (d : Dev) :
    ((d.answerRead sid a v).sess sid).snaps = (d.sess sid).snaps := by
  simp [Dev.answerRead, Dev.emit, Dev.modSess, Dev.sess]

/-- A heard read of a mapped register, by either of its commands. -/
theorem read_next {c : Instr} {sid : Sid} {addr : BitVec 16} {s : State} {v : Nat} {d : Dev}
    (hc : c = .rcRead sid addr ∨ c = .wideValueRead sid addr) (hh : Heard sid.val s)
    (hr : s.dev.readReg s.mem sid.val addr.toNat = some (v, d)) (hd : d.rcd.drafts = []) :
    exec c s = .next { s with dev := d.answerRead sid.val addr.toNat v } := by
  have hread : s.dev.hostRead s.mem sid.val addr.toNat = d.answerRead sid.val addr.toNat v := by
    simp [Dev.hostRead, hh.1, hh.2, hr, Dev.answerRead]
  have hrun : exec c s = s.run fun m d => d.hostRead m sid.val addr.toNat := by rcases hc with rfl | rfl <;> rfl
  rw [hrun, run_of (e := d.answerRead sid.val addr.toNat v) hread hd]

theorem frame_answerRead {sid a v : Nat} {s : State} {fs : List Fld} (r : RegFile) (n : NetSt)
    (hr : ∀ g : Fld, (∀ f ∈ fs, g.key ≠ f.key) → r.get g = s.dev.rd g) :
    Frame fs [.net, .out] s { s with dev := Dev.answerRead sid a v { s.dev with regs := r, net := n } } :=
  ⟨rfl, hr, fun _ hp => same_of_access s _ _ _ hp⟩

/-! ### The three kinds of register -/

theorem readReg_narrow {m : Mem} {sid a : Nat} {d : Dev} {l : List Fld} (hl : regFields a = some l)
    (hw : wideOf a = none) (hm : measured a = false) :
    d.readReg m sid a = some (d.word m sid a 0, d.clearRead a l) := by
  simp [Dev.readReg, hl, hw, hm]

theorem readReg_lowest {m : Mem} {sid a n : Nat} {d : Dev} {l : List Fld} (hl : regFields a = some l)
    (hw : wideOf a = some (a, n)) (hm : measured a = false) :
    d.readReg m sid a = some (d.word m sid a 0, d.capture m sid a n 0) := by
  simp [Dev.readReg, hl, hw, hm]

theorem readReg_upper {m : Mem} {sid a low n : Nat} {d : Dev} {l : List Fld} (hl : regFields a = some l)
    (hw : wideOf a = some (low, n)) (ha : a ≠ low) (hm : measured a = false) :
    d.readReg m sid a = some ((look (d.sess sid).snaps a).getD (d.word m sid a 0), d) := by
  simp [Dev.readReg, hl, hw, hm, ha]

/-! ### The words a session keeps -/

/-- Words kept one after another: each at its address, every other address as before. -/
theorem look_foldl_place (low a : Nat) (w : Nat → Nat) (js : List Nat) (y : List (Nat × Nat)) :
    look (js.foldl (fun l j => place l (low + j) (w (low + j))) y) a =
      if a ∈ js.map (low + ·) then some (w a) else look y a := by
  induction js generalizing y with
  | nil => simp
  | cons j js ih =>
    rw [List.foldl_cons, ih, List.map_cons]
    by_cases hj : a = low + j
    · simp [hj, look_place_same]
    · simp [hj, look_place_other]

theorem mem_upper {low n a : Nat} : a ∈ ((List.range n).drop 1).map (low + ·) ↔ low < a ∧ a < low + n := by
  have hdrop : (List.range n).drop 1 = List.range' 1 (n - 1) := by simp [List.range_eq_range']
  rw [hdrop]
  simp only [List.mem_map, List.mem_range'_1]
  constructor
  · rintro ⟨j, hj, rfl⟩
    omega
  · intro h
    exact ⟨a - low, by omega, by omega⟩

/-- After a capture the session keeps the value's upper words as they read; what it kept beside them stays. -/
theorem look_capture (m : Mem) (sid low n x a : Nat) (d : Dev) : look ((d.capture m sid low n x).sess sid).snaps a =
    if low < a ∧ a < low + n then some (d.word m sid a x) else look (d.sess sid).snaps a := by
  have hkeep := look_foldl_place low a (fun a => d.word m sid a x) ((List.range n).drop 1) (d.sess sid).snaps
  simp only [mem_upper] at hkeep
  simpa [Dev.capture, Dev.modSess, Dev.sess] using hkeep

/-- Settles O8: a read of each kind of register, by its equation of `Dev.readReg`. -/
theorem readsOfClearingAndWideRegisters : Obligations.ReadsOfClearingAndWideRegisters := by
  refine ⟨fun sid addr l s hh hs hl hw hm ha => ?_, fun sid s hh hs => ?_, fun sid addr n l s hh hs hl hw hm => ?_,
    fun sid addr low n v l s hh hs hl hw ha hm hv => ?_⟩
  · have hread := readReg_narrow (m := s.mem) (sid := sid.val) (d := s.dev) hl hw hm
    rw [clearRead_eq ha, zeroRc_eq] at hread
    refine ⟨_, read_next (.inl rfl) hh hread hs, rfl, fun x hx hrc => ?_, frame_answerRead _ _ fun g hg => ?_⟩
    · exact zeroRc_rd_mem (placed_regFields hl) hx hrc s.dev
    · exact zeroRc_rd_other s.dev hg
  · have hread := readReg_narrow (m := s.mem) (sid := sid.val) (d := s.dev) (a := 0x1404) (l := REC_CNT.fields) rfl
      (by decide) (by decide)
    rw [clearRead_rec_cnt, zeroRc_eq] at hread
    refine ⟨_, read_next (addr := 0x1404) (.inl rfl) hh hread hs, rfl, rfl, rfl,
      fun g hg => zeroRc_rd_other s.dev hg, fun p hp => ?_⟩
    cases p with
    | net => simp at hp
    | out => simp at hp
    | rcd => simp at hp
    | _ => rfl
  · have hread := readReg_lowest (m := s.mem) (sid := sid.val) (d := s.dev) hl hw hm
    refine ⟨_, read_next (.inr rfl) hh hread hs, rfl, fun j hj hjn => ?_, frame_answerRead _ _ fun _ _ => rfl⟩
    rw [answerRead_snaps, look_capture, if_pos (by omega)]
  · have hread := readReg_upper (m := s.mem) (sid := sid.val) (d := s.dev) hl hw ha hm
    rw [hv] at hread
    exact ⟨_, read_next (.inr rfl) hh hread hs, rfl, frame_answerRead _ _ fun _ _ => rfl⟩

end Sys2Proof.Machine
end

section
/-! PROOF. Reserved bits (R8): a write takes nothing from them, a read gives 0 in them. -/

namespace Sys2Proof.Machine

/-! ### Words that differ in reserved bits alone -/

/-- Two words that agree in every bit of a field of the register at `a`. -/
structure SameWrite (a v w : Nat) : Prop where
  left_lt : v < 2 ^ 32
  right_lt : w < 2 ^ 32
  bits : ∀ l, regFields a = some l → ∀ b < 32, ¬ Reserved l b → v.testBit b = w.testBit b

/-- They give every field of the register the same value. -/
theorem SameWrite.field {a v w : Nat} (h : SameWrite a v w) {f : Fld} (hf : f ∈ (regFields a).getD []) :
    f.of v = f.of w := by
  cases hl : regFields a with
  | none => simp [hl] at hf
  | some l =>
    replace hf : f ∈ l := by simpa [hl] using hf
    obtain ⟨-, hfit⟩ := placed_fits (placed_regFields hl) f hf
    refine Nat.eq_of_testBit_eq fun i => ?_
    simp only [Fld.of, Nat.testBit_mod_two_pow, Nat.testBit_div_two_pow]
    by_cases hi : i < f.wid
    · rw [h.bits l hl (i + f.lo) (by omega) fun hres => by have := hres f hf; omega]
    · simp [hi]

/-- They are equal where one field takes the whole word. -/
theorem SameWrite.whole {a v w : Nat} (h : SameWrite a v w) {f : Fld} (hf : f ∈ (regFields a).getD [])
    (hlo : f.lo = 0) (hwid : f.wid = 32) : v = w := by
  have hof := h.field hf
  have hv := h.left_lt
  have hw := h.right_lt
  simp only [Fld.of, hlo, hwid, Nat.pow_zero, Nat.div_one] at hof
  omega

/-- They are equal where no bit of the register is reserved. -/
theorem SameWrite.eq_of_full {a v w : Nat} (h : SameWrite a v w) {l : List Fld} (hl : regFields a = some l)
    (hfull : ∀ b < 32, ¬ Reserved l b) : v = w := by
  refine Nat.eq_of_testBit_eq fun b => ?_
  by_cases hb : b < 32
  · exact h.bits l hl b hb (hfull b hb)
  · have hpow : 2 ^ 32 ≤ 2 ^ b := Nat.pow_le_pow_right (by decide) (by omega)
    rw [Nat.testBit_lt_two_pow (Nat.lt_of_lt_of_le h.left_lt hpow),
      Nat.testBit_lt_two_pow (Nat.lt_of_lt_of_le h.right_lt hpow)]

/-- Turns that agree on the members of the list give the same loop. -/
theorem foldl_congr_mem {turn turn' : Dev → Fld → Dev} {l : List Fld} (h : ∀ d, ∀ f ∈ l, turn d f = turn' d f)
    (d : Dev) : l.foldl turn d = l.foldl turn' d := by
  induction l generalizing d with
  | nil => rfl
  | cons f l ih =>
    rw [List.foldl_cons, List.foldl_cons, h d f (List.mem_cons_self ..),
      ih fun d g hg => h d g (List.mem_cons_of_mem f hg)]

section
variable {a v w : Nat} {l : List Fld} (h : SameWrite a v w) (hl : regFields a = some l)
include h hl

theorem store_congr (d : Dev) : d.store l v = d.store l w := by
  refine foldl_congr_mem (fun d f hf => ?_) d
  have hof : f.of v = f.of w := h.field (by simpa [hl] using hf)
  simp only [hof]

theorem plain_congr (d : Dev) : d.plain l v = d.plain l w := by
  unfold Dev.plain
  rw [store_congr h hl]

end

/-! ### The register map at the windows -/

theorem lrnWin_mem {a : Nat} {l : List Fld} (hl : regFields a = some l) (ha : 0x7800 ≤ a) :
    LRN_WIN.BYTES (a - 0x7800) ∈ (regFields a).getD [] := by
  have hpage : regFields a = if a / 256 < 0x80 then some (regsPage78 a) else none := by
    unfold regFields
    split
    case h_24 => -- the windows
      simp only [show ¬ a / 256 < 0x70 by omega, show ¬ a / 256 < 0x78 by omega,
        show 0x78 ≤ a / 256 by omega, and_false, true_and, if_false]
    all_goals omega
  have htop : a / 256 < 0x80 := Decidable.byContradiction fun hn => by
    rw [hpage, if_neg hn] at hl
    cases hl
  rw [hpage, if_pos htop]
  simp [regsPage78, LRN_WIN.fields, ha, show a ≤ 0x7FFF by omega]

theorem imgWin_mem {a : Nat} (hp : a / 256 = 3) (ha : 0x380 ≤ a) :
    IMG_LOAD_WIN.BYTES (a - 0x380) ∈ (regFields a).getD [] := by
  simp only [regFields, hp, Option.getD_some, regsPage3]
  simp (disch := omega) only [if_neg, if_pos]
  simp [IMG_LOAD_WIN.fields]

/-! ### Each command register: its commands rest on its fields -/

/-- A condition on the written word that a rule makes at one address alone. -/
theorem and_congr_at {c : Prop} [Decidable c] {p q : Bool} (h : c → p = q) : (decide c && p) = (decide c && q) := by
  by_cases hc : c
  · rw [h hc]
  · simp [hc]

section
variable {a v w : Nat} {l : List Fld}

theorem writeSwap_congr (h : SameWrite swapCtrl v w) (d : Dev) : d.writeSwap v = d.writeSwap w := by
  simp only [Dev.writeSwap, h.field (f := PORT_SWAP_CTRL.CMD) (by decide),
    h.field (f := PORT_SWAP_CTRL.CASSETTE) (by decide)]

theorem writeAcq_congr (h : SameWrite a v w) (hl : regFields a = some l) (d : Dev) :
    d.writeAcq a l v = d.writeAcq a l w := by
  have hsrc : (decide (a = 0x600) && decide (d.rd ACQ_PH_CFG.PH_SRC ≠ ACQ_PH_CFG.PH_SRC.of v)) =
      (decide (a = 0x600) && decide (d.rd ACQ_PH_CFG.PH_SRC ≠ ACQ_PH_CFG.PH_SRC.of w)) :=
    and_congr_at fun ha => by subst ha; rw [h.field (f := ACQ_PH_CFG.PH_SRC) (by decide)]
  simp only [Dev.writeAcq, hsrc, plain_congr h hl]
  refine ite_congr rfl (fun _ => rfl) fun _ => ite_congr rfl (fun ha => ?_) fun _ =>
    ite_congr rfl (fun ha => ?_) fun _ => rfl
  · subst ha
    rw [h.field (f := ACQ_RATE.N_CFG) (by decide)]
  · subst ha
    rw [h.field (f := ACQ_ZC_SEC1.SEC_HI) (by decide)]

theorem writeLrn_congr (h : SameWrite a v w) (hl : regFields a = some l) (m : Mem) (sid : Nat) (d : Dev) :
    d.writeLrn m sid a l v = d.writeLrn m sid a l w := by
  simp only [Dev.writeLrn, plain_congr h hl]
  refine ite_congr rfl (fun ha => ?_) fun _ => ite_congr rfl (fun ha => ?_) fun _ =>
    ite_congr rfl (fun ha => ?_) fun _ => rfl
  · subst ha
    simp only [h.field (f := LRN_CTRL.CMD) (by decide), h.field (f := LRN_CTRL.TARGET) (by decide)]
  · subst ha
    rw [h.whole (f := LRN_COMMIT.CRC) (by decide) rfl rfl]
  · rw [h.whole (lrnWin_mem hl ha) rfl rfl]

theorem writeLrnBase_congr (h : SameWrite LRN_WIN_BASE.PAGE.addr v w) (sid : Nat) (d : Dev) :
    d.writeLrnBase sid v = d.writeLrnBase sid w := by
  simp only [Dev.writeLrnBase, h.field (f := LRN_WIN_BASE.PAGE) (by decide)]

theorem writeSeq_congr (h : SameWrite a v w) (hl : regFields a = some l) (m : Mem) (sid : Nat) (d : Dev) :
    d.writeSeq m sid a l v = d.writeSeq m sid a l w := by
  have hidx : (decide (a = SEQ_WEAR_SEL.IDX.addr) && decide (26 < SEQ_WEAR_SEL.IDX.of v)) =
      (decide (a = SEQ_WEAR_SEL.IDX.addr) && decide (26 < SEQ_WEAR_SEL.IDX.of w)) :=
    and_congr_at fun ha => by subst ha; rw [h.field (f := SEQ_WEAR_SEL.IDX) (by decide)]
  simp only [Dev.writeSeq, plain_congr h hl, hidx]
  refine ite_congr rfl (fun ha => ?_) fun _ => ite_congr rfl (fun ha => ?_) fun _ => rfl
  · subst ha
    rw [h.eq_of_full rfl (by decide)]
  · subst ha
    simp only [h.field (f := SEQ_CTRL.CMD) (by decide), h.field (f := SEQ_CTRL.MASK) (by decide),
      h.field (f := SEQ_CTRL.WEAR_IDX) (by decide)]

theorem writeBal_congr (h : SameWrite a v w) (hl : regFields a = some l) (m : Mem) (sid : Nat) (d : Dev) :
    d.writeBal m sid a l v = d.writeBal m sid a l w := by
  simp only [Dev.writeBal, plain_congr h hl]
  refine ite_congr rfl (fun ha => ?_) fun _ => rfl
  subst ha
  simp only [h.field (f := BAL_CTRL.CMD) (by decide), h.field (f := BAL_CTRL.PORT) (by decide),
    h.field (f := BAL_CTRL.INPUT) (by decide)]

theorem writeChn_congr (h : SameWrite a v w) (hl : regFields a = some l) (m : Mem) (sid : Nat) (d : Dev) :
    d.writeChn m sid a l v = d.writeChn m sid a l w := by
  simp only [Dev.writeChn, plain_congr h hl]
  refine ite_congr rfl (fun ha => ?_) fun _ => ite_congr rfl (fun ha => ?_) fun _ =>
    ite_congr rfl (fun ha => ?_) fun _ => rfl
  · subst ha
    rw [h.whole (f := CHN_SET.MASK) (by decide) rfl rfl]
  · subst ha
    rw [h.whole (f := CHN_CLR.MASK) (by decide) rfl rfl]
  · subst ha
    rw [h.whole (f := CHN_FCLR.MASK) (by decide) rfl rfl]

theorem writeSaf_congr (h : SameWrite SAF_CTRL.CMD.addr v w) (sid : Nat) (d : Dev) :
    d.writeSaf sid v = d.writeSaf sid w := by
  simp only [Dev.writeSaf, h.field (f := SAF_CTRL.CMD) (by decide), h.field (f := SAF_CTRL.GROUPS) (by decide)]

theorem writeTime_congr (h : SameWrite a v w) (hl : regFields a = some l) (m : Mem) (d : Dev) :
    d.writeTime m a l v = d.writeTime m a l w := by
  have hns : (decide (a = TIME_STEP_NS.NS.addr) && decide (999999999 < v)) =
      (decide (a = TIME_STEP_NS.NS.addr) && decide (999999999 < w)) :=
    and_congr_at fun ha => by subst ha; rw [h.whole (f := TIME_STEP_NS.NS) (by decide) rfl rfl]
  simp only [Dev.writeTime, plain_congr h hl, store_congr h hl, hns]
  refine ite_congr rfl (fun ha => ?_) fun _ => ite_congr rfl (fun _ => rfl) fun _ =>
    ite_congr rfl (fun ha => ?_) fun _ => rfl
  · subst ha
    simp only [h.field (f := TIME_CTRL.CMD) (by decide), h.field (f := TIME_CTRL.DOMAIN) (by decide)]
  · have hincr : TIME_INCR.INCR (a - 0xF20) ∈ (regFields a).getD [] := by
      simp only [Bool.and_eq_true, decide_eq_true_eq] at ha
      obtain ⟨hlow, hhigh⟩ := ha
      have hfour : a = 0xF20 ∨ a = 0xF21 ∨ a = 0xF22 ∨ a = 0xF23 := by omega
      rcases hfour with rfl | rfl | rfl | rfl <;> decide
    rw [h.whole hincr rfl rfl]

theorem writeCue_congr (h : SameWrite a v w) (hl : regFields a = some l) (m : Mem) (sid : Nat) (d : Dev) :
    d.writeCue m sid a l v = d.writeCue m sid a l w := by
  simp only [Dev.writeCue, plain_congr h hl]
  refine ite_congr rfl (fun ha => ?_) fun _ => ite_congr rfl (fun ha => ?_) fun _ => rfl
  · subst ha
    simp only [h.field (f := CUE_CTRL.CMD) (by decide), h.field (f := CUE_CTRL.INDEX) (by decide)]
  · subst ha
    simp only [h.field (f := CUE_FQ_CTRL.CMD) (by decide), h.field (f := CUE_FQ_CTRL.PORT) (by decide),
      h.field (f := CUE_FQ_CTRL.SLOT) (by decide), h.field (f := CUE_FQ_CTRL.LEN) (by decide)]

theorem writeSess_congr (h : SameWrite SESS_CTRL.CMD.addr v w) (m : Mem) (sid : Nat) (d : Dev) :
    d.writeSess m sid v = d.writeSess m sid w := by
  simp only [Dev.writeSess, h.field (f := SESS_CTRL.FUNC) (by decide), h.field (f := SESS_CTRL.CMD) (by decide)]

theorem writeRecExp_congr (h : SameWrite a v w) (hl : regFields a = some l) (sid : Nat) (d : Dev) :
    d.writeRecExp sid a l v = d.writeRecExp sid a l w := by
  simp only [Dev.writeRecExp, plain_congr h hl]
  refine ite_congr rfl (fun ha => ?_) fun _ => ite_congr rfl (fun ha => ?_) fun _ =>
    ite_congr rfl (fun ha => ?_) fun _ => rfl
  · subst ha
    simp only [h.field (f := REC_EXP_CTRL.CMD) (by decide), h.field (f := REC_EXP_CTRL.REGION) (by decide),
      h.field (f := REC_EXP_CTRL.POS) (by decide)]
  · subst ha
    rw [h.whole (f := REC_EXP_SEQ0.SEQ_LO) (by decide) rfl rfl]
  · subst ha
    simp only [h.field (f := REC_EXP_SEQ1.SEQ_HI) (by decide)]

theorem writeLgr_congr (h : SameWrite a v w) (hl : regFields a = some l) (sid : Nat) (d : Dev) :
    d.writeLgr sid a l v = d.writeLgr sid a l w := by
  simp only [Dev.writeLgr, plain_congr h hl]
  refine ite_congr rfl (fun ha => ?_) fun _ => ite_congr rfl (fun ha => ?_) fun _ => rfl
  · subst ha
    rw [h.field (f := LGR_EXP_CTRL.CMD) (by decide)]
  · subst ha
    rw [h.whole (f := LGR_EXP_NUM.CP_NUM) (by decide) rfl rfl]

theorem writePwr_congr (h : SameWrite pwrCtrl v w) (m : Mem) (sid : Nat) (d : Dev) :
    d.writePwr m sid v = d.writePwr m sid w := by
  simp only [Dev.writePwr, h.field (f := PWR_CTRL.CMD) (by decide)]

theorem writeImg_congr (h : SameWrite a v w) (hl : regFields a = some l) (hp : a / 256 = 3) (sid : Nat) (m : Mem)
    (d : Dev) : writeImg sid a l v m d = writeImg sid a l w m d := by
  simp only [writeImg, plain_congr h hl]
  refine ite_congr rfl (fun ha => ?_) fun _ => ite_congr rfl (fun ha => ?_) fun _ => rfl
  · subst ha
    simp only [h.field (f := IMG_LOAD_CTRL.CMD) (by decide), h.field (f := IMG_LOAD_CTRL.GUARD) (by decide)]
  · rw [h.whole (imgWin_mem hp ha) rfl rfl]

/-! ### Every write -/

theorem writeOwned_congr (h : SameWrite a v w) (hl : regFields a = some l) (m : Mem) (sid : Nat) (f : Func) (d : Dev) :
    d.writeOwned m sid a f l v = d.writeOwned m sid a f l w := by
  simp only [Dev.writeOwned, plain_congr h hl, writeAcq_congr h hl, writeLrn_congr h hl, writeSeq_congr h hl,
    writeBal_congr h hl, writeChn_congr h hl, writeTime_congr h hl, writeCue_congr h hl, writeRecExp_congr h hl,
    writeLgr_congr h hl]
  have hswap : (if a = swapCtrl then d.writeSwap v else d.plain l w) =
      if a = swapCtrl then d.writeSwap w else d.plain l w :=
    ite_congr rfl (fun ha => by subst ha; exact writeSwap_congr h d) fun _ => rfl
  rw [hswap]

theorem writeReg_congr (h : SameWrite a v w) (hl : regFields a = some l) (sid : Nat) (m : Mem) (d : Dev) :
    writeReg sid a v m d = writeReg sid a w m d := by
  have hseq : (decide (a = SEQ_CTRL.CMD.addr) && (decide (SEQ_CTRL.CMD.of v = 6) || decide (SEQ_CTRL.CMD.of v = 7))) =
      (decide (a = SEQ_CTRL.CMD.addr) && (decide (SEQ_CTRL.CMD.of w = 6) || decide (SEQ_CTRL.CMD.of w = 7))) :=
    and_congr_at fun ha => by subst ha; rw [h.field (f := SEQ_CTRL.CMD) (by decide)]
  simp only [writeReg, hl, hseq, writeSeq_congr h hl, writeOwned_congr h hl]
  refine ite_congr rfl (fun _ => rfl) fun _ => ite_congr rfl (fun hp => writeImg_congr h hl hp sid m d) fun _ =>
    ite_congr rfl (fun ha => ?_) fun _ => ite_congr rfl (fun ha => ?_) fun _ => ite_congr rfl (fun ha => ?_) fun _ =>
    ite_congr rfl (fun ha => ?_) fun _ => rfl
  · subst ha
    rw [writeSess_congr h]
  · simp only [Bool.and_eq_true, decide_eq_true_eq] at ha
    obtain ⟨rfl, -⟩ := ha
    rw [writeLrnBase_congr h]
  · subst ha
    rw [writeSaf_congr h]
  · subst ha
    rw [writePwr_congr h]

end

/-! ### Every read -/

theorem clearRead_keeps (a : Nat) (l : List Fld) (d : Dev) : (d.clearRead a l).net = d.net ∧
    (d.clearRead a l).out = d.out ∧ (d.clearRead a l).rcd.drafts = d.rcd.drafts := by
  by_cases ha : a = 0x1404
  · rw [ha, clearRead_rec_cnt, zeroRc_eq]
    exact ⟨rfl, rfl, rfl⟩
  · rw [clearRead_eq ha, zeroRc_eq]
    exact ⟨rfl, rfl, rfl⟩

/-- A read gives a word of the register, or the word kept of it; it clears RC fields or keeps the upper words. -/
theorem readReg_cases (m : Mem) (sid : Nat) {a : Nat} (d : Dev) {l : List Fld} (hl : regFields a = some l) :
    ∃ x e, e.net = d.net ∧ e.rcd = d.rcd ∧ e.out = d.out ∧
      (d.readReg m sid a = some (e.word m sid a x, e.clearRead a l) ∨
        (∃ n, d.readReg m sid a = some (e.word m sid a x, e.capture m sid a n x)) ∨
        d.readReg m sid a = some ((look (e.sess sid).snaps a).getD (e.word m sid a x), e)) := by
  obtain ⟨x, e, hp, hnet, hrcd, hout⟩ : ∃ x e, (if measured a then d.drawNat else (0, d)) = (x, e) ∧ e.net = d.net ∧
      e.rcd = d.rcd ∧ e.out = d.out := by
    split
    · exact ⟨_, _, rfl, rfl, rfl, rfl⟩
    · exact ⟨_, _, rfl, rfl, rfl, rfl⟩
  refine ⟨x, e, hnet, hrcd, hout, ?_⟩
  simp only [Dev.readReg, hl, hp]
  cases wideOf a with
  | none => exact .inl rfl
  | some y =>
    by_cases ha : a = y.1
    · exact .inr (.inl ⟨y.2, by simp [← ha]⟩)
    · exact .inr (.inr (by simp [ha]))

/-- The words a session keeps have their reserved bits 0. -/
def Dev.keptWords (sid : Nat) (d : Dev) : Prop :=
  ∀ a l b w, regFields a = some l → Reserved l b → look (d.sess sid).snaps a = some w → w.testBit b = false

theorem keptWords_iff (sid : Nat) (s : State) : KeptWords sid s ↔ s.dev.keptWords sid := .rfl

theorem keptWords_of_net {sid : Nat} {d e : Dev} (h : e.net = d.net) (hk : d.keptWords sid) : e.keptWords sid := by
  unfold Dev.keptWords Dev.sess
  rw [h]
  exact hk

theorem keptWords_capture {m : Mem} {sid low n x : Nat} {d : Dev} (hk : d.keptWords sid) :
    (d.capture m sid low n x).keptWords sid := by
  intro a l b w hl hb hw
  rw [look_capture] at hw
  split at hw
  · exact Option.some.inj hw ▸ word_reserved m sid x d hl hb
  · exact hk a l b w hl hb hw

/-- A read gives 0 in every reserved bit, and what the session then keeps has them 0; it sends nothing and makes no
record. -/
theorem readReg_reserved (m : Mem) {sid a : Nat} {d : Dev} {l : List Fld} (hl : regFields a = some l)
    (hk : d.keptWords sid) : ∃ v e, d.readReg m sid a = some (v, e) ∧ e.out = d.out ∧
      e.rcd.drafts = d.rcd.drafts ∧ (∀ b, Reserved l b → v.testBit b = false) ∧ e.keptWords sid := by
  obtain ⟨x, e, hnet, hrcd, hout, hread⟩ := readReg_cases m sid d hl
  have hkept := keptWords_of_net hnet hk
  have hword : ∀ b, Reserved l b → (e.word m sid a x).testBit b = false := fun b => word_reserved m sid x e hl
  rcases hread with hread | ⟨n, hread⟩ | hread
  · obtain ⟨hcnet, hcout, hcdrafts⟩ := clearRead_keeps a l e
    exact ⟨_, _, hread, hcout.trans hout, hcdrafts.trans (congrArg RecSt.drafts hrcd), hword,
      keptWords_of_net hcnet hkept⟩
  · exact ⟨_, _, hread, hout, congrArg RecSt.drafts hrcd, hword, keptWords_capture hkept⟩
  · refine ⟨_, _, hread, hout, congrArg RecSt.drafts hrcd, fun b hb => ?_, hkept⟩
    cases hsnap : look (e.sess sid).snaps a with
    | none => exact hword b hb
    | some w => exact hkept a l b w hl hb hsnap

/-- Settles O59: a write takes of the word what the fields' bits say (`writeReg_congr`), and a read is a sum of
fields (`wordOf_reserved`) or a word kept of one. -/
theorem reservedBitsReadZeroAndAreIgnored : Obligations.ReservedBitsReadZeroAndAreIgnored := by
  refine ⟨fun sid addr value other l s hl hbits => ?_, fun c sid addr l s hc hs hh hl hk => ?_⟩
  · have hsame : SameWrite addr.toNat value.toNat other.toNat :=
      ⟨value.isLt, other.isLt, fun l' hl' b hb hres => hbits b hb (by rwa [Option.some.inj (hl.symm.trans hl')])⟩
    have hrun : s.runMem (hostWrite sid.val addr.toNat value.toNat) =
        s.runMem (hostWrite sid.val addr.toNat other.toNat) := by
      unfold hostWrite
      rw [funext fun m => funext fun d => writeReg_congr hsame hl sid.val m d]
    exact ⟨hrun, hrun⟩
  · obtain ⟨v, e, hread, hout, hdrafts, hv, hkept⟩ := readReg_reserved s.mem hl ((keptWords_iff sid s).1 hk)
    refine ⟨_, BitVec.ofNat 32 v, read_next hc hh hread (hdrafts.trans hs), ?_, fun b hb hres => ?_, ?_⟩
    · exact congrArg (_ :: ·) hout
    · rw [BitVec.getLsbD_ofNat, hv b hres, Bool.and_false]
    · intro a l' b w hl' hb hw
      rw [answerRead_snaps] at hw
      exact hkept a l' b w hl' hb hw

end Sys2Proof.Machine
end

section
/-! PROOF. A start with the transport flag set that sleeps on (R378) finds the thermal latch's cell as every start does
(R222), so the step is not without effect on THW. -/

namespace Sys2Proof.Machine

/-- R222: a removal of 2.0 s or more always clears the latch. -/
theorem ThwSt.found_latch_of_long_absence {absentMs : Nat} (h : 2000 ≤ absentMs) (between : Bool) (x : ThwSt) :
    (x.found absentMs between).latch = false := by
  have hgone : x.gone absentMs between = x.latch := by simp [ThwSt.gone, h]
  simp [ThwSt.found, hgone]

theorem powerUp_asleep {cause : Nat} {u : Supply} {bankA bankB : Bool} {m : Mem} {d : Dev} (hflag : d.nv.transport = true)
    (hasleep : supplyWakes u = false) : powerUp cause u bankA bankB m d =
      (m, (d.drawBool.2.modThw fun x => x.found u.absentMs d.drawBool.1).modPwr fun p =>
        { p with boot := .asleep, inTransport := true }) := by
  simp [powerUp, hflag, hasleep]

theorem startUp_sleeps_thw {supply : Supply} {s : State} (bankA bankB : Bool) (hoff : s.dev.pwr.boot = .off)
    (hflag : s.dev.nv.transport = true) (hasleep : supplyWakes supply = false) :
    ∃ t, exec (.startUp supply bankA bankB) s = .next t ∧
      t.dev.thw = s.dev.thw.found supply.absentMs s.dev.drawBool.1 := by
  refine ⟨_, rfl, ?_⟩
  simp only [if_pos hoff, powerUp_asleep hflag hasleep]
  rfl

/-- A START_UP that sleeps on after 2.0 s without aux clears a thermal latch that stood, so it does not keep THW. -/
theorem startUp_sleeps_changes_thw {supply : Supply} {s t : State} {bankA bankB : Bool} (hoff : s.dev.pwr.boot = .off)
    (hflag : s.dev.nv.transport = true) (hasleep : supplyWakes supply = false) (hlong : 2000 ≤ supply.absentMs)
    (hlatch : s.dev.thw.latch = true) (ht : exec (.startUp supply bankA bankB) s = .next t) :
    t.dev.thw ≠ s.dev.thw := by
  obtain ⟨t', ht', hfound⟩ := startUp_sleeps_thw bankA bankB hoff hflag hasleep
  obtain rfl : t' = t := Host.Outcome.next.inj (ht'.symm.trans ht)
  intro hkept
  have hcleared : t'.dev.thw.latch = false := hfound ▸ ThwSt.found_latch_of_long_absence hlong _ _
  rw [hkept, hlatch] at hcleared
  cases hcleared

/-- Refutes O49: its second part lets a START_UP that sleeps on change the supply state alone. A module that lost its
supply in TRANSPORT with the thermal latch set, and starts without a charger after 2.0 s without aux, finds the latch
cleared (R222). -/
theorem not_startsRunInTheirOrder : ¬ Obligations.StartsRunInTheirOrder := by
  rintro ⟨-, hsleeps, -⟩
  let supply : Supply := ⟨12000, 12000, 30000, false, 0xFF, 2000⟩
  let s : State := { State.reset with dev := { Dev.factory with
    nv := { Nv.factory with transport := true }
    pwr := { PwrSt.off with inTransport := true, why := 1 }
    thw := { ThwSt.start with latch := true } } }
  obtain ⟨t, ht, -, -, -, hparts⟩ := hsleeps supply true true s rfl rfl rfl (.inl rfl)
  exact startUp_sleeps_changes_thw rfl rfl rfl (Nat.le_refl 2000) rfl ht (hparts .thw (by decide))

end Sys2Proof.Machine
end

section
/-! PROOF. Cells that lie beyond the cell pages. R41 gives a block at most 24 inputs, so that the cells of the last
port, M63, end at 1535 and their flags end on page 0x6F; `topoOk` asks it of an image. The statements on RESTORE_SWAP
and BLOCK_REPLACED speak of every state instead, and their frames name the pages 0x40 to 0x6F for the cells. A port
record of M63 with 25 inputs gives the module cell 1536, whose flags stand on page 0x70, and both commands write it. -/

namespace Sys2Proof.Machine

/-! ### Where a cell's flags stand -/

/-- The flags of the cells 0 to 1535, and of no other, stand on the pages 0x40 to 0x6F. -/
theorem cellFlags_on_cellPages_iff (c : Nat) :
    (CELL_FLAGS.NEW c).addr / 256 ∈ (List.range 48).map (64 + ·) ↔ c < 1536 := by
  simp only [List.mem_map, List.mem_range]
  constructor
  · rintro ⟨page, hpage, haddr⟩
    omega
  · intro hc
    exact ⟨(0x4007 + 8 * c) / 256 - 64, by omega, by omega⟩

theorem mem_blockCells {d : Dev} {k c : Nat} :
    c ∈ d.blockCells k ↔ ∃ i < (d.portRec (lcOfMon k)).inputs, 24 * k + i = c := by
  simp [Dev.blockCells]

theorem newFlag_key_ne {c e : Nat} (h : c ≠ e) : (CELL_FLAGS.NEW c).key ≠ (CELL_FLAGS.NEW e).key := by
  simp only [Fld.key]
  omega

/-- A write below the cell pages leaves the NEW flags. -/
theorem newFlag_wr_below {f : Fld} (hf : f.key < 0x4000 * 32) (v c : Nat) (d : Dev) :
    (d.wr f v).rd (CELL_FLAGS.NEW c) = d.rd (CELL_FLAGS.NEW c) := by
  refine Dev.rd_wr_other d v fun h => ?_
  rw [← h] at hf
  simp only [Fld.key] at hf
  omega

/-- M63 alone, in string 0, with one input more than R41 allows. -/
def crowdedLastPort : Topo := ⟨[], [(lcOfMon 63, ⟨0, 25, 0, 0, .none⟩)]⟩

theorem mem_blockCells_crowded {d : Dev} (h : d.topo = crowdedLastPort) : 1536 ∈ d.blockCells 63 := by
  refine mem_blockCells.2 ⟨24, ?_, rfl⟩
  simp only [Dev.portRec, h]
  decide

/-! ### What RESTORE_SWAP leaves in the NEW flag of an accepted block's cell -/

/-- A reading that one turn of a loop sets to `v`, and no other turn changes, is `v` after the loop. -/
theorem each_sets {β : Type} (get : Dev → β) (f : Nat → Dev → Dev) {c : Nat} {v : β} (hset : ∀ d, get (f c d) = v)
    (hkeep : ∀ k, k ≠ c → ∀ d, get (f k d) = get d) {l : List Nat} (hc : c ∈ l) (d : Dev) : get (d.each l f) = v := by
  induction l generalizing d with
  | nil => cases hc
  | cons k l ih =>
    by_cases hl : c ∈ l
    · exact ih hl (f k d)
    · obtain rfl : c = k := (List.mem_cons.1 hc).resolve_right hl
      have hrest : ∀ j ∈ l, ∀ e, get (f j e) = get e := fun j hj => hkeep j fun h => hl (h ▸ hj)
      exact (each_keep_mem get f l hrest (f c d)).trans (hset d)

theorem takeBlock_rd_new {m : Mem} {b : Img} {k c : Nat} {d : Dev} (hc : c ∈ d.blockCells k) :
    (d.takeBlock m b k).rd (CELL_FLAGS.NEW c) = b.u8 (cellAt c + 17) % 2 := by
  refine each_sets (·.rd (CELL_FLAGS.NEW c)) _ (fun e => ?_) (fun j hj e => ?_) hc d
  · simp [Dev.takeCell, Dev.followRohm]
  · simp [Dev.takeCell, Dev.followRohm, newFlag_key_ne hj.symm]

theorem setStale_rd (s : Nat) (d : Dev) (g : Fld) : (d.setStale s).rd g = d.rd g := by
  unfold Dev.setStale
  split
  · rfl
  · exact each_keep (·.rd g) (fun c e => e.modCell c fun x => { x with relearned := false }) (fun _ _ => rfl) _ _

theorem swapStr_rd (b : Img) (s : Nat) (d : Dev) (g : Fld) : (d.swapStr b s).rd g = d.rd g := by
  unfold Dev.swapStr
  dsimp only
  split
  · exact setStale_rd s _ g
  · rfl

theorem swapBlock_accepted {m : Mem} {b : Img} {k : Nat} {d : Dev} (h : k ∈ d.lrn.accepted) :
    d.swapBlock m b k = d.takeBlock m b k := by
  simp [Dev.swapBlock, h]

/-- Where the one used block is accepted, the swap gives each of its cells the staged NEW flag (R145). -/
theorem restoreSwap_rd_new {s : State} {k c : Nat} (halive : s.dev.alive = true) (hstate : s.dev.lrnState = 5)
    (hout : s.dev.outage bedEstm = false) (hbound : s.dev.boundaryFor s.dev.lrn.checkedAt = true)
    (hused : s.dev.usedBlocks = [k]) (hacc : k ∈ s.dev.lrn.accepted) (hc : c ∈ s.dev.blockCells k) :
    ∃ t, exec .restoreSwap s = .next t ∧
      t.dev.rd (CELL_FLAGS.NEW c) = Img.u8 s.dev.lrn.buf (cellAt c + 17) % 2 := by
  refine ⟨_, rfl, ?_⟩
  have hstrs : ∀ (e : Dev) (b : Img), (e.each strings (Dev.swapStr b)).rd (CELL_FLAGS.NEW c) =
      e.rd (CELL_FLAGS.NEW c) := fun e b => each_keep (·.rd (CELL_FLAGS.NEW c)) _ (fun j d => swapStr_rd b j d _) _ e
  have hblock : s.dev.each [k] (Dev.swapBlock s.mem s.dev.lrn.buf) = s.dev.takeBlock s.mem s.dev.lrn.buf k :=
    swapBlock_accepted hacc
  dsimp only
  rw [if_neg (by simp [halive, hstate, hout, hbound]), hused, hblock]
  simp (disch := decide) [Dev.bufferIdle, newFlag_wr_below, hstrs, takeBlock_rd_new hc]

/-! ### What BLOCK_REPLACED leaves in the NEW flag of the block's cells -/

theorem renewCells_rd_new {m : Mem} {k c : Nat} {d : Dev} (hc : c ∈ d.blockCells k) :
    (d.renewCells m k).rd (CELL_FLAGS.NEW c) = 1 := by
  refine each_sets (·.rd (CELL_FLAGS.NEW c)) _ (fun e => ?_) (fun j hj e => ?_) hc d
  · simp [Dev.newCell, Dev.initCell]
  · simp [Dev.newCell, Dev.initCell, Dev.defaultCell, newFlag_key_ne hj.symm]

theorem replaceBlock_rd_new {m : Mem} {k c : Nat} {d : Dev} (hest : d.runs .est = true) (hc : c ∈ d.blockCells k) :
    (d.replaceBlock m k).rd (CELL_FLAGS.NEW c) = 1 := by
  simp [Dev.replaceBlock, hest, setStale_rd, renewCells_rd_new hc]

/-- While EST runs, a declared block's replacement gives each of its cells the flag NEW (R148). -/
theorem blockReplaced_rd_new {port : Mon} {s : State} {c : Nat} (halive : s.dev.alive = true)
    (hacq : s.dev.runs .acq = true) (hest : s.dev.runs .est = true) (hused : s.dev.monUsed port.val = true)
    (hdecl : (s.dev.block port.val).declared = true) (hc : c ∈ s.dev.blockCells port.val) :
    ∃ t, exec (.blockReplaced port) s = .next t ∧ t.dev.rd (CELL_FLAGS.NEW c) = 1 := by
  refine ⟨_, rfl, ?_⟩
  dsimp only
  rw [if_pos (by simp [halive, hacq, hused, hdecl])]
  simp [Dev.balNewBlock, replaceBlock_rd_new hest hc]

/-! ### The two refutations -/

/-- Refutes O30: its clause on RESTORE_SWAP lets nothing change outside page 0x08 and the pages 0x40 to 0x6F. With 25
inputs on M63, the swap of its accepted block writes the NEW flag of cell 1536, on page 0x70: here from 1 to the 0 of
an empty buffer. -/
theorem not_learnedDataIsExportedAndRestored : ¬ Obligations.LearnedDataIsExportedAndRestored := by
  rintro ⟨-, -, -, -, -, -, -, -, -, hswap⟩
  let s : State := { State.reset with dev := { Dev.factory with
    pwr := { PwrSt.off with boot := .awake }
    clk := 100
    phase := { PhaseSt.start0 with k := 0, boundAt := 100 }
    topo := crowdedLastPort
    lrn := { LrnSt.start with accepted := [63] }
    regs := [(LRN_STATUS.STATE.key, 5), ((CELL_FLAGS.NEW 1536).key, 1)] } }
  have halive : s.dev.alive = true := rfl
  have hstate : s.dev.lrnState = 5 := by decide
  have hbound : s.dev.boundaryFor s.dev.lrn.checkedAt = true := by decide
  have hcell : 1536 ∈ s.dev.blockCells 63 := mem_blockCells_crowded rfl
  have hused : s.dev.usedBlocks = [63] := by decide
  obtain ⟨t, ht, -, -, -, -, -, -, -, -, -, hpages, -⟩ := hswap s halive hstate rfl hbound
  obtain ⟨t', ht', hnew⟩ := restoreSwap_rd_new halive hstate rfl hbound hused (.head _) hcell
  obtain rfl : t' = t := Host.Outcome.next.inj (ht'.symm.trans ht)
  have hkept : t'.dev.rd (CELL_FLAGS.NEW 1536) = 1 := hpages (CELL_FLAGS.NEW 1536) (by decide) (by decide)
  rw [hnew] at hkept
  exact absurd hkept (by decide)

/-- Refutes O31: its clause on BLOCK_REPLACED lets no register field change outside the pages 0x40 to 0x6F. With 25
inputs on M63, the replacement of its block writes the NEW flag of cell 1536, on page 0x70: here from 0 to 1. -/
theorem not_capacityTestsAndReplacedBlocks : ¬ Obligations.CapacityTestsAndReplacedBlocks := by
  rintro ⟨-, -, -, -, hreplace, -⟩
  let s : State := { State.reset with dev := { Dev.factory with
    pwr := { PwrSt.off with boot := .awake }
    topo := crowdedLastPort
    lrn := { LrnSt.start with blocks := [(63, { BlockSt.blank with declared := true })] }
    regs := [((SESS_FUNC.STATE Func.acq.num).key, 1), ((SESS_FUNC.STATE Func.est.num).key, 1)] } }
  have hacq : s.dev.runs .acq = true := by decide
  have hest : s.dev.runs .est = true := by decide
  have hused : s.dev.monUsed (63 : Mon).val = true := by decide
  have hdecl : (s.dev.block (63 : Mon).val).declared = true := rfl
  obtain ⟨t, ht, -, -, -, -, -, -, -, -, hpages, -⟩ := hreplace 63 s rfl rfl hacq hest hused hdecl
  obtain ⟨t', ht', hnew⟩ := blockReplaced_rd_new rfl hacq hest hused hdecl (mem_blockCells_crowded rfl)
  obtain rfl : t' = t := Host.Outcome.next.inj (ht'.symm.trans ht)
  have hkept : t'.dev.rd (CELL_FLAGS.NEW 1536) = 0 :=
    hpages (CELL_FLAGS.NEW 1536) (by decide) (mt (cellFlags_on_cellPages_iff 1536).1 (by decide))
  rw [hnew] at hkept
  cases hkept

end Sys2Proof.Machine
end

section
/-! PROOF. Forcing and switch tests (R231, R232, R234, R235): how a command of a steward is answered, what the updates
it is made of leave as it was, and what it does to the ports of BAL. -/

namespace Sys2Proof.Machine

/-! ### Frames, put together from the frames of a step's updates -/

theorem Part.same_trans {s t u : State} {p : Part} (h : p.same s t) (h' : p.same t u) : p.same s u := by
  cases p <;> exact Eq.trans h' h

theorem Frame.refl (fs : List Fld) (ps : List Part) (s : State) : Frame fs ps s s :=
  ⟨rfl, fun _ _ => rfl, fun p _ => by cases p <;> rfl⟩

theorem Frame.trans {fs : List Fld} {ps : List Part} {s t u : State} (h : Frame fs ps s t) (h' : Frame fs ps t u) :
    Frame fs ps s u := by
  obtain ⟨hqueue, hregs, hparts⟩ := h
  obtain ⟨hqueue', hregs', hparts'⟩ := h'
  exact ⟨hqueue'.trans hqueue, fun g hg => (hregs' g hg).trans (hregs g hg),
    fun p hp => Part.same_trans (hparts p hp) (hparts' p hp)⟩

/-- A part outside a frame is the same after the step. -/
theorem Frame.same {fs : List Fld} {ps : List Part} {s t : State} (h : Frame fs ps s t) {p : Part} (hp : p ∉ ps) :
    p.same s t := h.2.2 p hp

/-- A field outside a frame reads the same after the step. -/
theorem Frame.rd {fs : List Fld} {ps : List Part} {s t : State} (h : Frame fs ps s t) {g : Fld}
    (hg : ∀ f ∈ fs, g.key ≠ f.key) : t.dev.rd g = s.dev.rd g := h.2.1 g hg

section
variable {fs : List Fld} {ps : List Part} {s : State} (d : Dev)

theorem frame_wr {f : Fld} (v : Nat) (h : f ∈ fs) : Frame fs ps { s with dev := d } { s with dev := d.wr f v } :=
  ⟨rfl, fun _ hg => d.rd_wr_other v (hg f h), fun p _ => by cases p <;> rfl⟩

theorem frame_modBal (g : BalSt → BalSt) (h : .bal ∈ ps) :
    Frame fs ps { s with dev := d } { s with dev := d.modBal g } := by
  refine ⟨rfl, fun _ _ => rfl, fun p hp => ?_⟩
  cases p with
  | bal => exact absurd h hp
  | _ => rfl

theorem frame_modBalPort (k : Nat) (g : BalPort → BalPort) (h : .bal ∈ ps) :
    Frame fs ps { s with dev := d } { s with dev := d.modBalPort k g } :=
  frame_modBal d (fun b => { b with ports := tmod BalPort.blank b.ports k g }) h

theorem frame_modPort (n : Nat) (g : PortSt → PortSt) (h : .ports ∈ ps) :
    Frame fs ps { s with dev := d } { s with dev := d.modPort n g } := by
  refine ⟨rfl, fun _ _ => rfl, fun p hp => ?_⟩
  cases p with
  | ports => exact absurd h hp
  | _ => rfl

theorem frame_modSess (n : Nat) (g : Sess → Sess) (h : .net ∈ ps) :
    Frame fs ps { s with dev := d } { s with dev := d.modSess n g } := by
  refine ⟨rfl, fun _ _ => rfl, fun p hp => ?_⟩
  cases p with
  | net => exact absurd h hp
  | _ => rfl

theorem frame_emit (x : Msg) (h : .out ∈ ps) : Frame fs ps { s with dev := d } { s with dev := d.emit x } := by
  refine ⟨rfl, fun _ _ => rfl, fun p hp => ?_⟩
  cases p with
  | out => exact absurd h hp
  | _ => rfl

theorem frame_modRcd (g : RecSt → RecSt) (h : .rcd ∈ ps) :
    Frame fs ps { s with dev := d } { s with dev := d.modRcd g } := by
  refine ⟨rfl, fun _ _ => rfl, fun p hp => ?_⟩
  cases p with
  | rcd => exact absurd h hp
  | _ => rfl

theorem frame_record (k : Kind) (x : List Byte) (h : .rcd ∈ ps) :
    Frame fs ps { s with dev := d } { s with dev := d.record k x } := by
  unfold Dev.record
  split
  · exact frame_modRcd d _ h
  · exact frame_modRcd d _ h

theorem frame_commit (h : .rcd ∈ ps) : Frame fs ps { s with dev := d } { s with dev := d.commit } :=
  frame_modRcd d RecSt.commit h

theorem frame_sendDown (n ft : Nat) (l : List (Nat × Nat)) (hports : .ports ∈ ps) (hout : .out ∈ ps) :
    Frame fs ps { s with dev := d } { s with dev := d.sendDown n ft l } := by
  unfold Dev.sendDown
  split
  · exact (frame_modPort d n _ hports).trans (frame_emit _ _ hout)
  · exact frame_modPort d n _ hports

theorem frame_answered (sid : Nat) (w : Wr) (hnet : .net ∈ ps) (hout : .out ∈ ps) :
    Frame fs ps { s with dev := d } { s with dev := Dev.answer sid (d, w) } := by
  unfold Dev.answer
  split
  · exact (frame_modSess d sid _ hnet).trans (frame_emit _ _ hout)
  · exact frame_emit d _ hout

theorem frame_each (f : Nat → Dev → Dev) (h : ∀ k d, Frame fs ps { s with dev := d } { s with dev := f k d })
    (l : List Nat) : Frame fs ps { s with dev := d } { s with dev := d.each l f } := by
  induction l generalizing d with
  | nil => exact Frame.refl ..
  | cons k l ih => exact (h k d).trans (ih (f k d))

end

/-! ### A steward's command and its answer -/

theorem asSteward_steward {sid a : Nat} {f : Func} {d : Dev} (go : Dev → Did) (h : d.isSteward sid f = true) :
    d.asSteward sid f a go = go d := by
  simp [Dev.asSteward, h]

theorem steward_run {sid a : Nat} {f : Func} {go : Mem → Dev → Did} {s : State} {x : Did} (hh : Heard sid s)
    (hst : s.dev.isSteward sid f = true) (hgo : go s.mem s.dev = x) :
    s.run (fun m d => d.host sid fun d => d.asSteward sid f a (go m)) =
      .next { s with dev := (Dev.answer sid x).commit } := by
  rw [run_next, host_heard _ hh, asSteward_steward _ hst, hgo]

/-- A heard command of the steward that creates no record is carried out and answered. -/
theorem steward_next {sid a : Nat} {f : Func} {go : Mem → Dev → Did} {s : State} {e : Dev} {w : Wr} (hh : Heard sid s)
    (hst : s.dev.isSteward sid f = true) (hgo : go s.mem s.dev = (e, w)) (hset : e.rcd.drafts = []) :
    s.run (fun m d => d.host sid fun d => d.asSteward sid f a (go m)) =
      .next { s with dev := Dev.answer sid (e, w) } := by
  rw [steward_run hh hst hgo, commit_none (by simpa using hset)]

/-- Where the command itself sends nothing and leaves the sessions, the answer is all the host sees. -/
theorem answered_of_kept {sid : Nat} {s : State} {e : Dev} (w : Wr) (hopen : s.dev.isOpened sid = true)
    (hout : e.out = s.dev.out) (hnet : e.net = s.dev.net) (hclk : e.clk = s.dev.clk) :
    Answered sid w id s { s with dev := Dev.answer sid (e, w) } := by
  have hsess : ∀ j, e.sess j = s.dev.sess j := fun j => by simp [Dev.sess, hnet]
  have hopen' : e.isOpened sid = true := by simpa [Dev.isOpened, hsess] using hopen
  refine ⟨(answer_out sid _).trans (by rw [hout]), ?_, fun k hk => (answer_sess_other _ hk).trans (hsess k)⟩
  exact (answer_sess_same (x := (e, w)) hopen').trans (by simp [hsess, hclk])

/-- The numbering of the step's records is no part of an answer. -/
theorem answered_commit {sid : Nat} {w : Wr} {g : Sess → Sess} {s : State} {d : Dev}
    (h : Answered sid w g s { s with dev := d }) : Answered sid w g s { s with dev := d.commit } := h

/-- A record made after changes that leave what it is made of is that of the step's start. -/
theorem recorded_of_frame {ps : List Part} {s : State} {e : Dev} (k : Kind) (x : List Byte) (sid : Nat) (w : Wr)
    (hf : Frame [] ps s { s with dev := e }) (hps : ∀ p ∈ [Part.pwr, .rcd, .clk, .phase, .time], p ∉ ps) :
    Recorded [(k, x)] s { s with dev := (Dev.answer sid (e.record k x, w)).commit } := by
  have hsame : ∀ p ∈ [Part.pwr, .rcd, .clk, .phase, .time], p.same s { s with dev := e } :=
    fun p hp => hf.same (hps p hp)
  have hregs : ∀ g : Fld, e.rd g = s.dev.rd g := fun g => hf.rd (by simp)
  have hrec : (e.record k x).rcd = (s.dev.record k x).rcd :=
    record_congr k x (hsame .pwr (by simp)) (hsame .rcd (by simp)) (hsame .clk (by simp)) (hsame .phase (by simp))
      (hsame .time (by simp)) (hregs _) (hregs _) (hregs _)
  simp [Recorded, hrec]

/-! ### BAL's refusals -/

/-- A refused command of BAL's page leaves REASON and its answer. -/
theorem balRefused_next {sid a : Nat} {f : Func} {go : Mem → Dev → Did} {s : State} {r : Nat} (hs : Settled s)
    (hh : Heard sid s) (hst : s.dev.isSteward sid f = true) (hgo : go s.mem s.dev = s.dev.balRefuse r) (hr : r < 256) :
    ∃ t, s.run (fun m d => d.host sid fun d => d.asSteward sid f a (go m)) = .next t ∧
      Answered sid (wrRefused r BAL_CTRL.CMD.addr) id s t ∧ t.dev.rd BAL_STATUS.REASON = r ∧
      Frame [BAL_STATUS.REASON] [.out, .net] s t := by
  refine ⟨_, steward_next hh hst hgo hs, answered_of_kept _ hh.1 rfl rfl rfl, ?_,
    (frame_wr s.dev r (.head _)).trans (frame_answered _ sid _ (by decide) (by decide))⟩
  rw [answer_rd, Dev.rd_wr_same]
  exact Nat.mod_eq_of_lt hr

/-! ### The ports of BAL -/

@[simp] theorem balPort_modBalPort_same (k : Nat) (g : BalPort → BalPort) (d : Dev) :
    (d.modBalPort k g).balPort k = g (d.balPort k) := by
  simp [Dev.balPort]

@[simp] theorem balPort_modBalPort_other {k j : Nat} (g : BalPort → BalPort) (d : Dev) (h : j ≠ k) :
    (d.modBalPort k g).balPort j = d.balPort j := by
  simp [Dev.balPort, h]

/-- The port is forced CONTINUOUS, so that its companion has no windows (R231). -/
def BalPort.noWindows (b : BalPort) : Bool := b.forced.isSome && b.cont

theorem monOfLc_lcOfMon (k : Nat) : monOfLc (lcOfMon k) = some k := by
  have hrem : (9 * (k / 8) + k % 8) % 9 = k % 8 := by omega
  have hdiv : (9 * (k / 8) + k % 8) / 9 = k / 8 := by omega
  have hlt : k % 8 ≠ 8 := by omega
  rw [monOfLc, lcOfMon, hrem, hdiv, if_neg hlt, Nat.div_add_mod]

theorem noWindows_lcOfMon (k : Nat) (d : Dev) : d.noWindows (lcOfMon k) = (d.balPort k).noWindows := by
  simp [Dev.noWindows, BalPort.noWindows, monOfLc_lcOfMon]

theorem sendDown_awaits {n ft : Nat} (l : List (Nat × Nat)) {d : Dev} (hft : ft ≠ ftTempReq)
    (h : (d.port n).awaits = none) : ((d.sendDown n ft l).port n).awaits.map (·.entries) = some l := by
  have hnow : d.sendDown n ft l = d.launchDown n ft l := by simp [Dev.sendDown, h]
  rw [hnow]
  simp [Dev.launchDown, Dev.port, hft]

/-! ### Forcing begins and ends -/

/-- The forcing of port `k` changes by `g`, and its windows go to the companion where they change with it and the port
is live (R231, log 42). -/
def Dev.reforce (k : Nat) (g : BalPort → BalPort) (d : Dev) : Dev :=
  let e := d.modBalPort k g
  if decide (d.noWindows (lcOfMon k) ≠ (g (d.balPort k)).noWindows) && d.isLive (lcOfMon k) then
    e.sendDown (lcOfMon k) ftWrite (e.windows (lcOfMon k))
  else e

section
variable {k : Nat} {g : BalPort → BalPort} {d : Dev}

theorem frame_reforce {fs : List Fld} {ps : List Part} {s : State} (hbal : .bal ∈ ps) (hports : .ports ∈ ps)
    (hout : .out ∈ ps) : Frame fs ps { s with dev := d } { s with dev := d.reforce k g } := by
  unfold Dev.reforce
  dsimp only
  split
  · exact (frame_modBalPort d k g hbal).trans (frame_sendDown _ _ _ _ hports hout)
  · exact frame_modBalPort d k g hbal

theorem reforce_bal : (d.reforce k g).bal = (d.modBalPort k g).bal := by
  unfold Dev.reforce
  dsimp only
  split
  · exact (frame_sendDown (s := State.reset) (fs := []) (ps := [.ports, .out]) _ _ _ _ (by decide) (by decide)).same
      (p := .bal) (by decide)
  · rfl

/-- The parts that no change of a forcing touches. -/
theorem reforce_same {p : Part} (h : p ∉ [Part.bal, .ports, .out]) (s : State) :
    p.same { s with dev := d } { s with dev := d.reforce k g } :=
  (frame_reforce (fs := []) (by decide) (by decide) (by decide)).same h

theorem reforce_rd (f : Fld) : (d.reforce k g).rd f = d.rd f :=
  (frame_reforce (s := State.reset) (fs := []) (ps := [.bal, .ports, .out]) (by decide) (by decide) (by decide)).rd
    (by simp)

theorem reforce_rcd : (d.reforce k g).rcd = d.rcd := reforce_same (p := .rcd) (by decide) State.reset
theorem reforce_net : (d.reforce k g).net = d.net := reforce_same (p := .net) (by decide) State.reset
theorem reforce_clk : (d.reforce k g).clk = d.clk := reforce_same (p := .clk) (by decide) State.reset

theorem reforce_balPort_same : (d.reforce k g).balPort k = g (d.balPort k) := by
  rw [Dev.balPort, reforce_bal]
  exact balPort_modBalPort_same k g d

theorem reforce_balPort_other {j : Nat} (h : j ≠ k) : (d.reforce k g).balPort j = d.balPort j := by
  rw [Dev.balPort, reforce_bal]
  exact balPort_modBalPort_other g d h

theorem reforce_out (h : d.noWindows (lcOfMon k) = (g (d.balPort k)).noWindows ∨ d.isLive (lcOfMon k) = false) :
    (d.reforce k g).out = d.out := by
  rw [Dev.reforce, if_neg (by rcases h with h | h <;> simp [h])]
  rfl

theorem reforce_awaits (hchange : d.noWindows (lcOfMon k) ≠ (g (d.balPort k)).noWindows)
    (hlive : d.isLive (lcOfMon k) = true) (hidle : (d.port (lcOfMon k)).awaits = none) :
    ((d.reforce k g).port (lcOfMon k)).awaits.map (·.entries) = some (if (g (d.balPort k)).noWindows then
      [(9, 0), (10, 0)] else [(9, d.rd ACQ_QW.QW_PRE), (10, d.rd ACQ_QW.QW_POST)]) := by
  have hidle' : ((d.modBalPort k g).port (lcOfMon k)).awaits = none := hidle
  rw [Dev.reforce, if_pos (by simp [hchange, hlive]), sendDown_awaits _ (by decide) hidle', Dev.windows,
    noWindows_lcOfMon, balPort_modBalPort_same]
  rfl

end

/-- The first reason of R231 that refuses FORCE; 0 where none does. -/
def Dev.forceReason (m : Mem) (sid k : Nat) (d : Dev) : Nat :=
  if (d.sess sid).role ≠ .maintainer then 1
  else if d.monUsed k = false then 2
  else if d.on BAL_FORCE.CONTINUOUS = true ∧ (d.connected (d.monStr k) = true ∨ d.closing (d.monStr k) = true) then 3
  else if d.balSuspended m = true then 4 else 0

theorem forceReason_lt (m : Mem) (sid k : Nat) (d : Dev) : d.forceReason m sid k < 256 := by
  unfold Dev.forceReason
  split
  · decide
  split
  · decide
  split
  · decide
  split
  · decide
  · decide

/-- What FORCE makes of port `k`'s state in BAL: it stores the restricted mask and CONTINUOUS. -/
def Dev.forcing (k : Nat) (d : Dev) (b : BalPort) : BalPort :=
  { b with forced := some (Nat.land (d.rd BAL_FORCE.MASK) (d.goodInputs k)), cont := d.on BAL_FORCE.CONTINUOUS }

/-- The DATA of the record of FORCE. -/
def Dev.forceData (k : Nat) (d : Dev) : List Byte :=
  leBytes 1 k ++ leBytes 3 (Nat.land (d.rd BAL_FORCE.MASK) (d.goodInputs k)) ++ leBytes 1 (d.rd BAL_FORCE.MINUTES) ++
    leBytes 1 (d.on BAL_FORCE.CONTINUOUS).toNat

theorem cmdForce_accepted {m : Mem} {sid k : Nat} {d : Dev} (hk : k < 64) (hrole : (d.sess sid).role = .maintainer)
    (hused : d.monUsed k = true) (hloose : ¬(d.on BAL_FORCE.CONTINUOUS = true ∧
      (d.connected (d.monStr k) = true ∨ d.closing (d.monStr k) = true))) (hworks : d.balSuspended m = false) :
    d.cmdForce m sid k = ((d.reforce k (d.forcing k)).record recBalForced (d.forceData k), wrOk) := by
  have hport : ¬ (64 ≤ k || !d.monUsed k) = true := by
    simp [hused]
    omega
  have hminutes : (d.reforce k (d.forcing k)).rd BAL_FORCE.MINUTES = d.rd BAL_FORCE.MINUTES := reforce_rd _
  rw [Dev.forceData, ← hminutes]
  exact (if_neg (by simp [hrole])).trans ((if_neg hport).trans ((if_neg (by simpa using hloose)).trans
    (if_neg (by simp [hworks]))))

theorem cmdForce_refused {m : Mem} {sid k : Nat} {d : Dev} (hk : k < 64) (h : d.forceReason m sid k ≠ 0) :
    d.cmdForce m sid k = d.balRefuse (d.forceReason m sid k) := by
  have hport : ¬ 64 ≤ k := by omega
  by_cases hrole : (d.sess sid).role = .maintainer
  · by_cases hused : d.monUsed k = true
    · by_cases htied : d.on BAL_FORCE.CONTINUOUS = true ∧
        (d.connected (d.monStr k) = true ∨ d.closing (d.monStr k) = true)
      · simp [Dev.cmdForce, Dev.forceReason, hrole, hport, hused, htied]
      · have hsusp : d.balSuspended m = true := by simpa [Dev.forceReason, hrole, hused, htied] using h
        simp [Dev.cmdForce, Dev.forceReason, hrole, hport, hused, htied, hsusp]
    · simp [Dev.cmdForce, Dev.forceReason, hrole, hused]
  · simp [Dev.cmdForce, Dev.forceReason, hrole]

/-- A port whose forcing ends keeps its tests. -/
def BalPort.unforced (b : BalPort) : BalPort := { b with forced := none, cont := false }

theorem forceEnds_eq (k : Nat) (d : Dev) : d.forceEnds k = d.reforce k BalPort.unforced := by
  have hchange : decide (d.noWindows (lcOfMon k) ≠ (d.balPort k).unforced.noWindows) = d.noWindows (lcOfMon k) := by
    simp [BalPort.unforced, BalPort.noWindows]
  unfold Dev.reforce
  rw [hchange]
  rfl

/-! ### Tests and passes -/

theorem cmdTest_queued {k j : Nat} {d : Dev} (hk : k < 64) (hpass : d.bal.pass = false) (hused : d.monUsed k = true)
    (hj : j < (d.portRec (lcOfMon k)).inputs) :
    d.cmdTest k j = (d.modBalPort k fun b => { b with todo := b.todo ++ [(j, true)] }, wrOk) := by
  have hport : ¬ (64 ≤ k || !d.monUsed k || (d.portRec (lcOfMon k)).inputs ≤ j) = true := by
    simp [hused]
    omega
  rw [Dev.cmdTest, if_neg (by simp [hpass]), if_neg hport]

theorem cmdTest_refused {k j : Nat} {d : Dev}
    (h : d.bal.pass = true ∨ ¬(d.monUsed k = true ∧ j < (d.portRec (lcOfMon k)).inputs)) :
    d.cmdTest k j = d.balRefuse (if d.bal.pass = true then 5 else 2) := by
  unfold Dev.cmdTest
  split
  · rfl
  · next hpass =>
    have hunfit := h.resolve_left hpass
    rw [if_pos]
    by_cases hused : d.monUsed k = true
    · simp only [hused, true_and, Nat.not_lt] at hunfit
      simp [hunfit]
    · simp [hused]

/-- What one turn does to a reading, all turns do where that turn comes once and no other changes the reading. `P` is
what the turns rest on and keep. -/
theorem each_once {β : Type} (P : Dev → Prop) (get : Dev → β) (g : β → β) (f : Nat → Dev → Dev) (c : Nat)
    (hP : ∀ k d, P d → P (f k d)) (hsame : ∀ d, P d → get (f c d) = g (get d))
    (hother : ∀ k, k ≠ c → ∀ d, P d → get (f k d) = get d) {l : List Nat} (hl : l.Nodup) {d : Dev} (hd : P d) :
    get (d.each l f) = if c ∈ l then g (get d) else get d := by
  induction l generalizing d with
  | nil => rfl
  | cons k l ih =>
    obtain ⟨hk, hl⟩ := List.nodup_cons.1 hl
    have hrest : get (d.each (k :: l) f) = if c ∈ l then g (get (f k d)) else get (f k d) := ih hl (hP k d hd)
    by_cases hc : k = c
    · subst hc
      rw [hrest, if_neg hk, if_pos (.head _), hsame d hd]
    · simp [hrest, hother k hc d hd, Ne.symm hc]

/-- The monitor ports of string `s` that use input `j`. -/
def Dev.testers (s j : Nat) (d : Dev) : List Nat :=
  (d.blocksOf s).filter fun k => decide (j < (d.portRec (lcOfMon k)).inputs)

theorem mem_testers {s j k : Nat} {d : Dev} :
    k ∈ d.testers s j ↔ k < 64 ∧ d.monStr k = s ∧ j < (d.portRec (lcOfMon k)).inputs := by
  simp only [Dev.testers, Dev.blocksOf, monPorts, List.mem_filter, List.mem_range, decide_eq_true_eq, and_assoc]

theorem testers_nodup (s j : Nat) (d : Dev) : (d.testers s j).Nodup := (List.nodup_range.filter _).filter _

/-- Going to step `j`, a string gives each of its ports that use input `j` its test, and changes no other port. -/
theorem enterStep_todo (s j k : Nat) (d : Dev) : ((d.enterStep s j).balPort k).todo =
    if k ∈ d.testers s j then (d.balPort k).todo ++ [(j, false)] else (d.balPort k).todo := by
  have hturn := fun e : Dev => each_once (fun _ => True) (fun e => (e.balPort k).todo) (· ++ [(j, false)])
    (fun n e => e.modBalPort n fun b => { b with todo := b.todo ++ [(j, false)] }) k (fun _ _ h => h) (by simp)
    (fun n hn e _ => by simp [hn.symm]) (testers_nodup s j d) (d := e) trivial
  unfold Dev.enterStep
  change ((if (d.testers s j).isEmpty then _ else _ : Dev).balPort k).todo = _
  split
  · next hnone =>
    rw [List.isEmpty_iff.1 hnone]
    rfl
  · exact hturn _

theorem frame_enterStep {fs : List Fld} {ps : List Part} {st : State} (s j : Nat) (d : Dev) (hbal : .bal ∈ ps) :
    Frame fs ps { st with dev := d } { st with dev := d.enterStep s j } := by
  unfold Dev.enterStep
  dsimp only
  split
  · exact frame_modBal d _ hbal
  · exact (frame_modBal d _ hbal).trans (frame_each _ _ (fun k d => frame_modBalPort d k _ hbal) _)

theorem enterStep_topo (s j : Nat) (d : Dev) : (d.enterStep s j).topo = d.topo :=
  (frame_enterStep (st := { State.reset with dev := d }) (fs := []) (ps := [.bal]) s j d (by decide)).same (p := .topo)
    (by decide)

/-- BAL but for its ports and the steps of the strings. -/
def BalSt.beside (b : BalSt) : BalSt := { b with ports := [], steps := [] }

theorem enterStep_beside (s j : Nat) (d : Dev) : (d.enterStep s j).bal.beside = d.bal.beside := by
  unfold Dev.enterStep
  dsimp only
  split
  · rfl
  · exact each_keep (·.bal.beside) (fun k e => e.modBalPort k fun b => { b with todo := b.todo ++ [(j, false)] })
      (fun _ _ => rfl) _ _

theorem startPass_beside (d : Dev) : d.startPass.bal.beside =
    { d.bal.beside with pass := true, tested := 0, failed := 0, unclear := 0 } :=
  each_keep (·.bal.beside) (fun s e => e.enterStep s 0) (fun s e => enterStep_beside s 0 e) _ _

theorem frame_startPass {fs : List Fld} {ps : List Part} {s : State} (d : Dev) (hbal : .bal ∈ ps) :
    Frame fs ps { s with dev := d } { s with dev := d.startPass } :=
  (frame_modBal d _ hbal).trans (frame_each _ _ (fun k d => frame_enterStep k 0 d hbal) _)

theorem startPass_same {p : Part} (h : p ∉ [Part.bal]) (s : State) (d : Dev) :
    p.same { s with dev := d } { s with dev := d.startPass } :=
  (frame_startPass (fs := []) d (by decide)).same h

theorem startPass_rcd (d : Dev) : d.startPass.rcd = d.rcd := startPass_same (p := .rcd) (by decide) State.reset d
theorem startPass_out (d : Dev) : d.startPass.out = d.out := startPass_same (p := .out) (by decide) State.reset d
theorem startPass_net (d : Dev) : d.startPass.net = d.net := startPass_same (p := .net) (by decide) State.reset d
theorem startPass_clk (d : Dev) : d.startPass.clk = d.clk := startPass_same (p := .clk) (by decide) State.reset d

theorem mem_confStrs {s : Nat} {d : Dev} : s ∈ d.confStrs ↔ s < 8 ∧ d.configured s = true := by
  simp [Dev.confStrs, strings]

/-- A pass begins with the test of input 0 on every port that has inputs (R232). -/
theorem startPass_todo {k : Nat} {d : Dev} (hk : k < 64) (hused : d.monUsed k = true)
    (hconf : d.configured (d.monStr k) = true) (hin : 0 < (d.portRec (lcOfMon k)).inputs) :
    (d.startPass.balPort k).todo = (d.balPort k).todo ++ [(0, false)] := by
  have hmem : d.monStr k ∈ d.confStrs := mem_confStrs.2 ⟨of_decide_eq_true hused, hconf⟩
  have htester : ∀ s (e : Dev), e.topo = d.topo → (k ∈ e.testers s 0 ↔ s = d.monStr k) := by
    intro s e he
    have hrec : ∀ n, e.portRec n = d.portRec n := fun n => by simp [Dev.portRec, he]
    simp [mem_testers, Dev.monStr, hrec, hk, hin, eq_comm]
  have hpass := each_once (·.topo = d.topo) (fun e => (e.balPort k).todo) (· ++ [(0, false)])
    (fun s e => e.enterStep s 0) (d.monStr k) (fun s e he => (enterStep_topo s 0 e).trans he)
    (fun e he => by simp [enterStep_todo, (htester _ e he).2 rfl])
    (fun s hs e he => by simp [enterStep_todo, htester s e he, hs])
    (l := d.confStrs) (List.nodup_range.filter _)
    (d := d.modBal fun x => { x with pass := true, tested := 0, failed := 0, unclear := 0 }) rfl
  exact hpass.trans (if_pos hmem)

/-- A pass that begins has counted nothing, and cells stay as active as they were. -/
theorem startPass_counts (d : Dev) : d.startPass.bal.pass = true ∧ d.startPass.bal.tested = 0 ∧
    d.startPass.bal.failed = 0 ∧ d.startPass.bal.unclear = 0 ∧ d.startPass.bal.active = d.bal.active ∧
    d.startPass.bal.ageS = d.bal.ageS := by
  have h := startPass_beside d
  exact ⟨congrArg BalSt.pass h, congrArg BalSt.tested h, congrArg BalSt.failed h, congrArg BalSt.unclear h,
    (congrArg BalSt.active h :), (congrArg BalSt.ageS h :)⟩

/-! ### The commands and the statement -/

section
variable {sid : Sid} {s : State} (hh : Heard sid s) (hst : s.dev.isSteward sid .bal = true)
include hh hst

theorem force_next {port : Mon} {x : Did} (hgo : s.dev.cmdForce s.mem sid port = x) :
    exec (.force sid port) s = .next { s with dev := (Dev.answer sid x).commit } :=
  steward_run (go := fun m => Dev.cmdForce m sid port) hh hst hgo

theorem unforce_next {port : Mon} (hs : Settled s) : exec (.unforce sid port) s =
    .next { s with dev := Dev.answer sid (s.dev.reforce port BalPort.unforced, wrOk) } := by
  refine steward_next (go := fun _ => Dev.cmdUnforce port) hh hst ?_ ((congrArg RecSt.drafts reforce_rcd).trans hs)
  rw [Dev.cmdUnforce, forceEnds_eq]

theorem balTest_next {port : Mon} {input : Fin 32} {e : Dev} {w : Wr} (hgo : s.dev.cmdTest port input = (e, w))
    (he : e.rcd.drafts = []) : exec (.balTest sid port input) s = .next { s with dev := Dev.answer sid (e, w) } :=
  steward_next (go := fun _ => Dev.cmdTest port input) hh hst hgo he

theorem testAll_next (hs : Settled s) (hpass : s.dev.bal.pass = false) :
    exec (.testAll sid) s = .next { s with dev := Dev.answer sid (s.dev.startPass, wrOk) } := by
  refine steward_next (go := fun _ => Dev.cmdTestAll) hh hst ?_ ((congrArg RecSt.drafts (startPass_rcd s.dev)).trans hs)
  rw [Dev.cmdTestAll, if_neg (by simp [hpass])]

end

theorem forceExpiry_next {port : Mon} {s : State} (hs : Settled s) (halive : s.dev.alive = true)
    (hforced : (s.dev.balPort port).forced.isSome = true) :
    exec (.forceExpiry port) s = .next { s with dev := s.dev.reforce port BalPort.unforced } := by
  change execForceExpiry port s = _
  refine run_of ?_ ((congrArg RecSt.drafts reforce_rcd).trans hs)
  rw [if_pos (by simp [halive, hforced]), forceEnds_eq]

/-- BAL as a pass that falls due finds it: the last pass is PERIOD days old or more (log 81). -/
def Dev.dueAge (d : Dev) (b : BalSt) : BalSt :=
  { b with ageS := max b.ageS (86400 * (d.rd BAL_TEST.PERIOD : Int) - d.clkS) }

theorem period_le_days (d : Dev) : (d.rd BAL_TEST.PERIOD : Int) ≤ d.days (d.dueAge d.bal).ageS := by
  simp only [Dev.days, Dev.dueAge]
  omega

theorem testPassDue_next {s : State} (hs : Settled s) (halive : s.dev.alive = true) (himg : s.mem.hasImage = true)
    (hworks : s.dev.works .bal = true) (hpass : s.dev.bal.pass = false) :
    exec .testPassDue s = .next { s with dev := (s.dev.modBal s.dev.dueAge).startPass } := by
  change execTestPassDue s = _
  refine run_of ?_ ((congrArg RecSt.drafts (startPass_rcd _)).trans hs)
  rw [if_pos (by simp [halive, himg, hworks, hpass])]
  rfl

/-- FORCE that no reason of R231 refuses forces the port and is recorded; where it sends no windows, the answer is all
that is sent. -/
theorem force_accepted {sid : Sid} {port : Mon} {s : State} (hh : Heard sid s) (hst : s.dev.isSteward sid .bal = true)
    (hrole : (s.dev.sess sid).role = .maintainer) (hused : s.dev.monUsed port = true)
    (hloose : ¬(s.dev.on BAL_FORCE.CONTINUOUS = true ∧
      (s.dev.connected (s.dev.monStr port) = true ∨ s.dev.closing (s.dev.monStr port) = true)))
    (hworks : s.dev.balSuspended s.mem = false) :
    ∃ t, exec (.force sid port) s = .next t ∧
      (∀ k, t.dev.balPort k = (s.dev.reforce port (s.dev.forcing port)).balPort k) ∧
      (∀ n, t.dev.port n = (s.dev.reforce port (s.dev.forcing port)).port n) ∧
      ((s.dev.reforce port (s.dev.forcing port)).out = s.dev.out → Answered sid wrOk id s t) ∧
      Recorded [(recBalForced, s.dev.forceData port)] s t ∧
      Frame [] [.bal, .ports, .rcd, .out, .net] s t := by
  have hfirst : Frame [] [.bal, .ports, .out] s { s with dev := s.dev.reforce port (s.dev.forcing port) } :=
    frame_reforce (by decide) (by decide) (by decide)
  have hforce : Frame [] [.bal, .ports, .rcd, .out, .net] s
      { s with dev := s.dev.reforce port (s.dev.forcing port) } :=
    frame_reforce (by decide) (by decide) (by decide)
  refine ⟨_, force_next hh hst (cmdForce_accepted port.isLt hrole hused hloose hworks), fun k => ?_, fun n => ?_,
    fun hout => ?_, recorded_of_frame _ _ _ _ hfirst (by decide), ?_⟩
  · simp [Dev.balPort]
  · simp [Dev.port]
  · exact answered_commit (answered_of_kept wrOk hh.1 (by simpa using hout) (by simp [reforce_net])
      (by simp [reforce_clk]))
  · exact ((hforce.trans (frame_record _ _ _ (by decide))).trans
      (frame_answered _ sid _ (by decide) (by decide))).trans (frame_commit _ (by decide))

/-- Settles O37: every command is an update of BAL (`Dev.reforce`, a queued test, `Dev.startPass`) or a refusal, then
an answer. -/
theorem forcingAndSwitchTests : Obligations.ForcingAndSwitchTests := by
  refine ⟨fun sid port s hs hh hst hrole hused hloose hworks => ?_, fun sid port r s hs hh hst hr hne => ?_,
    fun sid port s hs hh hst => ?_, fun port s hs halive hforced => ?_,
    fun sid port input s hs hh hst hpass hused hin => ?_, fun sid port input s hs hh hst hwhy => ?_,
    fun sid s hs hh hst hpass => ?_, fun s hs halive himg hworks hpass => ?_⟩
  · obtain ⟨t, ht, hbal, hport, hanswer, hrec, hframe⟩ := force_accepted hh hst hrole hused hloose hworks
    have hsame := (hbal port).trans reforce_balPort_same
    refine ⟨t, ht, fun hquiet => hanswer (reforce_out hquiet), congrArg BalPort.forced hsame,
      congrArg BalPort.cont hsame, fun k hk => (hbal k).trans (reforce_balPort_other hk), hrec,
      fun hwas hcont hlive hidle => ?_, hframe⟩
    have hafter : (s.dev.forcing port (s.dev.balPort port)).noWindows = true := hcont
    rw [hport, reforce_awaits (by simp [hwas, hafter]) hlive hidle, if_pos hafter]
  · obtain rfl : r = s.dev.forceReason s.mem sid port := hr
    exact balRefused_next (go := fun m => Dev.cmdForce m sid port) hs hh hst (cmdForce_refused port.isLt hne)
      (forceReason_lt ..)
  · have hends : Frame [] [.bal, .ports, .out, .net] s { s with dev := s.dev.reforce port BalPort.unforced } :=
      frame_reforce (by decide) (by decide) (by decide)
    have hbal : ∀ k, (Dev.answer sid (s.dev.reforce port BalPort.unforced, wrOk)).balPort k =
        (s.dev.reforce port BalPort.unforced).balPort k := fun k => by simp [Dev.balPort]
    have hsame := (hbal port).trans reforce_balPort_same
    exact ⟨_, unforce_next hh hst hs,
      fun hquiet => answered_of_kept wrOk hh.1 (reforce_out hquiet) reforce_net reforce_clk,
      congrArg BalPort.forced hsame, congrArg BalPort.cont hsame, (congrArg BalPort.test hsame :),
      fun k hk => (hbal k).trans (reforce_balPort_other hk),
      hends.trans (frame_answered _ sid _ (by decide) (by decide))⟩
  · have hsame : (s.dev.reforce port BalPort.unforced).balPort port = _ := reforce_balPort_same
    have hafter : (s.dev.balPort port).unforced.noWindows = false := rfl
    refine ⟨_, forceExpiry_next hs halive hforced, congrArg BalPort.forced hsame, congrArg BalPort.cont hsame,
      fun k hk => reforce_balPort_other hk, fun hwas hlive hidle => ?_,
      frame_reforce (by decide) (by decide) (by decide)⟩
    rw [reforce_awaits (by simp [hwas, hafter]) hlive hidle, if_neg (by simp [hafter])]
  · have hqueue : Frame [] [.bal, .out, .net] s { s with dev := s.dev.modBalPort port fun b =>
        { b with todo := b.todo ++ [(input.val, true)] } } := frame_modBalPort _ _ _ (by decide)
    exact ⟨_, balTest_next hh hst (cmdTest_queued port.isLt hpass hused hin) hs,
      answered_of_kept _ hh.1 rfl rfl rfl, by simp [Dev.balPort], fun k hk => by simp [Dev.balPort, hk],
      hqueue.trans (frame_answered _ sid _ (by decide) (by decide))⟩
  · refine balRefused_next (go := fun _ => Dev.cmdTest port input) hs hh hst (cmdTest_refused hwhy) ?_
    split <;> decide
  · have hpassing : Frame [] [.bal, .out, .net] s { s with dev := s.dev.startPass } := frame_startPass _ (by decide)
    have hbal : (Dev.answer sid (s.dev.startPass, wrOk)).bal = s.dev.startPass.bal := answer_bal ..
    obtain ⟨hon, htested, hfailed, hunclear, hactive, -⟩ := startPass_counts s.dev
    rw [← hbal] at hon htested hfailed hunclear hactive
    refine ⟨_, testAll_next hh hst hs hpass,
      answered_of_kept wrOk hh.1 (startPass_out _) (startPass_net _) (startPass_clk _), hon, htested, hfailed, hunclear,
      fun k hk hused hconf hin => ?_, hactive, hpassing.trans (frame_answered _ sid _ (by decide) (by decide))⟩
    rw [Dev.balPort, hbal]
    exact startPass_todo hk hused hconf hin
  · obtain ⟨hon, htested, hfailed, hunclear, -, hage⟩ := startPass_counts (s.dev.modBal s.dev.dueAge)
    refine ⟨_, testPassDue_next hs halive himg hworks hpass, hon, htested, hfailed, hunclear,
      fun k hk hused hconf hin => startPass_todo hk hused hconf hin, ?_,
      (frame_modBal s.dev s.dev.dueAge (by decide)).trans (frame_startPass _ (by decide))⟩
    rw [hage, Dev.days, Dev.clkS, startPass_clk]
    exact period_le_days s.dev

end Sys2Proof.Machine
end

section
/-! PROOF. The safety reset (R281, R282): what the reset pair, the level reset and RESET_STUCK change, when a valid
reset is refused, and what the end of its self-test clears. -/

namespace Sys2Proof.Machine

/-! ### Frames of the updates a reset is made of -/

/-- A frame whose fields all lie on some pages is a frame of those pages. -/
theorem Frame.pages {fs : List Fld} {ps : List Part} {pages : List Nat} {s t : State} (h : Frame fs ps s t)
    (hfs : ∀ f ∈ fs, f.lo < 32 ∧ f.addr / 256 ∈ pages) : PageFrame pages ps s t := by
  obtain ⟨hqueue, hregs, hparts⟩ := h
  refine ⟨hqueue, fun g hlo hpage => hregs g fun f hf => ?_, hparts⟩
  obtain ⟨hflo, hfpage⟩ := hfs f hf
  exact key_ne_of_addr hlo hflo fun haddr => hpage (haddr ▸ hfpage)

theorem rd_of_frame {fs : List Fld} {ps : List Part} {s : State} {d e : Dev} {g : Fld}
    (h : Frame fs ps { s with dev := d } { s with dev := e }) (hg : ∀ f ∈ fs, g.key ≠ f.key) : e.rd g = d.rd g :=
  h.rd hg

/-- The record of a step rests on no more than what the recorder, the supervisor and the clocks hold as it begins. -/
theorem recorded_commit {fs : List Fld} {ps : List Part} {s : State} {e : Dev} (k : Kind) (x : List Byte)
    (hf : Frame fs ps s { s with dev := e }) (hps : ∀ p ∈ [Part.pwr, .rcd, .clk, .phase, .time], p ∉ ps)
    (hfs : ∀ g ∈ [REC_CFG.DOMAIN, TIME_CFG.MODE12, TIME_CFG.MODE34], ∀ f ∈ fs, g.key ≠ f.key) :
    Recorded [(k, x)] s { s with dev := (e.record k x).commit } := by
  have hsame : ∀ p ∈ [Part.pwr, .rcd, .clk, .phase, .time], p.same s { s with dev := e } :=
    fun p hp => hf.same (hps p hp)
  have hrec : (e.record k x).rcd = (s.dev.record k x).rcd :=
    record_congr k x (hsame .pwr (by simp)) (hsame .rcd (by simp)) (hsame .clk (by simp)) (hsame .phase (by simp))
      (hsame .time (by simp)) (hf.rd (hfs _ (by simp))) (hf.rd (hfs _ (by simp))) (hf.rd (hfs _ (by simp)))
  simp [Recorded, hrec]

section
variable {fs : List Fld} {ps : List Part} {s : State} (d : Dev)

theorem frame_flag {f : Fld} (b : Bool) (h : f ∈ fs) : Frame fs ps { s with dev := d } { s with dev := d.flag f b } :=
  frame_wr d b.toNat h

theorem frame_modSaf (g : SafSt → SafSt) (h : .saf ∈ ps) :
    Frame fs ps { s with dev := d } { s with dev := d.modSaf g } := by
  refine ⟨rfl, fun _ _ => rfl, fun p hp => ?_⟩
  cases p with
  | saf => exact absurd h hp
  | _ => rfl

theorem frame_modPwr (g : PwrSt → PwrSt) (h : .pwr ∈ ps) :
    Frame fs ps { s with dev := d } { s with dev := d.modPwr g } := by
  refine ⟨rfl, fun _ _ => rfl, fun p hp => ?_⟩
  cases p with
  | pwr => exact absurd h hp
  | _ => rfl

/-- The count of free values is no part. -/
theorem frame_drawBool : Frame fs ps { s with dev := d } { s with dev := d.drawBool.2 } :=
  ⟨rfl, fun _ _ => rfl, fun p _ => by cases p <;> rfl⟩

theorem frame_each_mem (f : Nat → Dev → Dev) (l : List Nat)
    (h : ∀ k ∈ l, ∀ d, Frame fs ps { s with dev := d } { s with dev := f k d }) :
    Frame fs ps { s with dev := d } { s with dev := d.each l f } := by
  induction l generalizing d with
  | nil => exact Frame.refl ..
  | cons k l ih => exact (h k (.head _) d).trans (ih (f k d) fun j hj => h j (.tail _ hj))

theorem frame_writeOc (m : Mem) (k : Nat) (hports : .ports ∈ ps) (hout : .out ∈ ps) :
    Frame fs ps { s with dev := d } { s with dev := d.writeOc m k } := by
  unfold Dev.writeOc
  dsimp only
  split
  · exact (frame_sendDown d _ _ _ hports hout).trans (frame_sendDown _ _ _ _ hports hout)
  · exact Frame.refl ..

theorem frame_showLatch {w : Nat} (hlatch : latchFld w ∈ fs) (hcause : causeFld w ∈ fs) :
    Frame fs ps { s with dev := d } { s with dev := d.showLatch w } := by
  unfold Dev.showLatch
  dsimp only
  split
  · exact (frame_wr d _ hlatch).trans (frame_wr _ _ hcause)
  · exact frame_wr d _ hlatch

theorem frame_showLatches (h : ∀ w < 9, latchFld w ∈ fs ∧ causeFld w ∈ fs) :
    Frame fs ps { s with dev := d } { s with dev := d.showLatches } :=
  frame_each_mem d _ _ fun w hw e => frame_showLatch e (h w (List.mem_range.1 hw)).1 (h w (List.mem_range.1 hw)).2

end

/-! ### A valid reset (R281) -/

/-- The reset's self-test runs, or ends. -/
def Dev.test (testing : Bool) (d : Dev) : Dev := d.modSaf fun x => { x with testing := testing }

/-- The press of the pair as it stands. -/
def Dev.press (pressed counts : Bool) (d : Dev) : Dev :=
  d.modSaf fun x => { x with pressed := pressed, counts := counts }

/-- No reason of R281 rests on the press or on the self-test. -/
theorem resetReason_congr {d e : Dev} (m : Mem) (gone : Bool) {p c t : Bool}
    (hstuck : e.rd SAF_RESET.STUCK = d.rd SAF_RESET.STUCK) (hsaf : e.saf = ((d.press p c).test t).saf) :
    e.resetReason m gone = d.resetReason m gone := by
  have hon : e.on SAF_RESET.STUCK = d.on SAF_RESET.STUCK := by simp [Dev.on, hstuck]
  have hdemand : e.demandPresent m = d.demandPresent m := by
    simp only [Dev.demandPresent, Dev.inDemand, Dev.filtered, hsaf]
    rfl
  have hfault : e.faultHolds gone = d.faultHolds gone := by simp [Dev.faultHolds, hsaf, Dev.press, Dev.test]
  rw [Dev.resetReason, Dev.resetReason, hon, hdemand, hfault, hsaf]
  rfl

theorem resetReason_lt (m : Mem) (gone : Bool) (d : Dev) : d.resetReason m gone < 2 ^ SAF_RESET.REASON.wid := by
  unfold Dev.resetReason
  repeat' split
  all_goals decide

/-- A reason given whatever the free value says is the one found. -/
theorem resetReason_drawn {m : Mem} {d : Dev} {r : Nat} (hgone : d.resetReason m true = r)
    (hstays : d.resetReason m false = r) : d.resetReason m d.drawBool.1 = r := by
  cases d.drawBool.1 with
  | true => exact hgone
  | false => exact hstays

theorem validReset_starts {m : Mem} {d : Dev} (hgone : d.resetReason m true = 0) (hstays : d.resetReason m false = 0) :
    d.validReset m = (d.drawBool.2.bumpMod SAF_RESET.COUNT).test true := by
  simp only [Dev.validReset, resetReason_drawn hgone hstays]
  rfl

theorem validReset_refused {m : Mem} {d : Dev} {r : Nat} (hr : r ≠ 0) (hgone : d.resetReason m true = r)
    (hstays : d.resetReason m false = r) :
    d.validReset m = (d.drawBool.2.bumpMod SAF_RESET.COUNT).wr SAF_RESET.REASON r := by
  simp only [Dev.validReset, resetReason_drawn hgone hstays, if_pos hr]

theorem frame_validReset_starts {fs : List Fld} {ps : List Part} {s : State} (d : Dev)
    (hcount : SAF_RESET.COUNT ∈ fs) (hsaf : .saf ∈ ps) :
    Frame fs ps { s with dev := d } { s with dev := (d.drawBool.2.bumpMod SAF_RESET.COUNT).test true } :=
  ((frame_drawBool d).trans (frame_wr _ _ hcount)).trans (frame_modSaf _ _ hsaf)

/-- A valid reset that none of R281's reasons refuses, counted from `n`. -/
theorem started_count {d : Dev} {n : Nat} (h : d.rd SAF_RESET.COUNT = n) :
    ((d.drawBool.2.bumpMod SAF_RESET.COUNT).test true).rd SAF_RESET.COUNT = (n + 1) % 256 :=
  h ▸ d.drawBool.2.rd_bumpMod_same SAF_RESET.COUNT

/-- REASON holds every reason of R281. -/
theorem reason_shown {m : Mem} {gone : Bool} {d : Dev} {r : Nat} (h : d.resetReason m gone = r) (e : Dev) :
    (e.wr SAF_RESET.REASON r).rd SAF_RESET.REASON = r :=
  (Dev.rd_wr_same ..).trans (Nat.mod_eq_of_lt (h ▸ resetReason_lt ..))

/-! ### The reset pair and the level reset (R282) -/

@[simp] theorem flag_alive (f : Fld) (b : Bool) (d : Dev) : (d.flag f b).alive = d.alive := rfl
@[simp] theorem modSaf_alive (g : SafSt → SafSt) (d : Dev) : (d.modSaf g).alive = d.alive := rfl

/-- The two contacts shown. -/
def Dev.showPair (a b : Bool) (d : Dev) : Dev := (d.flag SAF_RESET.A a).flag SAF_RESET.B b

section
variable (a b : Bool) (d : Dev)

theorem showPair_on_A : (d.showPair a b).on SAF_RESET.A = a := by
  have hne : SAF_RESET.A.key ≠ SAF_RESET.B.key := by decide
  cases a <;> simp [Dev.on, Dev.showPair, hne]

theorem showPair_on_B : (d.showPair a b).on SAF_RESET.B = b := by
  cases b <;> simp [Dev.on, Dev.showPair]

theorem frame_showPair {fs : List Fld} {ps : List Part} {s : State} (hA : SAF_RESET.A ∈ fs)
    (hB : SAF_RESET.B ∈ fs) :
    Frame fs ps { s with dev := d } { s with dev := d.showPair a b } :=
  (frame_flag d a hA).trans (frame_flag _ b hB)

end

/-- Two contacts that changed too far apart are shown so. -/
def Dev.showApart (a : Bool) (d : Dev) : Dev := ((d.showPair a a).wr SAF_RESET.REASON 5).press a false

theorem showApart_on (a : Bool) (d : Dev) :
    (d.showApart a).on SAF_RESET.A = a ∧ (d.showApart a).on SAF_RESET.B = a := by
  have hkept {f : Fld} (hf : f.key ≠ SAF_RESET.REASON.key) : (d.showApart a).on f = (d.showPair a a).on f :=
    congrArg (fun v => decide (v ≠ 0)) ((d.showPair a a).rd_wr_other 5 hf)
  exact ⟨(hkept (by decide)).trans (showPair_on_A ..), (hkept (by decide)).trans (showPair_on_B ..)⟩

theorem showApart_reason (a : Bool) (d : Dev) : (d.showApart a).rd SAF_RESET.REASON = 5 :=
  (d.showPair a a).rd_wr_same SAF_RESET.REASON 5

theorem frame_showApart {s : State} (a : Bool) (d : Dev) :
    Frame [SAF_RESET.A, SAF_RESET.B, SAF_RESET.REASON] [.saf] { s with dev := d } { s with dev := d.showApart a } :=
  ((frame_showPair a a d (by decide) (by decide)).trans (frame_wr _ 5 (by decide))).trans
    (frame_modSaf _ _ (by decide))

/-- The device once the pair has opened. -/
def Dev.release (d : Dev) : Dev := (d.showPair false false).press false false

theorem frame_release {fs : List Fld} {ps : List Part} {s : State} (d : Dev) (hA : SAF_RESET.A ∈ fs)
    (hB : SAF_RESET.B ∈ fs) (hsaf : .saf ∈ ps) : Frame fs ps { s with dev := d } { s with dev := d.release } :=
  (frame_showPair false false d hA hB).trans (frame_modSaf _ _ hsaf)

theorem release_rd (d : Dev) {g : Fld} (h : ∀ f ∈ [SAF_RESET.A, SAF_RESET.B], g.key ≠ f.key) :
    d.release.rd g = d.rd g :=
  rd_of_frame (frame_release (s := State.reset) (ps := [.saf]) d (by decide) (by decide) (by decide)) h

theorem release_resetReason (m : Mem) (gone : Bool) (d : Dev) :
    d.release.resetReason m gone = d.resetReason m gone :=
  resetReason_congr (p := false) (c := false) (t := d.saf.testing) m gone (release_rd d (by decide)) rfl

/-- A release of the pair that is a valid reset of a module that resets by edge. -/
def ValidRelease (heldC heldS : Nat) (s : State) : Prop :=
  s.dev.alive = true ∧ edgeReset s.mem = true ∧ (s.dev.saf.pressed = true ∧ s.dev.saf.counts = true) ∧
    (50 ≤ heldC ∧ heldC ≤ 3000) ∧ (50 ≤ heldS ∧ heldS ≤ 3000)

section
variable {heldC heldS : Nat} {s : State}

theorem pressedApart_next (hs : Settled s) (halive : s.dev.alive = true) :
    exec (.resetPairChange true true heldC heldS true) s = .next { s with dev := s.dev.showApart true } := by
  change execResetPairChange _ _ _ _ _ s = _
  exact run_of (by simp [halive, Dev.showApart, Dev.showPair, Dev.press]) hs

theorem pressedTogether_next (hs : Settled s) : exec (.resetPairChange true true heldC heldS false) s =
    .next { s with dev := (s.dev.showPair true true).press true true } := by
  change execResetPairChange _ _ _ _ _ s = _
  exact run_of rfl hs

theorem oneContact_next (hs : Settled s) (a apart : Bool) : exec (.resetPairChange a (!a) heldC heldS apart) s =
    .next { s with dev := s.dev.showPair a (!a) } := by
  change execResetPairChange _ _ _ _ _ s = _
  refine run_of ?_ hs
  cases a with
  | true => simp [Dev.showPair]
  | false => simp [Dev.showPair]

theorem releasedApart_next (hs : Settled s) (halive : s.dev.alive = true) (hpressed : s.dev.saf.pressed = true) :
    exec (.resetPairChange false false heldC heldS true) s = .next { s with dev := s.dev.showApart false } := by
  change execResetPairChange _ _ _ _ _ s = _
  exact run_of (by simp [halive, hpressed, Dev.showApart, Dev.showPair, Dev.press]) hs

theorem releasedOutside_next (hs : Settled s) (hpressed : s.dev.saf.pressed = true)
    (hheld : heldC < 50 ∨ 3000 < heldC ∨ heldS < 50 ∨ 3000 < heldS) :
    exec (.resetPairChange false false heldC heldS false) s = .next { s with dev := s.dev.release } := by
  change execResetPairChange _ _ _ _ _ s = _
  refine run_of ?_ hs
  rcases hheld with h | h | h | h <;> simp [hpressed, Nat.not_le.2 h, Dev.release, Dev.showPair, Dev.press]

theorem releasedValid_run (h : ValidRelease heldC heldS s) :
    exec (.resetPairChange false false heldC heldS false) s = s.run fun m d => d.release.validReset m := by
  obtain ⟨halive, hedge, ⟨hpressed, hcounts⟩, hC, hS⟩ := h
  change execResetPairChange _ _ _ _ _ s = _
  refine run_rec ?_
  simp [halive, hedge, hpressed, hcounts, hC, hS, Dev.release, Dev.showPair, Dev.press]

theorem levelReset_run (halive : s.dev.alive = true) (hlevel : edgeReset s.mem = false)
    (hpress : s.dev.saf.pressed = true ∧ s.dev.saf.counts = true) (harmed : s.dev.on SAF_RESET.ARMED = true) :
    exec .levelReset s = s.run fun m d => (d.wr SAF_RESET.ARMED 0).validReset m := by
  obtain ⟨hpressed, hcounts⟩ := hpress
  change execLevelReset s = _
  exact run_rec (if_pos (by simp [halive, hlevel, hpressed, hcounts, harmed]))

/-! ### RESET_STUCK (R282) -/

theorem resetStuck_next (halive : s.dev.alive = true) (hpressed : s.dev.saf.pressed = true)
    (hstuck : s.dev.on SAF_RESET.STUCK = false) : exec .resetStuck s = .next { s with dev :=
      (((s.dev.wr SAF_RESET.STUCK 1).wr SAF_RESET.ARMED 0).record recResetStuck []).commit } := by
  change execResetStuck s = _
  exact run_rec (if_pos (by simp [halive, hpressed, hstuck]))

theorem resetStuckClear_next (hs : Settled s) (halive : s.dev.alive = true)
    (hopen : s.dev.on SAF_RESET.A = false ∧ s.dev.on SAF_RESET.B = false) :
    exec .resetStuckClear s = .next { s with dev := (s.dev.wr SAF_RESET.STUCK 0).wr SAF_RESET.ARMED 1 } := by
  obtain ⟨hA, hB⟩ := hopen
  change execResetStuckClear s = _
  exact run_of (if_pos (by simp [halive, hA, hB])) hs

end

/-! ### The end of the self-test (R281) -/

theorem test_resetReason (b : Bool) (m : Mem) (gone : Bool) (d : Dev) :
    (d.test b).resetReason m gone = d.resetReason m gone :=
  resetReason_congr (p := d.saf.pressed) (c := d.saf.counts) (t := b) m gone rfl rfl

/-- A reason that holds, or a failed self-test, ends the reset with its reason. -/
theorem selftestDone_refused {s : State} {pass : Bool} {r : Nat} (hs : Settled s) (htest : s.dev.saf.testing = true)
    (hgone : s.dev.resetReason s.mem true = r) (hstays : s.dev.resetReason s.mem false = r)
    (h : r ≠ 0 ∨ pass = false) :
    exec (.resetSelftestDone pass) s = .next
      { s with dev := (s.dev.test false).drawBool.2.wr SAF_RESET.REASON (if r ≠ 0 then r else 4) } := by
  have hdrawn := resetReason_drawn (m := s.mem) (d := s.dev.test false) ((test_resetReason ..).trans hgone)
    ((test_resetReason ..).trans hstays)
  subst hdrawn
  change execResetSelftestDone pass s = _
  refine run_of ?_ hs
  rw [if_neg (by simp [htest])]
  exact if_pos (by simpa [Dev.test] using h)

theorem frame_selftestDone_refused {s : State} (d : Dev) (r : Nat) : Frame [SAF_RESET.REASON] [.saf]
    { s with dev := d } { s with dev := (d.test false).drawBool.2.wr SAF_RESET.REASON r } :=
  ((frame_modSaf d _ (by decide)).trans (frame_drawBool _)).trans (frame_wr _ r (by decide))

/-- The degraded SLC cap ends: the comparators are written anew (R277). -/
def Dev.endSlcCap (m : Mem) (d : Dev) : Dev :=
  if d.saf.slcCap then (d.modSaf fun x => { x with slcCap := false }).each strings (Dev.writeOc m) else d

/-- A recovery phase starts where the reset clears something and no thermal latch stands. -/
def Dev.recovers (d : Dev) : Dev := if d.anythingSet && !d.thw.latch then d.startRecovery else d

/-- What a reset that succeeds does before its record. -/
def Dev.resetClears (m : Mem) (d : Dev) : Dev :=
  let e := (d.recovers.modRet fun _ => d.recovers.cleared).endSlcCap m
  let e := e.modSaf fun x => { x with cond := [], degOut := false }
  ((e.wr SAF_STATUS.FIRST_FAULT 0).wr SAF_STATUS.SECOND_FAULT 0).showLatches

/-- The data of SAFETY_RESET: the gate groups and the faults that stood. -/
def Dev.resetData (d : Dev) : List Byte :=
  leBytes 2 (maskOf 9 fun g => tget 0 d.saf.ret.latch g ≠ 0) ++
    leBytes 1 ((maskOf 9 fun c => tget false d.saf.ret.faults c) / 2)

/-- The end of a self-test that passes, with nothing against the reset. -/
def Dev.resetDone (m : Mem) (d : Dev) : Dev :=
  (((d.test false).drawBool.2.resetClears m).record recSafetyReset d.resetData).commit

theorem selftestDone_passes {s : State} (htest : s.dev.saf.testing = true)
    (hgone : s.dev.resetReason s.mem true = 0) (hstays : s.dev.resetReason s.mem false = 0) :
    exec (.resetSelftestDone true) s = .next { s with dev := s.dev.resetDone s.mem } := by
  have hdrawn := resetReason_drawn (m := s.mem) (d := s.dev.test false) ((test_resetReason ..).trans hgone)
    ((test_resetReason ..).trans hstays)
  change execResetSelftestDone true s = _
  refine run_rec ?_
  rw [if_neg (by simp [htest])]
  exact if_neg (by simpa [Dev.test] using hdrawn)

section
variable {fs : List Fld} {ps : List Part} {s : State} (m : Mem) (d : Dev)

theorem frame_endSlcCap (hsaf : .saf ∈ ps) (hports : .ports ∈ ps) (hout : .out ∈ ps) :
    Frame fs ps { s with dev := d } { s with dev := d.endSlcCap m } := by
  unfold Dev.endSlcCap
  split
  · exact (frame_modSaf d _ hsaf).trans (frame_each _ _ (fun k e => frame_writeOc e m k hports hout) _)
  · exact Frame.refl ..

theorem frame_recovers (hpwr : .pwr ∈ ps) : Frame fs ps { s with dev := d } { s with dev := d.recovers } := by
  unfold Dev.recovers
  split
  · exact frame_modPwr d _ hpwr
  · exact Frame.refl ..

/-- The fields that show the latches. -/
def latchFlds : List Fld := (List.range 9).flatMap fun w => [latchFld w, causeFld w]

/-- The fields a reset clears or shows anew. -/
def resetFlds : List Fld := latchFlds ++ [SAF_STATUS.FIRST_FAULT, SAF_STATUS.SECOND_FAULT]

theorem resetFlds_pages : ∀ f ∈ resetFlds, f.lo < 32 ∧ f.addr / 256 ∈ [0x0A, 0x0E] := by
  decide

theorem frame_resetClears (hps : ∀ p ∈ [Part.saf, .pwr, .ports, .out], p ∈ ps) :
    Frame resetFlds ps { s with dev := d } { s with dev := d.resetClears m } := by
  have hsaf := hps .saf (by decide)
  exact (((((frame_recovers d (hps .pwr (by decide))).trans
    (frame_modSaf _ (fun x => { x with ret := d.recovers.cleared }) hsaf)).trans
    (frame_endSlcCap m _ hsaf (hps .ports (by decide)) (hps .out (by decide)))).trans
    (frame_modSaf _ _ hsaf)).trans ((frame_wr _ 0 (by decide)).trans (frame_wr _ 0 (by decide)))).trans
    (frame_showLatches _ (by decide))

theorem endSlcCap_saf : (d.endSlcCap m).saf = { d.saf with slcCap := false } := by
  unfold Dev.endSlcCap
  split
  next => exact each_keep (·.saf) _ (fun k e =>
    (frame_writeOc (s := State.reset) (fs := []) (ps := [.ports, .out]) e m k (by decide) (by decide)).same (p := .saf)
      (by decide)) _ _
  next hcap => rw [← Bool.eq_false_iff.2 hcap]

theorem recovers_saf : d.recovers.saf = d.saf :=
  (frame_recovers (s := State.reset) (fs := []) (ps := [.pwr]) d (by decide)).same (p := .saf) (by decide)

theorem showLatches_same (s : State) {p : Part} : p.same { s with dev := d } { s with dev := d.showLatches } :=
  (frame_showLatches (fs := latchFlds) (ps := []) d (by decide)).same (by simp)

@[simp] theorem showLatches_saf : d.showLatches.saf = d.saf := showLatches_same d State.reset (p := .saf)
@[simp] theorem showLatches_pwr : d.showLatches.pwr = d.pwr := showLatches_same d State.reset (p := .pwr)

theorem showLatches_rd {g : Fld} (h : ∀ f ∈ latchFlds, g.key ≠ f.key) : d.showLatches.rd g = d.rd g :=
  rd_of_frame (frame_showLatches (ps := []) (s := State.reset) d (by decide)) h

theorem resetClears_saf : (d.resetClears m).saf =
    { d.saf with ret := d.cleared, slcCap := false, cond := [], degOut := false } := by
  have hcleared : d.recovers.cleared = d.cleared := by simp [Dev.cleared, recovers_saf]
  simp [Dev.resetClears, endSlcCap_saf, Dev.modRet, recovers_saf, hcleared]

theorem resetClears_rd_faults : (d.resetClears m).rd SAF_STATUS.FIRST_FAULT = 0 ∧
    (d.resetClears m).rd SAF_STATUS.SECOND_FAULT = 0 := by
  have hne : SAF_STATUS.FIRST_FAULT.key ≠ SAF_STATUS.SECOND_FAULT.key := by decide
  unfold Dev.resetClears
  constructor
  · rw [showLatches_rd _ (by decide), Dev.rd_wr_other _ _ hne, Dev.rd_wr_same]
    rfl
  · rw [showLatches_rd _ (by decide), Dev.rd_wr_same]
    rfl

theorem endSlcCap_pwr : (d.endSlcCap m).pwr = d.pwr :=
  (frame_endSlcCap (s := State.reset) (fs := []) (ps := [.saf, .ports, .out]) m d (by decide) (by decide)
    (by decide)).same (p := .pwr) (by decide)

theorem resetClears_recovEnd (hsafe : d.saf.ret.safe = true) (hlatch : d.thw.latch = false) :
    (d.resetClears m).pwr.recovEnd = some (d.clk + secClk 60) := by
  have hstarts : d.recovers = d.startRecovery := if_pos (by simp [Dev.anythingSet, hsafe, hlatch])
  simp [Dev.resetClears, endSlcCap_pwr, hstarts, Dev.startRecovery]

theorem resetDone_saf : (d.resetDone m).saf =
    { d.saf with ret := d.cleared, testing := false, slcCap := false, cond := [], degOut := false } := by
  rw [Dev.resetDone, Dev.commit_saf, Dev.record_saf, resetClears_saf]
  rfl

theorem resetDone_rd_faults : (d.resetDone m).rd SAF_STATUS.FIRST_FAULT = 0 ∧
    (d.resetDone m).rd SAF_STATUS.SECOND_FAULT = 0 := by
  simpa only [Dev.resetDone, Dev.rd_commit, Dev.rd_record] using resetClears_rd_faults m (d.test false).drawBool.2

theorem resetDone_recovEnd (hsafe : d.saf.ret.safe = true) (hlatch : d.thw.latch = false) :
    (d.resetDone m).pwr.recovEnd = some (d.clk + secClk 60) := by
  rw [Dev.resetDone, Dev.commit_pwr, Dev.record_pwr]
  exact resetClears_recovEnd m (d.test false).drawBool.2 hsafe hlatch

theorem frame_resetDone : Frame resetFlds [.saf, .pwr, .ports, .out, .rcd]
    { s with dev := d } { s with dev := d.resetDone m } :=
  ((((frame_modSaf d _ (by decide)).trans (frame_drawBool _)).trans (frame_resetClears m _ (by decide))).trans
    (frame_record _ _ _ (by decide))).trans (frame_commit _ (by decide))

end

/-- Settles O20: each step is a few updates of the pair, the press or the self-test, and where R281's reasons do not
hang on the free value a valid reset goes one way (`validReset_starts`, `validReset_refused`). -/
theorem resetPairIsJudged : Obligations.ResetPairIsJudged := by
  refine ⟨fun heldC heldS s hs halive => ?_, fun a heldC heldS apart s hs => ?_,
    fun heldC heldS s hs hpressed halive => ?_, fun heldC heldS s hs => ?_,
    fun heldC heldS s hs halive hedge hpress hC hS hgone hstays => ?_,
    fun heldC heldS r s hs halive hedge hpress hC hS hr hgone hstays => ?_,
    fun heldC heldS s hs hpressed hheld => ?_,
    fun s hs halive hlevel hpress harmed hgone hstays => ?_,
    fun s hs halive hpressed hstuck => ?_, fun s hs halive hopen => ?_,
    fun s htest halive hgone hstays => ?_, fun pass r s hs htest hr hgone hstays => ?_,
    fun s hs htest hgone hstays => ?_⟩
  · obtain ⟨hA, hB⟩ := showApart_on true s.dev
    exact ⟨_, pressedApart_next hs halive, hA, hB, showApart_reason .., rfl, frame_showApart ..⟩
  · exact ⟨_, oneContact_next hs a apart, showPair_on_A .., showPair_on_B ..,
      frame_showPair _ _ _ (by decide) (by decide)⟩
  · exact ⟨_, releasedApart_next hs halive hpressed, showApart_reason .., rfl, frame_showApart ..⟩
  · exact ⟨_, pressedTogether_next hs, showPair_on_A true true s.dev, showPair_on_B true true s.dev, rfl,
      (frame_showPair true true s.dev (by decide) (by decide)).trans (frame_modSaf _ _ (by decide))⟩
  · have hstart := validReset_starts ((release_resetReason ..).trans hgone) ((release_resetReason ..).trans hstays)
    exact ⟨_, (releasedValid_run ⟨halive, hedge, hpress, hC, hS⟩).trans (run_of hstart hs),
      started_count (release_rd s.dev (by decide)), rfl,
      (frame_release s.dev (by decide) (by decide) (by decide)).trans
        (frame_validReset_starts _ (by decide) (by decide))⟩
  · have hrefused := validReset_refused hr ((release_resetReason ..).trans hgone)
      ((release_resetReason ..).trans hstays)
    exact ⟨_, (releasedValid_run ⟨halive, hedge, hpress, hC, hS⟩).trans (run_of hrefused hs),
      reason_shown hgone _, rfl, rfl,
      (frame_release s.dev (by decide) (by decide) (by decide)).trans
        (((frame_drawBool _).trans (frame_wr _ _ (by decide))).trans (frame_wr _ r (by decide)))⟩
  · exact ⟨_, releasedOutside_next hs hpressed hheld, rfl, frame_release s.dev (by decide) (by decide) (by decide)⟩
  · have hreason : ∀ gone, (s.dev.wr SAF_RESET.ARMED 0).resetReason s.mem gone = s.dev.resetReason s.mem gone :=
      fun gone => resetReason_congr (p := s.dev.saf.pressed) (c := s.dev.saf.counts) (t := s.dev.saf.testing) _ gone
        (Dev.rd_wr_other _ 0 (by decide)) rfl
    have hstart := validReset_starts ((hreason true).trans hgone) ((hreason false).trans hstays)
    have hne : SAF_RESET.ARMED.key ≠ SAF_RESET.COUNT.key := by decide
    exact ⟨_, (levelReset_run halive hlevel hpress harmed).trans (run_of hstart hs),
      ((s.dev.wr SAF_RESET.ARMED 0).drawBool.2.rd_bumpMod_other hne).trans (s.dev.rd_wr_same SAF_RESET.ARMED 0),
      started_count (s.dev.rd_wr_other 0 (by decide)), rfl,
      (frame_wr s.dev 0 (by decide)).trans (frame_validReset_starts _ (by decide) (by decide))⟩
  · have hframe (ps : List Part) : Frame [SAF_RESET.STUCK, SAF_RESET.ARMED] ps s
        { s with dev := (s.dev.wr SAF_RESET.STUCK 1).wr SAF_RESET.ARMED 0 } :=
      (frame_wr s.dev 1 (by decide)).trans (frame_wr _ 0 (by decide))
    have hne : SAF_RESET.STUCK.key ≠ SAF_RESET.ARMED.key := by decide
    exact ⟨_, resetStuck_next halive hpressed hstuck, by simp [hne], by simp,
      recorded_commit recResetStuck [] (hframe []) (by decide) (by decide),
      ((hframe [.rcd]).trans (frame_record _ _ _ (by decide))).trans (frame_commit _ (by decide))⟩
  · exact ⟨_, resetStuckClear_next hs halive hopen, (Dev.rd_wr_other _ 1 (by decide)).trans (Dev.rd_wr_same ..),
      Dev.rd_wr_same .., (frame_wr s.dev 0 (by decide)).trans (frame_wr _ 1 (by decide))⟩
  · have hnext := selftestDone_passes htest hgone hstays
    have hsaf := resetDone_saf s.mem s.dev
    obtain ⟨hfirst, hsecond⟩ := resetDone_rd_faults s.mem s.dev
    have hrecov := resetDone_recovEnd s.mem s.dev
    have hframe := (frame_resetDone (s := s) s.mem s.dev).pages resetFlds_pages
    generalize s.dev.resetDone s.mem = e at hnext hsaf hfirst hsecond hrecov hframe
    exact ⟨_, hnext, congrArg (·.ret.safe) hsaf, congrArg (·.ret.degraded) hsaf, congrArg (·.ret.latch) hsaf,
      congrArg (·.ret.loops) hsaf, congrArg (·.ret.demand) hsaf, congrArg (·.ret.faults) hsaf,
      congrArg (·.testing) hsaf, congrArg (·.cond) hsaf, congrArg (·.slcCap) hsaf, hfirst, hsecond, hrecov, hframe⟩
  · have hnext := selftestDone_refused (pass := pass) hs htest hgone hstays (.inl hr)
    rw [if_pos hr] at hnext
    exact ⟨_, hnext, reason_shown hgone _, rfl, frame_selftestDone_refused _ r⟩
  · exact ⟨_, selftestDone_refused hs htest hgone hstays (.inr rfl), Dev.rd_wr_same .., rfl,
      frame_selftestDone_refused _ 4⟩

end Sys2Proof.Machine
end

section
/-! PROOF. PTP messages (R296, R300 to R304): what the updates a message makes leave as it was, which device each
message leaves, and that this is what the statement says. -/

namespace Sys2Proof.Machine

/-! ### The updates a message makes -/

section
variable {fs : List Fld} {ps : List Part} {s : State} (d : Dev)

theorem frame_modPtp (p : Nat) (g : PtpSt → PtpSt) (h : .time ∈ ps) :
    Frame fs ps { s with dev := d } { s with dev := d.modPtp p g } := by
  refine ⟨rfl, fun _ _ => rfl, fun q hq => ?_⟩
  cases q with
  | time => exact absurd h hq
  | _ => rfl

/-- The count of free values is no part. -/
theorem frame_drawNat : Frame fs ps { s with dev := d } { s with dev := d.drawNat.2 } :=
  ⟨rfl, fun _ _ => rfl, fun p _ => by cases p <;> rfl⟩

theorem frame_sendPtp (m : Mem) (p : Nat) (event changed : Bool) (x : PtpMsg) (h : .out ∈ ps) :
    Frame fs ps { s with dev := d } { s with dev := d.sendPtp m p event changed x } :=
  frame_emit d _ h

theorem frame_putDelay (p : Nat) (v : Int) (hreg : TIME_PTP.DELAY p ∈ fs) (htime : .time ∈ ps) :
    Frame fs ps { s with dev := d } { s with dev := d.putDelay p v } :=
  (frame_modPtp d p _ htime).trans (frame_wr _ _ hreg)

end

@[simp] theorem ptp_modPtp_same (p : Nat) (g : PtpSt → PtpSt) (d : Dev) : (d.modPtp p g).ptp p = g (d.ptp p) := by
  simp [Dev.ptp]

/-- A message sent has taken its identity. -/
def PtpSt.numbered (x : PtpSt) : PtpSt := { x with nextId := (x.nextId + 1) % 65536 }

theorem putDelay_ptp (p : Nat) (g : PtpSt → PtpSt) (v : Int) (d : Dev) :
    ((d.modPtp p g).putDelay p v).ptp p = { g (d.ptp p) with delay := v } :=
  (ptp_modPtp_same p _ (d.modPtp p g)).trans (by rw [ptp_modPtp_same])

/-- A delay is shown saturated. -/
theorem putDelay_rd (p : Nat) (v : Int) (d : Dev) : (d.putDelay p v).rd (TIME_PTP.DELAY p) = min 65535 v.toNat :=
  (Dev.rd_wr_same ..).trans (Nat.mod_eq_of_lt (Nat.lt_succ_of_le (Nat.min_le_left 65535 v.toNat)))

/-! ### The transparent clock -/

theorem forward_off {m : Mem} {p kind : Nat} {event : Bool} {d : Dev} (h : d.forwards m p = false) :
    d.forward m p kind event = d := by
  simp [Dev.forward, h]

/-- Without TC_EN nothing is forwarded. -/
theorem forward_disabled {m : Mem} {p kind : Nat} {event : Bool} {d : Dev} (h : m.img.tcEn = false) :
    d.forward m p kind event = d :=
  forward_off (by simp [Dev.forwards, h])

/-- A message without a timestamp of its own goes out as it came. -/
theorem forward_general {m : Mem} {p kind : Nat} {d : Dev} (h : d.forwards m p = true) : d.forward m p kind false =
    d.emit (.forwarded (1 - p) kind (wireOf (m.img.ptpTransport p) false false .kept) 0) := by
  simp [Dev.forward, h]

/-- On a port without peer-to-peer an event message takes its residence time alone. -/
theorem forward_event {m : Mem} {p kind : Nat} {d : Dev} (h : d.forwards m p = true) (hp : peerToPeer m p = false) :
    d.forward m p kind true = d.drawNat.2.emit
      (.forwarded (1 - p) kind (wireOf (m.img.ptpTransport p) true true .kept) (d.drawNat.1 : Nat)) := by
  simp [Dev.forward, h, hp]

theorem managementMessage_next {eth : Eth} {s : State} (hs : Settled s) :
    exec (.managementMessage eth) s = .next { s with dev := s.dev.forward s.mem eth.val 7 false } := by
  change execManagementMessage eth s = _
  refine run_of rfl ?_
  unfold Dev.forward
  split
  · exact hs
  · exact hs

/-- A port without a profile has no PTP handling of its own, so that a Sync is forwarded and no more. -/
theorem syncForwarded_next {eth : Eth} {dom : Byte} {twoStep : Bool} {id : BitVec 16} {origin corr : Int} {s : State}
    (hs : Settled s) (hfwd : s.dev.forwards s.mem eth.val = true) (hprofile : s.mem.img.ptpProfile eth.val = 0) :
    exec (.sync eth dom twoStep id origin corr) s = .next { s with
      dev := s.dev.drawNat.2.emit (.forwarded (1 - eth.val) 0
        (wireOf (s.mem.img.ptpTransport eth.val) true true .kept) (s.dev.drawNat.1 : Nat)) } := by
  have hoff : ∀ d : Dev, d.slavePort s.mem eth.val = false := fun d => by simp [Dev.slavePort, Dev.ptpOn, hprofile]
  change execSync eth dom twoStep id origin corr s = _
  refine run_of ?_ hs
  dsimp only
  rw [forward_event hfwd (by simp [peerToPeer, hprofile]), hoff]
  rfl

/-- A port that serves a domain asks in that domain's domainNumber. -/
theorem portDomain_served {m : Mem} {p : Nat} {d : Dev} (h : d.portClock m p < 4) :
    d.portDomain m p = (d.rd (TIME_DCFG.PTP_DOMAIN (d.portClock m p)), d) :=
  if_pos h

/-! ### Messages received -/

section
variable {eth : Eth} {dom : Byte} {id : BitVec 16} {s : State} (hs : Settled s)
include hs

theorem announce_next (htc : s.mem.img.tcEn = false) (hslave : s.dev.slavePort s.mem eth.val = true)
    (hserves : s.dev.servesAny eth.val dom.toNat = true) (hlistens : s.dev.rd (TIME_PTP.STATE eth.val) = 4) :
    exec (.announce eth dom) s = .next { s with dev := s.dev.wr (TIME_PTP.STATE eth.val) 8 } := by
  change execAnnounce eth dom s = _
  refine run_of ?_ hs
  dsimp only
  rw [forward_disabled htc]
  exact if_pos (by simp [hslave, hserves, hlistens])

theorem delayReq_next {corr : Int} (htc : s.mem.img.tcEn = false) (hon : s.dev.ptpOn s.mem eth.val = true)
    (hmaster : 1 ≤ s.mem.img.ptpRole eth.val) (hp2p : peerToPeer s.mem eth.val = false)
    (hdom : s.dev.rd (TIME_DCFG.PTP_DOMAIN (s.mem.img.ptpRole eth.val - 1)) = dom.toNat) :
    exec (.delayReq eth dom id corr) s = .next { s with
      dev := s.dev.sendPtp s.mem eth.val false false
        { kind := 3, domain := dom.toNat, id := id.toNat, time := (s.dev.domNs (s.mem.img.ptpRole eth.val - 1) : Nat)
          corr := 65536 * corr, cls := 0, prio1 := 0, prio2 := 0 } } := by
  change execDelayReq eth dom id corr s = _
  refine run_of ?_ hs
  dsimp only
  rw [forward_disabled htc]
  exact if_pos (by simp [hon, hp2p, Dev.masterDom, hdom, Nat.ne_of_gt hmaster])

/-- A Delay_Resp gives half of what went out and comes back. -/
theorem delayResp_next {received corr : Int} {diff t3 : List Rat} {v : Rat} (htc : s.mem.img.tcEn = false)
    (hslave : s.dev.slavePort s.mem eth.val = true) (hp2p : peerToPeer s.mem eth.val = false)
    (hserves : s.dev.servesAny eth.val dom.toNat = true) (hreq : (s.dev.ptp eth.val).req = some (id.toNat, t3))
    (hdiff : (s.dev.ptp eth.val).diff = some diff)
    (hv : v = (diff.getD (s.dev.msgClock eth.val dom.toNat) 0 +
      ((received - corr : Int) - t3.getD (s.dev.msgClock eth.val dom.toNat) 0)) / 2) :
    exec (.delayResp eth dom id received corr) s = .next { s with
      dev := (s.dev.modPtp eth.val fun x => { x with req := none }).putDelay eth.val (nearest v) } := by
  subst hv
  change execDelayResp eth dom id received corr s = _
  refine run_of ?_ hs
  dsimp only
  rw [forward_disabled htc]
  simp only [hreq, hdiff]
  exact if_pos (by simp [hslave, hp2p, hserves])

theorem pdelayReq_next (hon : s.dev.ptpOn s.mem eth.val = true) (hp2p : peerToPeer s.mem eth.val = true) :
    exec (.pdelayReq eth dom id) s = .next { s with
      dev := s.dev.drawNat.2.sendPtp s.mem eth.val true true
        { kind := 5, domain := dom.toNat, id := id.toNat, time := 0, corr := 65536 * (s.dev.drawNat.1 : Nat), cls := 0
          prio1 := 0, prio2 := 0 } } := by
  change execPdelayReq eth dom id s = _
  exact run_of (if_pos (by simp [hon, hp2p])) hs

/-- A Pdelay_Resp of two steps waits for its follow-up with what it says, one of one step gives the delay. -/
theorem pdelayResp_next {twoStep : Bool} {turnaround : Int} {t1 : List Rat} {v : Rat}
    (hon : s.dev.ptpOn s.mem eth.val = true) (hp2p : peerToPeer s.mem eth.val = true)
    (hreq : (s.dev.ptp eth.val).preq = some (id.toNat, t1))
    (hv : v = s.dev.stamp.getD (s.dev.portClock s.mem eth.val) 0 - t1.getD (s.dev.portClock s.mem eth.val) 0 -
      turnaround) :
    exec (.pdelayResp eth dom twoStep id turnaround) s = .next { s with
      dev := if twoStep then s.dev.modPtp eth.val fun x => { x with preq := none, presp := some (id.toNat, v) }
      else (s.dev.modPtp eth.val fun x => { x with preq := none, presp := none }).putDelay eth.val
        (nearest (v / 2)) } := by
  subst hv
  change execPdelayResp eth dom twoStep id turnaround s = _
  refine run_of ?_ ?_
  · simp only [hreq]
    rw [if_pos (by simp [hon, hp2p])]
    cases twoStep with
    | true => rfl
    | false => rfl
  · cases twoStep with
    | true => exact hs
    | false => exact hs

theorem pdelayRespFollowUp_next {turnaround : Int} {v : Rat} (hon : s.dev.ptpOn s.mem eth.val = true)
    (hp2p : peerToPeer s.mem eth.val = true) (hresp : (s.dev.ptp eth.val).presp = some (id.toNat, v)) :
    exec (.pdelayRespFollowUp eth dom id turnaround) s = .next { s with
      dev := (s.dev.modPtp eth.val fun x => { x with presp := none }).putDelay eth.val
        (nearest ((v - turnaround) / 2)) } := by
  change execPdelayRespFollowUp eth dom id turnaround s = _
  refine run_of ?_ hs
  simp only [hresp]
  exact if_pos (by simp [hon, hp2p])

/-! ### Messages transmitted -/

/-- A master's Sync carries its transmit time. -/
theorem masterSync_next (hon : s.dev.ptpOn s.mem eth.val = true) (hmaster : 1 ≤ s.mem.img.ptpRole eth.val) :
    exec (.ptpTransmit eth .sync) s = .next { s with
      dev := (s.dev.modPtp eth.val PtpSt.numbered).sendPtp s.mem eth.val true true
        (s.dev.masterMsg 0 (s.mem.img.ptpRole eth.val - 1) (s.dev.ptp eth.val).nextId) } := by
  change execPtpTransmit eth .sync s = _
  exact run_of ((if_neg (by simp [hon])).trans (if_pos (Nat.ne_of_gt hmaster))) hs

/-- A master's Announce carries its class and priorities. -/
theorem masterAnnounce_next (hon : s.dev.ptpOn s.mem eth.val = true) (hmaster : 1 ≤ s.mem.img.ptpRole eth.val) :
    exec (.ptpTransmit eth .announce) s = .next { s with
      dev := (s.dev.modPtp eth.val PtpSt.numbered).sendPtp s.mem eth.val false false
        { s.dev.masterMsg 1 (s.mem.img.ptpRole eth.val - 1) (s.dev.ptp eth.val).nextId with
          cls := if (s.dev.dom (s.mem.img.ptpRole eth.val - 1)).state = stLocked ∨
            (s.dev.dom (s.mem.img.ptpRole eth.val - 1)).state = stHost
            then s.mem.img.classLocked eth.val else s.mem.img.classHold eth.val
          prio1 := s.mem.img.priority1 eth.val, prio2 := s.mem.img.priority2 eth.val } } := by
  change execPtpTransmit eth .announce s = _
  refine run_of ((if_neg (by simp [hon])).trans ((if_pos (Nat.ne_of_gt hmaster)).trans ?_)) hs
  simp only [Bool.or_eq_true, decide_eq_true_eq]
  rfl

theorem slaveDelayReq_next (hon : s.dev.ptpOn s.mem eth.val = true) (hslave : s.mem.img.ptpRole eth.val = 0)
    (hp2p : peerToPeer s.mem eth.val = false) (hserved : s.dev.portClock s.mem eth.val < 4) :
    exec (.ptpTransmit eth .delayReq) s = .next { s with
      dev := (s.dev.modPtp eth.val fun x => { x.numbered with
        req := some ((s.dev.ptp eth.val).nextId, s.dev.stamp) }).sendPtp s.mem eth.val true false
        { kind := 2, domain := s.dev.rd (TIME_DCFG.PTP_DOMAIN (s.dev.portClock s.mem eth.val))
          id := (s.dev.ptp eth.val).nextId, time := 0, corr := 0, cls := 0, prio1 := 0, prio2 := 0 } } := by
  change execPtpTransmit eth .delayReq s = _
  refine run_of ((if_neg (by simp [hon])).trans ((if_pos (by simp [hslave, hp2p])).trans ?_)) hs
  rw [portDomain_served hserved]
  rfl

theorem peerPdelayReq_next (hon : s.dev.ptpOn s.mem eth.val = true) (hp2p : peerToPeer s.mem eth.val = true)
    (hserved : s.dev.portClock s.mem eth.val < 4) :
    exec (.ptpTransmit eth .pdelayReq) s = .next { s with
      dev := (s.dev.modPtp eth.val fun x => { x.numbered with
        preq := some ((s.dev.ptp eth.val).nextId, s.dev.stamp), presp := none }).sendPtp s.mem eth.val true false
        { kind := 4, domain := s.dev.rd (TIME_DCFG.PTP_DOMAIN (s.dev.portClock s.mem eth.val))
          id := (s.dev.ptp eth.val).nextId, time := 0, corr := 0, cls := 0, prio1 := 0, prio2 := 0 } } := by
  change execPtpTransmit eth .pdelayReq s = _
  refine run_of ((if_neg (by simp [hon])).trans ((if_pos hp2p).trans ?_)) hs
  rw [portDomain_served hserved]
  rfl

end

theorem frame_delayed {s : State} (p : Nat) (g : PtpSt → PtpSt) (v : Int) :
    Frame [TIME_PTP.DELAY p] [.time] s { s with dev := (s.dev.modPtp p g).putDelay p v } :=
  (frame_modPtp s.dev p g (.head _)).trans (frame_putDelay _ p v (.head _) (.head _))

theorem frame_transmitted {s : State} (m : Mem) (p : Nat) (g : PtpSt → PtpSt) (event changed : Bool) (x : PtpMsg) :
    Frame [] [.time, .out] s { s with dev := (s.dev.modPtp p g).sendPtp m p event changed x } :=
  (frame_modPtp s.dev p g (by decide)).trans (frame_sendPtp _ m p event changed x (by decide))

/-- Settles O41: each message leaves the device its `_next` lemma names. -/
theorem ptpMessagesAreServedAndForwarded : Obligations.PtpMessagesAreServedAndForwarded := by
  refine ⟨fun eth dom s hs htc hslave hserves hlistens => ?_, fun eth dom id corr s hs htc hon hmaster hp2p hdom => ?_,
    fun eth dom id received corr diff t3 v s hs htc hslave hp2p hserves hreq hdiff hv => ?_,
    fun eth dom id s hs hon hp2p => ?_, fun eth dom twoStep id turnaround t1 v s hs hon hp2p hreq hv => ?_,
    fun eth dom id turnaround v s hs hon hp2p hresp => ?_, fun eth s hs hon hmaster => ?_,
    fun eth s hs hon hmaster => ?_, fun eth s hs hon hslave hp2p hserved => ?_,
    fun eth s hs hon hp2p hserved => ?_, fun eth s hs => ?_,
    fun eth dom twoStep id origin corr s hs hfwd hprofile => ?_⟩
  · exact ⟨_, announce_next hs htc hslave hserves hlistens, Dev.rd_wr_same .., frame_wr s.dev 8 (.head _)⟩
  · exact ⟨_, delayReq_next hs htc hon hmaster hp2p hdom, rfl, frame_sendPtp s.dev _ _ _ _ _ (.head _)⟩
  · exact ⟨_, delayResp_next hs htc hslave hp2p hserves hreq hdiff hv, congrArg PtpSt.delay (putDelay_ptp ..),
      congrArg PtpSt.req (putDelay_ptp ..), putDelay_rd .., frame_delayed ..⟩
  · exact ⟨_, pdelayReq_next hs hon hp2p, s.dev.drawNat.1, rfl,
      (frame_drawNat s.dev).trans (frame_sendPtp _ _ _ _ _ _ (.head _))⟩
  · refine ⟨_, pdelayResp_next hs hon hp2p hreq hv, ?_⟩
    cases twoStep with
    | true =>
      exact ⟨congrArg PtpSt.preq (ptp_modPtp_same ..), nofun,
        fun _ => ⟨congrArg PtpSt.presp (ptp_modPtp_same ..), (congrArg PtpSt.delay (ptp_modPtp_same ..) :)⟩,
        frame_modPtp s.dev _ _ (.head _)⟩
    | false =>
      exact ⟨congrArg PtpSt.preq (putDelay_ptp ..),
        fun _ => ⟨congrArg PtpSt.delay (putDelay_ptp ..), putDelay_rd ..⟩, nofun, frame_delayed ..⟩
  · exact ⟨_, pdelayRespFollowUp_next hs hon hp2p hresp, congrArg PtpSt.delay (putDelay_ptp ..),
      congrArg PtpSt.presp (putDelay_ptp ..), putDelay_rd .., frame_delayed ..⟩
  · exact ⟨_, masterSync_next hs hon hmaster, rfl, congrArg PtpSt.nextId (ptp_modPtp_same ..), frame_transmitted ..⟩
  · exact ⟨_, masterAnnounce_next hs hon hmaster, rfl, congrArg PtpSt.nextId (ptp_modPtp_same ..), frame_transmitted ..⟩
  · exact ⟨_, slaveDelayReq_next hs hon hslave hp2p hserved, rfl, congrArg PtpSt.req (ptp_modPtp_same ..),
      congrArg PtpSt.nextId (ptp_modPtp_same ..), frame_transmitted ..⟩
  · exact ⟨_, peerPdelayReq_next hs hon hp2p hserved, rfl, congrArg PtpSt.preq (ptp_modPtp_same ..),
      congrArg PtpSt.nextId (ptp_modPtp_same ..), frame_transmitted ..⟩
  · refine ⟨_, managementMessage_next hs, ?_⟩
    cases hfwd : s.dev.forwards s.mem eth.val with
    | true =>
      rw [forward_general hfwd]
      exact ⟨rfl, frame_emit s.dev _ (.head _)⟩
    | false =>
      rw [forward_off hfwd]
      exact ⟨rfl, Frame.refl ..⟩
  · exact ⟨_, syncForwarded_next hs hfwd hprofile, s.dev.drawNat.1, rfl,
      (frame_drawNat s.dev).trans (frame_emit _ _ (.head _))⟩

end Sys2Proof.Machine
end

section
/-! PROOF. The cue list and the frame slots (R307, R308, R312, R313, R317): what the commands rest on beside the
registers of CUE's page, how an entry and a slot are put, read and taken out, and how a late entry runs. -/

namespace Sys2Proof.Machine

/-! ### Frames of the updates of CUE -/

theorem Frame.mono {fs fs' : List Fld} {ps ps' : List Part} {s t : State} (h : Frame fs ps s t) (hfs : fs ⊆ fs')
    (hps : ps ⊆ ps') : Frame fs' ps' s t := by
  obtain ⟨hqueue, hregs, hparts⟩ := h
  exact ⟨hqueue, fun g hg => hregs g fun f hf => hg f (hfs hf), fun p hp => hparts p fun hp' => hp (hps hp')⟩

section
variable {fs : List Fld} {ps : List Part} {s : State} (d : Dev)

theorem frame_modCueSt (g : CueSt → CueSt) (h : .cue ∈ ps) :
    Frame fs ps { s with dev := d } { s with dev := d.modCueSt g } := by
  refine ⟨rfl, fun _ _ => rfl, fun p hp => ?_⟩
  cases p with
  | cue => exact absurd h hp
  | _ => rfl

theorem frame_modCue (k : Nat) (g : Cue → Cue) (h : .cue ∈ ps) :
    Frame fs ps { s with dev := d } { s with dev := d.modCue k g } :=
  frame_modCueSt d (fun q => { q with list := tmod Cue.empty q.list k g }) h

theorem frame_modSlot (k : Nat) (g : Slot → Slot) (h : .cue ∈ ps) :
    Frame fs ps { s with dev := d } { s with dev := d.modSlot k g } :=
  frame_modCueSt d (fun q => { q with slots := tmod Slot.empty q.slots k g }) h

theorem frame_modAcq (g : AcqSt → AcqSt) (h : .acq ∈ ps) :
    Frame fs ps { s with dev := d } { s with dev := d.modAcq g } := by
  refine ⟨rfl, fun _ _ => rfl, fun p hp => ?_⟩
  cases p with
  | acq => exact absurd h hp
  | _ => rfl

theorem frame_putCue (i : Nat) (c : Cue) (hentries : CUE_STATUS.ENTRIES ∈ fs) (hcue : .cue ∈ ps) :
    Frame fs ps { s with dev := d } { s with dev := d.putCue i c } :=
  (frame_modCue d i _ hcue).trans (frame_wr _ _ hentries)

theorem frame_ranLate (i : Nat) (hcount : CUE_CNT.LATE ∈ fs) (hlate : CUE_STATUS.LATE ∈ fs) (hrcd : .rcd ∈ ps) :
    Frame fs ps { s with dev := d } { s with dev := d.ranLate i } :=
  ((frame_record d _ _ hrcd).trans (frame_wr _ _ hcount)).trans (frame_wr _ 1 hlate)

theorem frame_startCapture (i : Nat) (late : Bool) (hfs : CUE_CAP_STATUS.fields ⊆ fs) (hcue : .cue ∈ ps)
    (hacq : .acq ∈ ps) : Frame fs ps { s with dev := d } { s with dev := d.startCapture i late } :=
  (((((frame_modCueSt d _ hcue).trans (frame_modAcq _ _ hacq)).trans (frame_wr _ 0 (hfs (by decide)))).trans
    (frame_wr _ 0 (hfs (by decide)))).trans (frame_wr _ 1 (hfs (by decide)))).trans (frame_wr _ _ (hfs (by decide)))

end

/-! ### Entries and slots -/

section
variable (k : Nat) (d : Dev)

@[simp] theorem cueAt_modCue_same (g : Cue → Cue) : (d.modCue k g).cueAt k = g (d.cueAt k) := by
  simp [Dev.cueAt]

@[simp] theorem cueAt_modCue_other {j : Nat} (g : Cue → Cue) (h : j ≠ k) : (d.modCue k g).cueAt j = d.cueAt j := by
  simp [Dev.cueAt, h]

@[simp] theorem slot_modSlot_same (g : Slot → Slot) : (d.modSlot k g).slot k = g (d.slot k) := by
  simp [Dev.slot]

@[simp] theorem slot_modSlot_other {j : Nat} (g : Slot → Slot) (h : j ≠ k) : (d.modSlot k g).slot j = d.slot j := by
  simp [Dev.slot, h]

theorem cueAt_congr {d e : Dev} (h : e.cue = d.cue) : e.cueAt k = d.cueAt k := by rw [Dev.cueAt, h, Dev.cueAt]

theorem slot_congr {d e : Dev} (h : e.cue = d.cue) : e.slot k = d.slot k := by rw [Dev.slot, h, Dev.slot]

theorem putCue_cueAt_same (c : Cue) : (d.putCue k c).cueAt k = c := cueAt_modCue_same k d fun _ => c

theorem putCue_cueAt_other {j : Nat} (c : Cue) (h : j ≠ k) : (d.putCue k c).cueAt j = d.cueAt j :=
  cueAt_modCue_other k d _ h

theorem putCue_entries (c : Cue) : (d.putCue k c).rd CUE_STATUS.ENTRIES = (d.putCue k c).cue.list.length % 2048 :=
  Dev.rd_wr_same ..

end

theorem mem_of_mem_strike {α : Type} {k : Nat} {x : Nat × α} {l : List (Nat × α)} (h : x ∈ strike l k) : x ∈ l := by
  induction l with
  | nil => exact h
  | cons y l ih =>
    rw [strike] at h
    split at h
    · exact .tail _ (ih h)
    · rcases List.mem_cons.1 h with rfl | h
      · exact .head _
      · exact .tail _ (ih h)

theorem mem_or_eq_of_mem_place {α : Type} {k : Nat} {v : α} {x : Nat × α} {l : List (Nat × α)}
    (h : x ∈ place l k v) : x ∈ l ∨ x = (k, v) := by
  induction l with
  | nil => exact .inr (List.mem_singleton.1 h)
  | cons y l ih =>
    rw [place] at h
    split at h
    · exact (List.mem_cons.1 h).symm.imp_left (.tail _)
    · split at h
      · exact (List.mem_cons.1 h).symm
      · rcases List.mem_cons.1 h with rfl | h
        · exact .inl (.head _)
        · exact (ih h).imp_left (.tail _)

/-- A change of an entry brings no other into the list. -/
theorem mem_list_modCue {k : Nat} {g : Cue → Cue} {d : Dev} {x : Nat × Cue} (h : x ∈ (d.modCue k g).cue.list) :
    x ∈ d.cue.list ∨ x.2 = g (d.cueAt k) := by
  change x ∈ tset Cue.empty d.cue.list k (g (d.cueAt k)) at h
  unfold tset at h
  split at h
  · exact .inl (mem_of_mem_strike h)
  · exact (mem_or_eq_of_mem_place h).imp_right (congrArg Prod.snd)

theorem cue_dom_lt (c : Cue) : c.dom < 4 := Nat.mod_lt _ (by decide)

/-! ### What stays where only CUE and its page change -/

section
variable {s t : State} (h : PageFrame [0x10] [.cue] s t)
include h

theorem beside_rd {g : Fld} (hlo : g.lo < 32) (hpage : g.addr / 256 ≠ 0x10) : t.dev.rd g = s.dev.rd g :=
  h.2.1 g hlo (by simpa using hpage)

theorem beside_same {p : Part} (hp : p ≠ .cue) : p.same s t := h.2.2 p (by simpa using hp)

theorem beside_clk : t.dev.clk = s.dev.clk := beside_same h (p := .clk) (by decide)
theorem beside_time : t.dev.time = s.dev.time := beside_same h (p := .time) (by decide)
theorem beside_phase : t.dev.phase = s.dev.phase := beside_same h (p := .phase) (by decide)

theorem beside_on {g : Fld} (hlo : g.lo < 32) (hpage : g.addr / 256 ≠ 0x10) : t.dev.on g = s.dev.on g := by
  rw [Dev.on, beside_rd h hlo hpage, Dev.on]

theorem beside_redundant (k : Nat) : t.dev.redundant k = s.dev.redundant k := by
  rw [Dev.redundant, beside_on h (g := TIME_CFG.MODE12) (by decide) (by decide),
    beside_on h (g := TIME_CFG.MODE34) (by decide) (by decide), Dev.redundant]

theorem beside_domIx (k : Nat) : t.dev.domIx k = s.dev.domIx k := by
  rw [Dev.domIx, beside_redundant h, Dev.domIx]

theorem beside_dom (k : Nat) : t.dev.dom k = s.dev.dom k := by
  rw [Dev.dom, beside_domIx h, beside_time h, Dev.dom]

theorem beside_incr {k : Nat} (hk : k < 4) :
    t.dev.rd (TIME_INCR.INCR (s.dev.domIx k)) = s.dev.rd (TIME_INCR.INCR (s.dev.domIx k)) := by
  have hix : s.dev.domIx k < 4 := by
    unfold Dev.domIx
    split <;> omega
  refine beside_rd h (Nat.succ_pos 31) ?_
  change (0xF20 + s.dev.domIx k) / 256 ≠ 0x10
  omega

theorem beside_cycleClk : t.dev.cycleClk = s.dev.cycleClk := by rw [Dev.cycleClk, beside_phase h, Dev.cycleClk]

theorem beside_cueAhead (c : Cue) : t.dev.cueAhead c = s.dev.cueAhead c := by
  simp only [Dev.cueAhead, beside_dom h, beside_domIx h, beside_incr h (cue_dom_lt c), beside_clk h, beside_phase h,
    beside_cycleClk h]

theorem beside_mayRunLate (c : Cue) : t.dev.mayRunLate c = s.dev.mayRunLate c := by
  rw [Dev.mayRunLate, beside_cueAhead h, Dev.mayRunLate]

theorem beside_clkOf (c : Cue) (x : Nat) : t.dev.clkOf c x = s.dev.clkOf c x := by
  simp only [Dev.clkOf, beside_dom h, beside_domIx h, beside_incr h (cue_dom_lt c), beside_clk h, beside_phase h,
    beside_cycleClk h]

theorem beside_func (f : Func) {g : Fld} (hg : g ∈ SESS_FUNC.fields f.num) : t.dev.rd g = s.dev.rd g := by
  have hpage : ∀ g ∈ SESS_FUNC.fields f.num, g.lo < 32 ∧ g.addr / 256 ≠ 0x10 := by cases f <;> decide
  obtain ⟨hlo, hoff⟩ := hpage g hg
  exact beside_rd h hlo hoff

theorem beside_runs (f : Func) : t.dev.runs f = s.dev.runs f := by
  rw [Dev.runs, Dev.fnState, beside_func h f (g := SESS_FUNC.STATE f.num) (by simp [SESS_FUNC.fields]), Dev.runs,
    Dev.fnState]

theorem beside_works (f : Func) : t.dev.works f = s.dev.works f := by
  rw [Dev.works, Dev.on, beside_runs h, beside_func h f (g := SESS_FUNC.IDLE f.num) (by simp [SESS_FUNC.fields]),
    Dev.works, Dev.on]

theorem beside_isSteward (sid : Nat) (f : Func) : t.dev.isSteward sid f = s.dev.isSteward sid f := by
  rw [Dev.isSteward, Dev.steward, beside_func h f (g := SESS_FUNC.STEWARD f.num) (by simp [SESS_FUNC.fields]),
    Dev.isSteward, Dev.steward]

theorem beside_portLinked (p : Nat) : t.dev.portLinked p = s.dev.portLinked p := by
  have hnet : ∀ g ∈ NET_STATUS.fields, t.dev.on g = s.dev.on g := by
    have hpage : ∀ g ∈ NET_STATUS.fields, g.lo < 32 ∧ g.addr / 256 ≠ 0x10 := by decide
    intro g hg
    obtain ⟨hlo, hoff⟩ := hpage g hg
    exact beside_on h hlo hoff
  simp only [Dev.portLinked, hnet NET_STATUS.ETH0_LINK (by decide), hnet NET_STATUS.ETH1_LINK (by decide),
    hnet NET_STATUS.ETH1_IDLE (by decide), hnet NET_STATUS.CAN0_ON (by decide), hnet NET_STATUS.CAN1_ON (by decide),
    hnet NET_STATUS.CAN1_IDLE (by decide)]

theorem beside_alive : t.dev.alive = s.dev.alive := by
  have hpwr : t.dev.pwr = s.dev.pwr := beside_same h (p := .pwr) (by decide)
  rw [Dev.alive, Dev.awake, hpwr, Dev.alive, Dev.awake]

theorem beside_limitDue (m : Mem) (port : Nat) : t.dev.limitDue m port = s.dev.limitDue m port := by
  have hlim : t.dev.lim = s.dev.lim := beside_same h (p := .lim) (by decide)
  rw [Dev.limitDue, beside_alive h, beside_runs h, hlim, beside_phase h, beside_cycleClk h,
    beside_rd h (g := LIM_PUB.PORTS) (by decide) (by decide),
    beside_rd h (g := LIM_PUB.PHASE) (by decide) (by decide), Dev.limitDue]

/-- An entry that is not committed puts no launch ahead of another. -/
theorem outrun_beside {m : Mem} {port i : Nat}
    (hlist : ∀ x ∈ t.dev.cue.list, x ∈ s.dev.cue.list ∨ x.2.committed = false)
    (hfree : s.dev.outrun m port i = false) : t.dev.outrun m port i = false := by
  simp only [Dev.outrun, Dev.launchAhead, beside_limitDue h, beside_clk h, beside_clkOf h, Bool.or_eq_false_iff,
    List.any_eq_false] at hfree ⊢
  obtain ⟨hlimit, hentries⟩ := hfree
  refine ⟨hlimit, fun x hx => ?_⟩
  rcases hlist x hx with hold | huncommitted
  · exact hentries x hold
  · simp [huncommitted]

/-- R308's refusals rest on the list and the slots and on nothing else of CUE. -/
theorem beside_cueFault {m : Mem} {sid i : Nat} (c : Cue) (hcue : t.dev.cue = s.dev.cue) :
    t.dev.cueFault m sid i c = s.dev.cueFault m sid i c := by
  simp only [Dev.cueFault, beside_isSteward h, beside_dom h, cueAt_congr i hcue, slot_congr _ hcue,
    beside_rd h (g := LIM_PUB.PORTS) (by decide) (by decide)]

end

/-! ### A command that stewardship or a role permits, and its answer -/

theorem asGranted_role {sid a : Nat} {f : Func} {d : Dev} (go : Dev → Did) (hkey : (d.sess sid).key ≠ 0)
    (hrole : roleGranted (d.sess sid).role a = true) : d.asGranted sid f a go = go d := by
  simp [Dev.asGranted, hkey, hrole]

theorem granted_of_steward {sid a : Nat} {f : Func} {go : Dev → Did} {d : Dev} {x : Did}
    (hst : d.isSteward sid f = true) (hcmd : go d = x) : d.asGranted sid f a go = x :=
  (asGranted_steward _ hst).trans hcmd

/-- A command that stewardship of `f` or the session's role permits, as CUE's commands are run. -/
def State.granted (sid a : Nat) (f : Func) (go : Mem → Dev → Did) (s : State) : Host.Outcome State Fault Refusal :=
  s.run fun m d => d.host sid fun d => d.asGranted sid f a (go m)

theorem granted_run {sid a : Nat} {f : Func} {go : Mem → Dev → Did} {s : State} {x : Did} (hh : Heard sid s)
    (hgo : s.dev.asGranted sid f a (go s.mem) = x) :
    s.granted sid a f go = .next { s with dev := (Dev.answer sid x).commit } := by
  rw [State.granted, run_next, host_heard _ hh, hgo]

/-- A heard command that stays off the recorder, the sessions and what is sent is answered, and the frame of what it
does grows by its answer. -/
theorem granted_answered {sid a : Nat} {f : Func} {go : Mem → Dev → Did} {fs : List Fld} {ps : List Part} {s : State}
    {e : Dev} {w : Wr} (hs : Settled s) (hh : Heard sid s) (hgo : s.dev.asGranted sid f a (go s.mem) = (e, w))
    (hframe : Frame fs ps s { s with dev := e }) (hps : ∀ p ∈ [Part.rcd, .out, .net, .clk], p ∉ ps) :
    s.granted sid a f go = .next { s with dev := Dev.answer sid (e, w) } ∧
      Answered sid w id s { s with dev := Dev.answer sid (e, w) } ∧
      Frame fs (ps ++ [.out, .net]) s { s with dev := Dev.answer sid (e, w) } := by
  have hsame : ∀ p ∈ [Part.rcd, .out, .net, .clk], p.same s { s with dev := e } :=
    fun p hp => hframe.same (hps p hp)
  have hrcd : e.rcd = s.dev.rcd := hsame .rcd (by simp)
  refine ⟨?_, answered_of_kept w hh.1 (hsame .out (by simp)) (hsame .net (by simp)) (hsame .clk (by simp)),
    (hframe.mono (List.Subset.refl _) (List.subset_append_left ..)).trans
      (frame_answered _ sid w (by simp) (by simp))⟩
  rw [granted_run hh hgo, commit_none (by rw [answer_rcd]; exact (congrArg RecSt.drafts hrcd).trans hs)]

/-- What is left of a command that may have created records: its answer, ahead of what it sent, and all else as the
command made it, with the records numbered. -/
theorem granted_ran {sid a : Nat} {f : Func} {go : Mem → Dev → Did} {s : State} {e : Dev} {w : Wr} (hh : Heard sid s)
    (hgo : s.dev.asGranted sid f a (go s.mem) = (e, w)) :
    ∃ t, s.granted sid a f go = .next t ∧
      t.dev.out = .answer sid w.status w.code w.addr :: e.out ∧ t.dev.cue = e.cue ∧ (∀ g, t.dev.rd g = e.rd g) ∧
      t.dev.rcd = e.rcd.commit ∧
      (e.out = s.dev.out → e.net = s.dev.net → e.clk = s.dev.clk → Answered sid w id s t) :=
  ⟨_, granted_run hh hgo, answer_out .., answer_cue .., fun g => answer_rd sid (e, w) g,
    congrArg RecSt.commit (answer_rcd ..),
    fun hout hnet hclk => answered_commit (answered_of_kept w hh.1 hout hnet hclk)⟩

/-- A refused command of CUE's page leaves its reason and its answer. -/
theorem cueRefused_next {sid a addr r : Nat} {f : Func} {go : Mem → Dev → Did} {fs : List Fld} {s : State} {e : Dev}
    (hs : Settled s) (hh : Heard sid s) (hgo : s.dev.asGranted sid f a (go s.mem) = e.cueRefuse r addr)
    (hframe : Frame fs [] s { s with dev := e }) (hreason : CUE_RESULT.REASON ∈ fs) :
    ∃ t, s.granted sid a f go = .next t ∧ Answered sid (wrRefused r addr) id s t ∧
      t.dev.rd CUE_RESULT.REASON = r % 256 ∧
      Frame fs [.out, .net] s t := by
  obtain ⟨hnext, hanswered, hgrown⟩ := granted_answered hs hh hgo (hframe.trans (frame_wr e r hreason)) (by simp)
  exact ⟨_, hnext, hanswered, (answer_rd ..).trans (Dev.rd_wr_same ..), hgrown⟩

/-! ### WRITE (R308) -/

/-- CUE_RESULT lies below the staging registers. -/
theorem result_key_ne (k : Nat) {f : Fld} (hf : f ∈ CUE_RESULT.fields) : f.key ≠ (CUE_E.BYTES k).key := by
  have hlow : ∀ f ∈ CUE_RESULT.fields, f.key < 0x1010 * 32 := by decide
  have hf := hlow f hf
  change f.key ≠ (0x1010 + k) * 32 + 0
  omega

section
variable {fs : List Fld} {s : State} (i : Nat)

theorem frame_indexed (ps : List Part) (h : CUE_RESULT.INDEX ∈ fs) :
    Frame fs ps s { s with dev := s.dev.wr CUE_RESULT.INDEX i } :=
  frame_wr s.dev i h

/-- Showing INDEX changes nothing that a command rests on. -/
theorem indexed_beside : PageFrame [0x10] [.cue] s { s with dev := s.dev.wr CUE_RESULT.INDEX i } :=
  (frame_indexed (fs := [CUE_RESULT.INDEX]) i [.cue] (.head _)).pages (by decide)

theorem stagedCue_indexed (sid : Nat) (d : Dev) : (d.wr CUE_RESULT.INDEX i).stagedCue sid = d.stagedCue sid := by
  have hkey : ∀ k, (CUE_E.BYTES k).key ≠ CUE_RESULT.INDEX.key := fun k => (result_key_ne k (by decide)).symm
  simp only [Dev.stagedCue, Dev.rd_wr_other _ _ (hkey _)]

theorem cueFault_indexed (sid : Nat) (c : Cue) :
    (s.dev.wr CUE_RESULT.INDEX i).cueFault s.mem sid i c = s.dev.cueFault s.mem sid i c :=
  beside_cueFault (m := s.mem) (indexed_beside i) c (s.dev.wr_cue CUE_RESULT.INDEX i)

end

/-- A late entry as it is stored: of the occurrences past, the last is left to run. -/
def Dev.storeLate (i : Nat) (c : Cue) (d : Dev) : Dev :=
  (d.wr CUE_RESULT.INDEX i).putCue i { c with ran := c.passed (d.cueAhead c) - 1 }

theorem frame_stored {s : State} (i : Nat) (c : Cue) : Frame [CUE_RESULT.INDEX, CUE_STATUS.ENTRIES] [.cue] s
    { s with dev := (s.dev.wr CUE_RESULT.INDEX i).putCue i c } :=
  (frame_indexed i _ (by decide)).trans (frame_putCue _ i c (by decide) (by decide))

/-- Storing an entry changes CUE and its page alone. -/
theorem stored_beside {s : State} (i : Nat) (c : Cue) :
    PageFrame [0x10] [.cue] s { s with dev := (s.dev.wr CUE_RESULT.INDEX i).putCue i c } :=
  (frame_stored i c).pages (by decide)

section
variable {sid i : Nat} {s : State} {c : Cue} (hc : s.dev.stagedCue sid = c)
include hc

theorem cmdCueWrite_refused {r : Nat} (hfault : s.dev.cueFault s.mem sid i c = some r) :
    s.dev.cmdCueWrite s.mem sid i = (s.dev.wr CUE_RESULT.INDEX i).cueRefuse r CUE_CTRL.CMD.addr := by
  unfold Dev.cmdCueWrite
  dsimp only
  rw [stagedCue_indexed, hc, cueFault_indexed, hfault]

section
variable (hfault : s.dev.cueFault s.mem sid i c = none)
include hfault

/-- An entry that no row of R308 refuses: far enough ahead, late, or past. -/
theorem cmdCueWrite_sound : s.dev.cmdCueWrite s.mem sid i =
    if s.dev.cueAhead c ≤ c.start then ((s.dev.wr CUE_RESULT.INDEX i).putCue i c, wrOk)
    else if s.dev.mayRunLate c then
      (if s.dev.works .cue then (s.dev.storeLate i c).fire s.mem i true else s.dev.storeLate i c, wrOk)
    else (s.dev.wr CUE_RESULT.INDEX i).cueRefuse 2 CUE_CTRL.CMD.addr := by
  have hahead : (s.dev.wr CUE_RESULT.INDEX i).cueAhead c = s.dev.cueAhead c := beside_cueAhead (indexed_beside i) c
  have hlate : (s.dev.wr CUE_RESULT.INDEX i).mayRunLate c = s.dev.mayRunLate c :=
    beside_mayRunLate (indexed_beside i) c
  have hworks : (s.dev.storeLate i c).works .cue = s.dev.works .cue := beside_works (stored_beside i _) .cue
  unfold Dev.cmdCueWrite
  dsimp only
  rw [stagedCue_indexed, hc, cueFault_indexed, hfault]
  dsimp only
  rw [hahead, hlate, ← hworks]
  rfl

theorem cmdCueWrite_ahead (hahead : s.dev.cueAhead c ≤ c.start) :
    s.dev.cmdCueWrite s.mem sid i = ((s.dev.wr CUE_RESULT.INDEX i).putCue i c, wrOk) := by
  rw [cmdCueWrite_sound hc hfault, if_pos hahead]

theorem cmdCueWrite_past (hpast : c.start < s.dev.cueAhead c) (hlate : s.dev.mayRunLate c = false) :
    s.dev.cmdCueWrite s.mem sid i = (s.dev.wr CUE_RESULT.INDEX i).cueRefuse 2 CUE_CTRL.CMD.addr := by
  rw [cmdCueWrite_sound hc hfault, if_neg (Nat.not_le.2 hpast), if_neg (by simp [hlate])]

theorem cmdCueWrite_late (hpast : c.start < s.dev.cueAhead c) (hlate : s.dev.mayRunLate c = true) :
    s.dev.cmdCueWrite s.mem sid i =
      (if s.dev.works .cue then (s.dev.storeLate i c).fire s.mem i true else s.dev.storeLate i c, wrOk) := by
  rw [cmdCueWrite_sound hc hfault, if_neg (Nat.not_le.2 hpast), if_pos hlate]

end

end

/-! ### A late entry runs (R308, R312, R313) -/

/-- The entry once an occurrence of it runs. -/
def Cue.fired (c : Cue) : Cue := { c with committed := false, ran := c.ran + 1, open_ := c.window }

theorem fired_eq : Cue.fired = fun c => { c with committed := false, ran := c.ran + 1, open_ := c.window } := rfl

theorem fire_frame {m : Mem} {i : Nat} {late : Bool} {d : Dev} (haction : (d.cueAt i).action = 1) :
    d.fire m i late = (d.modCue i Cue.fired).frameDue m i late := by
  simp [Dev.fire, haction, fired_eq]

theorem fire_burst {m : Mem} {i : Nat} {d : Dev} (haction : (d.cueAt i).action = 2) (hfree : d.cue.capBy = none) :
    d.fire m i true = ((d.modCue i Cue.fired).ranLate i).startCapture i true := by
  simp [Dev.fire, haction, hfree, fired_eq]

/-- A BURST runs late inside its window alone. -/
theorem window_of_mayRunLate {c : Cue} {d : Dev} (hlate : d.mayRunLate c = true) (haction : c.action = 2) :
    c.window = true := by
  simp_all [Dev.mayRunLate]

theorem mayRunLate_frame {c : Cue} {d : Dev} (hlate : c.lateRun = true) (haction : c.action = 1) :
    d.mayRunLate c = true := by
  simp [Dev.mayRunLate, hlate, haction]

section
variable (i : Nat) (d : Dev)

theorem ranLate_rcd : (d.ranLate i).rcd = (d.record recCueLate (leBytes 2 i)).rcd := rfl

theorem ranLate_cue : (d.ranLate i).cue = d.cue := Dev.record_cue ..

theorem ranLate_out : (d.ranLate i).out = d.out := Dev.record_out ..

theorem ranLate_rd : (d.ranLate i).rd CUE_STATUS.LATE = 1 := Dev.rd_wr_same ..

theorem startCapture_cue (late : Bool) :
    (d.startCapture i late).cue = { d.cue with cap := [], capBy := some i } := rfl

theorem startCapture_running (late : Bool) : (d.startCapture i late).rd CUE_CAP_STATUS.RUNNING = 1 :=
  (Dev.rd_wr_other _ _ (by decide)).trans (Dev.rd_wr_same ..)

theorem startCapture_rd (late : Bool) {g : Fld} (hg : ∀ f ∈ CUE_CAP_STATUS.fields, g.key ≠ f.key) :
    (d.startCapture i late).rd g = d.rd g :=
  rd_of_frame (frame_startCapture (s := State.reset) (ps := [.cue, .acq]) d i late (List.Subset.refl _) (by decide)
    (by decide)) hg

end

theorem frame_launchStamp {fs : List Fld} {ps : List Part} {s : State} (port dom : Nat) (d : Dev) :
    Frame fs ps { s with dev := d } { s with dev := (d.launchStamp port dom).2 } := by
  unfold Dev.launchStamp
  split
  · exact Frame.refl ..
  · exact frame_drawNat d

theorem frame_occupy {fs : List Fld} {ps : List Part} {s : State} (p len : Nat) (d : Dev) (h : .cue ∈ ps) :
    Frame fs ps { s with dev := d } { s with dev := d.occupy p len } :=
  frame_modCueSt d (fun q => { q with busy := tset 0 q.busy p (max d.clk (tget 0 q.busy p) + 8 * (len + 24)) }) h

/-- A frame launched late changes its slot, with its port's medium, and is then recorded and sent. -/
theorem launchSlot_late {s : State} (slot i dom : Nat) (d : Dev) :
    ∃ e, d.launchSlot slot i dom true = (e.ranLate i).emit (.launch (slot / 64) (slot % 64) true) ∧
      Frame [] [.cue] { s with dev := d } { s with dev := e } ∧ (e.slot slot).late = true := by
  refine ⟨_, rfl, ?_, congrArg Slot.late (slot_modSlot_same ..)⟩
  refine Frame.trans ?_ (frame_modSlot _ slot _ (.head _))
  split
  · exact (frame_launchStamp _ dom d).trans (frame_occupy _ _ _ (.head _))
  · exact frame_launchStamp _ dom d

/-- A FRAME with a launcher and a link goes out on a free port with no launch ahead of it, and on CAN always. -/
theorem frameDue_launched {m : Mem} {i : Nat} {late : Bool} {d : Dev} {c : Cue} (hc : d.cueAt i = c)
    (hnet : d.works .net = true) (hlink : d.portLinked (c.target / 64) = true)
    (hfree : 2 ≤ c.target / 64 ∨
      tget 0 d.cue.busy (c.target / 64) ≤ d.clk ∧ d.outrun m (c.target / 64) i = false) :
    d.frameDue m i late = d.launchSlot c.target i (if c.inDomain then c.dom else 0) late := by
  have hgoes : (decide (c.target / 64 < 2) &&
      (decide (d.clk < tget 0 d.cue.busy (c.target / 64)) || d.outrun m (c.target / 64) i)) = false := by
    rcases hfree with hcan | ⟨hmedium, hahead⟩
    · simp [Nat.not_lt.2 hcan]
    · simp [Nat.not_lt.2 hmedium, hahead]
  unfold Dev.frameDue
  dsimp only
  rw [hc, if_neg (by simp [hnet, hlink]), if_neg (Bool.eq_false_iff.1 hgoes)]

/-! ### READ (R317) -/

theorem foldr_bytes_lt (l : List Byte) : l.foldr (fun b v => b.toNat + 256 * v) 0 < 256 ^ l.length := by
  induction l with
  | nil => exact Nat.one_pos
  | cons b l ih =>
    have hb : b.toNat < 256 := b.isLt
    rw [List.foldr_cons, List.length_cons, Nat.pow_succ]
    omega

theorem leAt_lt (l : List Byte) (a n : Nat) : leAt l a n < 256 ^ n :=
  Nat.lt_of_lt_of_le (foldr_bytes_lt _) (Nat.pow_le_pow_right (by decide) (List.length_take_le ..))

/-- The entry at INDEX shown in the staging registers. -/
def Dev.showCue (i : Nat) (d : Dev) : Dev :=
  ((d.wr CUE_RESULT.INDEX i).wr CUE_RESULT.OWNER (d.cueAt i).owner).each (List.range 8) fun k e =>
    e.wr (CUE_E.BYTES k) (leAt (d.cueAt i).bytes (4 * k) 4)

theorem bytes_key_ne {j k : Nat} (h : j ≠ k) : (CUE_E.BYTES j).key ≠ (CUE_E.BYTES k).key := by
  change (0x1010 + j) * 32 + 0 ≠ (0x1010 + k) * 32 + 0
  omega

theorem showCue_owner (i : Nat) (d : Dev) : (d.showCue i).rd CUE_RESULT.OWNER = (d.cueAt i).owner % 256 :=
  (each_keep (·.rd CUE_RESULT.OWNER) _ (fun k e => e.rd_wr_other _ (result_key_ne k (by decide))) _ _).trans
    (Dev.rd_wr_same ..)

theorem showCue_bytes {i k : Nat} (hk : k < 8) (d : Dev) :
    (d.showCue i).rd (CUE_E.BYTES k) = leAt (d.cueAt i).bytes (4 * k) 4 := by
  have honce := each_once (fun _ => True) (·.rd (CUE_E.BYTES k)) (fun _ => leAt (d.cueAt i).bytes (4 * k) 4)
    (fun k e => e.wr (CUE_E.BYTES k) (leAt (d.cueAt i).bytes (4 * k) 4)) k (fun _ _ h => h)
    (fun e _ => (e.rd_wr_same ..).trans (Nat.mod_eq_of_lt (leAt_lt ..)))
    (fun j hj e _ => e.rd_wr_other _ (bytes_key_ne hj.symm)) (List.nodup_range (n := 8))
    (d := (d.wr CUE_RESULT.INDEX i).wr CUE_RESULT.OWNER (d.cueAt i).owner) trivial
  exact honce.trans (if_pos (List.mem_range.2 hk))

theorem frame_showCue {s : State} (i : Nat) :
    Frame (CUE_RESULT.INDEX :: CUE_RESULT.OWNER :: (List.range 8).map CUE_E.BYTES) [] s
      { s with dev := s.dev.showCue i } :=
  ((frame_wr s.dev i (.head _)).trans (frame_wr _ _ (.tail _ (.head _)))).trans
    (frame_each_mem _ _ _ fun _ hk e => frame_wr e _ (.tail _ (.tail _ (List.mem_map_of_mem hk))))

/-! ### DELETE (R308) -/

section
variable {sid i : Nat} {s : State}

theorem cmdCueDelete_empty (hempty : (s.dev.cueAt i).bytes = []) :
    s.dev.cmdCueDelete sid i = (s.dev.wr CUE_RESULT.INDEX i, wrOk) := by
  simp [Dev.cmdCueDelete, hempty]

section
variable (hentry : (s.dev.cueAt i).bytes ≠ [])
include hentry

theorem cmdCueDelete_notOwner (hst : s.dev.isSteward sid .cue = false) (howner : (s.dev.cueAt i).owner ≠ sid) :
    s.dev.cmdCueDelete sid i = (s.dev.wr CUE_RESULT.INDEX i).cueRefuse 6 CUE_CTRL.CMD.addr := by
  have hst' := (beside_isSteward (indexed_beside i) sid .cue).trans hst
  unfold Dev.cmdCueDelete
  dsimp only
  rw [if_neg (by simp [hentry]), if_pos (by simp [howner, hst'])]

variable (hst : s.dev.isSteward sid .cue = true)
include hst

/-- The steward's DELETE of an entry rests on whether it is committed or in its window. -/
theorem cmdCueDelete_steward : s.dev.cmdCueDelete sid i =
    if ((s.dev.cueAt i).committed || (s.dev.cueAt i).open_) = true then
      (s.dev.wr CUE_RESULT.INDEX i).cueRefuse 5 CUE_CTRL.CMD.addr
    else ((s.dev.wr CUE_RESULT.INDEX i).putCue i .empty, wrOk) := by
  have hst' := (beside_isSteward (indexed_beside i) sid .cue).trans hst
  unfold Dev.cmdCueDelete
  dsimp only
  rw [if_neg (by simp [hentry]), if_neg (by simp [hst'])]

theorem cmdCueDelete_busy (hbusy : (s.dev.cueAt i).committed = true ∨ (s.dev.cueAt i).open_ = true) :
    s.dev.cmdCueDelete sid i = (s.dev.wr CUE_RESULT.INDEX i).cueRefuse 5 CUE_CTRL.CMD.addr := by
  rw [cmdCueDelete_steward hentry hst, if_pos (by simpa using hbusy)]

theorem cmdCueDelete_idle (hidle : (s.dev.cueAt i).committed = false ∧ (s.dev.cueAt i).open_ = false) :
    s.dev.cmdCueDelete sid i = ((s.dev.wr CUE_RESULT.INDEX i).putCue i .empty, wrOk) := by
  rw [cmdCueDelete_steward hentry hst, if_neg (by simp [hidle])]

end

end

/-! ### CAP_CLEAR, LOAD and CLEAR (R312, R313) -/

/-- The first `len` bytes of the frame staging registers. -/
def Dev.stagedFrame (len : Nat) (d : Dev) : List Byte :=
  ((List.range 256).flatMap fun j => leBytes 4 (d.rd (CUE_FQ_WIN.BYTES j))).take len

/-- The reason of a refused LOAD: the length first. -/
def Dev.loadReason (p len : Nat) (d : Dev) : Nat := if frameOk p len (d.stagedFrame len) = false then 10 else 9

theorem loadReason_lt (p len : Nat) (d : Dev) : d.loadReason p len < 256 := by
  unfold Dev.loadReason
  split
  · decide
  · decide

theorem frame_capCleared {s : State} (d : Dev) : Frame [CUE_CAP_STATUS.COUNT, CUE_CAP_STATUS.FULL] [.cue]
    { s with dev := d } { s with dev := d.cmdCapClear.1 } :=
  ((frame_modCueSt d _ (.head _)).trans (frame_wr _ 0 (.head _))).trans (frame_wr _ 0 (.tail _ (.head _)))

theorem capCleared_rd (d : Dev) :
    d.cmdCapClear.1.rd CUE_CAP_STATUS.COUNT = 0 ∧ d.cmdCapClear.1.rd CUE_CAP_STATUS.FULL = 0 :=
  ⟨(Dev.rd_wr_other _ _ (by decide)).trans (Dev.rd_wr_same ..), Dev.rd_wr_same ..⟩

section
variable {p slot len : Nat} {d : Dev}

theorem cmdLoadSlot_loaded (hframe : frameOk p len (d.stagedFrame len) = true)
    (hfree : d.slotCommitted (64 * p + slot) = false) :
    d.cmdLoadSlot p slot len = (d.modSlot (64 * p + slot) fun x =>
      { x with bytes := d.stagedFrame len, launches := 0, late := false }, wrOk) := by
  unfold Dev.cmdLoadSlot
  dsimp only
  rw [if_neg (by simpa [Dev.stagedFrame] using hframe), if_neg (by simp [hfree])]
  rfl

theorem cmdLoadSlot_refused
    (hwhy : frameOk p len (d.stagedFrame len) = false ∨ d.slotCommitted (64 * p + slot) = true) :
    d.cmdLoadSlot p slot len =
      d.cueRefuse (d.loadReason p len) CUE_FQ_CTRL.CMD.addr := by
  unfold Dev.loadReason
  change (if (!frameOk p len (d.stagedFrame len)) = true then d.cueRefuse 10 CUE_FQ_CTRL.CMD.addr else _) = _
  by_cases hframe : frameOk p len (d.stagedFrame len) = false
  · rw [if_pos (by simp [hframe]), if_pos hframe]
  · rw [if_neg (by simpa using hframe), if_neg hframe, if_pos (hwhy.resolve_left hframe)]

theorem cmdClearSlot_cleared (hfree : d.slotCommitted (64 * p + slot) = false)
    (hnamed : d.slotNamed (64 * p + slot) = false) :
    d.cmdClearSlot p slot =
      (d.modSlot (64 * p + slot) fun x => { x with bytes := [], launches := 0, late := false }, wrOk) :=
  if_neg (by simp [hfree, hnamed])

theorem cmdClearSlot_refused
    (hwhy : d.slotCommitted (64 * p + slot) = true ∨ d.slotNamed (64 * p + slot) = true) :
    d.cmdClearSlot p slot = d.cueRefuse 9 CUE_FQ_CTRL.CMD.addr :=
  if_pos (by simpa using hwhy)

end

/-! ### The late entry of a WRITE, stored and run -/

/-- The entry, stored late, as its occurrence begins to run. -/
def Dev.fireLate (i : Nat) (c : Cue) (d : Dev) : Dev := (d.storeLate i c).modCue i Cue.fired

section
variable {i : Nat} {s : State} {c : Cue}

theorem storeLate_cueAt (d : Dev) : (d.storeLate i c).cueAt i = { c with ran := c.passed (d.cueAhead c) - 1 } :=
  putCue_cueAt_same ..

theorem fireLate_cueAt (d : Dev) :
    (d.fireLate i c).cueAt i = Cue.fired { c with ran := c.passed (d.cueAhead c) - 1 } := by
  rw [Dev.fireLate, cueAt_modCue_same, storeLate_cueAt]

theorem frame_fireLate :
    Frame [CUE_RESULT.INDEX, CUE_STATUS.ENTRIES] [.cue] s { s with dev := s.dev.fireLate i c } :=
  (frame_stored i _).trans (frame_modCue _ i _ (.head _))

theorem fireLate_beside : PageFrame [0x10] [.cue] s { s with dev := s.dev.fireLate i c } :=
  frame_fireLate.pages (by decide)

/-- The entry that runs is not committed, so that no launch comes ahead of its own with it. -/
theorem fireLate_uncommitted (hc : c.committed = false) :
    ∀ x ∈ (s.dev.fireLate i c).cue.list, x ∈ s.dev.cue.list ∨ x.2.committed = false := by
  intro x hx
  rcases mem_list_modCue hx with hstored | hfired
  · rcases mem_list_modCue (d := s.dev.wr CUE_RESULT.INDEX i) hstored with hold | hnew
    · exact .inl hold
    · exact .inr ((congrArg Cue.committed hnew).trans hc)
  · exact .inr (congrArg Cue.committed hfired)

/-- The device once a BURST, stored late, has started its capture. -/
def Dev.burstLate (i : Nat) (c : Cue) (d : Dev) : Dev := ((d.fireLate i c).ranLate i).startCapture i true

theorem burstLate_cueAt (d : Dev) :
    (d.burstLate i c).cueAt i = Cue.fired { c with ran := c.passed (d.cueAhead c) - 1 } := by
  rw [← fireLate_cueAt, Dev.burstLate, Dev.cueAt, startCapture_cue, ranLate_cue, Dev.cueAt]

theorem burstLate_rd (d : Dev) : (d.burstLate i c).rd CUE_STATUS.LATE = 1 :=
  (startCapture_rd _ _ _ (by decide)).trans (ranLate_rd ..)

theorem burstLate_rcd (d : Dev) : (d.burstLate i c).rcd = ((d.fireLate i c).ranLate i).rcd := rfl

theorem burstLate_capBy (d : Dev) : (d.burstLate i c).cue.capBy = some i := rfl

/-- What a late BURST may change. -/
def burstFlds : List Fld :=
  [CUE_RESULT.INDEX, CUE_STATUS.ENTRIES, CUE_CNT.LATE, CUE_STATUS.LATE] ++ CUE_CAP_STATUS.fields

theorem frame_burstLate : Frame burstFlds [.cue, .rcd, .acq] s { s with dev := s.dev.burstLate i c } :=
  ((frame_fireLate.mono (by decide) (by decide)).trans
    (frame_ranLate _ i (by decide) (by decide) (by decide))).trans
    (frame_startCapture _ i true (by decide) (by decide) (by decide))

/-- The CUE_LATE record rests on nothing that an entry, a slot or their page holds. -/
theorem recorded_late {e : Dev} {t : State}
    (hframe : Frame [CUE_RESULT.INDEX, CUE_STATUS.ENTRIES] [.cue] s { s with dev := e })
    (hrcd : t.dev.rcd = (e.ranLate i).rcd.commit) : Recorded [(recCueLate, leBytes 2 i)] s t :=
  (hrcd.trans (congrArg RecSt.commit (ranLate_rcd ..))).trans
    (recorded_commit recCueLate (leBytes 2 i) hframe (by decide) (by decide))

variable {sid : Nat} (hc : s.dev.stagedCue sid = c) (hfault : s.dev.cueFault s.mem sid i c = none)
  (hpast : c.start < s.dev.cueAhead c) (hlate : s.dev.mayRunLate c = true)
include hc hfault hpast hlate

theorem cmdCueWrite_held (hidle : s.dev.works .cue = false) :
    s.dev.cmdCueWrite s.mem sid i = (s.dev.storeLate i c, wrOk) := by
  rw [cmdCueWrite_late hc hfault hpast hlate, if_neg (by simp [hidle])]

/-- A late BURST with no capture running starts its own. -/
theorem cmdCueWrite_burst (haction : c.action = 2) (hfree : s.dev.cue.capBy = none)
    (hworks : s.dev.works .cue = true) : s.dev.cmdCueWrite s.mem sid i = (s.dev.burstLate i c, wrOk) := by
  have hstored : ((s.dev.storeLate i c).cueAt i).action = 2 :=
    (congrArg Cue.action (storeLate_cueAt _)).trans haction
  rw [cmdCueWrite_late hc hfault hpast hlate, if_pos hworks, fire_burst hstored hfree]
  rfl

/-- A late FRAME that nothing holds back is launched. -/
theorem cmdCueWrite_frame (haction : c.action = 1) (hworks : s.dev.works .cue = true)
    (hnet : s.dev.works .net = true) (hlink : s.dev.portLinked (c.target / 64) = true)
    (hfree : 2 ≤ c.target / 64 ∨
      tget 0 s.dev.cue.busy (c.target / 64) ≤ s.dev.clk ∧ s.dev.outrun s.mem (c.target / 64) i = false) :
    s.dev.cmdCueWrite s.mem sid i =
      ((s.dev.fireLate i c).launchSlot c.target i (if c.inDomain then c.dom else 0) true, wrOk) := by
  have hstored : ((s.dev.storeLate i c).cueAt i).action = 1 :=
    (congrArg Cue.action (storeLate_cueAt _)).trans haction
  have huncommitted : c.committed = false := hc ▸ rfl
  have hoff := fireLate_beside (s := s) (i := i) (c := c)
  have hlaunched := frameDue_launched (m := s.mem) (late := true) (fireLate_cueAt (i := i) (c := c) s.dev)
    ((beside_works hoff .net).trans hnet) ((beside_portLinked hoff _).trans hlink)
    (hfree.imp_right (And.imp_right (outrun_beside hoff (fireLate_uncommitted huncommitted))))
  rw [cmdCueWrite_late hc hfault hpast hlate, if_pos hworks, fire_frame hstored]
  exact congrArg (·, wrOk) hlaunched

end

theorem answer_cueAt (sid k : Nat) (x : Did) : (Dev.answer sid x).cueAt k = x.1.cueAt k := cueAt_congr k (answer_cue ..)

theorem answer_slot (sid k : Nat) (x : Did) : (Dev.answer sid x).slot k = x.1.slot k := slot_congr k (answer_cue ..)

/-- A frame that leaves CUE leaves every entry. -/
theorem cueAt_of_frame {fs : List Fld} {ps : List Part} {s t : State} (h : Frame fs ps s t) (hps : .cue ∉ ps)
    (k : Nat) : t.dev.cueAt k = s.dev.cueAt k :=
  cueAt_congr k (h.same (p := .cue) hps)

/-- A refused WRITE or DELETE shows INDEX and REASON. -/
theorem entryRefused_next {sid a i r : Nat} {f : Func} {go : Mem → Dev → Did} {s : State} (hs : Settled s)
    (hh : Heard sid s) (hgo : s.dev.asGranted sid f a (go s.mem) =
      (s.dev.wr CUE_RESULT.INDEX i).cueRefuse r CUE_CTRL.CMD.addr) :
    ∃ t, s.granted sid a f go = .next t ∧ Answered sid (wrRefused r CUE_CTRL.CMD.addr) id s t ∧
      t.dev.rd CUE_RESULT.REASON = r % 256 ∧
      Frame [CUE_RESULT.INDEX, CUE_RESULT.REASON] [.out, .net] s t :=
  cueRefused_next hs hh hgo (frame_indexed i [] (.head _)) (.tail _ (.head _))

/-- An accepted WRITE or DELETE changes the entry at INDEX alone. -/
theorem entryPut_next {sid a i : Nat} {f : Func} {go : Mem → Dev → Did} {c : Cue} {s : State} (hs : Settled s)
    (hh : Heard sid s)
    (hgo : s.dev.asGranted sid f a (go s.mem) = ((s.dev.wr CUE_RESULT.INDEX i).putCue i c, wrOk)) :
    ∃ t, s.granted sid a f go = .next t ∧ Answered sid wrOk id s t ∧
      t.dev.cueAt i = c ∧ (∀ k, k ≠ i → t.dev.cueAt k = s.dev.cueAt k) ∧
      t.dev.rd CUE_STATUS.ENTRIES = t.dev.cue.list.length % 2048 ∧
      Frame [CUE_RESULT.INDEX, CUE_STATUS.ENTRIES] [.cue, .out, .net] s t := by
  obtain ⟨hnext, hanswered, hframe⟩ := granted_answered hs hh hgo (frame_stored i c) (by decide)
  refine ⟨_, hnext, hanswered, (answer_cueAt ..).trans (putCue_cueAt_same ..),
    fun k hk => (answer_cueAt ..).trans (putCue_cueAt_other i (s.dev.wr CUE_RESULT.INDEX i) c hk), ?_, hframe⟩
  rw [answer_rd, putCue_entries, answer_cue]

/-- A DELETE that finds no entry shows INDEX. -/
theorem entryAbsent_next {sid a i : Nat} {f : Func} {go : Mem → Dev → Did} {s : State} (hs : Settled s)
    (hh : Heard sid s) (hgo : s.dev.asGranted sid f a (go s.mem) = (s.dev.wr CUE_RESULT.INDEX i, wrOk)) :
    ∃ t, s.granted sid a f go = .next t ∧ Answered sid wrOk id s t ∧
      (∀ k, t.dev.cueAt k = s.dev.cueAt k) ∧
      Frame [CUE_RESULT.INDEX] [.out, .net] s t := by
  obtain ⟨hnext, hanswered, hframe⟩ := granted_answered hs hh hgo (frame_indexed i [] (.head _)) (by decide)
  exact ⟨_, hnext, hanswered, cueAt_of_frame hframe (by decide), hframe⟩

/-- A refused WRITE leaves every entry. -/
theorem writeRefused_next {sid : Sid} {index : CueIx} {r : Nat} {s : State} (hs : Settled s) (hh : Heard sid s)
    (hst : s.dev.isSteward sid .cue = true) (hcmd : s.dev.cmdCueWrite s.mem sid index =
      (s.dev.wr CUE_RESULT.INDEX index).cueRefuse r CUE_CTRL.CMD.addr) :
    ∃ t, exec (.cueWrite sid index) s = .next t ∧ Answered sid (wrRefused r CUE_CTRL.CMD.addr) id s t ∧
      t.dev.rd CUE_RESULT.REASON = r % 256 ∧ (∀ k, t.dev.cueAt k = s.dev.cueAt k) ∧
      Frame [CUE_RESULT.INDEX, CUE_RESULT.REASON] [.out, .net] s t := by
  obtain ⟨t, hnext, hanswered, hreason, hframe⟩ :=
    entryRefused_next (go := fun m => Dev.cmdCueWrite m sid index) hs hh (granted_of_steward hst hcmd)
  exact ⟨t, hnext, hanswered, hreason, cueAt_of_frame hframe (by decide), hframe⟩

/-- A refused LOAD or CLEAR shows REASON. -/
theorem slotRefused_next {sid a r : Nat} {f : Func} {go : Mem → Dev → Did} {s : State} (hs : Settled s)
    (hh : Heard sid s) (hgo : s.dev.asGranted sid f a (go s.mem) = s.dev.cueRefuse r CUE_FQ_CTRL.CMD.addr) :
    ∃ t, s.granted sid a f go = .next t ∧ Answered sid (wrRefused r CUE_FQ_CTRL.CMD.addr) id s t ∧
      t.dev.rd CUE_RESULT.REASON = r % 256 ∧
      Frame [CUE_RESULT.REASON] [.out, .net] s t :=
  cueRefused_next hs hh hgo (Frame.refl ..) (.head _)

/-- An accepted command on a slot changes that slot alone. -/
theorem slotChanged_next {sid a k : Nat} {f : Func} {go : Mem → Dev → Did} {g : Slot → Slot} {s : State}
    (hs : Settled s) (hh : Heard sid s) (hgo : s.dev.asGranted sid f a (go s.mem) = (s.dev.modSlot k g, wrOk)) :
    ∃ t, s.granted sid a f go = .next t ∧ Answered sid wrOk id s t ∧
      t.dev.slot k = g (s.dev.slot k) ∧ (∀ j, j ≠ k → t.dev.slot j = s.dev.slot j) ∧
      Frame [] [.cue, .out, .net] s t := by
  obtain ⟨hnext, hanswered, hframe⟩ :=
    granted_answered (fs := []) (ps := [.cue]) hs hh hgo (frame_modSlot s.dev k g (.head _)) (by decide)
  exact ⟨_, hnext, hanswered, (answer_slot ..).trans (slot_modSlot_same k s.dev g),
    fun j hj => (answer_slot ..).trans (slot_modSlot_other k s.dev g hj), hframe⟩

/-- Settles O42: each command is an update of an entry, of a slot or of the capture buffer, or a refusal, then an
answer; a late entry runs before it. -/
theorem cueEntriesAndFrameSlots : Obligations.CueEntriesAndFrameSlots := by
  refine ⟨fun sid index s hs hh hst hfault hahead => ?_, fun sid index r s hs hh hst hwhy => ?_,
    fun sid index s hs hh hst hfault hpast hlate => ?_,
    fun sid index s hs hh hst hfault hpast hlate haction hfree hworks => ?_,
    fun sid index s hs hh hst hfault hpast hframe hworks hnet hfree => ?_,
    fun sid index s hs hh hst hfault hpast hlate hidle => ?_, fun sid index s hs hh hst => ?_,
    fun sid index s hs hh hst hidle => ?_, fun sid index s hs hh hst hentry hbusy => ?_,
    fun sid index s hs hh hst hkey hrole hentry howner => ?_, fun sid s hs hh hst => ?_,
    fun sid port slot len s hs hh hst hok hfree => ?_, fun sid port slot len s hs hh hst hwhy => ?_,
    fun sid port slot s hs hh hst hfree hnamed => ?_, fun sid port slot s hs hh hst hwhy => ?_⟩
  · obtain ⟨t, hnext, hanswered, hput, hother, hcount, hframe⟩ := entryPut_next
      (go := fun m => Dev.cmdCueWrite m sid index) hs hh (granted_of_steward hst (cmdCueWrite_ahead rfl hfault hahead))
    exact ⟨t, hnext, hanswered, hput, hother, hcount, hframe⟩
  · rcases hwhy with hfault | ⟨hfault, hpast, hlate, rfl⟩
    · exact writeRefused_next hs hh hst (cmdCueWrite_refused rfl hfault)
    · exact writeRefused_next hs hh hst (cmdCueWrite_past rfl hfault hpast hlate)
  · obtain ⟨t, hnext, hanswered, -, hkept, -⟩ :=
      writeRefused_next hs hh hst (cmdCueWrite_past rfl hfault hpast hlate)
    exact ⟨t, hnext, hanswered, hkept⟩
  · obtain ⟨t, hnext, -, hcue, hrd, hrcd, hanswered⟩ := granted_ran (go := fun m => Dev.cmdCueWrite m sid index) hh
      (granted_of_steward hst (cmdCueWrite_burst rfl hfault hpast hlate haction hfree hworks))
    have hran := frame_burstLate (s := s) (i := index.val) (c := s.dev.stagedCue sid)
    have hentry := (cueAt_congr index.val hcue).trans (burstLate_cueAt s.dev)
    exact ⟨t, hnext, hanswered (hran.same (p := .out) (by decide)) (hran.same (p := .net) (by decide))
        (hran.same (p := .clk) (by decide)), (congrArg CueSt.capBy hcue).trans (burstLate_capBy _),
      (hrd _).trans (startCapture_running ..), (congrArg Cue.bytes hentry :),
      (congrArg Cue.open_ hentry).trans (window_of_mayRunLate hlate haction),
      recorded_late frame_fireLate (hrcd.trans (congrArg RecSt.commit (burstLate_rcd _))),
      (hrd _).trans (burstLate_rd _)⟩
  · obtain ⟨hlate, haction⟩ := hframe
    obtain ⟨hnet, hlink⟩ := hnet
    have hcmd := cmdCueWrite_frame rfl hfault hpast (mayRunLate_frame hlate haction) haction hworks hnet hlink hfree
    obtain ⟨e, hlaunch, hslot, hshown⟩ := launchSlot_late (s := s) (s.dev.stagedCue sid).target index.val
      (if (s.dev.stagedCue sid).inDomain then (s.dev.stagedCue sid).dom else 0)
      (s.dev.fireLate index (s.dev.stagedCue sid))
    rw [hlaunch] at hcmd
    have hran : Frame [CUE_RESULT.INDEX, CUE_STATUS.ENTRIES] [.cue] s { s with dev := e } :=
      frame_fireLate.trans (hslot.mono (List.nil_subset _) (List.Subset.refl _))
    have hout : (e.ranLate index).out = s.dev.out := (ranLate_out ..).trans (hran.same (p := .out) (by decide))
    obtain ⟨t, hnext, hsent, hcue, hrd, hrcd, -⟩ :=
      granted_ran (go := fun m => Dev.cmdCueWrite m sid index) hh (granted_of_steward hst hcmd)
    rw [Dev.emit_out, hout] at hsent
    exact ⟨t, hnext, hsent, recorded_late hran hrcd, (hrd _).trans (ranLate_rd ..),
      (congrArg Slot.late (slot_congr _ (hcue.trans (ranLate_cue ..)))).trans hshown⟩
  · obtain ⟨t, hnext, hanswered, hput, hother, -, hframe⟩ :=
      entryPut_next (go := fun m => Dev.cmdCueWrite m sid index) hs hh
        (granted_of_steward hst (cmdCueWrite_held rfl hfault hpast hlate hidle))
    exact ⟨t, hnext, hanswered, (congrArg Cue.bytes hput :), (congrArg Cue.open_ hput :),
      (congrArg Cue.committed hput :), hother, hframe⟩
  · obtain ⟨hnext, hanswered, hframe⟩ :=
      granted_answered (go := fun _ => Dev.cmdCueRead index) (e := s.dev.showCue index) hs hh
        (granted_of_steward hst rfl) (frame_showCue index.val) (by decide)
    exact ⟨_, hnext, hanswered, (answer_rd ..).trans (showCue_owner ..),
      fun k hk => (answer_rd ..).trans (showCue_bytes hk _), hframe.pages (by decide)⟩
  · by_cases hentry : (s.dev.cueAt index).bytes = []
    · obtain ⟨t, hnext, hanswered, hkept, hframe⟩ := entryAbsent_next (go := fun _ => Dev.cmdCueDelete sid index) hs hh
        (granted_of_steward hst (cmdCueDelete_empty hentry))
      exact ⟨t, hnext, hanswered, (congrArg Cue.bytes (hkept index)).trans hentry, fun k _ => hkept k,
        hframe.mono (by decide) (by decide)⟩
    · obtain ⟨t, hnext, hanswered, hput, hother, -, hframe⟩ :=
        entryPut_next (go := fun _ => Dev.cmdCueDelete sid index) hs hh
          (granted_of_steward hst (cmdCueDelete_idle hentry hst hidle))
      exact ⟨t, hnext, hanswered, congrArg Cue.bytes hput, hother, hframe⟩
  · exact entryRefused_next (go := fun _ => Dev.cmdCueDelete sid index) hs hh
      (granted_of_steward hst (cmdCueDelete_busy hentry hst hbusy))
  · exact entryRefused_next (go := fun _ => Dev.cmdCueDelete sid index) hs hh
      ((asGranted_role _ hkey hrole).trans (cmdCueDelete_notOwner hentry hst howner))
  · obtain ⟨hnext, hanswered, hframe⟩ := granted_answered (go := fun _ => Dev.cmdCapClear) hs hh
      (granted_of_steward hst rfl) (frame_capCleared s.dev) (by decide)
    have hcue := answer_cue sid s.dev.cmdCapClear
    obtain ⟨hcount, hfull⟩ := capCleared_rd s.dev
    exact ⟨_, hnext, hanswered, (congrArg CueSt.cap hcue :), (answer_rd ..).trans hcount, (answer_rd ..).trans hfull,
      (congrArg CueSt.capBy hcue :), hframe⟩
  · exact slotChanged_next (go := fun _ => Dev.cmdLoadSlot port.num slot len.toNat) hs hh
      (granted_of_steward hst (cmdLoadSlot_loaded hok hfree))
  · obtain ⟨t, hnext, hanswered, hreason, hframe⟩ :=
      slotRefused_next (go := fun _ => Dev.cmdLoadSlot port.num slot len.toNat) hs hh
        (granted_of_steward hst (cmdLoadSlot_refused hwhy))
    exact ⟨t, hnext, hanswered, hreason.trans (Nat.mod_eq_of_lt (loadReason_lt ..)), hframe⟩
  · obtain ⟨t, hnext, hanswered, hslot, hother, hframe⟩ :=
      slotChanged_next (go := fun _ => Dev.cmdClearSlot port.num slot) hs hh
        (granted_of_steward hst (cmdClearSlot_cleared hfree hnamed))
    exact ⟨t, hnext, hanswered, congrArg Slot.bytes hslot, hother, hframe⟩
  · exact slotRefused_next (go := fun _ => Dev.cmdClearSlot port.num slot) hs hh
      (granted_of_steward hst (cmdClearSlot_refused hwhy))

end Sys2Proof.Machine
end

section
/-! PROOF. What the updates of sessions and their messages leave as it was (R321, R323, R334), and what a command of
SESS_CTRL leaves. -/

namespace Sys2Proof.Machine

/-! ### Sessions and messages -/

@[simp] theorem sess_modSess_same (k : Nat) (g : Sess → Sess) (d : Dev) : (d.modSess k g).sess k = g (d.sess k) := by
  simp [Dev.sess]

@[simp] theorem sess_modSess_other {k j : Nat} (g : Sess → Sess) (d : Dev) (h : j ≠ k) :
    (d.modSess k g).sess j = d.sess j := by
  simp [Dev.sess, h]

theorem sess_congr {d e : Dev} (h : e.net = d.net) (k : Nat) : e.sess k = d.sess k := by rw [Dev.sess, h, Dev.sess]

section
variable {fs : List Fld} {ps : List Part} {s : State} (d : Dev)

theorem frame_bump {f : Fld} (h : f ∈ fs) : Frame fs ps { s with dev := d } { s with dev := d.bump f } :=
  frame_wr d _ h

theorem frame_taken (typ sid : Nat) (x : RapMsg) (h : .net ∈ ps) :
    Frame fs ps { s with dev := d } { s with dev := d.taken typ sid x } := by
  refine ⟨rfl, fun g _ => Dev.taken_rd d typ sid x g, fun p hp => ?_⟩
  unfold Dev.taken
  cases p with
  | net => exact absurd h hp
  | _ => split <;> rfl

theorem frame_sendRap (p : Path) (base id typ sid len seq : Nat) (l : List Byte) (h : .out ∈ ps) :
    Frame fs ps { s with dev := d } { s with dev := d.sendRap p base id typ sid len seq l } :=
  frame_emit d _ h

theorem frame_sendSealed (x : Sess) (sid typ seq : Nat) (l : List Byte) (h : .out ∈ ps) :
    Frame fs ps { s with dev := d } { s with dev := d.sendSealed x sid typ seq l } :=
  frame_sendRap d _ _ _ _ _ _ _ _ h

theorem frame_accepted (sid seq : Nat) (h : .net ∈ ps) :
    Frame fs ps { s with dev := d } { s with dev := d.accepted sid seq } :=
  frame_modSess d sid _ h

theorem frame_say (sid typ : Nat) (l : List Byte) (hnet : .net ∈ ps) (hout : .out ∈ ps) :
    Frame fs ps { s with dev := d } { s with dev := d.say sid typ l } :=
  (frame_modSess d sid _ hnet).trans (frame_sendSealed _ _ _ _ _ _ hout)

theorem frame_foldl {α : Type} (f : Dev → α → Dev) (l : List α)
    (h : ∀ d, ∀ x ∈ l, Frame fs ps { s with dev := d } { s with dev := f d x }) :
    Frame fs ps { s with dev := d } { s with dev := l.foldl f d } := by
  induction l generalizing d with
  | nil => exact Frame.refl ..
  | cons x l ih => exact (h d x (.head _)).trans (ih (f d x) fun d y hy => h d y (.tail _ hy))

end

/-! ### A host command and its answer -/

/-- A heard command that creates no record is carried out and answered. -/
theorem host_next {sid : Nat} {go : Mem → Dev → Did} {s : State} {e : Dev} {w : Wr} (hh : Heard sid s)
    (hgo : go s.mem s.dev = (e, w)) (hset : e.rcd.drafts = []) :
    s.run (fun m d => d.host sid (go m)) = .next { s with dev := Dev.answer sid (e, w) } := by
  rw [run_next, host_heard _ hh, hgo, commit_none (by simpa using hset)]

/-- A command that changes its own session alone, beside fields, is answered with that change. -/
theorem answered_modSess {sid : Nat} {s : State} {e : Dev} {g : Sess → Sess} (w : Wr)
    (hopen : (g (s.dev.sess sid)).life = .opened) (hout : e.out = s.dev.out) (hnet : e.net = s.dev.net)
    (hclk : e.clk = s.dev.clk) : Answered sid w g s { s with dev := Dev.answer sid (e.modSess sid g, w) } := by
  have hsess : (e.modSess sid g).sess sid = g (s.dev.sess sid) := by rw [sess_modSess_same, sess_congr hnet]
  refine ⟨(answer_out ..).trans (congrArg _ hout), ?_, fun k hk => ?_⟩
  · rw [answer_sess_same (x := (e.modSess sid g, w)) (by simp [Dev.isOpened, hsess, hopen])]
    simp [hsess, hclk]
  · rw [answer_sess_other _ hk, sess_modSess_other _ _ hk, sess_congr hnet]

/-! ### TAKE and RELEASE (R334) -/

/-- A command that has no DETAIL leaves SESS_RESULT with its other fields. -/
theorem sessResult_eq {sid n reason v : Nat} {d : Dev} (h : reason * 2 ^ 24 + n * 2 ^ 20 + 0 * 2 ^ 8 = v) :
    d.sessResult sid n reason 0 = d.modSess sid fun x => { x with result := v } := by
  subst h
  rfl

theorem sessOk_eq (sid n : Nat) (d : Dev) :
    d.sessOk sid n = (d.modSess sid fun x => { x with result := n * 2 ^ 20 }, wrOk) :=
  congrArg (·, wrOk) (sessResult_eq (by omega))

theorem sessRefuse_eq (sid n reason : Nat) (d : Dev) : d.sessRefuse sid n reason =
    (d.modSess sid fun x => { x with result := reason * 2 ^ 24 + n * 2 ^ 20 },
      wrRefused reason SESS_CTRL.CMD.addr) :=
  congrArg (·, wrRefused reason SESS_CTRL.CMD.addr) (sessResult_eq (by omega))

theorem cmdTake_free {m : Mem} {sid : Nat} {f : Func} {d : Dev} (hfree : d.steward f = 0)
    (hrole : roleTakes (d.sess sid).role f = true) (hkey : keyTakes m (d.sess sid).key f = true) :
    d.cmdTake m sid f = (d.wr (SESS_FUNC.STEWARD f.num) sid).sessOk sid f.num := by
  have hother : d.isSteward sid f = false := by simp [Dev.isSteward, hfree, eq_comm]
  simp [Dev.cmdTake, hother, hfree, hrole, hkey]

theorem cmdRelease_steward {sid : Nat} {f : Func} {d : Dev} (h : d.isSteward sid f = true) :
    d.cmdRelease sid f = (d.wr (SESS_FUNC.STEWARD f.num) 0).sessOk sid f.num := if_pos h

/-- An accepted TAKE or RELEASE makes `v` the steward of `f`. -/
theorem stewardSet_next {sid v : Nat} {f : Func} {go : Mem → Dev → Did} {s : State} (hh : Heard sid s)
    (hs : Settled s) (hv : v < 64)
    (hgo : go s.mem s.dev = (s.dev.wr (SESS_FUNC.STEWARD f.num) v).sessOk sid f.num) :
    ∃ t, s.run (fun m d => d.host sid (go m)) = .next t ∧ t.dev.steward f = v ∧
      Answered sid wrOk (fun x => { x with result := f.num * 2 ^ 20 }) s t ∧
      Frame [SESS_FUNC.STEWARD f.num] [.net, .out] s t := by
  rw [sessOk_eq] at hgo
  have hopen : (s.dev.sess sid).life = .opened := by simpa [Dev.isOpened] using hh.1
  refine ⟨_, host_next hh hgo hs, ?_, answered_modSess wrOk hopen rfl rfl rfl,
    ((frame_wr s.dev v (.head _)).trans (frame_modSess _ sid _ (.head _))).trans
      (frame_answered _ sid _ (by decide) (by decide))⟩
  rw [Dev.steward, answer_rd, Dev.rd_modSess, Dev.rd_wr_same]
  exact Nat.mod_eq_of_lt hv

/-- A refused command of SESS_CTRL leaves SESS_RESULT and its answer. -/
theorem sessRefused_next {sid n reason : Nat} {go : Mem → Dev → Did} {s : State} (hh : Heard sid s) (hs : Settled s)
    (hgo : go s.mem s.dev = s.dev.sessRefuse sid n reason) :
    ∃ t, s.run (fun m d => d.host sid (go m)) = .next t ∧
      Answered sid (wrRefused reason SESS_CTRL.CMD.addr)
        (fun x => { x with result := reason * 2 ^ 24 + n * 2 ^ 20 }) s t ∧
      Frame [] [.net, .out] s t := by
  rw [sessRefuse_eq] at hgo
  have hopen : (s.dev.sess sid).life = .opened := by simpa [Dev.isOpened] using hh.1
  exact ⟨_, host_next hh hgo hs, answered_modSess _ hopen rfl rfl rfl,
    (frame_modSess s.dev sid _ (.head _)).trans (frame_answered _ sid _ (by decide) (by decide))⟩

/-- TAKE, as it is heard with the queue `q` behind it (R338). -/
def Dev.takeAmong (q : List Instr) (sid : Nat) (f : Func) (m : Mem) (d : Dev) : Did :=
  if d.steward f = 0 && d.mayTake m f sid && (takers f sid q).any (d.mayTake m f) then
    d.sessRefuse sid f.num sessHeld
  else d.cmdTake m sid f

theorem take_run (sid : Sid) (f : Func) (s : State) :
    exec (.take sid f) s = s.run fun m d => d.host sid.val (Dev.takeAmong s.pending sid.val f m) := rfl

/-- Settles O1: each command is a change of the function's steward or a refusal, with SESS_RESULT and the answer. -/
theorem stewardshipIsTakenAndReleased : Obligations.StewardshipIsTakenAndReleased := by
  refine ⟨fun sid f s hh hs hfree hrole hkey hfirst => ?_, fun sid f s hh hs hfree hrole hkey hlower => ?_,
    fun sid f s hh hs hst => ?_⟩
  · rw [take_run]
    exact stewardSet_next hh hs sid.isLt ((if_neg (by simp [hfirst])).trans (cmdTake_free hfree hrole hkey))
  · rw [take_run]
    have hmay : s.dev.mayTake s.mem f sid.val = true := by simp [Dev.mayTake, hh.1, hrole, hkey]
    exact sessRefused_next hh hs (if_pos (by simp only [hfree, hmay, hlower]; rfl))
  · exact stewardSet_next (go := fun _ => Dev.cmdRelease sid.val f) hh hs (by decide) (cmdRelease_steward hst)

end Sys2Proof.Machine
end

section
/-! PROOF. A module whose supervisor stands in reset is awake, but counts nothing that comes in (R256, R371). -/

namespace Sys2Proof.Machine

theorem rxErr_unheard {s : State} (eth : Eth) (hs : Settled s) (hdead : s.dev.alive = false) :
    exec (.rxErr eth) s = .next s :=
  run_of (f := fun _ d => if d.alive then d.bump (NET_ETH.RX_ERR eth.val) else d) (e := s.dev)
    (if_neg (by simp [hdead])) hs

/-- Refutes O44: its clause on RX_ERR asks of every awake module that the frame is counted. One whose supervisor is in
hold-through is awake, and its count stays 0. -/
theorem not_networkFramesAndErrorsAreHandled : ¬ Obligations.NetworkFramesAndErrorsAreHandled := by
  rintro ⟨-, -, hcounts, -⟩
  let s : State := { State.reset with dev := { Dev.factory with
    pwr := { PwrSt.off with boot := .awake, sup := .holdThrough } } }
  obtain ⟨t, ht, hcount, -⟩ := hcounts 0 s rfl rfl
  obtain rfl : s = t := Host.Outcome.next.inj ((rxErr_unheard 0 rfl rfl).symm.trans ht)
  exact absurd hcount (by decide)

end Sys2Proof.Machine
end

section
/-! PROOF. Messages of an open session (R323, R336): what an accepted and a discarded message leave, and what the close
of a session takes with it (R335). -/

namespace Sys2Proof.Machine

/-! ### What is accepted (R323) -/

section
variable {typ : Nat} {msg : RapMsg} {plain : List Byte} {go : Mem → Dev → Mem × Dev} {s : State}

/-- An authentic message is carried out once its SEQ is taken. -/
theorem message_accepted (hr : Reaches typ msg plain s) (ha : Authentic typ msg plain s) :
    s.dev.message s.mem typ msg plain go =
      go s.mem ((s.dev.taken typ msg.session.toNat msg).accepted msg.session.toNat msg.seq.toNat) := by
  obtain ⟨halive, hlow, hhigh, harrived, hlength⟩ := hr
  obtain ⟨hpath, hsealed, hnew⟩ := ha
  rw [message_arrived halive hlow hhigh harrived hlength, Sess.opens_sealed hpath hsealed, if_pos hnew]

/-- A message that is not accepted is counted. -/
theorem message_discarded (hr : Reaches typ msg plain s) (hno : s.dev.accepts msg.session.toNat msg.seq.toNat
      ((s.dev.sess msg.session.toNat).opens typ msg.session.toNat msg plain) = false) :
    s.dev.message s.mem typ msg plain go =
      (s.mem, (s.dev.taken typ msg.session.toNat msg).bump SESS_CNT.AUTH_FAIL) := by
  obtain ⟨halive, hlow, hhigh, harrived, hlength⟩ := hr
  rw [message_arrived halive hlow hhigh harrived hlength, if_neg (by simp [hno])]

end

theorem accepts_cases {k n : Nat} {b : Bool} {d : Dev} (h : d.accepts k n b = true) :
    d.isOpened k = true ∧ (d.sess k).rxTop ≤ n + 63 := by
  simp only [Dev.accepts, Bool.and_eq_true, Bool.or_eq_true, decide_eq_true_eq] at h
  obtain ⟨⟨hopen, -⟩, hwindow⟩ := h
  exact ⟨hopen, by omega⟩

/-- The session once the message with SEQ `n` is accepted at `clk`. -/
def Sess.accepting (clk n : Nat) (x : Sess) : Sess :=
  { x with rxTop := max x.rxTop n, heard := clk,
           rxSeen := (n :: x.rxSeen).filter fun k => decide (max x.rxTop n ≤ k + 63) }

theorem accepted_eq (k n : Nat) (d : Dev) : d.accepted k n = d.modSess k (Sess.accepting d.clk n) := rfl

@[simp] theorem accepted_sess_same (k n : Nat) (d : Dev) :
    (d.accepted k n).sess k = (d.sess k).accepting d.clk n := sess_modSess_same ..

theorem accepted_sess_other {k j : Nat} (n : Nat) (d : Dev) (h : j ≠ k) : (d.accepted k n).sess j = d.sess j :=
  sess_modSess_other _ _ h

theorem mem_accepting {clk n : Nat} {x : Sess} (h : x.rxTop ≤ n + 63) : n ∈ (x.accepting clk n).rxSeen := by
  simp only [Sess.accepting, List.mem_filter, decide_eq_true_eq]
  exact ⟨.head _, by omega⟩

/-- The session once the module has sent its next message. -/
def Sess.said (x : Sess) : Sess := { x with tx := x.tx + 1 }

theorem say_sess_same (k typ : Nat) (l : List Byte) (d : Dev) : (d.say k typ l).sess k = (d.sess k).said :=
  (Dev.sendSealed_sess ..).trans (sess_modSess_same ..)

theorem say_sess_other {k j : Nat} (typ : Nat) (l : List Byte) (d : Dev) (h : j ≠ k) :
    (d.say k typ l).sess j = d.sess j :=
  (Dev.sendSealed_sess ..).trans (sess_modSess_other _ _ h)

theorem sendSealed_out (x : Sess) (k typ n : Nat) (l : List Byte) (d : Dev) : (d.sendSealed x k typ n l).out =
    .rap x.path (if x.path.num < 2 then none else some (x.base + k))
      (rapFrames x.path typ k l.length n (x.sealed true typ k l.length n l)) :: d.out := rfl

theorem say_out (k typ : Nat) (l : List Byte) (d : Dev) :
    (d.say k typ l).out = (d.sendSealed (d.sess k) k typ (d.sess k).tx l).out := rfl

/-! ### KEEPALIVE (R336) -/

theorem keepalive_next {msg : RapMsg} {plain : List Byte} {s : State} (hs : Settled s)
    (hr : Reaches rapKeepalive msg plain s) (ha : Authentic rapKeepalive msg plain s) :
    exec (.keepalive msg.path msg.toRapGram plain) s = .next { s with
      dev := ((s.dev.taken rapKeepalive msg.session.toNat msg).accepted msg.session.toNat msg.seq.toNat).say
        msg.session.toNat rapKeepalive [] } := by
  change s.runMem (fun m d => d.message m rapKeepalive msg plain
    fun m d => (m, d.say msg.session.toNat rapKeepalive [])) = _
  rw [runMem_next, message_accepted hr ha, commit_none]
  exact (congrArg RecSt.drafts (Dev.taken_rcd ..)).trans hs

/-- A discarded message, of KEEPALIVE or CLOSE, leaves its count. -/
theorem discarded_next {typ : Nat} {msg : RapMsg} {plain : List Byte} {go : Mem → Dev → Mem × Dev} {s : State}
    (hs : Settled s) (hr : Reaches typ msg plain s) (hno : s.dev.accepts msg.session.toNat msg.seq.toNat
      ((s.dev.sess msg.session.toNat).opens typ msg.session.toNat msg plain) = false) :
    ∃ t, (s.runMem fun m d => d.message m typ msg plain go) = .next t ∧
      t.dev.rd SESS_CNT.AUTH_FAIL = min (s.dev.rd SESS_CNT.AUTH_FAIL + 1) 65535 ∧
      (∀ k, t.dev.sess k = s.dev.sess k) ∧ Frame [SESS_CNT.AUTH_FAIL] [.net] s t := by
  refine ⟨{ s with dev := (s.dev.taken typ msg.session.toNat msg).bump SESS_CNT.AUTH_FAIL }, ?_, ?_,
    fun k => Dev.taken_sess .., (frame_taken s.dev _ _ _ (.head _)).trans (frame_bump _ (.head _))⟩
  · rw [runMem_next, message_discarded hr hno, commit_none]
    exact (congrArg RecSt.drafts (Dev.taken_rcd ..)).trans hs
  · exact (Dev.rd_bump_same ..).trans (by rw [Dev.taken_rd]; rfl)

/-- Settles O4: an authentic message is `Dev.accepted`, then answered; any other that reaches the module is counted. -/
theorem acceptedMessagesOfASession : Obligations.AcceptedMessagesOfASession := by
  refine ⟨fun msg plain s hs hr ha => ?_,
    fun msg plain s hs => ⟨fun hr hno => discarded_next hs hr hno, fun hr hno => discarded_next hs hr hno⟩⟩
  obtain ⟨-, hwindow⟩ := accepts_cases ha.2.2
  have hsess : ((s.dev.taken rapKeepalive msg.session.toNat msg).accepted msg.session.toNat msg.seq.toNat).sess
      msg.session.toNat = (s.dev.sess msg.session.toNat).accepting s.dev.clk msg.seq.toNat := by simp
  have hsaid := (say_sess_same msg.session.toNat rapKeepalive []
    ((s.dev.taken rapKeepalive msg.session.toNat msg).accepted msg.session.toNat msg.seq.toNat))
  rw [hsess] at hsaid
  refine ⟨_, keepalive_next hs hr ha, ?_, ?_, ?_, ?_, fun j hj => ?_, ?_,
    ((frame_taken s.dev _ _ _ (.head _)).trans (frame_accepted _ _ _ (.head _))).trans
      (frame_say _ _ _ _ (.head _) (.tail _ (.head _)))⟩
  · exact hsaid.trans (by rw [accepted_sess_same]; rfl)
  · exact (congrArg Sess.heard hsaid :)
  · exact (congrArg Sess.rxTop hsaid :)
  · exact (congrArg Sess.rxSeen hsaid).symm ▸ mem_accepting (clk := s.dev.clk) hwindow
  · rw [say_sess_other _ _ _ hj, accepted_sess_other _ _ hj, Dev.taken_sess]
  · rw [say_out, hsess, sendSealed_out, sendSealed_out]
    exact congrArg (_ :: ·) (Dev.taken_out ..)

/-! ### The close of a session (R335) -/

/-- One function's stewardship ends where the session holds it. -/
def Dev.endStewardship (k : Nat) (d : Dev) (f : Func) : Dev :=
  if d.steward f = k then
    (d.wr (SESS_FUNC.STEWARD f.num) 0).record recStewardLost [BitVec.ofNat 8 f.num, BitVec.ofNat 8 k]
  else d

/-- What a session held besides its stewardships is given back, and its close recorded. -/
def Dev.giveBack (k cause : Nat) (d : Dev) : Dev :=
  ((if d.rd IMG_LOAD_STATUS.OWNER = k then d.loadEnds else d).lrnOwnerLost k).record recSessionClosed
    [BitVec.ofNat 8 k, BitVec.ofNat 8 cause]

/-- All that a session held is given back. -/
def Dev.givenUp (k cause : Nat) (d : Dev) : Dev := (Func.all.foldl (Dev.endStewardship k) d).giveBack k cause

/-- Whether a session that closes is told so. -/
def Dev.tellsClose (k cause : Nat) (d : Dev) : Bool :=
  cause ≠ closeEcc && cause ≠ closeReset && d.portLinked (d.sess k).path.num

/-- A session that closes gives back what it held, is free, and may be told so. -/
theorem closeSession_opened {k : Nat} (cause : Nat) {d : Dev} (h : d.isOpened k = true) : d.closeSession k cause =
    if d.tellsClose k cause then
      ((d.givenUp k cause).modSess k fun _ => .free).sendSealed ((d.givenUp k cause).sess k) k rapClose
        ((d.givenUp k cause).sess k).tx (leBytes 1 cause)
    else (d.givenUp k cause).modSess k fun _ => .free := by
  unfold Dev.closeSession
  rw [if_neg (by simp [h])]
  rfl

theorem closeSession_unopened {k : Nat} (cause : Nat) {d : Dev} (h : d.isOpened k = false) :
    d.closeSession k cause = d := if_pos (by simp [h])

/-! #### What it leaves as it was -/

/-- The fields in which a session's stewardships, load context and learning buffer stand. -/
def heldFlds : List Fld := (List.range 15).map SESS_FUNC.STEWARD ++ [IMG_LOAD_STATUS.OWNER, IMG_LOAD_STATUS.STATE,
  LRN_STATUS.STATE, LRN_STATUS.OWNER, LRN_STATUS.REASON, LRN_STATUS.RESTORE_INCOMPLETE]

/-- The fields of a load context and of the learning buffer. -/
def contextFlds : List Fld := [IMG_LOAD_STATUS.OWNER, IMG_LOAD_STATUS.STATE,
  LRN_STATUS.STATE, LRN_STATUS.OWNER, LRN_STATUS.REASON, LRN_STATUS.RESTORE_INCOMPLETE]

section
variable {fs : List Fld} {ps : List Part} {s : State} (d : Dev)

theorem frame_modLrn (g : LrnSt → LrnSt) (h : .lrn ∈ ps) :
    Frame fs ps { s with dev := d } { s with dev := d.modLrn g } := by
  refine ⟨rfl, fun _ _ => rfl, fun p hp => ?_⟩
  cases p with
  | lrn => exact absurd h hp
  | _ => rfl

theorem frame_endStewardship (k : Nat) (f : Func) (hfld : SESS_FUNC.STEWARD f.num ∈ fs) (hrcd : .rcd ∈ ps) :
    Frame fs ps { s with dev := d } { s with dev := d.endStewardship k f } := by
  unfold Dev.endStewardship
  split
  · exact (frame_wr d 0 hfld).trans (frame_record _ _ _ hrcd)
  · exact Frame.refl ..

theorem frame_loadEnds (h : contextFlds ⊆ fs) : Frame fs ps { s with dev := d } { s with dev := d.loadEnds } := by
  have howner : Frame fs ps { s with dev := d } { s with dev := d.wr IMG_LOAD_STATUS.OWNER 0 } :=
    frame_wr d 0 (h (by decide))
  unfold Dev.loadEnds
  dsimp only
  split
  · exact howner
  · exact howner.trans (frame_wr _ _ (h (by decide)))

theorem frame_bufferIdle (h : contextFlds ⊆ fs) (hlrn : .lrn ∈ ps) :
    Frame fs ps { s with dev := d } { s with dev := d.bufferIdle } :=
  ((frame_wr d 0 (h (by decide))).trans (frame_wr _ 0 (h (by decide)))).trans (frame_modLrn _ _ hlrn)

theorem frame_lrnOwnerLost (k : Nat) (h : contextFlds ⊆ fs) (hlrn : .lrn ∈ ps) :
    Frame fs ps { s with dev := d } { s with dev := d.lrnOwnerLost k } := by
  unfold Dev.lrnOwnerLost
  dsimp only
  split
  · split
    · exact ((frame_wr d 1 (h (by decide))).trans (frame_wr _ 9 (h (by decide)))).trans (frame_bufferIdle _ h hlrn)
    · exact frame_bufferIdle d h hlrn
  · exact Frame.refl ..

theorem frame_giveBack (k cause : Nat) (h : contextFlds ⊆ fs) (hlrn : .lrn ∈ ps) (hrcd : .rcd ∈ ps) :
    Frame fs ps { s with dev := d } { s with dev := d.giveBack k cause } := by
  have hload : Frame fs ps { s with dev := d }
      { s with dev := if d.rd IMG_LOAD_STATUS.OWNER = k then d.loadEnds else d } := by
    split
    · exact frame_loadEnds d h
    · exact Frame.refl ..
  exact (hload.trans (frame_lrnOwnerLost _ k h hlrn)).trans (frame_record _ _ _ hrcd)

theorem steward_mem_heldFlds (f : Func) : SESS_FUNC.STEWARD f.num ∈ heldFlds := by
  cases f <;> decide

theorem frame_givenUp (k cause : Nat) :
    Frame heldFlds [.lrn, .rcd] { s with dev := d } { s with dev := d.givenUp k cause } :=
  (frame_foldl d _ _ fun d f _ => frame_endStewardship d k f (steward_mem_heldFlds f) (.tail _ (.head _))).trans
    (frame_giveBack _ k cause (List.subset_append_right ..) (.head _) (.tail _ (.head _)))

theorem frame_closeSession (k cause : Nat) :
    Frame heldFlds [.net, .out, .lrn, .rcd] { s with dev := d } { s with dev := d.closeSession k cause } := by
  cases hopen : d.isOpened k with
  | false => rw [closeSession_unopened cause hopen]; exact Frame.refl ..
  | true =>
    have hfreed : Frame heldFlds [.net, .out, .lrn, .rcd] { s with dev := d }
        { s with dev := (d.givenUp k cause).modSess k fun _ => .free } :=
      ((frame_givenUp d k cause).mono (List.Subset.refl _) (by decide)).trans (frame_modSess _ _ _ (.head _))
    rw [closeSession_opened cause hopen]
    split
    · exact hfreed.trans (frame_sendSealed _ _ _ _ _ _ (.tail _ (.head _)))
    · exact hfreed

end

/-! #### What it gives back -/

section
variable {k cause : Nat} {d : Dev}

/-- What a session that closes leaves of the fields and the sessions is that of its giving back. -/
theorem closeSession_rd (hopen : d.isOpened k = true) (g : Fld) :
    (d.closeSession k cause).rd g = (d.givenUp k cause).rd g := by
  rw [closeSession_opened cause hopen]
  split
  · rw [Dev.sendSealed_rd, Dev.rd_modSess]
  · rw [Dev.rd_modSess]

theorem givenUp_net : (d.givenUp k cause).net = d.net :=
  (frame_givenUp (s := State.reset) d k cause).same (p := .net) (by decide)

theorem givenUp_sess (j : Nat) : (d.givenUp k cause).sess j = d.sess j := sess_congr givenUp_net j

theorem closeSession_sess_same (hopen : d.isOpened k = true) : (d.closeSession k cause).sess k = .free := by
  rw [closeSession_opened cause hopen]
  split
  · rw [Dev.sendSealed_sess, sess_modSess_same]
  · rw [sess_modSess_same]

theorem closeSession_sess_other (hopen : d.isOpened k = true) {j : Nat} (h : j ≠ k) :
    (d.closeSession k cause).sess j = d.sess j := by
  rw [closeSession_opened cause hopen]
  split
  · rw [Dev.sendSealed_sess, sess_modSess_other _ _ h, givenUp_sess]
  · rw [sess_modSess_other _ _ h, givenUp_sess]

theorem func_all_num (f : Func) : Func.all[f.num]? = some f := by cases f <;> rfl

theorem steward_key_ne {f g : Func} (h : f ≠ g) :
    (SESS_FUNC.STEWARD f.num).key ≠ (SESS_FUNC.STEWARD g.num).key := by
  have hnum : f.num ≠ g.num := fun hn =>
    h (Option.some.inj ((func_all_num f).symm.trans (hn ▸ func_all_num g)))
  simp only [Fld.key]
  omega

/-- A turn of the loop ends the stewardship of its function. -/
theorem endStewardship_same (hk : k ≠ 0) (f : Func) : (d.endStewardship k f).steward f ≠ k := by
  unfold Dev.endStewardship
  split
  · rw [Dev.steward, Dev.rd_record, Dev.rd_wr_same]
    exact fun h => hk (by simpa using h.symm)
  · assumption

/-- No turn makes the session steward. -/
theorem endStewardship_keeps (hk : k ≠ 0) {f : Func} (g : Func) (h : d.steward f ≠ k) :
    (d.endStewardship k g).steward f ≠ k := by
  by_cases hfg : f = g
  · exact hfg ▸ endStewardship_same hk f
  · have hkept : (d.endStewardship k g).steward f = d.steward f :=
      rd_of_frame (s := State.reset) (fs := [SESS_FUNC.STEWARD g.num])
        (frame_endStewardship (ps := [.rcd]) d k g (.head _) (.head _)) (by simpa using steward_key_ne hfg)
    rwa [hkept]

theorem foldl_endStewardship (hk : k ≠ 0) {f : Func} {l : List Func} (h : f ∈ l ∨ d.steward f ≠ k) :
    (l.foldl (Dev.endStewardship k) d).steward f ≠ k := by
  induction l generalizing d with
  | nil => exact h.resolve_left (List.not_mem_nil)
  | cons g l ih =>
    refine ih ?_
    rcases h with hmem | hnot
    · rcases List.mem_cons.1 hmem with rfl | hmem
      · exact .inr (endStewardship_same hk f)
      · exact .inl hmem
    · exact .inr (endStewardship_keeps hk g hnot)

theorem context_key_ne_steward (f : Func) : ∀ g ∈ contextFlds, (SESS_FUNC.STEWARD f.num).key ≠ g.key := by
  cases f <;> decide

theorem givenUp_steward (hk : k ≠ 0) (f : Func) : (d.givenUp k cause).steward f ≠ k := by
  have hkept : (d.givenUp k cause).steward f = (Func.all.foldl (Dev.endStewardship k) d).steward f :=
    rd_of_frame (s := State.reset) (frame_giveBack (ps := [.lrn, .rcd]) _ k cause (List.Subset.refl _) (.head _)
      (.tail _ (.head _))) (context_key_ne_steward f)
  rw [hkept]
  exact foldl_endStewardship hk (.inl (by cases f <;> decide))

theorem loadEnds_owner : d.loadEnds.rd IMG_LOAD_STATUS.OWNER = 0 := by
  unfold Dev.loadEnds
  dsimp only
  split
  · exact Dev.rd_wr_same ..
  · exact (Dev.rd_wr_other _ _ (by decide)).trans (Dev.rd_wr_same ..)

theorem lrnOwnerLost_loadOwner : (d.lrnOwnerLost k).rd IMG_LOAD_STATUS.OWNER = d.rd IMG_LOAD_STATUS.OWNER := by
  unfold Dev.lrnOwnerLost Dev.bufferIdle
  dsimp only
  split
  · split <;> simp (disch := decide)
  · rfl

theorem lrnOwnerLost_owner (hk : k ≠ 0) : (d.lrnOwnerLost k).lrnOwner ≠ k := by
  unfold Dev.lrnOwnerLost
  dsimp only
  split
  · have hidle : ∀ e : Dev, e.bufferIdle.lrnOwner = 0 := fun e =>
      Dev.rd_wr_same (e.wr LRN_STATUS.STATE 0) LRN_STATUS.OWNER 0
    rw [hidle]
    exact hk.symm
  · rename_i h
    simpa [hk] using h

theorem giveBack_loadOwner (hk : k ≠ 0) : (d.giveBack k cause).rd IMG_LOAD_STATUS.OWNER ≠ k := by
  rw [Dev.giveBack, Dev.rd_record, lrnOwnerLost_loadOwner]
  split
  · rw [loadEnds_owner]
    exact hk.symm
  · assumption

theorem giveBack_lrnOwner (hk : k ≠ 0) : (d.giveBack k cause).lrnOwner ≠ k := by
  rw [Dev.lrnOwner, Dev.giveBack, Dev.rd_record]
  exact lrnOwnerLost_owner hk

/-- What is left of an open session that closes. -/
theorem closeSession_holds_nothing {e : Dev} (hk : k ≠ 0) (hopen : d.isOpened k = true)
    (he : (d.closeSession k cause).commit = e) :
    e.sess k = .free ∧ (∀ j, j ≠ k → e.sess j = d.sess j) ∧ (∀ f, e.isSteward k f = false) ∧
      e.rd IMG_LOAD_STATUS.OWNER ≠ k ∧ e.lrnOwner ≠ k := by
  have hsess : ∀ j, e.sess j = (d.closeSession k cause).sess j := sess_congr (he ▸ Dev.commit_net _)
  have hrd : ∀ g, e.rd g = (d.givenUp k cause).rd g := fun g =>
    he ▸ (Dev.rd_commit _ g).trans (closeSession_rd hopen g)
  refine ⟨(hsess k).trans (closeSession_sess_same hopen),
    fun j hj => (hsess j).trans (closeSession_sess_other hopen hj), fun f => ?_, ?_, ?_⟩
  · have hsteward : e.steward f ≠ k := by
      rw [Dev.steward, hrd]
      exact givenUp_steward hk f
    simp [Dev.isSteward, hsteward]
  · rw [hrd]
    exact giveBack_loadOwner hk
  · rw [Dev.lrnOwner, hrd]
    exact giveBack_lrnOwner hk

end

theorem accepted_isOpened {k : Nat} (n : Nat) {d : Dev} (h : d.isOpened k = true) :
    (d.accepted k n).isOpened k = true := by
  rw [Dev.isOpened, accepted_sess_same]
  exact h

theorem rapClose_next {msg : RapMsg} {plain : List Byte} {s : State} (hr : Reaches rapClose msg plain s)
    (ha : Authentic rapClose msg plain s) : exec (.rapClose msg.path msg.toRapGram plain) s = .next { s with
      dev := (((s.dev.taken rapClose msg.session.toNat msg).accepted msg.session.toNat msg.seq.toNat).closeSession
        msg.session.toNat closeHost).commit } := by
  change s.runMem (fun m d => d.message m rapClose msg plain
    fun m d => (m, d.closeSession msg.session.toNat closeHost)) = _
  rw [runMem_next, message_accepted hr ha]

/-- Settles O5: CLOSE and the idle timeout are `Dev.closeSession`, after which the session holds nothing. -/
theorem closedSessionHoldsNothing : Obligations.ClosedSessionHoldsNothing := by
  refine ⟨fun msg plain s hr ha => ?_, fun sid s hsid halive hopen => ?_⟩
  · obtain ⟨hopen, -⟩ := accepts_cases ha.2.2
    have htaken : (s.dev.taken rapClose msg.session.toNat msg).isOpened msg.session.toNat = true := by
      simpa [Dev.isOpened] using hopen
    have ⟨_, hpos, _⟩ := hr
    obtain ⟨hfree, hother, hsteward, hload, hlrn⟩ := closeSession_holds_nothing (cause := closeHost)
      (Nat.ne_of_gt hpos) (accepted_isOpened msg.seq.toNat htaken) rfl
    refine ⟨_, rapClose_next hr ha, hfree, fun j hj => ?_, hsteward, hload, hlrn,
      (((frame_taken s.dev _ _ _ (.head _)).trans (frame_accepted _ _ _ (.head _))).trans
        (frame_closeSession _ _ closeHost)).trans (frame_commit _ (by decide))⟩
    exact (hother j hj).trans ((accepted_sess_other _ _ hj).trans (Dev.taken_sess ..))
  · have hrun : exec (.idleTimeout sid) s = .next { s with dev := (s.dev.closeSession sid.val closeIdle).commit } :=
      run_rec (f := fun _ d => if d.alive then d.closeSession sid.val closeIdle else d) (if_pos halive)
    obtain ⟨hfree, hother, hsteward, hload, hlrn⟩ := closeSession_holds_nothing hsid hopen rfl
    exact ⟨_, hrun, hfree, hother, hsteward, hload, hlrn,
      (frame_closeSession s.dev sid.val closeIdle).trans (frame_commit _ (by decide))⟩

end Sys2Proof.Machine
end

section
/-! PROOF. The establishment of a session (R326 to R328): HELLO, FINISH and the establishment's timeout. -/

namespace Sys2Proof.Machine

/-! ### What a message that is taken leaves of the sessions -/

section
variable (d : Dev) (typ sid : Nat) (x : RapMsg)

@[simp] theorem taken_freeSid : (d.taken typ sid x).freeSid = d.freeSid := by simp [Dev.freeSid]

@[simp] theorem taken_establishing : (d.taken typ sid x).establishing = d.establishing := by simp [Dev.establishing]

@[simp] theorem taken_isOpened (k : Nat) : (d.taken typ sid x).isOpened k = d.isOpened k := by simp [Dev.isOpened]

@[simp] theorem taken_openSessions : (d.taken typ sid x).openSessions = d.openSessions :=
  congrArg (List.filter · (List.range 64)) (funext (taken_isOpened d typ sid x))

@[simp] theorem taken_openUnder (key : Nat) : (d.taken typ sid x).openUnder key = d.openUnder key := by
  simp [Dev.openUnder]

@[simp] theorem taken_stage : (d.taken typ sid x).stage = d.stage := by simp [Dev.stage]

@[simp] theorem taken_pruneFull : (d.taken typ sid x).pruneFull = d.pruneFull := by
  unfold Dev.pruneFull Dev.sessLimit
  rw [taken_stage, taken_openSessions]

@[simp] theorem taken_pathIdle (p : Path) : (d.taken typ sid x).pathIdle p = d.pathIdle p := by
  cases p <;> simp [Dev.pathIdle, Dev.on]

end

/-! ### HELLO (R326) -/

theorem Role.ofNum_lt {n : Nat} {r : Role} (h : Role.ofNum n = some r) : n < 6 := by
  unfold Role.ofNum at h
  split at h <;> simp_all

/-- A HELLO that passes every row of R328. -/
theorem helloFault_none {m : Mem} {path : Path} {key role roles paths top idle : Nat} {d : Dev}
    (hkey : keyRights m key = some (roles, paths, top, idle)) (hnum : role < 6) (hrole : roles.testBit role = true)
    (hpath : paths.testBit path.num = true) (htop : d.openUnder key < top) (hprune : d.pruneFull = false)
    (hfree : d.freeSid.isNone = false) (hroom : d.establishing.length < 4)
    (hcan : 2 ≤ path.num → (d.establishing.any fun j => (d.sess j).path = path) = false) :
    d.helloFault m path true key role = 0 := by
  have hone : (decide (2 ≤ path.num) && d.establishing.any fun j => (d.sess j).path = path) = false := by
    by_cases h : 2 ≤ path.num
    · simp [hcan h]
    · simp [h]
  simp only [Dev.helloFault, hkey]
  rw [if_neg (by simp), if_neg (by simp [hrole]; omega), if_neg (by simp [hpath]), if_neg (by omega),
    if_neg (by simp [hprune]), if_neg (by simp [hfree]), if_neg (by simp only [hone]; simp; omega)]

theorem hello_challenged {m : Mem} {msg : RapMsg} {roles paths top idle k : Nat} {r : Role} {d : Dev}
    (hon : d.rapOn m msg.path = true) (harrived : d.arrived rapHello 0 msg = true)
    (hkey : keyRights m (helloKey msg.body) = some (roles, paths, top, idle))
    (hr : Role.ofNum (helloRole msg.body) = some r) (hfree : d.freeSid = some k)
    (hfault : (d.taken rapHello 0 msg).helloFault m msg.path (helloFormed msg.body) (helloKey msg.body)
      (helloRole msg.body) = 0) :
    d.hello m msg = (d.taken rapHello 0 msg).challenged m k idle r msg := by
  unfold Dev.hello
  rw [if_neg (by simp [hon, harrived])]
  simp only [taken_freeSid, hfree, hkey, hr, hfault]
  rfl

/-- The establishment that a HELLO begins. -/
def establishmentOf (m : Mem) (msg : RapMsg) (idle : Nat) (r : Role) (d : Dev) : Sess :=
  { Sess.free with
    life := .establishing, key := helloKey msg.body, role := r, path := msg.path, idle := idle, heard := d.clk
    base := rapBase m msg.path, hello := msg.body, challenge := challengeOf (leBytes 16 (Config.freeNat d.free))
      (leBytes 32 (Config.freeNat (d.free + 1))) idle
    eph := leBytes 32 (Config.freeNat (d.free + 1)) }

theorem challenged_eq (m : Mem) (k idle : Nat) (r : Role) (msg : RapMsg) (d : Dev) : d.challenged m k idle r msg =
    ({ d with free := d.free + 2 }.modSess k fun _ => establishmentOf m msg idle r d).sendRap msg.path
      (rapBase m msg.path) 0 rapChallenge k 148 0 (establishmentOf m msg idle r d).challenge := rfl

/-! ### FINISH (R326 to R328) -/

/-- A FINISH that passes every row of R328. -/
theorem finishFault_none {m : Mem} {k roles paths top idle : Nat} {d : Dev}
    (hkey : keyRights m (d.sess k).key = some (roles, paths, top, idle))
    (hrole : roles.testBit (d.sess k).role.num = true) (hpath : paths.testBit (d.sess k).path.num = true)
    (htop : d.openUnder (d.sess k).key < top) (hprune : d.pruneFull = false)
    (hidle : d.pathIdle (d.sess k).path = false) : d.finishFault m k true true = 0 := by
  simp only [Dev.finishFault, hkey]
  rw [if_neg (by simp), if_neg (by simp [hrole]), if_neg (by simp [hpath]), if_neg (by omega),
    if_neg (by simp [hprune, hidle]), if_neg (by simp)]

/-- The DATA of SESSION_OPENED. -/
def openedData (k : Nat) (x : Sess) : List Byte :=
  leBytes 1 k ++ leBytes 2 x.key ++ leBytes 1 x.role.num ++ leBytes 1 x.path.num

/-- The session `x`, established and confirmed, opens: it is recorded and answered. -/
def Dev.opensAs (k : Nat) (x : Sess) (d : Dev) : Dev :=
  ((d.modSess k fun _ => x.opening d.clk).record recSessionOpened (openedData k x)).sendRap x.path x.base 0 rapAccept 0 36
    0 (x.sealed true rapAccept 0 36 0 (acceptOf k x))

theorem finish_opens {m : Mem} {k : Nat} {msg : RapMsg} {d : Dev} (halive : d.alive = true)
    (hlife : (d.sess k).life = .establishing) (hpath : (d.sess k).path = msg.path)
    (harrived : d.arrived rapFinish k msg = true) (hseq : msg.seq = 0)
    (hbody : msg.body = ((d.sess k).keyed m k).sealed false rapFinish 0 32 0 ((d.sess k).th k))
    (hfault : (d.taken rapFinish k msg).finishFault m k true true = 0) :
    d.finish m k msg = (d.taken rapFinish k msg).opensAs k ((d.sess k).keyed m k) := by
  have hlength : msg.body.length = 48 := by rw [hbody, Sess.sealed_length]
  have hconfirmed : msg.body =
      ((d.sess k).keyed m k).sealed false rapFinish 0 32 0 (((d.sess k).keyed m k).th k) := hbody
  unfold Dev.finish
  rw [if_neg (by simp [halive, hlife, hpath, harrived])]
  simp only [hlength, hseq, ← hconfirmed]
  simp only [decide_true, Bool.and_true, hfault]
  rfl

section
variable {fs : List Fld} {ps : List Part} {s : State} (d : Dev)

/-- The count of free values is no part. -/
theorem frame_free (n : Nat) : Frame fs ps { s with dev := d } { s with dev := { d with free := n } } :=
  ⟨rfl, fun _ _ => rfl, fun p _ => by cases p <;> rfl⟩

theorem frame_opensAs (k : Nat) (x : Sess) (hnet : .net ∈ ps) (hout : .out ∈ ps) (hrcd : .rcd ∈ ps) :
    Frame fs ps { s with dev := d } { s with dev := d.opensAs k x } :=
  ((frame_modSess d k _ hnet).trans (frame_record _ _ _ hrcd)).trans (frame_sendRap _ _ _ _ _ _ _ _ _ hout)

end

theorem opensAs_sess_same (k : Nat) (x : Sess) (d : Dev) : (d.opensAs k x).sess k = x.opening d.clk := by
  rw [Dev.opensAs, Dev.sendRap_sess, sess_congr (Dev.record_net ..), sess_modSess_same]

theorem opensAs_sess_other {k j : Nat} (x : Sess) (d : Dev) (h : j ≠ k) : (d.opensAs k x).sess j = d.sess j := by
  rw [Dev.opensAs, Dev.sendRap_sess, sess_congr (Dev.record_net ..), sess_modSess_other _ _ h]

theorem opensAs_out (k : Nat) (x : Sess) (d : Dev) : (d.opensAs k x).out =
    (d.sendRap x.path x.base 0 rapAccept 0 36 0 (x.sealed true rapAccept 0 36 0 (acceptOf k x))).out :=
  congrArg (_ :: ·) (Dev.record_out ..)

/-! ### REJECT (R328) -/

theorem reject_known {m : Mem} {path : Path} {key code : Nat} {d : Dev} (h : (keyRights m key).isSome = true) :
    d.reject m path key code =
      ((d.sendRap path (rapBase m path) 0 rapReject 0 1 0 (leBytes 1 code)).bump SESS_CNT.REJECTED).record
        recSessionRejected (leBytes 2 key ++ leBytes 1 code) := if_pos h

/-- The establishment `k` is dropped, and its host told why and counted. -/
def Dev.dropped (m : Mem) (k code : Nat) (d : Dev) : Dev :=
  ((d.modSess k fun _ => .free).sendRap (d.sess k).path (rapBase m (d.sess k).path) 0 rapReject 0 1 0
    (leBytes 1 code)).bump SESS_CNT.REJECTED

/-- What the timeout of the establishment `k` does (R328). -/
def Dev.establishTimedOut (m : Mem) (k : Nat) (d : Dev) : Dev :=
  if !d.alive || (d.sess k).life ≠ .establishing then d
  else (d.modSess k fun _ => .free).reject m (d.sess k).path (d.sess k).key 10

theorem frame_dropped {s : State} (m : Mem) (k code : Nat) (d : Dev) :
    Frame [SESS_CNT.REJECTED] [.net, .out] { s with dev := d } { s with dev := d.dropped m k code } :=
  ((frame_modSess d k _ (.head _)).trans (frame_sendRap _ _ _ _ _ _ _ _ _ (.tail _ (.head _)))).trans
    (frame_bump _ (.head _))

/-- A HELLO that is taken and challenged leaves the establishment it begins. -/
theorem challenged_next {msg : RapMsg} {idle k : Nat} {r : Role} {s : State} (hs : Settled s)
    (hdev : s.dev.hello s.mem msg = (s.dev.taken rapHello 0 msg).challenged s.mem k idle r msg) :
    ∃ t, exec (.hello msg.path msg.toRapHead msg.seq msg.body) s = .next t ∧
      t.dev.sess k = establishmentOf s.mem msg idle r s.dev ∧ (∀ j, j ≠ k → t.dev.sess j = s.dev.sess j) ∧
      t.dev.out = (s.dev.sendRap msg.path (rapBase s.mem msg.path) 0 rapChallenge k 148 0
        (establishmentOf s.mem msg idle r s.dev).challenge).out ∧
      Frame [] [.net, .out] s t := by
  have htaken : establishmentOf s.mem msg idle r (s.dev.taken rapHello 0 msg) =
      establishmentOf s.mem msg idle r s.dev := by
    simp [establishmentOf]
  rw [challenged_eq, htaken] at hdev
  refine ⟨_, run_of (f := fun m d => d.hello m msg) hdev ((congrArg RecSt.drafts (Dev.taken_rcd ..)).trans hs),
    ?_, fun j hj => ?_, ?_, ?_⟩
  · rw [Dev.sendRap_sess, sess_modSess_same]
  · rw [Dev.sendRap_sess, sess_modSess_other _ _ hj]
    exact Dev.taken_sess ..
  · rw [Dev.sendRap_out, Dev.sendRap_out]
    exact congrArg (_ :: ·) (Dev.taken_out ..)
  · exact (((frame_taken s.dev _ _ _ (.head _)).trans (frame_free _ _)).trans (frame_modSess _ _ _ (.head _))).trans
      (frame_sendRap _ _ _ _ _ _ _ _ _ (.tail _ (.head _)))

/-- A FINISH that is taken and confirmed leaves an open session. -/
theorem opened_next {sid : Sid} {msg : RapMsg} {x : Sess} {s : State}
    (hdev : s.dev.finish s.mem sid.val msg = (s.dev.taken rapFinish sid.val msg).opensAs sid.val x) :
    ∃ t, exec (.finish sid msg.path msg.toRapGram) s = .next t ∧
      t.dev.sess sid.val = x.opening s.dev.clk ∧ (∀ j, j ≠ sid.val → t.dev.sess j = s.dev.sess j) ∧
      t.dev.out = (s.dev.sendRap x.path x.base 0 rapAccept 0 36 0
        (x.sealed true rapAccept 0 36 0 (acceptOf sid.val x))).out ∧
      Recorded [(recSessionOpened, openedData sid.val x)] s t ∧ Frame [] [.net, .out, .rcd] s t := by
  refine ⟨_, run_rec (f := fun m d => d.finish m sid.val msg) hdev, ?_, fun j hj => ?_, ?_, ?_, ?_⟩
  · refine (opensAs_sess_same ..).trans (congrArg (x.opening ·) (Dev.taken_clk ..))
  · exact (opensAs_sess_other _ _ hj).trans (Dev.taken_sess ..)
  · exact (opensAs_out ..).trans (congrArg (_ :: ·) (Dev.taken_out ..))
  · exact recorded_commit (fs := []) (ps := [.net]) recSessionOpened (openedData sid.val x)
      ((frame_taken s.dev _ _ _ (.head _)).trans (frame_modSess _ _ _ (.head _))) (by decide) (by simp)
  · exact ((frame_taken s.dev _ _ _ (.head _)).trans
      (frame_opensAs _ _ _ (.head _) (.tail _ (.head _)) (by decide))).trans (frame_commit _ (by decide))

/-- The establishment of a known key that waits no longer leaves its ID free and its rejection. -/
theorem timeout_next {sid : Sid} {s : State} (halive : s.dev.alive = true)
    (hlife : (s.dev.sess sid.val).life = .establishing)
    (hkey : (keyRights s.mem (s.dev.sess sid.val).key).isSome = true) :
    ∃ t, exec (.establishTimeout sid) s = .next t ∧ t.dev.sess sid.val = .free ∧
      (∀ j, j ≠ sid.val → t.dev.sess j = s.dev.sess j) ∧
      t.dev.out = (s.dev.sendRap (s.dev.sess sid.val).path (rapBase s.mem (s.dev.sess sid.val).path) 0 rapReject 0 1 0
        (leBytes 1 10)).out ∧
      t.dev.rd SESS_CNT.REJECTED = min (s.dev.rd SESS_CNT.REJECTED + 1) 65535 ∧
      Recorded [(recSessionRejected, leBytes 2 (s.dev.sess sid.val).key ++ leBytes 1 10)] s t ∧
      Frame [SESS_CNT.REJECTED] [.net, .out, .rcd] s t := by
  have hrun : exec (.establishTimeout sid) s = s.run fun m d => d.establishTimedOut m sid.val := rfl
  have hdev : s.dev.establishTimedOut s.mem sid.val =
      (s.dev.dropped s.mem sid.val 10).record recSessionRejected (leBytes 2 (s.dev.sess sid.val).key ++ leBytes 1 10) :=
    (if_neg (by simp [halive, hlife])).trans (reject_known hkey)
  refine ⟨_, hrun.trans (run_rec hdev), ?_, fun j hj => ?_, ?_, ?_, ?_, ?_⟩
  · exact (sess_congr (Dev.record_net ..) _).trans (sess_modSess_same ..)
  · exact (sess_congr (Dev.record_net ..) _).trans (sess_modSess_other _ _ hj)
  · exact Dev.record_out ..
  · exact (Dev.rd_record ..).trans (Dev.rd_bump_same ..)
  · exact recorded_commit recSessionRejected _ (frame_dropped s.mem sid.val 10 s.dev) (by decide) (by decide)
  · exact (((frame_dropped s.mem sid.val 10 s.dev).mono (List.Subset.refl _) (by decide)).trans
      (frame_record _ _ _ (by decide))).trans (frame_commit _ (by decide))

/-- Settles O3: each row of R328 is passed, so that HELLO and FINISH leave what `challenged_next` and `opened_next`
say. -/
theorem helloAndFinishOpenASession : Obligations.HelloAndFinishOpenASession := by
  refine ⟨fun msg roles paths top idle k r s hs hon harrived hformed hkey hr hrole hpath htop hprune hfree hroom hcan =>
      ?_, fun sid msg roles paths top idle s hs halive hlife hpath harrived hseq hbody hkey hrole hpaths htop hprune
      hidle => ?_, fun sid s halive hlife hkey => ?_⟩
  · have hfault : (s.dev.taken rapHello 0 msg).helloFault s.mem msg.path (helloFormed msg.body) (helloKey msg.body)
        (helloRole msg.body) = 0 := by
      rw [hformed]
      exact helloFault_none hkey (Role.ofNum_lt hr) hrole hpath (by simpa using htop) (by simpa using hprune)
        (by simp [hfree]) (by simpa using hroom) (by simpa using hcan)
    exact challenged_next hs (hello_challenged hon harrived hkey hr hfree hfault)
  · have hfault : (s.dev.taken rapFinish sid.val msg).finishFault s.mem sid.val true true = 0 :=
      finishFault_none (by simpa using hkey) (by simpa using hrole) (by simpa using hpaths) (by simpa using htop)
        (by simpa using hprune) (by simpa using hidle)
    obtain ⟨t, hnext, hsess, hother, hout, hrecorded, hframe⟩ :=
      opened_next (finish_opens halive hlife hpath harrived hseq hbody hfault)
    exact ⟨t, hnext, hsess, hother, hout.trans (by rw [← hpath]; rfl), hrecorded, hframe⟩
  · exact timeout_next halive hlife hkey

end Sys2Proof.Machine
end

section
/-! PROOF. Command registers refuse a CMD value that their field table does not list (R417). -/

namespace Sys2Proof.Machine

/-- The command registers of a function's steward, with the REASON field of their refusals and their highest CMD value,
in the order of the statement. -/
def commandRegisters : List (Func × Fld × Fld × Nat) :=
  [(.acq, PORT_SWAP_CTRL.CMD, PORT_SWAP_STATUS.REASON, 2), (.lrn, LRN_CTRL.CMD, LRN_STATUS.REASON, 7),
    (.seq, SEQ_CTRL.CMD, SEQ_RESULT.REASON, 8), (.bal, BAL_CTRL.CMD, BAL_STATUS.REASON, 4),
    (.cue, CUE_CTRL.CMD, CUE_RESULT.REASON, 4), (.cue, CUE_FQ_CTRL.CMD, CUE_RESULT.REASON, 2)]

/-- The CMD value is none of those from 1 to `top`. -/
def Unlisted (cmd : Fld) (top v : Nat) : Prop := cmd.of v = 0 ∨ top < cmd.of v

/-! ### The refusal, register by register -/

section
variable {m : Mem} {sid v : Nat} {l : List Fld} {d : Dev}

/-- A refusal with BAD_COMMAND, shown in `reason`. -/
def Dev.refuseCommand (reason : Fld) (a : Nat) (d : Dev) : Did := (d.wr reason 0xFF, wrRefused 0xFF a)

theorem writeSwap_unlisted (h : Unlisted PORT_SWAP_CTRL.CMD 2 v) :
    d.writeSwap v = d.refuseCommand PORT_SWAP_STATUS.REASON PORT_SWAP_CTRL.CMD.addr := by
  unfold Unlisted at h
  unfold Dev.writeSwap
  split
  · omega
  · omega
  · rfl

theorem writeLrn_unlisted (h : Unlisted LRN_CTRL.CMD 7 v) :
    d.writeLrn m sid LRN_CTRL.CMD.addr l v = d.refuseCommand LRN_STATUS.REASON LRN_CTRL.CMD.addr := by
  unfold Unlisted at h
  unfold Dev.writeLrn
  dsimp only
  rw [if_pos (show LRN_CTRL.CMD.addr = lrnCtrl from rfl)]
  split
  case h_8 => rfl
  all_goals omega

theorem writeSeq_unlisted (h : Unlisted SEQ_CTRL.CMD 8 v) :
    d.writeSeq m sid SEQ_CTRL.CMD.addr l v = d.refuseCommand SEQ_RESULT.REASON SEQ_CTRL.CMD.addr := by
  unfold Unlisted at h
  unfold Dev.writeSeq
  dsimp only
  rw [if_neg (by decide), if_pos rfl]
  split
  case h_9 => rfl
  all_goals omega

theorem writeBal_unlisted (h : Unlisted BAL_CTRL.CMD 4 v) :
    d.writeBal m sid BAL_CTRL.CMD.addr l v = d.refuseCommand BAL_STATUS.REASON BAL_CTRL.CMD.addr := by
  unfold Unlisted at h
  unfold Dev.writeBal
  dsimp only
  rw [if_pos (show BAL_CTRL.CMD.addr = balCtrl from rfl)]
  split
  case h_5 => rfl
  all_goals omega

theorem writeCue_unlisted (h : Unlisted CUE_CTRL.CMD 4 v) :
    d.writeCue m sid CUE_CTRL.CMD.addr l v = d.refuseCommand CUE_RESULT.REASON CUE_CTRL.CMD.addr := by
  unfold Unlisted at h
  unfold Dev.writeCue
  dsimp only
  rw [if_pos rfl]
  split
  case h_5 => rfl
  all_goals omega

theorem writeCueFq_unlisted (h : Unlisted CUE_FQ_CTRL.CMD 2 v) :
    d.writeCue m sid CUE_FQ_CTRL.CMD.addr l v = d.refuseCommand CUE_RESULT.REASON CUE_FQ_CTRL.CMD.addr := by
  unfold Unlisted at h
  unfold Dev.writeCue
  dsimp only
  rw [if_neg (by decide), if_pos rfl]
  split
  case h_3 => rfl
  all_goals omega

end

/-! ### By stewardship -/

/-- What a write of a command register rests on besides its command: it is mapped, writable, no value of a STOPPED
function, and owned by its function. -/
theorem commandRegister_map {f : Func} {cmd reason : Fld} {top : Nat} (h : (f, cmd, reason, top) ∈ commandRegisters) :
    ∃ l, regFields cmd.addr = some l ∧ writable l = true ∧ (l.any fun x => x.acc = .rws) = false ∧
      regOwner cmd.addr = some f ∧ reason.wid = 8 ∧
      cmd.addr ∉ [LRN_WIN_BASE.PAGE.addr, SAF_CTRL.CMD.addr, PWR_CTRL.CMD.addr] ∧
      (cmd.addr = SEQ_CTRL.CMD.addr → cmd = SEQ_CTRL.CMD ∧ top = 8) := by
  have hcheck : ∀ x ∈ commandRegisters, (writable ((regFields x.2.1.addr).getD []) = true ∧
      (((regFields x.2.1.addr).getD []).any fun x => x.acc = .rws) = false ∧ regOwner x.2.1.addr = some x.1 ∧
      x.2.2.1.wid = 8 ∧ x.2.1.addr ∉ [LRN_WIN_BASE.PAGE.addr, SAF_CTRL.CMD.addr, PWR_CTRL.CMD.addr] ∧
      (x.2.1.addr = SEQ_CTRL.CMD.addr → x.2.1 = SEQ_CTRL.CMD ∧ x.2.2.2 = 8)) := by decide
  have hx := hcheck _ h
  cases hl : regFields cmd.addr with
  | none => simp [hl, writable] at hx
  | some l => exact ⟨l, rfl, by simpa only [hl, Option.getD_some] using hx⟩

theorem writeOwned_unlisted {m : Mem} {sid v top : Nat} {f : Func} {cmd reason : Fld} {l : List Fld} {d : Dev}
    (h : (f, cmd, reason, top) ∈ commandRegisters) (hrws : (l.any fun x => x.acc = .rws) = false)
    (hcmd : Unlisted cmd top v) : d.writeOwned m sid cmd.addr f l v = d.refuseCommand reason cmd.addr := by
  unfold Dev.writeOwned
  rw [if_neg (by simp [hrws])]
  simp only [commandRegisters, List.mem_cons, Prod.mk.injEq, List.not_mem_nil, or_false] at h
  rcases h with ⟨rfl, rfl, rfl, rfl⟩ | ⟨rfl, rfl, rfl, rfl⟩ | ⟨rfl, rfl, rfl, rfl⟩ | ⟨rfl, rfl, rfl, rfl⟩ |
    ⟨rfl, rfl, rfl, rfl⟩ | ⟨rfl, rfl, rfl, rfl⟩
  · exact writeSwap_unlisted hcmd
  · exact writeLrn_unlisted hcmd
  · exact writeSeq_unlisted hcmd
  · exact writeBal_unlisted hcmd
  · exact writeCue_unlisted hcmd
  · exact writeCueFq_unlisted hcmd

/-- Settles O9: the write is granted to the steward and refused by its register's own table. -/
theorem unlistedCommandsAreRefused : Obligations.UnlistedCommandsAreRefused := by
  intro sid addr value f cmd reason top s hh hs hleaving hst hreg haddr hcmd
  obtain ⟨l, hl, hw, hrws, howner, hwid, hserved, hseq⟩ := commandRegister_map hreg
  have hgo := (asGranted_steward (a := cmd.addr)
    (fun d => d.writeOwned s.mem sid.val cmd.addr f l value.toNat) hst).trans (writeOwned_unlisted hreg hrws hcmd)
  have hwrite : writeReg sid.val cmd.addr value.toNat s.mem s.dev =
      (s.mem, s.dev.refuseCommand reason cmd.addr) := by
    rw [writeReg_owned hl hw howner hserved, inOrder_refused, hgo]
    · rw [hgo]
      simp [Dev.refuseCommand, wrRefused, wrOk]
    · intro h
      obtain ⟨rfl, rfl⟩ := hseq h
      omega
  rw [← haddr] at hwrite
  refine ⟨_, registerWrite_next (addr := addr) hh hs hleaving hwrite rfl rfl, ?_,
    answered_of_kept _ hh.1 rfl rfl rfl,
    (frame_wr s.dev 0xFF (.head _)).trans (frame_answered _ sid.val _ (by decide) (by decide))⟩
  have hfits : 0xFF % 2 ^ reason.wid = 0xFF := hwid ▸ rfl
  rw [answer_rd, Dev.rd_wr_same, hfits]

end Sys2Proof.Machine
end

section
/-! PROOF. REQUEST (R330, R333): operation by operation one result, the RESPONSE sent and kept, and a repeated REQ_ID
answered from what was kept. -/

namespace Sys2Proof.Machine

/-! ### What is sent is never taken back when TRANSPORT is entered (R377) -/

section
variable (d : Dev)

@[simp] theorem abandonApply_out : d.abandonApply.out = d.out := by
  unfold Dev.abandonApply
  split <;> rfl

@[simp] theorem showLatches_out : d.showLatches.out = d.out := by
  refine each_keep (·.out) Dev.showLatch (fun w d => ?_) _ d
  unfold Dev.showLatch
  dsimp only
  split <;> rfl

@[simp] theorem setThermalLatch_out : d.setThermalLatch.out = d.out := by simp [Dev.setThermalLatch]

@[simp] theorem understudy_out (l : List Byte) : (d.understudy l).out = d.out := by
  unfold Dev.understudy
  dsimp only
  split <;> rfl

@[simp] theorem mainFails_out (pos : Nat) (l : List Byte) : (d.mainFails pos l).out = d.out := by
  simp [Dev.mainFails]

@[simp] theorem writeRec_out (x : Rec) (result : WriteResult) : (d.writeRec x result).out = d.out := by
  simp [Dev.writeRec, Dev.keepLoss, Dev.freeEntry, Dev.drawNat, apply_ite Dev.out]

@[simp] theorem flush_out : d.flush.out = d.out :=
  foldl_keep (·.out) _ (fun d x => writeRec_out d x .good) _ _

@[simp] theorem calAbandon_out : d.calAbandon.out = d.out := by
  unfold Dev.calAbandon
  split <;> rfl

@[simp] theorem portAsleep_out (n : Nat) : (d.portAsleep n).out = d.out := rfl

@[simp] theorem coilDrops_out (m : Mem) (c : Nat) : (d.coilDrops m c).out = d.out := by
  unfold Dev.coilDrops
  dsimp only
  split <;> rfl

theorem givenUp_out (k cause : Nat) : (d.givenUp k cause).out = d.out :=
  (frame_givenUp (s := State.reset) d k cause).same (p := .out) (by decide)

theorem sent_of_out {d e : Dev} (h : e.out = d.out) : d.out <:+ e.out := h ▸ List.suffix_rfl

theorem closeSession_sent (k cause : Nat) : d.out <:+ (d.closeSession k cause).out := by
  cases hopen : d.isOpened k with
  | false => exact sent_of_out (congrArg Dev.out (closeSession_unopened cause hopen))
  | true =>
    rw [closeSession_opened cause hopen]
    split
    · rw [sendSealed_out, Dev.modSess_out, givenUp_out]
      exact List.suffix_cons ..
    · exact sent_of_out ((Dev.modSess_out ..).trans (givenUp_out ..))

theorem each_sent {f : Nat → Dev → Dev} (h : ∀ k d, d.out <:+ (f k d).out) (l : List Nat) :
    d.out <:+ (d.each l f).out := by
  induction l generalizing d with
  | nil => exact List.suffix_rfl
  | cons k l ih => exact (h k d).trans (ih (f k d))

theorem closeAll_sent (cause : Nat) : d.out <:+ (d.closeAll cause).out := by
  unfold Dev.closeAll
  rw [each_keep (·.out) (fun k d => d.modSess k fun _ => .free) fun _ _ => Dev.modSess_out ..]
  exact each_sent d (fun k d => closeSession_sent d k cause) _

theorem transportEnters_sent (m : Mem) : d.out <:+ (d.transportEnters m).out := by
  unfold Dev.transportEnters
  split
  · exact List.suffix_rfl
  · dsimp only
    rw [each_keep (·.out) _ (fun k d => coilDrops_out d m k), each_keep (·.out) _ (fun k d => portAsleep_out d k),
      flush_out]
    exact List.IsSuffix.trans (by simp) (closeAll_sent _ _)

end

/-! ### The operations and the RESPONSE -/

section
variable {k id : Nat} {stop : Bool} {ops : List ReqOp} {m : Mem} {d : Dev}

theorem opsRun_length : (opsRun k stop ops m d).1.length = ops.length := by
  induction ops generalizing m d with
  | nil => rfl
  | cons o l ih =>
    unfold opsRun
    dsimp only
    split
    · simp
    · simp [ih]

/-- The session with the RESPONSE to `id` among its last 8. -/
def Sess.keeping (id : Nat) (l : List OpRes) (x : Sess) : Sess :=
  { x with kept := if x.kept.any (·.1 = id) then x.kept else ((id, l) :: x.kept).take 8 }

theorem respond_eq (l : List OpRes) :
    d.respond k id l = (d.modSess k (Sess.keeping id l)).say k rapResponse (responsePayload id l) := rfl

/-- The RESPONSE goes out under the session's next SEQ; that it is kept changes nothing of what is sent. -/
theorem respond_out (l : List OpRes) : (d.respond k id l).out =
    (d.sendSealed (d.sess k) k rapResponse (d.sess k).tx (responsePayload id l)).out := by
  rw [respond_eq, say_out, sess_modSess_same, sendSealed_out, sendSealed_out]
  rfl

theorem respond_rcd (l : List OpRes) : (d.respond k id l).rcd = d.rcd := rfl

theorem requestRun_new (hnew : (d.sess k).kept.find? (·.1 = id) = none)
    (hfits : requestFits (d.sess k).path ops = true) :
    requestRun k id stop ops m d = ((opsRun k stop ops m d).2.1,
      ((opsRun k stop ops m d).2.2.respond k id (opsRun k stop ops m d).1).transportEnters
        (opsRun k stop ops m d).2.1) := by
  simp [requestRun, hnew, hfits]

theorem requestRun_repeated {res : List OpRes} (h : (d.sess k).kept.find? (·.1 = id) = some (id, res)) :
    requestRun k id stop ops m d = (m, d.respond k id res) := by
  simp [requestRun, h]

end

/-! ### REQUEST -/

section
variable {msg : RapMsg} {id : BitVec 16} {stop : Bool} {ops : List ReqOp} {s : State}

/-- The module once the message of a REQUEST is accepted. -/
def Dev.heardMsg (msg : RapMsg) (d : Dev) : Dev :=
  (d.taken rapRequest msg.session.toNat msg).accepted msg.session.toNat msg.seq.toNat

theorem heardMsg_sess (msg : RapMsg) (d : Dev) : (d.heardMsg msg).sess msg.session.toNat =
    (d.sess msg.session.toNat).accepting d.clk msg.seq.toNat := by
  simp [Dev.heardMsg]

theorem heardMsg_out (msg : RapMsg) (d : Dev) : (d.heardMsg msg).out = d.out := Dev.taken_out ..

theorem heardMsg_rcd (msg : RapMsg) (d : Dev) : (d.heardMsg msg).rcd = d.rcd := Dev.taken_rcd ..

theorem request_run (msg : RapMsg) (id : BitVec 16) (stop : Bool) (ops : List ReqOp) (s : State) :
    exec (.request msg.path msg.toRapHead msg.seq msg.body id ⟨stop, ops⟩) s = s.runMem fun m d =>
      d.message m rapRequest msg (requestBytes id stop ops) (requestRun msg.session.toNat id.toNat stop ops) := rfl

/-- An authentic REQUEST is run on the module that has accepted it. -/
theorem request_next (hr : Reaches rapRequest msg (requestBytes id stop ops) s)
    (ha : Authentic rapRequest msg (requestBytes id stop ops) s) {r : Mem × Dev}
    (hrun : requestRun msg.session.toNat id.toNat stop ops s.mem (s.dev.heardMsg msg) = r) :
    exec (.request msg.path msg.toRapHead msg.seq msg.body id ⟨stop, ops⟩) s =
      .next { s with mem := r.1, dev := r.2.commit } := by
  rw [request_run, runMem_next, message_accepted hr ha]
  exact hrun ▸ rfl

/-- A repeated REQ_ID is answered from what is kept. -/
theorem repeated_next {res : List OpRes} (hs : Settled s) (hr : Reaches rapRequest msg (requestBytes id stop ops) s)
    (ha : Authentic rapRequest msg (requestBytes id stop ops) s)
    (h : (s.dev.sess msg.session.toNat).kept.find? (·.1 = id.toNat) = some (id.toNat, res)) :
    exec (.request msg.path msg.toRapHead msg.seq msg.body id ⟨stop, ops⟩) s =
      .next { s with dev := (s.dev.heardMsg msg).respond msg.session.toNat id.toNat res } := by
  have hkept : ((s.dev.heardMsg msg).sess msg.session.toNat).kept.find? (·.1 = id.toNat) = some (id.toNat, res) := by
    rw [heardMsg_sess]
    exact h
  rw [request_next hr ha (requestRun_repeated hkept), commit_none]
  rw [respond_rcd, heardMsg_rcd]
  exact hs

end

/-- A session that keeps a RESPONSE to `id` keeps it alone. -/
theorem keeping_of_mem {id : Nat} {l : List OpRes} {x : Sess} (h : x.kept.any (·.1 = id) = true) :
    x.keeping id l = x := by
  simp only [Sess.keeping, h, if_true]

/-- Settles O10: an accepted REQUEST is run or answered again; whatever it runs, even into TRANSPORT, its RESPONSE
stays sent. -/
theorem requestsAreAnsweredOnce : Obligations.RequestsAreAnsweredOnce := by
  refine ⟨fun msg id stop ops s hr ha hnew hfits => ?_, fun msg id stop ops res s hs hr ha hrep => ?_⟩
  · intro k r
    have hsess := heardMsg_sess msg s.dev
    have hrun := requestRun_new (stop := stop) (m := s.mem) (by rw [hsess]; exact hnew) (by rw [hsess]; exact hfits)
    refine ⟨_, request_next hr ha hrun, rfl, opsRun_length, _, ?_, sendSealed_out ..⟩
    refine (transportEnters_sent _ _).subset ?_
    rw [respond_out, sendSealed_out]
    exact .head _
  · have hsess := heardMsg_sess msg s.dev
    have hkept : ((s.dev.heardMsg msg).sess msg.session.toNat).keeping id.toNat res =
        (s.dev.sess msg.session.toNat).accepting s.dev.clk msg.seq.toNat := by
      rw [hsess]
      refine keeping_of_mem ?_
      exact List.any_eq_true.2 ⟨_, List.mem_of_find?_eq_some hrep, by simp⟩
    have hsaid : ((s.dev.heardMsg msg).respond msg.session.toNat id.toNat res).sess msg.session.toNat =
        ((s.dev.sess msg.session.toNat).accepting s.dev.clk msg.seq.toNat).said := by
      rw [respond_eq, say_sess_same, sess_modSess_same, hkept]
    refine ⟨_, repeated_next hs hr ha hrep, ?_, ?_, ?_, ?_⟩
    · rw [respond_out, hsess, sendSealed_out, sendSealed_out, heardMsg_out]
      rfl
    · exact (congrArg Sess.tx hsaid :)
    · exact (congrArg Sess.kept hsaid :)
    · exact ((frame_taken s.dev _ _ _ (.head _)).trans (frame_accepted _ _ _ (.head _))).trans
        ((frame_modSess _ _ _ (.head _)).trans (frame_say _ _ _ _ (.head _) (.tail _ (.head _))))

end Sys2Proof.Machine
end

section
/-! PROOF. A step of a queue (R4, R291). -/

namespace Sys2Proof.Machine

/-- Settles O53: `step` splits on the queue, and a queue with a command in front is its second case. -/
theorem stepRunsTheFrontCommand : Obligations.StepRunsTheFrontCommand := fun _ _ _ => rfl

end Sys2Proof.Machine
end

section
/-! PROOF. Commissioning (R375): what the commands of PWR_CTRL leave when they are accepted and when they are refused,
and why a change of the commission flag is refused. -/

namespace Sys2Proof.Machine

/-! ### What a command of PWR_CTRL leaves -/

/-- A refused command of PWR_CTRL, whatever free values it has drawn, leaves PWR_RESULT and its answer. -/
theorem pwrRefused_left {sid r c : Nat} {s : State} (n : Nat) (hopen : s.dev.isOpened sid = true)
    (hr : r < 2 ^ PWR_RESULT.REASON.wid) (hc : c < 2 ^ PWR_RESULT.CMD.wid) {t : State}
    (ht : t = { s with dev := Dev.answer sid (Dev.pwrRefuse r c { s.dev with free := n }) }) :
    Answered sid (wrRefused r PWR_CTRL.CMD.addr) id s t ∧ t.dev.rd PWR_RESULT.REASON = r ∧
      t.dev.rd PWR_RESULT.CMD = c ∧ Frame [PWR_RESULT.REASON, PWR_RESULT.CMD] [.out, .net] s t := by
  subst ht
  refine ⟨answered_of_kept _ hopen rfl rfl rfl, ?_, ?_,
    (((frame_free s.dev n).trans (frame_wr _ r (.head _))).trans (frame_wr _ c (.tail _ (.head _)))).trans
      (frame_answered _ sid _ (.tail _ (.head _)) (.head _))⟩
  · rw [answer_rd]
    exact (Dev.rd_wr_other _ c (by decide)).trans ((Dev.rd_wr_same ..).trans (Nat.mod_eq_of_lt hr))
  · rw [answer_rd]
    exact (Dev.rd_wr_same ..).trans (Nat.mod_eq_of_lt hc)

section
variable {sid : Nat} {go : Mem → Dev → Did} {s : State}

theorem pwrRefused_next {r c : Nat} (hs : Settled s) (hh : Heard sid s) (hgo : go s.mem s.dev = s.dev.pwrRefuse r c)
    (hr : r < 2 ^ PWR_RESULT.REASON.wid) (hc : c < 2 ^ PWR_RESULT.CMD.wid) :
    ∃ t, s.run (fun m d => d.host sid (go m)) = .next t ∧ Answered sid (wrRefused r PWR_CTRL.CMD.addr) id s t ∧
      t.dev.rd PWR_RESULT.REASON = r ∧ t.dev.rd PWR_RESULT.CMD = c ∧
      Frame [PWR_RESULT.REASON, PWR_RESULT.CMD] [.out, .net] s t :=
  ⟨_, host_next hh hgo hs, pwrRefused_left s.dev.free hh.1 hr hc rfl⟩

/-- A command that changes only what `fs` and `ps` name, and neither sends nor records, is answered beside that. -/
theorem accepted_next {fs : List Fld} {ps : List Part} {e : Dev} {w : Wr} (hs : Settled s) (hh : Heard sid s)
    (hgo : go s.mem s.dev = (e, w)) (hf : Frame fs ps s { s with dev := e })
    (hps : ∀ p ∈ [Part.out, .net, .clk, .rcd], p ∉ ps) :
    s.run (fun m d => d.host sid (go m)) = .next { s with dev := Dev.answer sid (e, w) } ∧
      Answered sid w id s { s with dev := Dev.answer sid (e, w) } ∧
      Frame fs (.out :: .net :: ps) s { s with dev := Dev.answer sid (e, w) } := by
  have hrcd : e.rcd = s.dev.rcd := hf.same (p := .rcd) (hps _ (by simp))
  refine ⟨host_next hh hgo (hrcd ▸ hs), answered_of_kept w hh.1 (hf.same (p := .out) (hps _ (by simp)))
    (hf.same (p := .net) (hps _ (by simp))) (hf.same (p := .clk) (hps _ (by simp))), ?_⟩
  exact (hf.mono (List.Subset.refl _) fun _ hp => .tail _ (.tail _ hp)).trans
    (frame_answered _ sid w (.tail _ (.head _)) (.head _))

end

theorem frame_modNv {fs : List Fld} {ps : List Part} {s : State} (d : Dev) (g : Nv → Nv) (h : .nv ∈ ps) :
    Frame fs ps { s with dev := d } { s with dev := d.modNv g } := by
  refine ⟨rfl, fun _ _ => rfl, fun p hp => ?_⟩
  cases p with
  | nv => exact absurd h hp
  | _ => rfl

/-! ### The reasons that bar a change of the commission flag -/

/-- The roles that may change the commission flag. -/
def Dev.commissions (sid : Nat) (d : Dev) : Prop :=
  (d.sess sid).role = .maintainer ∨ (d.sess sid).role = .safetySteward

section
variable {m : Mem} {sid : Nat} {leave : Bool} {d : Dev}

theorem commissionBarred_role (hrole : ¬ d.commissions sid) : d.commissionBarred m sid leave = 1 := by
  obtain ⟨hmaint, hsafety⟩ := not_or.1 hrole
  exact if_pos (by simp [hmaint, hsafety])

/-- The first reason is passed by the roles that may, ENTER_COMMISSION with an image. -/
theorem commissionBarred_granted (hrole : d.commissions sid) (himg : leave = true ∨ m.hasImage = true) :
    d.commissionBarred m sid leave =
      if d.mode m ∈ [.transport, .thermalLatch, .safe] ∨ m.hasImage = false then 7
      else if d.allOpen = false then 3
      else if leave = true ∧ (d.runs .saf = false ∨ d.runs .recorder = false) then 5 else 0 := by
  have hpass : ¬ ((((d.sess sid).role ≠ .maintainer && (d.sess sid).role ≠ .safetySteward) ||
      (!leave && !m.hasImage)) = true) := by
    rcases hrole with h | h <;> rcases himg with h' | h' <;> simp [h, h']
  refine (if_neg hpass).trans ?_
  simp [or_assoc]

theorem commissionBarred_mode (hrole : d.commissions sid) (himg : leave = true ∨ m.hasImage = true)
    (hmode : d.mode m ∈ [.transport, .thermalLatch, .safe] ∨ m.hasImage = false) :
    d.commissionBarred m sid leave = 7 :=
  (commissionBarred_granted hrole himg).trans (if_pos hmode)

/-- With an image and outside the three states, what is left are the strings and, for LEAVE_COMMISSION, SAF and REC. -/
theorem commissionBarred_modeOk (hrole : d.commissions sid) (himg : m.hasImage = true)
    (hmode : d.mode m ∉ [.transport, .thermalLatch, .safe]) :
    d.commissionBarred m sid leave = if d.allOpen = false then 3
      else if leave = true ∧ (d.runs .saf = false ∨ d.runs .recorder = false) then 5 else 0 :=
  (commissionBarred_granted hrole (.inr himg)).trans (if_neg (by simpa [himg] using hmode))

theorem commissionBarred_strings (hrole : d.commissions sid) (himg : m.hasImage = true)
    (hmode : d.mode m ∉ [.transport, .thermalLatch, .safe]) (hstr : d.allOpen = false) :
    d.commissionBarred m sid leave = 3 :=
  (commissionBarred_modeOk hrole himg hmode).trans (if_pos hstr)

theorem commissionBarred_functions (hrole : d.commissions sid) (himg : m.hasImage = true)
    (hmode : d.mode m ∉ [.transport, .thermalLatch, .safe]) (hstr : d.allOpen = true)
    (hstop : d.runs .saf = false ∨ d.runs .recorder = false) : d.commissionBarred m sid true = 5 := by
  rw [commissionBarred_modeOk hrole himg hmode, if_neg (by simp [hstr]), if_pos ⟨rfl, hstop⟩]

theorem commissionBarred_none (hrole : d.commissions sid) (himg : m.hasImage = true)
    (hmode : d.mode m ∉ [.transport, .thermalLatch, .safe]) (hstr : d.allOpen = true)
    (hrun : leave = true → d.runs .saf = true ∧ d.runs .recorder = true) : d.commissionBarred m sid leave = 0 := by
  rw [commissionBarred_modeOk hrole himg hmode, if_neg (by simp [hstr]), if_neg]
  rintro ⟨hleave, hstop⟩
  obtain ⟨hsaf, hrec⟩ := hrun hleave
  rcases hstop with h | h
  · exact absurd (hsaf.symm.trans h) (by decide)
  · exact absurd (hrec.symm.trans h) (by decide)

/-! ### A change of the commission flag -/

theorem cmdCommission_refused {r : Nat} (hbar : d.commissionBarred m sid leave = r) (hr : r ≠ 0) :
    d.cmdCommission m sid leave = d.pwrRefuse r (if leave then 3 else 2) := by
  subst hbar
  exact if_pos hr

theorem cmdCommission_kept (hbar : d.commissionBarred m sid leave = 0) (hflag : d.nv.commission = !leave) :
    d.cmdCommission m sid leave = (d, wrOk) := by
  simp [Dev.cmdCommission, hbar, hflag]

/-- The commission flag written. -/
def Dev.setCommission (b : Bool) (d : Dev) : Dev := d.modNv fun n => { n with commission := b }

theorem cmdCommission_changed (hbar : d.commissionBarred m sid leave = 0) (hflag : d.nv.commission = leave) :
    d.cmdCommission m sid leave =
      ((d.setCommission (!leave)).record (if leave then recCommissionExit else recCommissionEnter) [], wrOk) := by
  simp [Dev.cmdCommission, hbar, hflag, Dev.setCommission]

end

/-- The states above DEGRADED are the supply's, the thermal latch's and SAFE (R385). -/
theorem mode_below_safe {m : Mem} {d : Dev} (h : d.mode m ∉ [.transport, .thermalLatch, .safe]) :
    d.pwr.inTransport = false ∧ d.thw.latch = false ∧ d.saf.ret.safe = false := by
  unfold Dev.mode at h
  split at h
  · simp at h
  split at h
  · simp at h
  split at h
  · simp at h
  · simp_all

theorem not_degraded_of_mode {m : Mem} {d : Dev} (h : d.mode m ∉ [.transport, .thermalLatch, .safe])
    (hmode : d.mode m ≠ .degraded) : d.saf.ret.degraded = false := by
  obtain ⟨htransport, hlatch, hsafe⟩ := mode_below_safe h
  refine Bool.eq_false_iff.2 fun hdeg => hmode ?_
  simp [Dev.mode, htransport, hlatch, hsafe, hdeg]

theorem allOpen_congr {d e : Dev} (h : ∀ k, e.strState k = d.strState k) : e.allOpen = d.allOpen := by
  have hopen : ∀ k, e.isOpen k = d.isOpen k := fun k => by rw [Dev.isOpen, h, Dev.isOpen]
  rw [Dev.allOpen, funext hopen, Dev.allOpen]

/-- The state after a change of the flag, where none of the states above COMMISSION holds (R385). -/
theorem mode_of_commission {b : Bool} {s t : State} (himg : s.mem.hasImage = true)
    (hmode : s.dev.mode s.mem ∉ [.transport, .thermalLatch, .safe]) (hdeg : s.dev.saf.ret.degraded = false)
    (hstr : s.dev.allOpen = true) (hf : Frame [] [.out, .net, .nv, .rcd] s t) (hnv : t.dev.nv.commission = b) :
    t.dev.mode t.mem = if b then .commission else .standby := by
  obtain ⟨htransport, hlatch, hsafe⟩ := mode_below_safe hmode
  have hopen : t.dev.allOpen = true := (allOpen_congr fun k => hf.rd (by simp)).trans hstr
  have hmem : t.mem = s.mem := hf.same (p := .mem) (by decide)
  have hpwr : t.dev.pwr = s.dev.pwr := hf.same (p := .pwr) (by decide)
  have hthw : t.dev.thw = s.dev.thw := hf.same (p := .thw) (by decide)
  have hsaf : t.dev.saf = s.dev.saf := hf.same (p := .saf) (by decide)
  simp [Dev.mode, hmem, hpwr, hthw, hsaf, hnv, htransport, hlatch, hsafe, hdeg, himg, hopen]

/-- A change of the flag is answered and recorded, and the state follows it. -/
theorem commissionChanged_next {sid : Nat} {leave : Bool} {s : State} (hh : Heard sid s)
    (hrole : s.dev.commissions sid) (himg : s.mem.hasImage = true)
    (hmode : s.dev.mode s.mem ∉ [.transport, .thermalLatch, .safe]) (hdeg : s.dev.saf.ret.degraded = false)
    (hstr : s.dev.allOpen = true) (hflag : s.dev.nv.commission = leave)
    (hrun : leave = true → s.dev.runs .saf = true ∧ s.dev.runs .recorder = true) :
    ∃ t, s.run (fun m d => d.host sid (Dev.cmdCommission m sid leave)) = .next t ∧ Answered sid wrOk id s t ∧
      t.dev.nv = { s.dev.nv with commission := !leave } ∧
      t.dev.mode t.mem = (if (!leave) = true then .commission else .standby) ∧
      Recorded [(if leave then recCommissionExit else recCommissionEnter, [])] s t ∧
      Frame [] [.out, .net, .nv, .rcd] s t := by
  have hgo := cmdCommission_changed (commissionBarred_none hrole himg hmode hstr hrun) hflag
  have hset : Frame [] [.nv] s { s with dev := s.dev.setCommission (!leave) } := frame_modNv s.dev _ (.head _)
  refine ⟨_, (run_next ..).trans (by rw [host_heard _ hh, hgo]), ?_⟩
  generalize hkind : (if leave then recCommissionExit else recCommissionEnter) = kind
  have hf : Frame [] [.out, .net, .nv, .rcd] s
      { s with dev := (Dev.answer sid ((s.dev.setCommission (!leave)).record kind [], wrOk)).commit } :=
    (((hset.mono (List.Subset.refl _) (by decide)).trans (frame_record _ _ _ (by decide))).trans
      (frame_answered _ sid wrOk (by decide) (by decide))).trans (frame_commit _ (by decide))
  have hnv : (Dev.answer sid ((s.dev.setCommission (!leave)).record kind [], wrOk)).nv =
      { s.dev.nv with commission := !leave } := (answer_nv ..).trans (Dev.record_nv ..)
  exact ⟨answered_commit (answered_of_kept _ hh.1 (Dev.record_out ..) (Dev.record_net ..) (Dev.record_clk ..)), hnv,
    mode_of_commission himg hmode hdeg hstr hf (congrArg Nv.commission hnv),
    recorded_of_frame _ [] sid wrOk hset (by decide), hf⟩

section
variable {sid : Sid} {s : State} {r : Nat}

theorem enterCommission_refused (hs : Settled s) (hh : Heard sid.val s)
    (hbar : s.dev.commissionBarred s.mem sid.val false = r) (hr : r ∈ [1, 3, 7]) :
    ∃ t, exec (.enterCommission sid) s = .next t ∧ Answered sid.val (wrRefused r PWR_CTRL.CMD.addr) id s t ∧
      t.dev.rd PWR_RESULT.REASON = r ∧ t.dev.rd PWR_RESULT.CMD = 2 ∧
      Frame [PWR_RESULT.REASON, PWR_RESULT.CMD] [.out, .net] s t :=
  pwrRefused_next (go := fun m => Dev.cmdCommission m sid.val false) hs hh
    (cmdCommission_refused hbar (by rintro rfl; simp at hr)) (show r < 256 by simp at hr; omega) (by decide)

theorem leaveCommission_refused (hs : Settled s) (hh : Heard sid.val s)
    (hbar : s.dev.commissionBarred s.mem sid.val true = r) (hr : r ∈ [1, 3, 5, 7]) :
    ∃ t, exec (.leaveCommission sid) s = .next t ∧ Answered sid.val (wrRefused r PWR_CTRL.CMD.addr) id s t ∧
      t.dev.rd PWR_RESULT.REASON = r ∧ t.dev.rd PWR_RESULT.CMD = 3 ∧
      Frame [PWR_RESULT.REASON, PWR_RESULT.CMD] [.out, .net] s t :=
  pwrRefused_next (go := fun m => Dev.cmdCommission m sid.val true) hs hh
    (cmdCommission_refused hbar (by rintro rfl; simp at hr)) (show r < 256 by simp at hr; omega) (by decide)

end

/-- Settles O50: the reasons in their order, and behind them a change of the flag. -/
theorem commissioningIsEnteredAndLeft : Obligations.CommissioningIsEnteredAndLeft := by
  refine ⟨fun sid s hs hh himg hrole hmode hstr hflag hdeg => ?_, fun sid s hs hh himg hrole hmode hstr hflag => ?_,
    fun sid s hs hh himg hrole hmode hstr hflag hrun hdeg => ?_, fun sid s hs hh himg hrole => ?_,
    fun sid s hs hh hrole => ?_, fun sid s hs hh himg hrole hmode => ?_, fun sid s hs hh hrole hmode => ?_,
    fun sid s hs hh himg hrole hmode hstr => ?_, fun sid s hs hh himg hrole hmode hstr => ?_,
    fun sid s hs hh himg hrole hmode hstr hstop => ?_⟩
  · exact commissionChanged_next (leave := false) hh hrole himg hmode (not_degraded_of_mode hmode hdeg) hstr hflag
      (by simp)
  · have hgo := cmdCommission_kept (commissionBarred_none (leave := false) hrole himg hmode hstr (by simp)) hflag
    exact ⟨_, accepted_next (go := fun m => Dev.cmdCommission m sid.val false) hs hh hgo (Frame.refl [] [] s) (by simp)⟩
  · obtain ⟨hsaf, hrec⟩ := hrun
    exact commissionChanged_next (leave := true) hh hrole himg hmode hdeg hstr hflag fun _ =>
      ⟨by simp [Dev.runs, hsaf], by simp [Dev.runs, hrec]⟩
  · exact enterCommission_refused hs hh (commissionBarred_role hrole) (by decide)
  · exact leaveCommission_refused hs hh (commissionBarred_role hrole) (by decide)
  · exact enterCommission_refused hs hh (commissionBarred_mode hrole (.inr himg) (.inl hmode)) (by decide)
  · exact leaveCommission_refused hs hh (commissionBarred_mode hrole (.inl rfl) hmode) (by decide)
  · exact enterCommission_refused hs hh (commissionBarred_strings hrole himg hmode hstr) (by decide)
  · exact leaveCommission_refused hs hh (commissionBarred_strings hrole himg hmode hstr) (by decide)
  · have hruns : s.dev.runs .saf = false ∨ s.dev.runs .recorder = false :=
      hstop.imp (fun h => by simp [Dev.runs, h]) fun h => by simp [Dev.runs, h]
    exact leaveCommission_refused hs hh (commissionBarred_functions hrole himg hmode hstr hruns) (by decide)

end Sys2Proof.Machine
end

section
/-! PROOF. Calibration and the refresh of the MRAM (R380, R381): what their commands and their ends leave. -/

namespace Sys2Proof.Machine

@[simp] theorem answer_on (sid : Nat) (x : Did) (f : Fld) : (Dev.answer sid x).on f = x.1.on f := by simp [Dev.on]

/-- An age counted from now is 0 days. -/
theorem days_now {d e : Dev} (hclk : e.clk = d.clk) : e.days (-(d.clkS : Int)) = 0 := by
  have hclkS : e.clkS = d.clkS := by rw [Dev.clkS, hclk, Dev.clkS]
  rw [Dev.days, hclkS, Int.add_left_neg]
  rfl

/-- What is changed and then recorded is recorded as the step began, and beside the recorder is that change. -/
theorem recorded_left {fs : List Fld} {ps : List Part} {s : State} {e : Dev} (k : Kind) (x : List Byte)
    (hf : Frame fs ps s { s with dev := e }) (hps : ∀ p ∈ [Part.pwr, .rcd, .clk, .phase, .time], p ∉ ps)
    (hfs : ∀ g ∈ [REC_CFG.DOMAIN, TIME_CFG.MODE12, TIME_CFG.MODE34], ∀ f ∈ fs, g.key ≠ f.key) :
    Recorded [(k, x)] s { s with dev := (e.record k x).commit } ∧
      Frame fs (ps ++ [.rcd]) s { s with dev := (e.record k x).commit } :=
  ⟨recorded_commit k x hf hps hfs,
    ((hf.mono (List.Subset.refl _) (List.subset_append_left ..)).trans (frame_record _ k x (by simp))).trans
      (frame_commit _ (by simp))⟩

section
variable {m : Mem} {sid : Nat} {d : Dev}

theorem maintains_true (himg : m.hasImage = true) (hrole : (d.sess sid).role = .maintainer) :
    d.maintains m sid = true := by
  simp [Dev.maintains, himg, hrole]

theorem maintains_false (h : m.hasImage = false ∨ (d.sess sid).role ≠ .maintainer) : d.maintains m sid = false := by
  rcases h with h | h <;> simp [Dev.maintains, h]

/-! ### CALIBRATE and CALIBRATION_DUE -/

/-- A calibration runs. -/
def Dev.calBegins (d : Dev) : Dev := (d.wr PWR_STATUS.CAL_ACTIVE 1).modPwr fun p => { p with calWait := false }

/-- One that waits begins at once at Prune 0 or 1 and outside an outage of PWRM. -/
theorem calAgain_begins (hstage : d.stage ≤ 1) (hout : d.outage bedPwrm = false) :
    (d.modPwr fun p => { p with calWait := true }).calAgain = d.calBegins :=
  if_pos (by
    have hstage' : (d.modPwr fun p => { p with calWait := true }).stage ≤ 1 := hstage
    have hout' : (d.modPwr fun p => { p with calWait := true }).outage bedPwrm = false := hout
    simp [hstage', hout'])

theorem calBegins_on : d.calBegins.on PWR_STATUS.CAL_ACTIVE = true := by simp [Dev.on, Dev.calBegins]

theorem frame_calBegins {s : State} (d : Dev) :
    Frame [PWR_STATUS.CAL_ACTIVE] [.pwr] { s with dev := d } { s with dev := d.calBegins } :=
  (frame_wr d 1 (.head _)).trans (frame_modPwr _ _ (.head _))

theorem cmdCalibrate_role (h : d.maintains m sid = false) : d.cmdCalibrate m sid = d.pwrRefuse 1 4 :=
  if_pos (by simp [h])

theorem cmdCalibrate_active (h : d.maintains m sid = true) (hactive : d.on PWR_STATUS.CAL_ACTIVE = true) :
    d.cmdCalibrate m sid = d.pwrRefuse 8 4 :=
  (if_neg (by simp [h])).trans (if_pos hactive)

theorem cmdCalibrate_pruned (h : d.maintains m sid = true) (hactive : d.on PWR_STATUS.CAL_ACTIVE = false)
    (hstage : 2 ≤ d.stage) : d.cmdCalibrate m sid = d.pwrRefuse 6 4 :=
  (if_neg (by simp [h])).trans ((if_neg (by simp [hactive])).trans (if_pos hstage))

theorem cmdCalibrate_begins (h : d.maintains m sid = true) (hactive : d.on PWR_STATUS.CAL_ACTIVE = false)
    (hstage : d.stage ≤ 1) (hout : d.outage bedPwrm = false) : d.cmdCalibrate m sid = (d.calBegins, wrOk) := by
  rw [← calAgain_begins hstage hout]
  exact (if_neg (by simp [h])).trans ((if_neg (by simp [hactive])).trans (if_neg (by omega)))

theorem calibrationDue_next {s : State} (hs : Settled s) (halive : s.dev.alive = true)
    (hawake : s.dev.pwr.inTransport = false) (hactive : s.dev.on PWR_STATUS.CAL_ACTIVE = false)
    (hstage : s.dev.stage ≤ 1) (hout : s.dev.outage bedPwrm = false) :
    exec .calibrationDue s = .next { s with dev := s.dev.calBegins } := by
  change execCalibrationDue s = _
  rw [← calAgain_begins hstage hout]
  exact run_of (if_pos (by simp [halive, hawake, hactive])) (by unfold Dev.calAgain; split <;> exact hs)

/-! ### CAL_DONE -/

/-- A calibration ends. -/
def Dev.calEnds (d : Dev) : Dev := d.wr PWR_STATUS.CAL_ACTIVE 0

/-- One that passed takes the other coefficient slot, and its age begins. -/
def Dev.calPassed (d : Dev) : Dev :=
  d.calEnds.modNv fun n => { n with calSlot := 1 - n.calSlot, calS := -(d.clkS : Int) }

/-- One that failed says so. -/
def Dev.calFailed (d : Dev) : Dev := d.calEnds.wr PWR_STATUS.CAL_FAIL 1

section
variable {s : State} (halive : s.dev.alive = true) (hactive : s.dev.on PWR_STATUS.CAL_ACTIVE = true)
include halive hactive

theorem calDone_passed : exec (.calDone none) s =
    .next { s with dev := (s.dev.calPassed.record recCalDone []).commit } := by
  change execCalDone none s = _
  exact run_rec (if_neg (by simp [halive, hactive]))

theorem calDone_failed (item : Byte) : exec (.calDone (some item)) s =
    .next { s with dev := (s.dev.calFailed.record recCalFail [item]).commit } := by
  change execCalDone (some item) s = _
  exact run_rec (if_neg (by simp [halive, hactive]))

end

theorem frame_calPassed {s : State} (d : Dev) :
    Frame [PWR_STATUS.CAL_ACTIVE] [.nv] { s with dev := d } { s with dev := d.calPassed } :=
  (frame_wr d 0 (.head _)).trans (frame_modNv _ _ (.head _))

theorem frame_calFailed {s : State} (d : Dev) :
    Frame [PWR_STATUS.CAL_ACTIVE, PWR_STATUS.CAL_FAIL] [] { s with dev := d } { s with dev := d.calFailed } :=
  (frame_wr d 0 (.head _)).trans (frame_wr _ 1 (.tail _ (.head _)))

/-! ### REFRESH and REFRESH_DUE -/

/-- A refresh runs. -/
def Dev.refreshBegins (d : Dev) : Dev := d.wr PWR_STATUS.REFRESH_ACTIVE 1

theorem refreshBegins_on (d : Dev) : d.refreshBegins.on PWR_STATUS.REFRESH_ACTIVE = true := by
  simp [Dev.on, Dev.refreshBegins]

theorem cmdRefresh_role (h : d.maintains m sid = false) : d.cmdRefresh m sid = d.pwrRefuse 1 5 :=
  if_pos (by simp [h])

theorem cmdRefresh_active (h : d.maintains m sid = true) (hactive : d.on PWR_STATUS.REFRESH_ACTIVE = true) :
    d.cmdRefresh m sid = d.pwrRefuse 8 5 :=
  (if_neg (by simp [h])).trans (if_pos hactive)

theorem cmdRefresh_begins (h : d.maintains m sid = true) (hactive : d.on PWR_STATUS.REFRESH_ACTIVE = false) :
    d.cmdRefresh m sid = (d.refreshBegins, wrOk) :=
  (if_neg (by simp [h])).trans (if_neg (by simp [hactive]))

theorem refreshDue_next {s : State} (hs : Settled s) (halive : s.dev.alive = true)
    (hawake : s.dev.pwr.inTransport = false) : exec .refreshDue s = .next { s with
      dev := (s.dev.modNv fun n => { n with refreshDue := true }).refreshBegins } := by
  change execRefreshDue s = _
  exact run_of (if_pos (by simp [halive, hawake])) hs

/-! ### MRAM_REFRESH -/

theorem refreshPaused_eq_false_iff : d.refreshPaused m = false ↔
    d.stage ≤ 1 ∧ m.redo = none ∧ (d.ldState = ldIdle ∨ d.ldState = ldFailed) := by
  simp only [Dev.refreshPaused, Bool.or_eq_false_iff, Bool.and_eq_false_iff, decide_eq_false_iff_not,
    Option.isSome_eq_false_iff, Option.isNone_iff_eq_none, ne_eq, Classical.not_not, and_assoc]
  exact and_congr_left fun _ => by omega

/-- Where no unit failed, or the main region has failed before, the recorder meets nothing new. -/
theorem refreshFails_kept {n : Nat} (h : n = 0 ∨ d.on REC_STATUS.MAIN_FAILED = true) : d.refreshFails n = d :=
  if_pos (by simpa using h)

/-- A refresh is done, and its age begins. -/
def Dev.refreshDone (d : Dev) : Dev :=
  (d.wr PWR_STATUS.REFRESH_ACTIVE 0).modNv fun n => { n with refreshDue := false, refreshS := -(d.clkS : Int) }

/-- The DATA of its record: the units refreshed, and those that failed. -/
def refreshData (bad : Nat) : List Byte := leBytes 4 (mramUnits - bad) ++ leBytes 4 bad

theorem frame_refreshDone {s : State} (d : Dev) :
    Frame [PWR_STATUS.REFRESH_ACTIVE] [.nv] { s with dev := d } { s with dev := d.refreshDone } :=
  (frame_wr d 0 (.head _)).trans (frame_modNv _ _ (.head _))

theorem mramRefresh_done {failed : Nat} {s : State} (halive : s.dev.alive = true)
    (hactive : s.dev.on PWR_STATUS.REFRESH_ACTIVE = true) (hgoes : s.dev.refreshPaused s.mem = false)
    (hkept : min mramUnits failed = 0 ∨ s.dev.on REC_STATUS.MAIN_FAILED = true) :
    exec (.mramRefresh failed) s = .next { s with
      dev := (s.dev.refreshDone.record recMramRefresh (refreshData (min mramUnits failed))).commit } := by
  change execMramRefresh failed s = _
  refine run_rec ((if_neg (by simp [halive, hactive, hgoes])).trans ?_)
  dsimp only
  rw [refreshFails_kept hkept]
  rfl

theorem mramRefresh_paused {failed : Nat} {s : State} (hs : Settled s) (hpaused : s.dev.refreshPaused s.mem = true) :
    exec (.mramRefresh failed) s = .next s := by
  change execMramRefresh failed s = _
  exact run_of (e := s.dev) (if_pos (by simp [hpaused])) hs

end

section
variable {sid : Sid} {r : Nat} {s : State}

theorem calibrate_refused (hs : Settled s) (hh : Heard sid.val s)
    (hgo : s.dev.cmdCalibrate s.mem sid.val = s.dev.pwrRefuse r 4) (hr : r ∈ [1, 6, 8]) :
    ∃ t, exec (.calibrate sid) s = .next t ∧ Answered sid.val (wrRefused r PWR_CTRL.CMD.addr) id s t ∧
      t.dev.rd PWR_RESULT.REASON = r ∧ t.dev.rd PWR_RESULT.CMD = 4 ∧
      Frame [PWR_RESULT.REASON, PWR_RESULT.CMD] [.out, .net] s t :=
  pwrRefused_next (go := fun m => Dev.cmdCalibrate m sid.val) hs hh hgo (show r < 256 by simp at hr; omega) (by decide)

theorem refresh_refused (hs : Settled s) (hh : Heard sid.val s)
    (hgo : s.dev.cmdRefresh s.mem sid.val = s.dev.pwrRefuse r 5) (hr : r ∈ [1, 8]) :
    ∃ t, exec (.refresh sid) s = .next t ∧ Answered sid.val (wrRefused r PWR_CTRL.CMD.addr) id s t ∧
      t.dev.rd PWR_RESULT.REASON = r ∧ t.dev.rd PWR_RESULT.CMD = 5 ∧
      Frame [PWR_RESULT.REASON, PWR_RESULT.CMD] [.out, .net] s t :=
  pwrRefused_next (go := fun m => Dev.cmdRefresh m sid.val) hs hh hgo (show r < 256 by simp at hr; omega) (by decide)

/-- A refresh that ends is recorded with the units refreshed and failed. -/
theorem mramRefresh_recorded {failed : Nat} (halive : s.dev.alive = true)
    (hactive : s.dev.on PWR_STATUS.REFRESH_ACTIVE = true)
    (hgoes : s.dev.stage ≤ 1 ∧ s.mem.redo = none ∧ (s.dev.ldState = ldIdle ∨ s.dev.ldState = ldFailed))
    (hkept : min mramUnits failed = 0 ∨ s.dev.on REC_STATUS.MAIN_FAILED = true) :
    ∃ t, exec (.mramRefresh failed) s = .next t ∧ t.dev.on PWR_STATUS.REFRESH_ACTIVE = false ∧
      t.dev.nv = s.dev.refreshDone.nv ∧ t.dev.days t.dev.nv.refreshS = 0 ∧
      Recorded [(recMramRefresh, refreshData (min mramUnits failed))] s t ∧
      Frame [PWR_STATUS.REFRESH_ACTIVE] [.nv, .rcd] s t := by
  have hnv : ∀ x, (s.dev.refreshDone.record recMramRefresh x).nv = s.dev.refreshDone.nv := Dev.record_nv _ _
  refine ⟨_, mramRefresh_done halive hactive (refreshPaused_eq_false_iff.2 hgoes) hkept, ?_, hnv _, ?_,
    recorded_left _ _ (frame_refreshDone s.dev) (by decide) (by decide)⟩
  · simp [Dev.on, Dev.refreshDone]
  · rw [Dev.commit_nv, hnv]
    exact days_now (Dev.record_clk ..)

end

/-- Settles O51: each command is a refusal or the beginning it names, and each end its record. -/
theorem calibrationAndRefreshRun : Obligations.CalibrationAndRefreshRun := by
  refine ⟨fun sid s hs hh himg hrole hidle hstage hout => ?_, fun sid s hs hh hrole => ?_,
    fun sid s hs hh himg hrole hactive => ?_, fun sid s hs hh himg hrole hidle hstage => ?_,
    fun s hs halive hawake hidle hstage hout => ?_, fun s hs halive hactive => ?_, fun item s hs halive hactive => ?_,
    fun sid s hs hh himg hrole hidle => ?_, fun sid s hs hh hrole => ?_, fun sid s hs hh himg hrole hactive => ?_,
    fun s hs halive hawake => ?_, fun s hs halive hactive hgoes => ?_,
    fun failed s hs halive hactive hgoes hsome hmain => ?_, fun failed s hs hpaused => ?_⟩
  · obtain ⟨hrun, hans, hf⟩ := accepted_next (go := fun m => Dev.cmdCalibrate m sid.val) hs hh
      (cmdCalibrate_begins (maintains_true himg hrole) hidle hstage hout) (frame_calBegins s.dev) (by decide)
    exact ⟨_, hrun, hans, (answer_on ..).trans calBegins_on, answer_pwr .., hf⟩
  · exact calibrate_refused hs hh (cmdCalibrate_role (maintains_false hrole)) (by decide)
  · exact calibrate_refused hs hh (cmdCalibrate_active (maintains_true himg hrole) hactive) (by decide)
  · exact calibrate_refused hs hh (cmdCalibrate_pruned (maintains_true himg hrole) hidle hstage) (by decide)
  · exact ⟨_, calibrationDue_next hs halive hawake hidle hstage hout, calBegins_on, frame_calBegins s.dev⟩
  · have hnv : (s.dev.calPassed.record recCalDone []).nv = s.dev.calPassed.nv := Dev.record_nv ..
    refine ⟨_, calDone_passed halive hactive, ?_, hnv, ?_,
      recorded_left _ _ (frame_calPassed s.dev) (by decide) (by decide)⟩
    · simp [Dev.on, Dev.calPassed, Dev.calEnds]
    · rw [Dev.commit_nv, hnv]
      exact days_now (Dev.record_clk ..)
  · refine ⟨_, calDone_failed halive hactive item, ?_, ?_,
      recorded_left _ _ (frame_calFailed s.dev) (by decide) (by decide)⟩
    · simp (disch := decide) [Dev.on, Dev.calFailed, Dev.calEnds]
    · exact (Dev.rd_record ..).trans (Dev.rd_wr_same ..)
  · obtain ⟨hrun, hans, hf⟩ := accepted_next (go := fun m => Dev.cmdRefresh m sid.val) (ps := []) hs hh
      (cmdRefresh_begins (maintains_true himg hrole) hidle) (frame_wr s.dev 1 (.head _)) (by simp)
    exact ⟨_, hrun, hans, (answer_on ..).trans (refreshBegins_on s.dev), hf⟩
  · exact refresh_refused hs hh (cmdRefresh_role (maintains_false hrole)) (by decide)
  · exact refresh_refused hs hh (cmdRefresh_active (maintains_true himg hrole) hactive) (by decide)
  · exact ⟨_, refreshDue_next hs halive hawake, rfl, refreshBegins_on _,
      (frame_modNv s.dev _ (.head _)).trans (frame_wr _ 1 (.head _))⟩
  · exact mramRefresh_recorded (failed := 0) halive hactive hgoes (.inl rfl)
  · obtain ⟨t, hrun, hon, hnv, -, hrec⟩ := mramRefresh_recorded (failed := failed) halive hactive hgoes (.inr hmain)
    exact ⟨t, hrun, hon, hnv ▸ rfl, hrec⟩
  · exact ⟨s, mramRefresh_paused hs (by simpa using mt refreshPaused_eq_false_iff.1 hpaused), Frame.refl ..⟩

end Sys2Proof.Machine
end

section
/-! PROOF. A charge of HOLD below HOLD_MIN while HOLD_LOW stands (R363). -/

namespace Sys2Proof.Machine

theorem holdLow_set {d : Dev} (h : d.on PWR_STATUS.HOLD_LOW = true) : d.holdLow = d := if_pos h

/-- A short charge leaves a HOLD_LOW that stands as it reads. -/
theorem holdCharged_short_rd {c : BitVec 16} {s : State} (hcharging : s.dev.charging = true)
    (hshort : c.toNat < 10 * s.dev.rd PWR_CFG.HOLD_MIN) (hset : s.dev.on PWR_STATUS.HOLD_LOW = true) :
    ∃ t, exec (.holdCharged c) s = .next t ∧ t.dev.rd PWR_STATUS.HOLD_LOW = s.dev.rd PWR_STATUS.HOLD_LOW := by
  refine ⟨_, rfl, ?_⟩
  have hother : ∀ f : Fld, f.key ≠ PWR_HOLD.C_HOLD.key →
      (s.dev.wr PWR_HOLD.C_HOLD c.toNat).rd f = s.dev.rd f := fun f => s.dev.rd_wr_other c.toNat
  have hmin := hother PWR_CFG.HOLD_MIN (by decide)
  have hlow := hother PWR_STATUS.HOLD_LOW (by decide)
  dsimp only
  rw [if_neg (by simp [hcharging]), if_pos (by simpa [hmin] using hshort),
    holdLow_set (by simpa [Dev.on, hlow] using hset)]
  exact hlow

/-- Refutes O47: its clause on a charge below HOLD_MIN has HOLD_LOW read 1 afterwards. It speaks of every settled state,
whatever the register file lists, and a field that is set already is not written again: where the file lists a 2 for
the one bit of HOLD_LOW, which no step ever writes there, it still reads 2. -/
theorem not_supplyInputsAndHoldupAreJudged : ¬ Obligations.SupplyInputsAndHoldupAreJudged := by
  rintro ⟨-, -, -, -, -, -, -, -, -, hshort, -⟩
  let s : State := { State.reset with dev := { Dev.factory with
    pwr := { PwrSt.off with boot := .awake }
    regs := [(PWR_STATUS.HOLD_LOW.key, 2)] } }
  have hmin : (0 : BitVec 16).toNat < 10 * s.dev.rd PWR_CFG.HOLD_MIN := by decide
  obtain ⟨t, ht, -, -, hone, -⟩ := hshort 0 s rfl rfl (by decide) (by decide) hmin
  obtain ⟨t', ht', hkept⟩ := holdCharged_short_rd (s := s) (by decide) hmin (by decide)
  obtain rfl : t' = t := Host.Outcome.next.inj (ht'.symm.trans ht)
  rw [hone] at hkept
  exact absurd hkept (by decide)

end Sys2Proof.Machine
end

section
/-! PROOF. The loss of the supply and the start that follows it (R370, R373): what the drop of the coils touches, and
that a start leaves the supply's state and the start count as it found them out. -/

namespace Sys2Proof.Machine

/-! ### The coils drop -/

/-- A device without its supply's state, its sequences and what MRAM keeps of the module. -/
def Dev.sansCoils (d : Dev) : Dev := { d with seq := .start, nv := .factory, pwr := .off }

theorem of_sansCoils {d e : Dev} (h : e.sansCoils = d.sansCoils) :
    e.regs = d.regs ∧ e.rcd = d.rcd ∧ e.lgr = d.lgr ∧ e.saf = d.saf ∧ e.net = d.net :=
  ⟨(congrArg Dev.regs h :), (congrArg Dev.rcd h :), (congrArg Dev.lgr h :), (congrArg Dev.saf h :),
    (congrArg Dev.net h :)⟩

section
variable (m : Mem) (c : Nat) (d : Dev)

theorem coilDrops_sansCoils : (d.coilDrops m c).sansCoils = d.sansCoils := by
  unfold Dev.coilDrops
  dsimp only
  split <;> rfl

theorem coilDrops_pwr : (d.coilDrops m c).pwr = d.pwr := by
  unfold Dev.coilDrops
  dsimp only
  split <;> rfl

theorem coilDrops_coil (j : Nat) : (d.coilDrops m c).coil j = if j = c then false else d.coil j := by
  have hcoil : (d.coilDrops m c).seq.coil = tset false d.seq.coil c false := by
    unfold Dev.coilDrops
    dsimp only
    split <;> rfl
  rw [Dev.coil, hcoil]
  split
  · next h => rw [h, tget_tset_same]
  · next h => exact tget_tset_other _ _ _ h

end

/-- Every coil drops. -/
def Dev.coilsDrop (m : Mem) (d : Dev) : Dev := d.each (List.range 27) (Dev.coilDrops m)

section
variable (m : Mem) (d : Dev)

theorem coilsDrop_sansCoils : (d.coilsDrop m).sansCoils = d.sansCoils :=
  each_keep Dev.sansCoils _ (coilDrops_sansCoils m) _ d

theorem coilsDrop_pwr : (d.coilsDrop m).pwr = d.pwr := each_keep Dev.pwr _ (coilDrops_pwr m) _ d

theorem coilsDrop_coil {c : Nat} (hc : c < 27) : (d.coilsDrop m).coil c = false :=
  each_sets (·.coil c) _ (fun d => (coilDrops_coil m c d c).trans (if_pos rfl))
    (fun k hk d => (coilDrops_coil m k d c).trans (if_neg hk.symm)) (List.mem_range.2 hc) d

/-- Every coil has dropped, and the module is off or held in reset. -/
theorem goesDown_eq (boot : Boot) (why : Nat) : d.goesDown m boot why =
    (d.coilsDrop m).modPwr fun p => { p with boot := boot, why := why, leaving := false } := rfl

theorem goesDown_boot (boot : Boot) (why : Nat) : (d.goesDown m boot why).pwr.boot = boot := by
  rw [goesDown_eq, Dev.modPwr_pwr]

theorem goesDown_sansCoils (boot : Boot) (why : Nat) : (d.goesDown m boot why).sansCoils = d.sansCoils := by
  have hpwr : ∀ e : Dev, ∀ g, (e.modPwr g).sansCoils = e.sansCoils := fun _ _ => rfl
  rw [goesDown_eq, hpwr, coilsDrop_sansCoils]

theorem goesDown_coil (boot : Boot) (why : Nat) {c : Nat} (hc : c < 27) : (d.goesDown m boot why).coil c = false := by
  rw [goesDown_eq, Dev.coil, Dev.modPwr_seq]
  exact coilsDrop_coil m d hc

end

/-! ### BROWN_OUT -/

/-- A torn write unit is the recorder's or the ledger's. -/
theorem tear_eq (l : List Byte) (d : Dev) : ∃ r g, d.tear l = { d with rcd := r, lgr := g } := by
  unfold Dev.tear
  split
  · split
    · exact ⟨_, _, rfl⟩
    · exact ⟨_, _, rfl⟩
  · split
    · split
      · exact ⟨_, _, rfl⟩
      · exact ⟨_, _, rfl⟩
    · exact ⟨_, _, rfl⟩

/-- What the write unit in progress leaves. -/
def Dev.tornBy (torn : Option (List Byte)) (d : Dev) : Dev :=
  match torn with
  | some l => if l.length = 64 || l.length = 96 then d.tear l else d
  | none => d

theorem tornBy_eq (torn : Option (List Byte)) (d : Dev) : ∃ r g, d.tornBy torn = { d with rcd := r, lgr := g } := by
  unfold Dev.tornBy
  split
  · split
    · exact tear_eq _ d
    · exact ⟨_, _, rfl⟩
  · exact ⟨_, _, rfl⟩

/-- From every state but off, asleep or not, the module goes down, a write unit that was in progress torn. -/
theorem brownOut_goesDown (torn : Option (List Byte)) {s : State} (hon : s.dev.pwr.boot ≠ .off) : ∃ d why,
    exec (.brownOut torn) s = .next { s with dev := (d.goesDown s.mem .off why).commit } ∧
      (∃ r g, d = { s.dev with rcd := r, lgr := g }) ∧ (torn = none → d = s.dev) := by
  change ∃ d why, execBrownOut torn s = _ ∧ _
  have hpowered : ∃ d why, Host.Outcome.next { s with dev := ((s.dev.tornBy torn).goesDown s.mem .off 2).commit } =
      (.next { s with dev := (d.goesDown s.mem .off why).commit } : Host.Outcome State Fault Refusal) ∧
      (∃ r g, d = { s.dev with rcd := r, lgr := g }) ∧ (torn = none → d = s.dev) :=
    ⟨_, _, rfl, tornBy_eq torn s.dev, fun h => by rw [h]; rfl⟩
  unfold execBrownOut
  simp only [run_next]
  cases hboot : s.dev.pwr.boot with
  | off => exact absurd hboot hon
  | asleep => exact ⟨s.dev, 1, rfl, ⟨_, _, rfl⟩, fun _ => rfl⟩
  | clockHold => exact hpowered
  | started => exact hpowered
  | released => exact hpowered
  | awake => exact hpowered

/-- What is left of a module that has gone down. -/
theorem brownOut_next (torn : Option (List Byte)) {s : State} (hon : s.dev.pwr.boot ≠ .off) : ∃ e : Dev,
    exec (.brownOut torn) s = .next { s with dev := e.commit } ∧ e.pwr.boot = .off ∧ (∀ c < 27, e.coil c = false) ∧
      e.regs = s.dev.regs ∧ e.saf = s.dev.saf ∧ (torn = none → e.rcd = s.dev.rcd ∧ e.lgr = s.dev.lgr) := by
  obtain ⟨d, why, hrun, ⟨r, g, hd⟩, hnone⟩ := brownOut_goesDown torn hon
  obtain ⟨hregs, hrcd, hlgr, hsaf, -⟩ := of_sansCoils (goesDown_sansCoils s.mem d .off why)
  exact ⟨_, hrun, goesDown_boot .., fun c hc => goesDown_coil s.mem d .off why hc, hregs.trans (hd ▸ rfl),
    hsaf.trans (hd ▸ rfl), fun h => ⟨hrcd.trans (hnone h ▸ rfl), hlgr.trans (hnone h ▸ rfl)⟩⟩

/-! ### A start keeps the supply's state and the start count -/

/-- The supply's state and what MRAM keeps of the module. -/
def Dev.supplyState (d : Dev) : PwrSt × Nv := (d.pwr, d.nv)

section
variable (d : Dev)

@[simp] theorem supplyState_wr (f : Fld) (v : Nat) : (d.wr f v).supplyState = d.supplyState := rfl
@[simp] theorem supplyState_flag (f : Fld) (b : Bool) : (d.flag f b).supplyState = d.supplyState := rfl
@[simp] theorem supplyState_modRcd (g : RecSt → RecSt) : (d.modRcd g).supplyState = d.supplyState := rfl
@[simp] theorem supplyState_modLgr (g : LgrSt → LgrSt) : (d.modLgr g).supplyState = d.supplyState := rfl
@[simp] theorem supplyState_modThw (g : ThwSt → ThwSt) : (d.modThw g).supplyState = d.supplyState := rfl
@[simp] theorem supplyState_modSaf (g : SafSt → SafSt) : (d.modSaf g).supplyState = d.supplyState := rfl
@[simp] theorem supplyState_withTopo (i : Img) : (d.withTopo i).supplyState = d.supplyState := rfl
@[simp] theorem supplyState_record (k : Kind) (x : List Byte) : (d.record k x).supplyState = d.supplyState := by
  simp [Dev.supplyState]

@[simp] theorem supplyState_putWord (a v : Nat) : (d.putWord a v).supplyState = d.supplyState :=
  foldl_keep Dev.supplyState _ (fun d f => supplyState_wr d f _) _ d

@[simp] theorem supplyState_reload (i : Img) (a : Nat) : (d.reload i a).supplyState = d.supplyState := by
  have hreset : ((fieldsAt a).foldl (fun d f => d.wr f f.rst) d).supplyState = d.supplyState :=
    foldl_keep Dev.supplyState _ (fun d f => supplyState_wr d f _) _ d
  unfold Dev.reload
  dsimp only
  repeat' split
  all_goals simp [hreset]

@[simp] theorem supplyState_imageLoads (m : Mem) : (d.imageLoads m).supplyState = d.supplyState := by
  unfold Dev.imageLoads
  split
  · simp [each_keep Dev.supplyState (Dev.reload m.img) fun a d => supplyState_reload d m.img a]
  · rfl

@[simp] theorem supplyState_tornAt (region pos skipped : Nat) :
    (d.tornAt region pos skipped).supplyState = d.supplyState := by
  simp [Dev.tornAt]

@[simp] theorem supplyState_mainFails (pos : Nat) (l : List Byte) :
    (d.mainFails pos l).supplyState = d.supplyState := by
  simp [Dev.mainFails]

@[simp] theorem supplyState_each_tornAt (region : Nat) (g : Nat → Nat) (l : List Nat) :
    (d.each l fun p d => d.tornAt region p (g p)).supplyState = d.supplyState :=
  each_keep Dev.supplyState _ (fun p d => supplyState_tornAt d region p (g p)) l d

@[simp] theorem supplyState_scanRecords (bankA bankB : Bool) :
    (d.scanRecords bankA bankB).supplyState = d.supplyState := by
  unfold Dev.scanRecords
  dsimp only
  split <;> simp

@[simp] theorem supplyState_scanLedger : d.scanLedger.supplyState = d.supplyState := by
  simp [Dev.scanLedger]

@[simp] theorem supplyState_startRecord (m : Mem) : (d.startRecord m).supplyState = d.supplyState := by
  simp [Dev.startRecord]

@[simp] theorem supplyState_showThermal : d.showThermal.supplyState = d.supplyState := by
  unfold Dev.showThermal
  dsimp only
  repeat' split
  all_goals simp

@[simp] theorem supplyState_showSelection (old m : Mem) (bankA bankB : Bool) :
    (d.showSelection old m bankA bankB).supplyState = d.supplyState := by
  unfold Dev.showSelection
  dsimp only
  repeat' split
  all_goals simp

@[simp] theorem supplyState_reversed (b : Bool) : (d.reversed b).supplyState = d.supplyState := by
  unfold Dev.reversed
  split
  · rfl
  · simp [Dev.auxRecord]

@[simp] theorem supplyState_auxFound (b : Bool) (mv : Int) : (d.auxFound b mv).supplyState = d.supplyState := by
  unfold Dev.auxFound
  split
  · simp
  · rfl

end

/-- After the device is rebuilt, no step of a start touches the supply's state or what MRAM keeps of the module. -/
theorem startFrom_supplyState (cause : Nat) (u : Supply) (bankA bankB : Bool) (m : Mem) (d : Dev) :
    (startFrom cause u bankA bankB m d).2.supplyState = (d.rebuilt cause u).supplyState := by
  have hheld : ∀ (l : List (Kind × List Byte)) (e : Dev),
      (l.foldl (fun d x => d.record x.1 x.2) e).supplyState = e.supplyState := fun l e =>
    foldl_keep Dev.supplyState _ (fun d x => supplyState_record d x.1 x.2) l e
  have hbank : ∀ e : Dev, (if bankA then e else e.modLgr LgrSt.unread).supplyState = e.supplyState := fun e => by
    split <;> rfl
  simp [startFrom, hheld, hbank]

/-- A module that is off acts on nothing, and none of its channels conducts. -/
theorem off_alive {d : Dev} (h : d.pwr.boot = .off) : d.alive = false := by simp [Dev.alive, Dev.awake, h]

theorem off_conducts {d : Dev} (h : d.pwr.boot = .off) (m : Mem) (n : Nat) : d.conducts m n = false := by
  simp [Dev.conducts, Dev.outputsOn, h]

/-- With the transport flag clear a START_UP of a module that is off starts it. -/
theorem startUp_next (supply : Supply) (bankA bankB : Bool) {s : State} (hoff : s.dev.pwr.boot = .off)
    (hflag : s.dev.nv.transport = false) :
    ∃ t, exec (.startUp supply bankA bankB) s = .next t ∧
      t.dev.supplyState = (s.dev.rebuilt s.dev.pwr.why supply).supplyState := by
  refine ⟨_, rfl, ?_⟩
  have hstart : powerUp s.dev.pwr.why supply bankA bankB s.mem s.dev =
      startFrom s.dev.pwr.why supply bankA bankB s.mem s.dev := by
    simp [powerUp, hflag]
  simp only [if_pos hoff, hstart]
  exact startFrom_supplyState ..

/-- Settles O60: the module is down once its coils have dropped, and a start goes on from the device rebuilt. -/
theorem supplyLossOpensEverything : Obligations.SupplyLossOpensEverything := by
  refine ⟨fun torn s hs hon => ?_, fun supply bankA bankB s hs hoff hflag => ?_⟩
  · obtain ⟨e, hrun, hoff, hcoil, hregs, hsaf, hnone⟩ := brownOut_next torn hon
    refine ⟨_, hrun, hoff, off_alive hoff, fun sid hheard => ?_, hcoil, fun n _ => off_conducts hoff s.mem n, rfl, rfl,
      hregs, hsaf, fun h => ?_⟩
    · exact absurd (hheard.2.symm.trans (off_alive hoff)) (by decide)
    · obtain ⟨hrcd, hlgr⟩ := hnone h
      exact ⟨(congrArg RecSt.commit hrcd).trans (RecSt.commit_none hs), hlgr⟩
  · obtain ⟨t, hrun, hkept⟩ := startUp_next supply bankA bankB hoff hflag
    have hpwr : t.dev.pwr = _ := congrArg Prod.fst hkept
    have hnv : t.dev.nv = _ := congrArg Prod.snd hkept
    exact ⟨t, hrun, congrArg PwrSt.boot hpwr, congrArg Nv.cause hnv, congrArg Nv.starts hnv⟩

end Sys2Proof.Machine
end

section
/-! PROOF. TRANSPORT (R377, R378): why it is refused, and what an accepted one leaves step by step, the records written,
the sessions closed, the ports asleep and the coils dropped. -/

namespace Sys2Proof.Machine

/-! ### The flush writes every staged record and creates none -/

/-- What the write of a record leaves as it was: all but register fields, free values, the thermal latch and what MRAM
holds, with the records that wait for MRAM. -/
def Dev.besideRecords (d : Dev) : Dev :=
  { d with
    regs := [], free := 0, lgr := .factory, thw := .start
    rcd := { RecSt.factory with drafts := d.rcd.drafts, urgent := d.rcd.urgent, staging := d.rcd.staging } }

section
variable (d : Dev)

theorem showLatches_besideRecords : d.showLatches.besideRecords = d.besideRecords :=
  each_keep Dev.besideRecords Dev.showLatch (fun w d => by
    unfold Dev.showLatch
    dsimp only
    split <;> rfl) _ d

theorem setThermalLatch_besideRecords : d.setThermalLatch.besideRecords = d.besideRecords := by
  have habandon : ∀ e : Dev, e.abandonApply.besideRecords = e.besideRecords := fun e => by
    unfold Dev.abandonApply
    split <;> rfl
  rw [Dev.setThermalLatch, habandon, showLatches_besideRecords]
  rfl

theorem understudy_besideRecords (l : List Byte) : (d.understudy l).besideRecords = d.besideRecords := by
  unfold Dev.understudy
  dsimp only
  split <;> rfl

theorem modRcd_besideRecords {g : RecSt → RecSt} (hdrafts : ∀ r, (g r).drafts = r.drafts)
    (hurgent : ∀ r, (g r).urgent = r.urgent) (hstaging : ∀ r, (g r).staging = r.staging) :
    (d.modRcd g).besideRecords = d.besideRecords := by
  simp [Dev.besideRecords, Dev.modRcd, hdrafts, hurgent, hstaging]

theorem writeRec_besideRecords (x : Rec) : (d.writeRec x .good).besideRecords = d.besideRecords := by
  have hwr : ∀ (e : Dev) f v, (e.wr f v).besideRecords = e.besideRecords := fun _ _ _ => rfl
  have hloss : ∀ (e : Dev) l, (e.keepLoss l).besideRecords = e.besideRecords := fun _ _ => rfl
  simp [Dev.writeRec, apply_ite Dev.besideRecords, modRcd_besideRecords, hwr, hloss, setThermalLatch_besideRecords,
    understudy_besideRecords]

/-- A flush leaves no record waiting. -/
theorem flush_besideRecords : d.flush.besideRecords =
    (d.commit.modRcd fun r => { r with urgent := [], staging := [] }).besideRecords :=
  foldl_keep Dev.besideRecords _ writeRec_besideRecords _ _

end

section
variable {d e : Dev} (h : e.besideRecords = d.besideRecords)
include h

theorem of_besideRecords : e.nv = d.nv ∧ e.pwr = d.pwr ∧ e.net = d.net ∧ e.topo = d.topo :=
  ⟨(congrArg Dev.nv h :), (congrArg Dev.pwr h :), (congrArg Dev.net h :), (congrArg Dev.topo h :)⟩

theorem waiting_of_besideRecords :
    e.rcd.drafts = d.rcd.drafts ∧ e.rcd.urgent = d.rcd.urgent ∧ e.rcd.staging = d.rcd.staging :=
  ⟨(congrArg (·.rcd.drafts) h :), (congrArg (·.rcd.urgent) h :), (congrArg (·.rcd.staging) h :)⟩

end

theorem flush_nothing_waits (d : Dev) :
    d.flush.rcd.drafts = [] ∧ d.flush.rcd.urgent = [] ∧ d.flush.rcd.staging = [] := by
  obtain ⟨hdrafts, hurgent, hstaging⟩ := waiting_of_besideRecords (flush_besideRecords d)
  exact ⟨hdrafts.trans (commit_drafts d.rcd), hurgent, hstaging⟩

theorem flush_keeps (d : Dev) :
    d.flush.nv = d.nv ∧ d.flush.pwr = d.pwr ∧ d.flush.net = d.net ∧ d.flush.topo = d.topo :=
  (of_besideRecords (flush_besideRecords d) :)

/-! ### Every session closes -/

theorem closeAll_sess (cause : Nat) (d : Dev) {k : Nat} (hk : k < 64) : (d.closeAll cause).sess k = Sess.free :=
  each_sets (·.sess k) (fun k d => d.modSess k fun _ => .free) (fun e => sess_modSess_same k _ e)
    (fun _ hj e => sess_modSess_other _ e hj.symm) (List.mem_range.2 hk) _

theorem frame_closeAll {s : State} (cause : Nat) (d : Dev) : Frame heldFlds [.net, .out, .lrn, .rcd]
    { s with dev := d } { s with dev := d.closeAll cause } :=
  (frame_each d _ (fun k d => frame_closeSession d k cause) _).trans
    (frame_each _ _ (fun k d => frame_modSess d k _ (.head _)) _)

theorem closeAll_keeps (cause : Nat) (d : Dev) : (d.closeAll cause).nv = d.nv ∧ (d.closeAll cause).pwr = d.pwr ∧
    (d.closeAll cause).topo = d.topo := by
  have hf := frame_closeAll (s := State.reset) cause d
  exact ⟨hf.same (p := .nv) (by decide), hf.same (p := .pwr) (by decide), hf.same (p := .topo) (by decide)⟩

theorem calAbandon_keeps (d : Dev) : d.calAbandon.nv = d.nv ∧ d.calAbandon.pwr.inTransport = d.pwr.inTransport ∧
    d.calAbandon.topo = d.topo := by
  unfold Dev.calAbandon
  split
  · exact ⟨rfl, rfl, rfl⟩
  · exact ⟨rfl, rfl, rfl⟩

/-- The transport flag is written, with its record. -/
def Dev.transportFlagged (d : Dev) : Dev :=
  ((d.modNv fun n => { n with transport := true }).record recTransportEnter []).modPwr fun p =>
    { p with leaving := false }

/-- Then no calibration runs, no session is open and every record is in MRAM. -/
def Dev.transportFlushed (d : Dev) : Dev := (d.transportFlagged.calAbandon.closeAll closeTransport).flush

theorem transportFlushed_keeps (d : Dev) : d.transportFlushed.nv.transport = true ∧
    d.transportFlushed.pwr.inTransport = d.pwr.inTransport ∧ d.transportFlushed.topo = d.topo := by
  obtain ⟨hnv, hpwr, -, htopo⟩ := flush_keeps (d.transportFlagged.calAbandon.closeAll closeTransport)
  obtain ⟨hnv', hpwr', htopo'⟩ := closeAll_keeps closeTransport d.transportFlagged.calAbandon
  obtain ⟨hnv'', hpwr'', htopo''⟩ := calAbandon_keeps d.transportFlagged
  unfold Dev.transportFlushed
  rw [hnv, hnv', hnv'', hpwr, hpwr', hpwr'', htopo, htopo', htopo'']
  simp [Dev.transportFlagged]

theorem transportFlushed_sess (d : Dev) {k : Nat} (hk : k < 64) : d.transportFlushed.sess k = Sess.free := by
  obtain ⟨-, -, hnet, -⟩ := flush_keeps (d.transportFlagged.calAbandon.closeAll closeTransport)
  exact (sess_congr hnet k).trans (closeAll_sess _ _ hk)

/-! ### The ports fall asleep -/

/-- A device without its register fields and its ports. -/
def Dev.sansPorts (d : Dev) : Dev := { d with regs := [], ports := [] }

/-- Every used port is powered down. -/
def Dev.portsAsleep (d : Dev) : Dev := d.each (controllers.filter d.portUsed) Dev.portAsleep

theorem portsAsleep_sansPorts (d : Dev) : d.portsAsleep.sansPorts = d.sansPorts :=
  each_keep Dev.sansPorts Dev.portAsleep (fun _ _ => rfl) _ d

theorem of_sansPorts {d e : Dev} (h : e.sansPorts = d.sansPorts) :
    e.nv = d.nv ∧ e.pwr = d.pwr ∧ e.net = d.net ∧ e.rcd = d.rcd :=
  ⟨(congrArg Dev.nv h :), (congrArg Dev.pwr h :), (congrArg Dev.net h :), (congrArg Dev.rcd h :)⟩

theorem link_congr {d e : Dev} (h : e.regs = d.regs) (n : Nat) : e.link n = d.link n := by
  rw [Dev.link, Dev.rd, h, Dev.link, Dev.rd]

theorem portUsed_congr {d e : Dev} (h : e.topo = d.topo) (n : Nat) : e.portUsed n = d.portUsed n := by
  rw [Dev.portUsed, Dev.portRec, h, Dev.portUsed, Dev.portRec]

theorem portAsleep_link (n k : Nat) (d : Dev) : (d.portAsleep n).link k = if k = n then 1 else d.link k := by
  split
  · next h => rw [h]; exact Dev.rd_wr_same ..
  · next h =>
    refine Dev.rd_wr_other (d.quietPort n) 1 ?_
    simp only [Fld.key]
    omega

theorem portsAsleep_link {d : Dev} {n : Nat} (hn : n ∈ controllers) (hused : d.portUsed n = true) :
    d.portsAsleep.link n = 1 := by
  have hmem : n ∈ controllers.filter d.portUsed := List.mem_filter.2 ⟨hn, hused⟩
  rw [Dev.portsAsleep]
  exact each_sets (·.link n) Dev.portAsleep (fun e => (portAsleep_link n n e).trans (if_pos rfl))
    (fun k hk e => (portAsleep_link k n e).trans (if_neg hk.symm)) hmem d

/-! ### An accepted TRANSPORT -/

theorem coilDrops_transport (m : Mem) (c : Nat) (d : Dev) : (d.coilDrops m c).nv.transport = d.nv.transport := by
  unfold Dev.coilDrops
  dsimp only
  split <;> rfl

theorem coilsDrop_transport (m : Mem) (d : Dev) : (d.coilsDrop m).nv.transport = d.nv.transport := by
  unfold Dev.coilsDrop
  exact each_keep (·.nv.transport) (Dev.coilDrops m) (coilDrops_transport m) (List.range 27) d

theorem transportEnters_off {m : Mem} {d : Dev} (h : d.pwr.leaving = false) : d.transportEnters m = d :=
  if_pos (by simp [h])

theorem transportEnters_on {m : Mem} {d : Dev} (h : d.pwr.leaving = true) :
    d.transportEnters m = d.transportFlushed.portsAsleep.coilsDrop m := if_neg (by simp [h])

/-- In TRANSPORT no channel conducts. -/
theorem transport_conducts {d : Dev} (h : d.pwr.inTransport = true) (m : Mem) (n : Nat) : d.conducts m n = false := by
  simp [Dev.conducts, Dev.outputsOn, h]

theorem transport_mode {d : Dev} (h : d.pwr.inTransport = true) (m : Mem) : d.mode m = .transport := if_pos h

/-- What a TRANSPORT leaves once it has been answered (R377). -/
theorem transportEnters_left {m : Mem} {d e : Dev} (hleaving : d.pwr.leaving = true) (he : d.transportEnters m = e) :
    e.nv.transport = true ∧ e.pwr.inTransport = d.pwr.inTransport ∧ (∀ k < 64, e.sess k = Sess.free) ∧
      (e.rcd.drafts = [] ∧ e.rcd.urgent = [] ∧ e.rcd.staging = []) ∧ (∀ c < 27, e.coil c = false) ∧
      ∀ n ∈ controllers, d.portUsed n = true → e.link n = 1 := by
  rw [transportEnters_on hleaving] at he
  subst he
  obtain ⟨hflag, hpwr, htopo⟩ := transportFlushed_keeps d
  obtain ⟨hportsNv, hportsPwr, hportsNet, hportsRcd⟩ := of_sansPorts (portsAsleep_sansPorts d.transportFlushed)
  obtain ⟨hregs, hrcd, -, -, hnet⟩ := of_sansCoils (coilsDrop_sansCoils m d.transportFlushed.portsAsleep)
  refine ⟨?_, ?_, fun k hk => ?_, ?_, fun c hc => coilsDrop_coil m _ hc, fun n hn hused => ?_⟩
  · rw [coilsDrop_transport, hportsNv, hflag]
  · rw [coilsDrop_pwr, hportsPwr, hpwr]
  · exact (sess_congr hnet k).trans ((sess_congr hportsNet k).trans (transportFlushed_sess d hk))
  · rw [hrcd, hportsRcd]
    exact flush_nothing_waits _
  · exact (link_congr hregs n).trans (portsAsleep_link hn ((portUsed_congr htopo n).trans hused))

/-! ### TRANSPORT is judged -/

/-- No load, switch or mirror is pending. -/
abbrev Dev.loadIdle (m : Mem) (d : Dev) : Prop :=
  d.rd IMG_LOAD_STATUS.OWNER = 0 ∧ d.ldState = ldIdle ∧ m.redo = none

section
variable {m : Mem} {sid : Nat} {enabled : Bool} {d : Dev}

theorem transportBarred_role (h : d.maintains m sid = false) : d.transportBarred m sid enabled = 1 :=
  if_pos (by simp [h])

theorem transportBarred_pin (h : d.maintains m sid = true) : d.transportBarred m sid false = 2 :=
  (if_neg (by simp [h])).trans (if_pos rfl)

/-- With the pin asserted the strings, the load and the supply stage are judged in this order. -/
theorem transportBarred_enabled (h : d.maintains m sid = true) : d.transportBarred m sid true =
    if strings.any (fun w => decide (1 < d.strState w)) = true then 3
    else if ¬ d.loadIdle m then 4
    else if 2 ≤ d.stage then 6 else 0 := by
  have hload : (d.rd IMG_LOAD_STATUS.OWNER ≠ 0 || d.ldState ≠ ldIdle || m.redo.isSome) = true ↔ ¬ d.loadIdle m := by
    simp only [Bool.or_eq_true, decide_eq_true_eq, Option.isSome_iff_ne_none, ne_eq, Classical.not_and_iff_not_or_not,
      or_assoc]
  refine (if_neg (by simp [h])).trans ((if_neg (by simp)).trans ?_)
  simp only [hload]

theorem transportBarred_none (h : d.maintains m sid = true)
    (hstr : strings.any (fun w => decide (1 < d.strState w)) = false) (hload : d.loadIdle m) (hstage : d.stage ≤ 1) :
    d.transportBarred m sid true = 0 := by
  rw [transportBarred_enabled h, if_neg (by simp [hstr]), if_neg (not_not_intro hload), if_neg (by omega)]

/-- The reasons behind the pin hold where it is found asserted. -/
theorem transportBarred_drawn {r : Nat} (h : d.maintains m sid = true) (hr : d.transportBarred m sid true = r) :
    d.transportBarred m sid enabled = if enabled = true then r else 2 := by
  cases enabled with
  | true => exact hr
  | false => exact transportBarred_pin h

theorem cmdTransport_refused {r : Nat} (hbar : d.transportBarred m sid d.drawBool.1 = r) (hr : r ≠ 0) :
    d.cmdTransport m sid = d.drawBool.2.pwrRefuse r 1 := by
  subst hbar
  exact if_pos hr

/-- TRANSPORT has been accepted, and is still to be answered. -/
def Dev.transportAccepted (d : Dev) : Dev :=
  d.drawBool.2.modPwr fun p => { p with inTransport := true, leaving := true }

theorem cmdTransport_accepted (hbar : d.transportBarred m sid d.drawBool.1 = 0) :
    d.cmdTransport m sid = (d.transportAccepted, wrOk) :=
  if_neg (not_not_intro hbar)

end

section
variable {sid : Sid} {s : State} (hs : Settled s) (hh : Heard sid.val s)
include hs hh

theorem transport_refused {r : Nat} (hlv : s.dev.pwr.leaving = false)
    (hbar : s.dev.transportBarred s.mem sid.val s.dev.drawBool.1 = r) (hr : r ∈ [1, 2, 3, 4, 6]) :
    ∃ t, exec (.transport sid) s = .next t ∧ Answered sid.val (wrRefused r PWR_CTRL.CMD.addr) id s t ∧
      t.dev.rd PWR_RESULT.REASON = r ∧ t.dev.rd PWR_RESULT.CMD = 1 ∧
      Frame [PWR_RESULT.REASON, PWR_RESULT.CMD] [.out, .net] s t := by
  change ∃ t, execTransport sid s = _ ∧ _
  refine ⟨_, run_of ?_ ?_, pwrRefused_left (s.dev.free + 1) hh.1 (show r < 256 by simp at hr; omega) (by decide) rfl⟩
  · rw [host_heard _ hh, cmdTransport_refused hbar (by rintro rfl; simp at hr)]
    exact transportEnters_off ((congrArg PwrSt.leaving (answer_pwr ..)).trans hlv)
  · exact (congrArg RecSt.drafts (answer_rcd ..)).trans hs

omit hs in
/-- An accepted TRANSPORT is answered, and then entered. -/
theorem transport_accepted (hbar : s.dev.transportBarred s.mem sid.val s.dev.drawBool.1 = 0) :
    ∃ e : Dev, exec (.transport sid) s = .next { s with dev := e } ∧ e.nv.transport = true ∧
      e.pwr.inTransport = true ∧ (∀ k < 64, e.sess k = Sess.free) ∧ (e.rcd.urgent = [] ∧ e.rcd.staging = []) ∧
      (∀ c < 27, e.coil c = false) ∧ ∀ n ∈ controllers, s.dev.portUsed n = true → e.link n = 1 := by
  have hpwr : (Dev.answer sid.val (s.dev.transportAccepted, wrOk)).pwr = s.dev.transportAccepted.pwr := answer_pwr ..
  have htopo : (Dev.answer sid.val (s.dev.transportAccepted, wrOk)).topo = s.dev.topo := answer_topo ..
  generalize he : (Dev.answer sid.val (s.dev.transportAccepted, wrOk)).transportEnters s.mem = e
  obtain ⟨hflag, hin, hsess, ⟨hdrafts, hwaits⟩, hcoil, hlink⟩ := transportEnters_left (hpwr ▸ rfl) he
  refine ⟨e, ?_, hflag, hin.trans (hpwr ▸ rfl), hsess, hwaits, hcoil,
    fun n hn hused => hlink n hn ((portUsed_congr htopo n).trans hused)⟩
  change execTransport sid s = _
  refine run_of ?_ hdrafts
  rw [host_heard _ hh, cmdTransport_accepted hbar, he]

end

/-- Settles O52: the pin, a free value, decides between R377's other reasons and reason 2; an accepted TRANSPORT leaves
what `transportEnters_left` says. -/
theorem transportIsEnteredAndSleeps : Obligations.TransportIsEnteredAndSleeps := by
  refine ⟨fun sid s hs hh hlv himg hrole hstr hload hstage => ?_, fun sid s hs hh hlv hrole => ?_,
    fun sid reason s hs hh hlv himg hrole hreason => ?_, fun s hs hawake hin => ?_⟩
  · have hmay := maintains_true himg hrole
    have hbar := transportBarred_drawn (enabled := s.dev.drawBool.1) hmay (transportBarred_none hmay hstr hload hstage)
    cases hpin : s.dev.drawBool.1 with
    | true =>
      obtain ⟨e, hrun, hflag, hin, hsess, ⟨hurgent, hstaging⟩, hcoil, hlink⟩ :=
        transport_accepted hh (hbar.trans (if_pos hpin))
      exact ⟨_, hrun, fun _ => ⟨transport_mode hin s.mem, hflag, hsess, hstaging, hurgent,
        fun n _ => transport_conducts hin s.mem n, hcoil, hlink, rfl, rfl⟩, fun h => absurd h (by decide)⟩
    | false =>
      obtain ⟨t, hrun, hans, hreason, -, hf⟩ :=
        transport_refused hs hh hlv (hbar.trans (if_neg (by simp [hpin]))) (by decide)
      exact ⟨t, hrun, fun h => absurd h (by decide), fun _ => ⟨hans, hreason, hf⟩⟩
  · exact transport_refused hs hh hlv (transportBarred_role (maintains_false hrole)) (by decide)
  · have hmay := maintains_true himg hrole
    obtain ⟨hbar, hmem⟩ : s.dev.transportBarred s.mem sid.val true = reason ∧ reason ∈ [3, 4, 6] := by
      rw [transportBarred_enabled hmay]
      rcases hreason with ⟨hstr, rfl⟩ | ⟨hstr, hload, rfl⟩ | ⟨hstr, hload, hstage, rfl⟩
      · exact ⟨if_pos hstr, by decide⟩
      · exact ⟨(if_neg (by simp [hstr])).trans (if_pos hload), by decide⟩
      · exact ⟨(if_neg (by simp [hstr])).trans ((if_neg (not_not_intro hload)).trans (if_pos hstage)), by decide⟩
    have hlisted : (if s.dev.drawBool.1 = true then reason else 2) ∈ [1, 2, 3, 4, 6] := by
      split
      · exact (show [3, 4, 6] ⊆ [1, 2, 3, 4, 6] by decide) hmem
      · decide
    obtain ⟨t, hrun, hans, hrd, -, hf⟩ := transport_refused hs hh hlv (transportBarred_drawn hmay hbar) hlisted
    exact ⟨t, hrun, hans, hrd, hf⟩
  · change ∃ t, execTransportSleep s = _ ∧ _
    exact ⟨_, run_of (if_pos (by simp [hawake, hin])) hs, rfl, frame_modPwr s.dev _ (.head _)⟩

end Sys2Proof.Machine
end
